-- ==== Sys2Proof/Word.lean ====
section
/-!
DEFINITION. Word.lean: the words the block moves. A byte is a bit vector; every multi-byte field is built from
bytes, least significant first (R2), in Machine/Bits.lean. Counts, indexes, times and exact arithmetic are `Nat` or
`Int`, as the spec computes them.
-/
namespace Sys2Proof

/-- One byte of DRAM, of a frame, of a mailbox slot or of a record. -/
abbrev Byte := BitVec 8

/-- A string of bytes, lowest address or first transmitted byte first. -/
abbrev Bytes := List Byte

/-- An instant or a duration in units of 2⁻¹⁶ ns, the resolution of the machine-time format (R7, R334). -/
abbrev Time := Nat

end Sys2Proof
end

