-- ==== Sys2Proof/Syntax.lean ====
section
/-!
DEFINITION. Syntax.lean: the commands of the block, one for each row of the table of operations and events, and the types of
their operands: what an event outside the block brings with it. Numbers in bits are bit vectors; an index is a `Fin`.
-/
namespace Sys2Proof

/-- A mailbox command beside its opcode (R200): the posting master and mailbox, and the slot's fields. -/
structure CmdImage where
  master : Fin 3
  mailbox : Fin 8
  seq : BitVec 16
  epoch : BitVec 16
  flags : BitVec 16
  length : BitVec 16
  object : BitVec 16
  inst : BitVec 16
  reserved : BitVec 16
  payload : Bytes
  deriving DecidableEq, Repr

/-- The header fields of a received bulk frame beside its FTYPE, and its check word (R163). -/
structure FrameHdr where
  flags : BitVec 8
  node : BitVec 16
  seq : BitVec 16
  tag : BitVec 32
  aux : BitVec 16
  check : BitVec 32
  deriving DecidableEq, Repr

/-- What a receiver saw on a lane (R162): how long no IDLE came, the code and disparity errors within 1 µs, and how long the
forwarded clock was absent. -/
structure LinkSight where
  port : Fin 21
  noIdleNs : BitVec 32
  errors : BitVec 16
  noClockNs : BitVec 32
  deriving DecidableEq, Repr

/-- A lane of a port. -/
structure PortLane where
  port : Fin 21
  lane : Fin 2
  deriving DecidableEq, Repr

/-- A frame read through a pipeline: the address of a burst in error of it or of a reference, and whether it was corrected. -/
structure PipelinePass where
  pipe : Fin 2
  bad : Option (BitVec 48 × Bool)
  deriving DecidableEq, Repr

/-- The levels of an incremental input's pins (R300, R301). -/
structure EncLevels where
  a : Bool
  b : Bool
  z : Bool
  deriving DecidableEq, Repr

/-- The levels of SSI_DAT before the first edge and after the last bit (R305). -/
structure SsiEnds where
  first : Bool
  last : Bool
  deriving DecidableEq, Repr

/-- A domain that may be released, and the levels of the strap pins, which AON takes as it is released (R9, R424, R451). -/
structure ReleaseStep where
  domain : Fin 10
  twPref : Bool
  casc : Fin 16
  deriving DecidableEq, Repr

/-- What training found on one subchannel (R359, R360): the pass window of each of the 40 lanes, in 1/64 UI, for reads and for
writes, and whether every lane passed verification of stored values. -/
structure LaneResult where
  rd : List (BitVec 8)
  wr : List (BitVec 8)
  verified : Bool
  deriving DecidableEq, Repr

/-- What DRAM training found (R356, R359, R360). From the SPD: modules that differ or lie beyond R355, x4 devices, two ranks,
16, 24 or 32 Gb devices, RFM values in activates / 8, the configuration signature. The rate in 100 MT/s that the modules and
training allow, and the four subchannels. -/
structure TrainResult where
  spdBad : Bool
  x4 : Bool
  dual : Bool
  density : Fin 3
  rate : BitVec 8
  raaimt : BitVec 8
  raammt : BitVec 8
  signature : BitVec 32
  lane0 : LaneResult
  lane1 : LaneResult
  lane2 : LaneResult
  lane3 : LaneResult
  deriving DecidableEq, Repr

/-- An object of a set in a snapshot (R321). -/
structure SnapObj where
  obj : BitVec 16
  inst : BitVec 16
  image : Bytes
  data : Bytes
  deriving DecidableEq, Repr

/-- A committed set in a snapshot: SET_ID, objects, NOT_BEFORE, and the manifest it carries. -/
structure SnapSet where
  id : BitVec 16
  objs : List SnapObj
  notBefore : Option Nat
  manifest : Option Bytes
  deriving DecidableEq, Repr

/-- What the blocks of a resynchronisation held (R321): its bytes in number; registers, parameter sets and chart nodes by
key; the staged set and the commit queue; the next SEQ of port streams (port, node or 0xFFFF for the tick stream) and of
link streams; the lead's border entries by origin tick. -/
structure Snapshot where
  bytes : BitVec 32
  regs : List (Nat × Nat)
  psets : List (Nat × Nat)
  charts : List (Nat × Nat)
  staged : List SnapObj
  queue : List SnapSet
  portSeq : List (Nat × Nat × Nat)
  linkSeq : List (Nat × Nat)
  border : List (Nat × Bytes)
  deriving DecidableEq, Repr

/-- What the shutdown test or the boot self-test found (R434 to R443): a secret that did not read back zero, the failing cells of
the memory march in its order (array, row, column), domains whose signature differs, lanes that failed (port, lane; 2 the clock
lane), and the duration in ms. -/
structure BistResult where
  secretBad : Bool
  cells : List (BitVec 16 × BitVec 32 × BitVec 32)
  logicBad : BitVec 10
  lanesBad : List (Fin 21 × Fin 3)
  ms : BitVec 16
  deriving DecidableEq, Repr

/-- The instructions of test access (R439). -/
inductive JtagInstr where
  | bypass | idcode | samplePreload | extest | clamp | extestPulse | extestTrain | privateInstr
  deriving DecidableEq, Repr

/-- An instant within a tick: units of 2⁻¹⁶ ns after its tick boundary. -/
abbrev SubTick := Fin 32768000

/-- The commands of the block: one constructor for each row of the table of operations and events, in the table's order,
with what the event brings from outside. `ch` is a channel, `p` a Strand port, `h` and `b` header and payload of a frame
received, `off` an instant within the present tick, `x` a mailbox command, `ue` the index of an uncorrectable burst. -/
inductive Instr where
  /-- TICK (R18) -/
  | tick
  /-- CONTROL_TICK (R18) -/
  | controlTick
  /-- PROFILE_TICK (R286) -/
  | profileTick
  /-- BELL (R174) -/
  | bell (inTx : List (Fin 7))
  /-- GATE_EDGE (R95) -/
  | gateEdge (ch : Fin 64)
  /-- TILE_CHECK_AT_USE (R51) -/
  | tileCheckAtUse (ch : Fin 64) (corr : BitVec 16) (bad : Bool)
  /-- TILE_REREAD (R51) -/
  | tileReread (ch : Fin 64) (ue : Option (Fin 64 × Bool))
  /-- FIRST_TILE_RECHECK (R53) -/
  | firstTileRecheck (ch : Fin 64) (ue : Option (Fin 64 × Bool))
  /-- VST_FETCH (R373) -/
  | vstFetch (ns : BitVec 32) (ue : Option (Fin 64 × Bool))
  /-- SYNC_TIMEOUT (R40) -/
  | syncTimeout (ch : Fin 64)
  /-- TICK_UP (R170) -/
  | tickUp (p : Fin 21) (h : FrameHdr) (b : Bytes)
  /-- ACK_LOST (R143) -/
  | ackLost (p : Fin 16)
  /-- FEEDBACK_LOST (R104) -/
  | feedbackLost (ch : Fin 64)
  /-- FOLLOWING_ERROR_LIMIT (R90) -/
  | followingErrorLimit (ch : Fin 64)
  /-- GATE_MISMATCH (R102) -/
  | gateMismatch (ch : Fin 64)
  /-- ADOPTION_PLANNING_DONE (R153) -/
  | adoptionPlanningDone
  /-- ADOPTION_DONE (R153) -/
  | adoptionDone (ch : Fin 64)
  /-- SAMPLE (R108) -/
  | sample (p : Fin 16) (lane : Fin 2) (word : BitVec 32) (codeError : Bool) (lead : BitVec 32) (off : SubTick)
  /-- SURGE_WORD_TX (R118) -/
  | surgeWordTx (p : Fin 16) (lane : Fin 2) (off : SubTick)
  /-- STARVE (R123) -/
  | starve (ch : Fin 64)
  /-- RESERVATION_RELEASE (R130) -/
  | reservationRelease
  /-- REQUEST_CAPPED (R132) -/
  | requestCapped (ch : Fin 64)
  /-- BWK_WAIT_LONG (R134) -/
  | bwkWaitLong (ch : Fin 64)
  /-- YIELD (R135) -/
  | yield_ (ch : Fin 64)
  /-- BORDER_REQ (R138) -/
  | borderReq (p : Fin 21) (lane : Fin 2) (h : FrameHdr) (b : Bytes)
  /-- BORDER_ROUND (R138) -/
  | borderRound
  /-- BORDER_ANS (R138) -/
  | borderAns (p : Fin 21) (lane : Fin 2) (h : FrameHdr) (b : Bytes)
  /-- BORDER_ANSWER_LATCH (R139) -/
  | borderAnswerLatch
  /-- BORDER_REL (R140) -/
  | borderRel (p : Fin 21) (lane : Fin 2) (h : FrameHdr) (b : Bytes)
  /-- BORDER_FENCE_EXPIRY (R140) -/
  | borderFenceExpiry
  /-- DOORBELL (R199) -/
  | doorbell (v : BitVec 32)
  /-- MGMT_DATAGRAM (R229) -/
  | mgmtDatagram (ip : BitVec 32) (port : BitVec 16) (data : Bytes)
  /-- ARP_REQUEST (R227) -/
  | arpRequest (ip : BitVec 32)
  /-- ICMP_ECHO (R227) -/
  | icmpEcho (ip : BitVec 32) (data : Bytes)
  /-- SESSION_OPEN (R202) -/
  | sessionOpen (x : CmdImage)
  /-- SESSION_CLOSE (R202) -/
  | sessionClose (x : CmdImage)
  /-- TOKEN_TAKE (R209) -/
  | tokenTake (x : CmdImage)
  /-- TOKEN_RELEASE (R209) -/
  | tokenRelease (x : CmdImage)
  /-- KEEPALIVE (R206) -/
  | keepalive (x : CmdImage)
  /-- EVENT_READ (R206) -/
  | eventRead (x : CmdImage)
  /-- OBJ_READ (R211) -/
  | objRead (x : CmdImage)
  /-- OBJ_WRITE (R211) -/
  | objWrite (x : CmdImage)
  /-- OBJ_STAGE (R212) -/
  | objStage (x : CmdImage)
  /-- STAGE_COPY_DONE (R208) -/
  | stageCopyDone (bad : Option (BitVec 32 × Bool))
  /-- STAGE_READ (R206) -/
  | stageRead (x : CmdImage)
  /-- CHECK (R214) -/
  | check (x : CmdImage)
  /-- CHECK_DONE (R215) -/
  | checkDone (ue : Option (BitVec 48 × Bool)) (partner : Option (BitVec 32))
  /-- COMMIT (R216) -/
  | commit (x : CmdImage)
  /-- DISCARD (R213) -/
  | discard (x : CmdImage)
  /-- STOP (R206) -/
  | stop (x : CmdImage)
  /-- HOLD (R237) -/
  | hold (x : CmdImage)
  /-- ABORT (R240) -/
  | abort (x : CmdImage)
  /-- ARM (R233) -/
  | arm (x : CmdImage)
  /-- DISARM (R233) -/
  | disarm (x : CmdImage)
  /-- RESUME (R238) -/
  | resume (x : CmdImage)
  /-- SAFE_CLEAR (R247) -/
  | safeClear (x : CmdImage)
  /-- SERVICE_ENTER (R233) -/
  | serviceEnter (x : CmdImage)
  /-- SERVICE_EXIT (R233) -/
  | serviceExit (x : CmdImage)
  /-- TOKEN_LAPSE (R209) -/
  | tokenLapse
  /-- TIDE_MARK (R218) -/
  | tideMark
  /-- TIDE_MARK_NO_MANIFEST (R219) -/
  | tideMarkNoManifest
  /-- EV_CONS_WRITE (R223) -/
  | evConsWrite (v : BitVec 32)
  /-- EV_HOLDOFF_EXPIRY (R226) -/
  | evHoldoffExpiry
  /-- MSIX_UNMASK (R226) -/
  | msixUnmask (v : Fin 64) (masked : Bool)
  /-- REGISTER_WRITE (R9) -/
  | registerWrite (off : BitVec 32) (data : Bytes)
  /-- STAT_READ_CLEAR (R9) -/
  | statReadClear (obj : BitVec 16) (inst : BitVec 16)
  /-- SLACK_ENTRY (R235) -/
  | slackEntry
  /-- SLACK_LONG (R236) -/
  | slackLong
  /-- HOLD_SETTLED (R237) -/
  | holdSettled
  /-- SAFETY_INPUT_TRIP (R243) -/
  | safetyInputTrip (inp : Fin 3) (gateNs : BitVec 16)
  /-- SAFETY_INPUT_RELEASE (R247) -/
  | safetyInputRelease (inp : Fin 3)
  /-- SAFETY_DISCREPANCY (R245) -/
  | safetyDiscrepancy
  /-- WATCHDOG_MISS (R241) -/
  | watchdogMiss
  /-- WATCHDOG_RESET (R427) -/
  | watchdogReset
  /-- ADP_RESTORE (R156) -/
  | adpRestore (ch : Fin 64)
  /-- ALIGNMENT_LOSS (R162) -/
  | alignmentLoss (sight : LinkSight)
  /-- TS1 (R183) -/
  | ts1 (p : Fin 21) (lane : Fin 2) (p0 : BitVec 8) (p1 : BitVec 8) (p2 : BitVec 8) (p3 : BitVec 8)
  /-- TS2 (R183) -/
  | ts2 (p : Fin 21) (lane : Fin 2) (p0 : BitVec 8) (p1 : BitVec 8) (p2 : BitVec 8) (p3 : BitVec 8)
  /-- RATE (R183) -/
  | rate (p : Fin 21) (lane : Fin 2) (p0 : BitVec 8)
  /-- EQ_REQ (R185) -/
  | eqReq (p : Fin 21) (lane : Fin 2) (p0 : BitVec 8) (p1 : BitVec 8) (p2 : BitVec 8) (p3 : BitVec 8)
  /-- EQ_ACK (R185) -/
  | eqAck (p : Fin 21) (lane : Fin 2) (p1 : BitVec 8) (p2 : BitVec 8) (p3 : BitVec 8) (verdict : Fin 3) (actions : BitVec 8)
  /-- EQ_DONE (R185) -/
  | eqDone (p : Fin 21) (lane : Fin 2) (p0 : BitVec 8) (p1 : BitVec 8)
  /-- EQ_TIMEOUT (R186) -/
  | eqTimeout (p : Fin 21)
  /-- ECHO_REQ (R187) -/
  | echoReq (p : Fin 21) (lane : Fin 2) (p0 : BitVec 8) (p1 : BitVec 8) (turnaround : BitVec 16)
  /-- ECHO_RSP (R187) -/
  | echoRsp (p : Fin 21) (lane : Fin 2) (p0 : BitVec 8) (p1 : BitVec 8) (p2 : BitVec 8) (p3 : BitVec 8) (rtt : BitVec 32)
  /-- LINK_UP (R183) -/
  | linkUp (p : Fin 21) (lane : Fin 2) (p0 : BitVec 8)
  /-- RETRAIN (R188) -/
  | retrain (p : Fin 21) (lane : Fin 2)
  /-- PORT_TRAIN_TIMEOUT (R188) -/
  | portTrainTimeout (p : Fin 21)
  /-- PORT_RETRY (R188) -/
  | portRetry (p : Fin 21)
  /-- NEAP_REQ (R189) -/
  | neapReq (p : Fin 21) (lane : Fin 2)
  /-- NEAP_ACK (R190) -/
  | neapAck (p : Fin 21) (lane : Fin 2) (p0 : BitVec 8)
  /-- WAKE (R190) -/
  | wake (p : Fin 21) (lane : Fin 2)
  /-- NEAP_WAKE_DETECT (R190) -/
  | neapWakeDetect (p : Fin 21)
  /-- NEAP_EXIT_TIMEOUT (R190) -/
  | neapExitTimeout (p : Fin 21)
  /-- RETRAIN_WRITE (R188) -/
  | retrainWrite (p : Fin 21)
  /-- NEAP_ENTER (R189) -/
  | neapEnter (p : Fin 21)
  /-- NEAP_EXIT (R190) -/
  | neapExit (p : Fin 21)
  /-- CLEAR_STATS (R188) -/
  | clearStats (p : Fin 21)
  /-- TIME_SET (R175) -/
  | timeSet
  /-- CFG_WR_RSP (R193) -/
  | cfgWrRsp (p : Fin 21) (h : FrameHdr) (b : Bytes)
  /-- CFG_RD_RSP (R193) -/
  | cfgRdRsp (p : Fin 21) (h : FrameHdr) (b : Bytes)
  /-- CFG_RETRANSMIT (R193) -/
  | cfgRetransmit (p : Fin 21)
  /-- ENUM_RSP (R192) -/
  | enumRsp (p : Fin 21) (h : FrameHdr) (b : Bytes)
  /-- AUX_DATA_UP (R164) -/
  | auxDataUp (p : Fin 21) (h : FrameHdr) (b : Bytes)
  /-- EVENT (R195) -/
  | nodeEvent (p : Fin 21) (h : FrameHdr) (b : Bytes)
  /-- CASS_RSP (R404) -/
  | cassRsp (p : Fin 21) (h : FrameHdr) (b : Bytes) (issuerKey : Bytes)
  /-- CASSETTE_AUTH_DONE (R405) -/
  | cassetteAuthDone (k : Fin 68)
  /-- CSI_FRAME_START (R253) -/
  | csiFrameStart (port : Fin 8) (vc : Fin 16) (fn : BitVec 16) (ecc : Fin 3) (off : SubTick)
  /-- CSI_LONG_PACKET (R250) -/
  | csiLongPacket (port : Fin 8) (vc : Fin 16) (dt : BitVec 6) (ecc : Fin 3) (crcOk : Bool) (data : Bytes)
  /-- CSI_FRAME_END (R254) -/
  | csiFrameEnd (port : Fin 8) (vc : Fin 16) (ecc : Fin 3)
  /-- FRAME_TIMEOUT (R255) -/
  | frameTimeout (k : Fin 32)
  /-- FRAME_MISSING (R255) -/
  | frameMissing (k : Fin 32)
  /-- PIPELINE_TAKE (R256) -/
  | pipelineTake (pipe : Fin 2)
  /-- FEATURE_RECORD_DONE (R265) -/
  | featureRecordDone (pass : PipelinePass)
  /-- IPL_CAPTURE_DARK (R262) -/
  | iplCaptureDark (x : CmdImage)
  /-- IPL_CAPTURE_FLAT (R262) -/
  | iplCaptureFlat (x : CmdImage)
  /-- CTRIG_PERIODIC (R266) -/
  | ctrigPeriodic (p : Fin 8) (off : SubTick)
  /-- PULSE (R266) -/
  | pulse (p : Fin 8)
  /-- SINK_PERIOD_START (R270) -/
  | sinkPeriodStart (n : Fin 16) (off : SubTick) (openLamps : BitVec 16)
  /-- FADE_STEP (R273) -/
  | fadeStep
  /-- LEVEL_WRITE (R273) -/
  | levelWrite (n : Fin 16) (v : BitVec 16)
  /-- GLOBAL_WRITE (R273) -/
  | globalWrite (v : BitVec 16)
  /-- SHORT_DETECT (R275) -/
  | shortDetect (lower : Fin 15)
  /-- CLEAR_SHORT (R275) -/
  | clearShort (n : Fin 16)
  /-- OPENCHK_MAXDEFER (R278) -/
  | openchkMaxdefer (n : Fin 16)
  /-- DIAG_PULSE (R278): the current in µA that the sink holds at the end of the pulse, and the open lamps of the other sinks -/
  | diagPulse (n : Fin 16) (off : SubTick) (heldUA : BitVec 32) (openLamps : BitVec 16)
  /-- SHW_FRAME_START (R282) -/
  | shwFrameStart (chain : Fin 2)
  /-- SHW_FRAME_DONE (R283) -/
  | shwFrameDone (chain : Fin 2) (returned : Bytes)
  /-- UPDATE (R282) -/
  | update (chain : Fin 2)
  /-- MOT_MOVE (R290) -/
  | motMove (x : CmdImage)
  /-- MOT_HALT (R293) -/
  | motHalt (x : CmdImage)
  /-- MOT_CONTINUE (R294) -/
  | motContinue (x : CmdImage)
  /-- MOT_SET_POS (R311) -/
  | motSetPos (x : CmdImage)
  /-- MOT_CLEAR (R297) -/
  | motClear (x : CmdImage)
  /-- MFLT_N_FAULT (R297) -/
  | mfltNFault (n : Fin 8) (active : Bool)
  /-- AXIS_STALL (R296) -/
  | axisStall (n : Fin 8)
  /-- RECOAT_STEP (R298) -/
  | recoatStep
  /-- RC_SETTLE_EXPIRY (R298) -/
  | rcSettleExpiry
  /-- ENCODER_COUNT (R300) -/
  | encoderCount (enc : Fin 8) (levels : EncLevels) (lasts : BitVec 8) (off : SubTick)
  /-- INDEX_EVENT (R301) -/
  | indexEvent (enc : Fin 8)
  /-- SSI_READING_START (R304) -/
  | ssiReadingStart (j : Fin 4)
  /-- SSI_READING_DONE (R305) -/
  | ssiReadingDone (j : Fin 4) (raw : BitVec 32) (ends : SsiEnds) (off : SubTick)
  /-- COMPARE_ARM (R307) -/
  | compareArm (u : Fin 8)
  /-- INC_STICKY_CLEAR (R302) -/
  | incStickyClear (enc : Fin 8)
  /-- INC_FAULT_CLEAR (R302) -/
  | incFaultClear (enc : Fin 8)
  /-- SSI_FAULT_CLEAR (R305) -/
  | ssiFaultClear (j : Fin 4)
  /-- CMP_STICKY_CLEAR (R308) -/
  | cmpStickyClear (u : Fin 8)
  /-- TWN_HANDOVER (R327) -/
  | twnHandover (x : CmdImage)
  /-- HEARTBEAT_SEND (R322) -/
  | heartbeatSend
  /-- TWN_HB (R322) -/
  | twnHb (h : FrameHdr) (b : Bytes)
  /-- HEARTBEAT_PULSE (R322) -/
  | heartbeatPulse (width : BitVec 16)
  /-- PARTNER_FAILED (R323) -/
  | partnerFailed
  /-- PATH_ALARM (R323) -/
  | pathAlarm
  /-- SOLO_TIMEOUT (R313) -/
  | soloTimeout
  /-- HEARTBEAT_WITHHELD (R326) -/
  | heartbeatWithheld
  /-- TWN_CMD (R316) -/
  | twnCmd (h : FrameHdr) (b : Bytes)
  /-- TWN_INPUT (R315) -/
  | twnInput (h : FrameHdr) (b : Bytes)
  /-- TWN_TICK (R319) -/
  | twnTick (h : FrameHdr) (b : Bytes)
  /-- STATE_DIGEST (R319) -/
  | stateDigest
  /-- TWN_DIGEST (R319) -/
  | twnDigest (h : FrameHdr) (b : Bytes)
  /-- TWN_SYNC (R321) -/
  | twnSync (h : FrameHdr) (b : Bytes)
  /-- TWN_ROLE (R327) -/
  | twnRole (h : FrameHdr) (b : Bytes)
  /-- RESYNC_BOUNDARY (R321) -/
  | resyncBoundary (snap : Snapshot)
  /-- TAKEBACK_PROPOSAL (R327) -/
  | takebackProposal
  /-- ROLE_EXCHANGE (R327) -/
  | roleExchange
  /-- CSC_HB_SEND (R329) -/
  | cscHbSend
  /-- CSC_HB (R329) -/
  | cscHb (p : Fin 21) (h : FrameHdr) (b : Bytes)
  /-- CSC_READY (R330) -/
  | cscReady (p : Fin 21) (h : FrameHdr) (b : Bytes)
  /-- CSC_ANNOUNCE (R330) -/
  | cscAnnounce (p : Fin 21) (h : FrameHdr) (b : Bytes)
  /-- ANNOUNCED_BOUNDARY (R330) -/
  | announcedBoundary
  /-- CSC_HOLD (R330) -/
  | cscHold (p : Fin 21) (h : FrameHdr) (b : Bytes)
  /-- CSC_MEMBER_LOST (R329) -/
  | cscMemberLost
  /-- CSC_LEAD_LOST (R329) -/
  | cscLeadLost
  /-- PPS_IN_EDGE (R352) -/
  | ppsInEdge (quarter : Fin 2000)
  /-- PLANT_SYNC (R349) -/
  | plantSync (ident : BitVec 64) (sec : BitVec 48) (ns : BitVec 32) (corr : BitVec 64) (logInt : BitVec 8) (off : SubTick)
  /-- LINK_MEASUREMENT (R337) -/
  | linkMeasurement (bells : List (Fin 3 × BitVec 32))
  /-- SOURCE_LOST (R338) -/
  | sourceLost
  /-- SRC_WRITE (R342) -/
  | srcWrite (v : Fin 3)
  /-- TIM_SET (R345) -/
  | timSet (x : CmdImage)
  /-- TIM_RESTEP (R342) -/
  | timRestep (x : CmdImage)
  /-- PTP_SYNC_TX (R347) -/
  | ptpSyncTx (off : SubTick)
  /-- PTP_ANNOUNCE_TX (R347) -/
  | ptpAnnounceTx (off : SubTick)
  /-- DELAY_REQ (R347) -/
  | delayReq (port : Fin 2) (ty : BitVec 4) (dom : BitVec 8) (seq : BitVec 16) (off : SubTick)
  /-- FOREIGN_ANNOUNCE (R347) -/
  | foreignAnnounce (port : Fin 2) (ident : BitVec 64)
  /-- TC_FORWARD (R348) -/
  | tcForward (port : Fin 2) (ty : BitVec 4) (dom : BitVec 8) (ident : BitVec 80) (seq : BitVec 16) (twoStep : Bool)
      (corr : BitVec 64) (off : SubTick) (residence : BitVec 32)
  /-- TIM_TXQ_READ (R351) -/
  | timTxqRead
  /-- PPS_OUT_SECOND (R353) -/
  | ppsOutSecond
  /-- DRAM_TRAINING_DONE (R359) -/
  | dramTrainingDone (t : TrainResult)
  /-- DRC_INIT_DONE (R361) -/
  | drcInitDone
  /-- REFRESH (R363) -/
  | refresh (sub : Fin 4) (bank : Fin 64) (hits : Bool)
  /-- MR4_POLL (R355) -/
  | mr4Poll (rank : Fin 2) (raised : Bool)
  /-- ROW_ACT_THRESHOLD (R365): the fields of the address activated, as R358 lays them out: the subchannel; the bank group,
  the bank above it and the rank above that; the row -/
  | rowActThreshold (sub : Fin 4) (bank : Fin 64) (row : BitVec 18)
  /-- PATROL_SCRUB (R371) -/
  | patrolScrub (result : Fin 3)
  /-- DRAM_CAL_SLICE (R362) -/
  | dramCalSlice (sub : Fin 4) (fifosLow : Bool) (last : Bool) (passed : Bool)
  /-- BAR2_READ (R357) -/
  | bar2Read (addr : BitVec 48) (n : BitVec 16) (bad : Option (BitVec 16 × Bool))
  /-- BAR2_WRITE (R357) -/
  | bar2Write (addr : BitVec 48) (data : Bytes)
  /-- TSW_PROD_WRITE (R466) -/
  | tswProdWrite (v : BitVec 32)
  /-- TSW_DESCRIPTOR_DONE (R467) -/
  | tswDescriptorDone (data : Bytes) (hostErr : Bool)
  /-- PERST_N (R454) -/
  | perstN (low : Bool)
  /-- CAL_RUN (R382) -/
  | calRun (x : CmdImage)
  /-- CAL_GROUP_DONE (R380) -/
  | calGroupDone (chan : Option (Fin 64)) (passed : Bool) (values : Bytes)
  /-- CAL_EXPIRED (R383) -/
  | calExpired
  /-- CAL_RECORD_WRITE (R387) -/
  | calRecordWrite (part : Fin 9) (failed : Fin 3)
  /-- HK_SLOT_CONVERSION (R393) -/
  | hkSlotConversion (reading : Option (BitVec 16))
  /-- LOCKSTEP_MISMATCH (R392) -/
  | lockstepMismatch
  /-- HBR_RESTART (R392) -/
  | hbrRestart
  /-- UPD_STAGE (R401) -/
  | updStage (x : CmdImage)
  /-- UPD_STAGE_DONE (R401) -/
  | updStageDone (good : Bool)
  /-- UPD_ACTIVATE (R402) -/
  | updActivate (x : CmdImage)
  /-- UPD_CONFIRM (R402) -/
  | updConfirm (x : CmdImage)
  /-- CON_REAUTH (R405) -/
  | conReauth (x : CmdImage)
  /-- CON_OVERRIDE (R408) -/
  | conOverride (x : CmdImage)
  /-- CON_ISSUER (R405) -/
  | conIssuer (x : CmdImage)
  /-- HBR_TRIM_WRITE (R409) -/
  | hbrTrimWrite (x : CmdImage)
  /-- RECORD_SEAL (R413) -/
  | recordSeal
  /-- SUMMARY_BATCH_DONE (R415) -/
  | summaryBatchDone
  /-- REC_CLEAR (R418) -/
  | recClear (x : CmdImage)
  /-- REC_SUMMARY_READ (R419) -/
  | recSummaryRead (x : CmdImage)
  /-- POWER_ON (R456): the lowest rail in percent of its nominal voltage, and for how many µs it has stood there or higher -/
  | powerOn (percent : BitVec 8) (us : BitVec 16)
  /-- POWER_FAIL (R456) -/
  | powerFail
  /-- RESET_N_ASSERT (R422) -/
  | resetNAssert
  /-- RESET_N_RELEASE (R422) -/
  | resetNRelease
  /-- CLOCK_QUALIFIED (R423) -/
  | clockQualified (d : Fin 10)
  /-- DOMAIN_RELEASE (R424) -/
  | domainRelease (r : ReleaseStep)
  /-- CLOCK_QUAL_LOST (R425) -/
  | clockQualLost (d : Fin 10) (reason : Fin 2)
  /-- SW_RESET_SET (R426) -/
  | swResetSet (d : Fin 10)
  /-- SW_RESET_CLEAR (R426) -/
  | swResetClear (d : Fin 10)
  /-- DEV_RESET (R427) -/
  | devReset (x : CmdImage)
  /-- BOOT_IMAGE_SELECT (R400) -/
  | bootImageSelect (t : BistResult)
  /-- BRINGUP_DONE (R232) -/
  | bringupDone
  /-- BST_SHUTDOWN (R434) -/
  | bstShutdown (x : CmdImage)
  /-- SHUTDOWN_TEST_DONE (R440) -/
  | shutdownTestDone (t : BistResult)
  /-- BST_FUSE_REPAIR (R445) -/
  | bstFuseRepair (x : CmdImage)
  /-- JTAG_INSTRUCTION (R439) -/
  | jtagInstruction (instr : JtagInstr)
  /-- CASS_RSP_TIMEOUT (R404) -/
  | cassRspTimeout (k : Fin 68)
  /-- INTERNAL_RESET_RELEASE (R422) -/
  | internalResetRelease
  /-- BUS_MASTER_ENABLE (R467) -/
  | busMasterEnable (on : Bool)
  /-- FRAME_DISCARDED (R166): the code-groups that followed SOF, bit a of each in bit 9, with the one that
  ended the frame apart, and the sign of the running disparity before them -/
  | frameDiscarded (p : Fin 21) (positive : Bool) (groups : List (BitVec 10)) (ending : BitVec 10)
  /-- LM_SET_BAD (R182): the nine data symbols of the set, the first in the low byte -/
  | lmSetBad (at_ : PortLane) (set : BitVec 72)
  /-- PLANT_ANNOUNCE (R349) -/
  | plantAnnounce (ident : BitVec 64) (utc : BitVec 16) (rank : List (BitVec 64))
  /-- PTP_DELAY_RESP (R349) -/
  | ptpDelayResp (port : Fin 2) (seq : BitVec 16) (sec : BitVec 48) (ns : BitVec 32) (turn : BitVec 32) (corr : BitVec 64) (off : SubTick)
  /-- PTP_DELAY_REQ_TX (R347) -/
  | ptpDelayReqTx (port : Fin 2) (off : SubTick)
  /-- MACH_SYNC_RX (R337) -/
  | machSyncRx (sec : BitVec 48) (ns : BitVec 32) (corr : BitVec 64) (off : SubTick)
  deriving DecidableEq, Repr

end Sys2Proof
end

