-- ==== Sys2Proof/Decode.lean ====
section
/-!
DEFINITION. Decode.lean: the command that a word spells by the bits of the table of operations and events. The table gives no
row any bits: the block has no instruction words, and its mailbox commands are parsed from their slots by
Machine/Admission.lean (R200).
-/
namespace Sys2Proof

/-- No row of the table gives bits, so no word spells a command. -/
def decodeTableWord (_nbits _w : Nat) : Option Instr := none

end Sys2Proof
end

