-- ==== Sys2Proof/Machine/Bits.lean ====
section
/-!
DEFINITION. Machine/Bits.lean: bit fields, sign extension, saturation, byte order (R2, R3) and sequence-number
comparison (R5), each once.
-/
namespace Sys2Proof.Machine

/-- Bits `lsb + w - 1 : lsb` of `v` (R2: bit 0 is the least significant). -/
def bits (v lsb w : Nat) : Nat := (v >>> lsb) % 2 ^ w

/-- `v` with bits `lsb + w - 1 : lsb` replaced by the low `w` bits of `x`. -/
def setBits (v lsb w x : Nat) : Nat :=
  v - (bits v lsb w) * 2 ^ lsb + (x % 2 ^ w) * 2 ^ lsb

/-- The two's-complement value of a `w`-bit field (R3). -/
def toSigned (w v : Nat) : Int :=
  if v % 2 ^ w < 2 ^ (w - 1) then (v % 2 ^ w : Nat) else ((v % 2 ^ w : Nat) : Int) - (2 ^ w : Nat)

/-- The `w`-bit two's-complement field of an integer, wrapped. -/
def ofSigned (w : Nat) (i : Int) : Nat := (i % ((2 ^ w : Nat) : Int)).toNat

/-- An unsigned count of `w` bits that saturates at its largest value. -/
def satNat (w v : Nat) : Nat := min v (2 ^ w - 1)

/-- An integer limited to `lo … hi`. -/
def clampInt (lo hi i : Int) : Int := if i < lo then lo else if hi < i then hi else i

/-- A signed value that saturates at the ends of a `w`-bit two's-complement field. -/
def satSigned (w : Nat) (i : Int) : Int :=
  clampInt (-(2 ^ (w - 1) : Nat)) ((2 ^ (w - 1) : Nat) - 1) i

/-- One bit as a truth value. -/
def bitOf (v i : Nat) : Bool := v.testBit i

/-- A truth value as one bit. -/
def b2n (b : Bool) : Nat := if b then 1 else 0

/-- The value of a byte string, least significant byte first (R2). -/
def leNat : Bytes → Nat
  | [] => 0
  | b :: bs => b.toNat + 256 * leNat bs

/-- `n` bytes of a value, least significant first (R2). -/
def leBytes : Nat → Nat → Bytes
  | 0, _ => []
  | n + 1, v => BitVec.ofNat 8 v :: leBytes n (v / 256)

/-- The value of a byte string, most significant byte first (the cryptographic fields of R2). -/
def beNat (bs : Bytes) : Nat := bs.foldl (fun a b => 256 * a + b.toNat) 0

/-- Bytes `off … off + n - 1` of a string. -/
def slice (bs : Bytes) (off n : Nat) : Bytes := (bs.drop off).take n

/-- The little-endian field of `n` bytes at `off` of a record (R2). -/
def fieldLE (bs : Bytes) (off n : Nat) : Nat := leNat (slice bs off n)

/-- The signed little-endian field of `n` bytes at `off`. -/
def fieldLEs (bs : Bytes) (off n : Nat) : Int := toSigned (8 * n) (fieldLE bs off n)

/-- A string of `n` zero bytes. -/
def zeros (n : Nat) : Bytes := List.replicate n 0#8

/-- A string brought to exactly `n` bytes, zero bytes after its end. -/
def padTo (n : Nat) (bs : Bytes) : Bytes := bs.take n ++ zeros (n - bs.length)

/-- `bs` with the bytes from `off` replaced by `new`. -/
def splice (bs : Bytes) (off : Nat) (new : Bytes) : Bytes :=
  padTo off bs ++ new ++ bs.drop (off + new.length)

/-- All bytes are zero. -/
def allZero (bs : Bytes) : Bool := bs.all (· == 0#8)

/-- Sequence-number order (R5) over a window of `w` bits: `a` is newer than `b`. -/
def seqNewer (w a b : Nat) : Bool :=
  let d := (a + 2 ^ w - b % 2 ^ w) % 2 ^ w
  decide (1 ≤ d) && decide (d < 2 ^ (w - 1))

/-- `a` and `b` are the same sequence number (R5). -/
def seqSame (w a b : Nat) : Bool := a % 2 ^ w == b % 2 ^ w

/-- Sequence-number order (R5): `a` is stale against `b`. -/
def seqStale (w a b : Nat) : Bool := !seqNewer w a b && !seqSame w a b

/-- Quotient rounded to nearest, halves away from zero, of an integer by a positive number. -/
def roundDiv (n : Int) (d : Nat) : Int :=
  if 0 ≤ n then (2 * n + d) / (2 * d) else -((-2 * n + d) / (2 * d))

/-- Quotient rounded up. -/
def ceilDiv (n d : Nat) : Nat := (n + d - 1) / d

/-- Put element `i` of a list whose elements beyond its end stand for `d`. -/
def setAt {α : Type} (d : α) : List α → Nat → α → List α
  | [], 0, x => [x]
  | [], n + 1, x => d :: setAt d [] n x
  | _ :: t, 0, x => x :: t
  | a :: t, n + 1, x => a :: setAt d t n x

/-- Replace element `i` of a list by `f` of it, where elements beyond its end stand for `d`. -/
def modAt {α : Type} (d : α) (l : List α) (i : Nat) (f : α → α) : List α := setAt d l i (f (l.getD i d))

/-- The first element of a list that satisfies a test, with its index. -/
def findIdx {α : Type} (p : α → Bool) : List α → Nat → Option (Nat × α)
  | [], _ => none
  | a :: t, i => if p a then some (i, a) else findIdx p t (i + 1)

end Sys2Proof.Machine
end

