-- ==== Sys2Proof/Machine/Chart.lean ====
section
/-!
DEFINITION. Machine/Chart.lean: the chart mapping of R70 to R74, in exact integers.
-/
namespace Sys2Proof.Machine

/-- The geometry of a chart (R70). -/
structure Geom where
  x0 : Int
  y0 : Int
  pitch : Nat
  margin : Nat
  xc : Int
  yc : Int
  a11 : Int
  a12 : Int
  a21 : Int
  a22 : Int
  z0 : Int
  deriving DecidableEq, Repr

/-- The correction fields of a node (R71). -/
def nodeCX (w : Nat) : Int := toSigned 20 (bits w 0 20)
def nodeCY (w : Nat) : Int := toSigned 20 (bits w 20 20)
def nodeCZ (w : Nat) : Int := toSigned 20 (bits w 40 20)

/-- The cell index and remainder along one axis (R72). -/
def cellOf (d : Int) (p : Nat) : Nat × Int :=
  if d < 0 then (0, 0)
  else if 128 * (p : Int) ≤ d then (127, p)
  else ((d / p).toNat, d % p)

/-- One correction (R72); `nd i j` is the value of the field at node (i, j). -/
def correction (p : Nat) (i j : Nat) (rx ry : Int) (nd : Nat → Nat → Int) : Int :=
  let pp : Int := p
  let n := (pp - ry) * ((pp - rx) * nd i j + rx * nd (i + 1) j)
    + ry * ((pp - rx) * nd i (j + 1) + rx * nd (i + 1) (j + 1))
  (2 * n + pp * pp) / (2 * pp * pp)

/-- rnd(a) of R73. -/
def rnd16 (a : Int) : Int := (2 * a + 65536) / 131072

/-- Head counts at a bed point before clamping (R73); `nd i j` is node (i, j)'s word. -/
def headCounts (g : Geom) (nd : Nat → Nat → Nat) (x y zOff : Int) : Int × Int × Int :=
  let cx := cellOf (x - g.x0) g.pitch
  let cy := cellOf (y - g.y0) g.pitch
  let cor (f : Nat → Int) := correction g.pitch cx.1 cy.1 cx.2 cy.2 (fun i j => f (nd i j))
  let dxc := x - g.xc
  let dyc := y - g.yc
  (rnd16 (g.a11 * dxc + g.a12 * dyc) + cor nodeCX,
   rnd16 (g.a21 * dxc + g.a22 * dyc) + cor nodeCY,
   g.z0 + cor nodeCZ + zOff)

/-- The 24-bit range of a head count (R27, R73). -/
def clampHead (h : Int) : Int := clampInt (-8388608) 8388607 h
def headInRange (h : Int) : Bool := decide (-8388608 ≤ h) && decide (h ≤ 8388607)

/-- The coordinates along one axis at which R74 tests: every node, and the extended region's two edges. -/
def rangeCoords (lo : Int) (pitch margin : Nat) : List Int :=
  (lo - margin) :: (List.range 129).map (fun i : Nat => lo + (i : Int) * (pitch : Int)) ++ [lo + 128 * pitch + margin]

/-- C_RANGE of R74: some head count leaves the 24-bit range at a node, at a boundary point level with an edge node, or
at a corner of the extended region, for the least or the greatest focus offset. -/
def rangeFails (g : Geom) (nd : Nat → Nat → Nat) (zLo zHi : Int) : Bool :=
  (rangeCoords g.x0 g.pitch g.margin).any (fun x =>
    (rangeCoords g.y0 g.pitch g.margin).any (fun y =>
      let h := headCounts g nd x y 0
      !headInRange h.1 || !headInRange h.2.1 || !headInRange (h.2.2 + zLo) || !headInRange (h.2.2 + zHi)))

end Sys2Proof.Machine
end

