-- ==== Sys2Proof/Machine/Crc.lean ====
section
/-!
DEFINITION. Machine/Crc.lean: the check word CRC-32C of R6 and the parity of a surge word (R115).
-/
namespace Sys2Proof.Machine

/-- The reflected form of the polynomial 0x1EDC_6F41 (R6). -/
def crcPoly : Nat := 0x82F63B78

/-- One bit of the reflected CRC register. -/
def crcBit (r : Nat) : Nat := if r % 2 = 1 then (r >>> 1) ^^^ crcPoly else r >>> 1

/-- One byte enters the CRC register. -/
def crcByte (r : Nat) (b : Byte) : Nat :=
  let x := r ^^^ b.toNat
  crcBit (crcBit (crcBit (crcBit (crcBit (crcBit (crcBit (crcBit x)))))))

/-- CRC-32C of a byte string (R6): initial value and final XOR all ones, reflected in and out. -/
def crc32c (bs : Bytes) : Nat := (bs.foldl crcByte 0xFFFFFFFF) ^^^ 0xFFFFFFFF

/-- The number of ones among the low `n` bits. -/
def popCount (v : Nat) : Nat → Nat
  | 0 => 0
  | n + 1 => v % 2 + popCount (v / 2) n

/-- The parity of the low `n` bits: 1 for an odd number of ones. -/
def oddOnes (v n : Nat) : Nat := popCount v n % 2

end Sys2Proof.Machine
end

