-- ==== Sys2Proof/Machine/LineCode.lean ====
section
/-!
DEFINITION. Machine/LineCode.lean: the line code of Strand (R160 to R163, R182, R185): 8b/10b code-groups with their running
disparity, the symbols that frames, surge words, bells and link management sets are sent as, and what each lane carries.
-/
namespace Sys2Proof.Machine

/-- The K-codes that Strand uses (R160); every other is a code error. -/
inductive Ctl where
  | idle | sof | eof | surgeStart | surgeEnd | bell | lm | neap | err
  deriving DecidableEq, Repr

/-- A symbol of a lane: a data byte Dx.y or one of the special symbols. -/
inductive Sym where
  | data (b : Byte)
  | ctl (k : Ctl)
  deriving DecidableEq, Repr

/-- x and y of a special symbol Kx.y (R160). -/
def Ctl.xy : Ctl → Nat × Nat
  | .idle => (28, 5)
  | .sof => (27, 7)
  | .eof => (29, 7)
  | .surgeStart => (28, 2)
  | .surgeEnd => (28, 6)
  | .bell => (28, 0)
  | .lm => (28, 3)
  | .neap => (23, 7)
  | .err => (30, 7)

/-- x = EDCBA and y = HGF of a symbol, and whether it is a K-code (R160). -/
def Sym.xy : Sym → Nat × Nat × Bool
  | .data b => (b.toNat % 32, b.toNat / 32, false)
  | .ctl k => (k.xy.1, k.xy.2, true)

/-- The 5b/6b code of Dx at negative running disparity, written abcdei (IEEE 802.3 clause 36). -/
def sixTable : List Nat :=
  [0b100111, 0b011101, 0b101101, 0b110001, 0b110101, 0b101001, 0b011001, 0b111000] ++
  [0b111001, 0b100101, 0b010101, 0b110100, 0b001101, 0b101100, 0b011100, 0b010111] ++
  [0b011011, 0b100011, 0b010011, 0b110010, 0b001011, 0b101010, 0b011010, 0b111010] ++
  [0b110011, 0b100110, 0b010110, 0b110110, 0b001110, 0b101110, 0b011110, 0b101011]

/-- The 3b/4b code of Dx.y at negative running disparity, written fghj; the last is the alternate of y = 7. -/
def fourTable : List Nat := [0b1011, 0b1001, 0b0101, 0b1100, 0b1101, 0b1010, 0b0110, 0b1110, 0b0111]

/-- The 3b/4b code of Kx.y at negative running disparity. -/
def fourKTable : List Nat := [0b1011, 0b0110, 0b1010, 0b1100, 0b1101, 0b0101, 0b1001, 0b0111]

/-- The code of a sub-block of `n` bits at the running disparity `pos`, from its code at negative disparity: an unbalanced
code, and one that `alt` marks, is complemented at positive disparity. -/
def subCode (n code : Nat) (alt pos : Bool) : Nat :=
  if pos && (alt || popCount code n != n / 2) then 2 ^ n - 1 - code else code

/-- Running disparity after a sub-block of `n` bits (clause 36): by its ones; 000111 and 0011 leave it positive, 111000 and
1100 negative. -/
def disparityAfter (n code : Nat) (pos : Bool) : Bool :=
  let ones := popCount code n
  if ones = n / 2 then
    (if code = 2 ^ (n / 2) - 1 then true else if code = (2 ^ (n / 2) - 1) * 2 ^ (n / 2) then false else pos)
  else decide (n / 2 < ones)

/-- Dx.7 takes its alternate code at this disparity. -/
def alternate7 (x : Nat) (pos : Bool) : Bool :=
  if pos then x == 11 || x == 13 || x == 14 else x == 17 || x == 18 || x == 20

/-- The code-group of a symbol, written abcdei fghj, and the running disparity after it; bit a, the first sent, is bit 9. -/
def Sym.encode (pos : Bool) (s : Sym) : BitVec 10 × Bool :=
  let (x, y, k) := s.xy
  let six := if k && x == 28 then subCode 6 0b001111 false pos else subCode 6 (sixTable.getD x 0) (x == 7) pos
  let mid := disparityAfter 6 six pos
  let four :=
    if k then subCode 4 (fourKTable.getD y 0) true mid
    else subCode 4 (fourTable.getD (if y == 7 && alternate7 x mid then 8 else y) 0) (y == 3) mid
  (BitVec.ofNat 10 (six * 16 + four), disparityAfter 4 four mid)

/-- Every symbol that a lane may carry. -/
def Sym.all : List Sym :=
  [.ctl .idle, .ctl .sof, .ctl .eof, .ctl .surgeStart, .ctl .surgeEnd, .ctl .bell, .ctl .lm, .ctl .neap, .ctl .err] ++
    (List.range 256).map (fun n => .data (BitVec.ofNat 8 n))

/-- The symbol that a code-group is at a running disparity; none is a code or disparity error (R166). -/
def decodeGroup (pos : Bool) (g : BitVec 10) : Option Sym := Sym.all.find? (fun s => (s.encode pos).1 == g)

/-- Running disparity after a received code-group, good or not. -/
def groupDisparity (pos : Bool) (g : BitVec 10) : Bool :=
  disparityAfter 4 (g.toNat % 16) (disparityAfter 6 (g.toNat / 16) pos)

/-- The symbols of received code-groups. -/
def decodeGroups (pos : Bool) : List (BitVec 10) → List (Option Sym)
  | [] => []
  | g :: gs => decodeGroup pos g :: decodeGroups (groupDisparity pos g) gs

/-- The code-groups of symbols sent in a row, and the running disparity after them. -/
def encodeSyms (pos : Bool) : List Sym → List (BitVec 10) × Bool
  | [] => ([], pos)
  | s :: ss =>
    let (g, pos) := s.encode pos
    let (gs, pos) := encodeSyms pos ss
    (g :: gs, pos)

/-! ### What the units of the stream are sent as -/

/-- A frame (R161, R163): SOF after an IDLE, its bytes and EOF. -/
def frameSyms (bs : Bytes) : List Sym := [.ctl .idle, .ctl .sof] ++ bs.map Sym.data ++ [.ctl .eof]
/-- A link management set (R182): LM and nine data symbols. -/
def lmSyms (bs : Bytes) : List Sym := .ctl .lm :: bs.map Sym.data
/-- A surge word (R161, R115): its payload, least significant byte first, between SURGE_START and SURGE_END. -/
def surgeSyms (payload : Nat) : List Sym := .ctl .surgeStart :: (leBytes 4 payload).map Sym.data ++ [.ctl .surgeEnd]

/-- The header of a frame (R163). -/
def hdrBytes (ftype flags node seq tag aux : Nat) : Bytes :=
  leBytes 1 ftype ++ leBytes 1 flags ++ leBytes 2 node ++ leBytes 2 seq ++ leBytes 4 tag ++ leBytes 2 aux
/-- A frame between SOF and EOF (R163): header, payload and the check word over both. -/
def frameBytes (ftype flags node seq tag aux : Nat) (payload : Bytes) : Bytes :=
  let b := hdrBytes ftype flags node seq tag aux ++ payload
  b ++ leBytes 4 (crc32c b)
/-- The nine data symbols of a link management set (R182): type, parameters and the check word over them. -/
def lmBytes (type p0 p1 p2 p3 : Nat) : Bytes :=
  let b := leBytes 1 type ++ leBytes 1 p0 ++ leBytes 1 p1 ++ leBytes 1 p2 ++ leBytes 1 p3
  b ++ leBytes 4 (crc32c b)

/-- `n` bits of PRBS-15, x^15 + x^14 + 1 (R185). DESIGN CHOICE (assumption log 49): the bit generated is the one shifted
in. -/
def prbsBits : Nat → Nat → List Bool
  | 0, _ => []
  | n + 1, r =>
    let b := bitOf r 14 != bitOf r 13
    b :: prbsBits n ((2 * r + b2n b) % 2 ^ 15)

/-- Bytes of a bit string, the first bit in bit 0 (R185). -/
def packBits : Nat → List Bool → Bytes
  | 0, _ => []
  | n + 1, l =>
    BitVec.ofNat 8 ((List.range 8).foldl (fun a i => a + b2n (l.getD i false) * 2 ^ i) 0) :: packBits n (l.drop 8)

/-- What a data lane carries while nothing else is sent: electrical idle, IDLE, a training set followed by 16 IDLE repeated
(R183), or blocks of TS1 and 512 symbols of PRBS-15 (R185). -/
inductive Fill where
  | off
  | idle
  | train (set : Bytes)
  | blocks (ts1 : Bytes)
  deriving DecidableEq, Repr

/-- The symbols that a fill repeats. -/
def Fill.period : Fill → List Sym
  | .off => []
  | .idle => [.ctl .idle]
  | .train set => lmSyms set ++ List.replicate 16 (.ctl .idle)
  | .blocks ts1 => lmSyms ts1 ++ (packBits 512 (prbsBits 4096 (2 ^ 15 - 1))).map Sym.data

/-- A data lane's transmitter (R160): whether its running disparity is positive, its fill and the symbol of the fill's period
that comes next, the symbols sent in the present tick beside the fill, and the code-groups of what the present command
sends, in order. -/
structure Lane where
  positive : Bool
  fill : Fill
  phase : Nat
  used : Nat
  sent : List (BitVec 10)
  deriving DecidableEq, Repr

/-- A lane in reset: electrical idle. -/
def Lane.init : Lane := ⟨false, .off, 0, 0, []⟩

/-- Send symbols on a lane. -/
def Lane.send (l : Lane) (ss : List Sym) : Lane :=
  let (gs, pos) := encodeSyms l.positive ss
  { l with positive := pos, used := l.used + ss.length, sent := l.sent ++ gs }

/-- Begin a fill. Running disparity starts negative at the first symbol of training (R160). -/
def Lane.begin (l : Lane) (f : Fill) : Lane :=
  { l with fill := f, phase := 0, positive := match f with | .train _ => false | _ => l.positive }

/-- `n` symbols of the fill. -/
def Lane.filled (l : Lane) (n : Nat) : Lane :=
  match l.fill with
  | .off => l
  | .idle => { l with positive := l.positive != decide (n % 2 = 1) }
  | f =>
    let p := f.period
    { l with
      positive := (encodeSyms l.positive ((List.range n).map (fun i => p.getD ((l.phase + i) % p.length) (.ctl .idle)))).2,
      phase := (l.phase + n) % p.length }

/-- A tick of `cap` symbol times passes: the fill takes what the tick's units left; units that do not fit go on in the next
one. -/
def Lane.tick (l : Lane) (cap : Nat) : Lane :=
  if l.used < cap then { l.filled (cap - l.used) with used := 0 } else { l with used := l.used - cap }

/-- Symbol times of a tick: 1.25 ns at 8.0 Gb/s, 2.5 ns at 4.0 Gb/s (R159). -/
def tickSymbols (fast : Bool) : Nat := if fast then 400 else 200

/-! ### What a receiver makes of a broken frame (R161, R166) -/

/-- How a received frame ended. -/
inductive FrameEnd where
  | whole (bytes : Bytes)
  | aborted
  | broken
  deriving DecidableEq, Repr

/-- The symbols after SOF with surge words and bells taken out (R161): surge words are `left` symbols from their end; a word
whose fifth symbol after SURGE_START is not SURGE_END, or that holds anything but data, breaks the frame. Surge words
belong to head ports alone (R157). Answers the frame's end and whether a surge word was malformed. -/
def assembleFrame (head : Bool) : Nat → Bytes → List (Option Sym) → FrameEnd × Bool
  | _, _, [] => (.broken, false)
  | 0, acc, s :: ss =>
    match s with
    | some (.data b) => assembleFrame head 0 (acc ++ [b]) ss
    | some (.ctl .bell) => assembleFrame head 0 acc ss
    | some (.ctl .surgeStart) => if head then assembleFrame head 5 acc ss else (.broken, false)
    | some (.ctl .eof) => (.whole acc, false)
    | some (.ctl .err) => (.aborted, false)
    | _ => (if ss.getLast? = some (some (.ctl .err)) then .aborted else .broken, false)
  | 1, acc, s :: ss => if s = some (.ctl .surgeEnd) then assembleFrame head 0 acc ss else (.broken, true)
  | n + 2, acc, s :: ss =>
    match s with
    | some (.data _) => assembleFrame head (n + 1) acc ss
    | _ => (.broken, true)

/-- Code and disparity errors among received symbols; on a port without surge words their symbols are code errors too
(R157, R160). -/
def codeErrors (head : Bool) (ss : List (Option Sym)) : Nat :=
  (ss.filter (fun s => s.isNone || (!head && (s == some (.ctl .surgeStart) || s == some (.ctl .surgeEnd))))).length

end Sys2Proof.Machine
end

