-- ==== Sys2Proof/Machine/F64.lean ====
section
/-!
DEFINITION. Machine/F64.lean: the binary64 arithmetic of R56: every operation rounds its exact result to nearest, ties
to even, with square roots correctly rounded. A finite number is held as `m × 2^e` with `m` odd, or as 0. The planner
forms no infinity and no not-a-number, so none is modelled (assumption log 12).
-/
namespace Sys2Proof.Machine

/-- A finite binary64 number `m × 2^e`, `m` odd, or zero as `0 × 2^0`. -/
structure F64 where
  m : Int
  e : Int
  deriving DecidableEq, Repr

/-- The number of significant bits of a natural number. -/
def bitLen (n : Nat) : Nat := if n = 0 then 0 else Nat.log2 n + 1

/-- Trailing zero bits of a positive number. -/
def trailingZeros (n : Nat) : Nat := Nat.log2 (n ^^^ (n - 1))

/-- Shift right by `k`, to nearest, ties to even. -/
def shiftRNE (n k : Nat) : Nat :=
  let q := n >>> k
  let r := n % 2 ^ k
  let h := 2 ^ (k - 1)
  if k = 0 then n
  else if h < r ∨ (r = h ∧ q % 2 = 1) then q + 1 else q

/-- The canonical form of `±n × 2^e`. -/
def F64.canon (neg : Bool) (n : Nat) (e : Int) : F64 :=
  if n = 0 then ⟨0, 0⟩
  else
    let z := trailingZeros n
    let q := n >>> z
    ⟨if neg then -(q : Int) else (q : Int), e + z⟩

/-- `±n × 2^e` rounded to binary64: 53 significant bits, and no bit below 2⁻¹⁰⁷⁴. -/
def F64.round (neg : Bool) (n : Nat) (e : Int) : F64 :=
  let k := max ((bitLen n : Int) - 53) (-1074 - e)
  if k ≤ 0 then F64.canon neg n e
  else F64.canon neg (shiftRNE n k.toNat) (e + k)

/-- The binary64 number nearest an integer times a power of two. -/
def F64.ofScaled (i : Int) (e : Int) : F64 := F64.round (decide (i < 0)) i.natAbs e

def F64.ofInt (i : Int) : F64 := F64.ofScaled i 0
def F64.ofNat (n : Nat) : F64 := F64.ofScaled (n : Int) 0
def F64.zero : F64 := ⟨0, 0⟩
def F64.one : F64 := ⟨1, 0⟩

/-- The exact integer of `x` over a common exponent `e ≤ x.e`. -/
def F64.atExp (x : F64) (e : Int) : Int := x.m * (2 ^ (x.e - e).toNat : Nat)

def F64.add (a b : F64) : F64 :=
  let e := min a.e b.e
  F64.ofScaled (a.atExp e + b.atExp e) e

def F64.neg (a : F64) : F64 := ⟨-a.m, a.e⟩
def F64.sub (a b : F64) : F64 := a.add b.neg
def F64.mul (a b : F64) : F64 := F64.ofScaled (a.m * b.m) (a.e + b.e)
def F64.abs (a : F64) : F64 := ⟨(a.m.natAbs : Int), a.e⟩

/-- Correctly rounded quotient (a zero divisor, which no rule forms, gives 0). -/
def F64.div (a b : F64) : F64 :=
  if b.m = 0 ∨ a.m = 0 then F64.zero
  else
    let na := a.m.natAbs
    let nb := b.m.natAbs
    let s := (55 + bitLen nb) - bitLen na
    let q := (na <<< s) / nb
    let r := (na <<< s) % nb
    F64.round (decide ((a.m < 0) ≠ (b.m < 0))) (2 * q + (if r = 0 then 0 else 1)) (a.e - b.e - s - 1)

/-- One step per bit of the integer square root. -/
def isqrtGo (n : Nat) : Nat → Nat → Nat
  | 0, r => r
  | k + 1, r =>
    let c := r + 2 ^ k
    isqrtGo n k (if c * c ≤ n then c else r)

/-- The integer square root. -/
def isqrt (n : Nat) : Nat := isqrtGo n (bitLen n / 2 + 1) 0

/-- Correctly rounded square root (of a negative number, which no rule forms, 0). -/
def F64.sqrt (a : F64) : F64 :=
  if a.m ≤ 0 then F64.zero
  else
    let n := a.m.toNat
    let s0 := 112 - bitLen n
    let s := if (a.e - s0) % 2 = 0 then s0 else s0 + 1
    let v := n <<< s
    let r := isqrt v
    F64.round false (2 * r + (if r * r = v then 0 else 1)) ((a.e - s) / 2 - 1)

def F64.lt (a b : F64) : Bool :=
  let e := min a.e b.e
  decide (a.atExp e < b.atExp e)

def F64.le (a b : F64) : Bool :=
  let e := min a.e b.e
  decide (a.atExp e ≤ b.atExp e)

def F64.isZero (a : F64) : Bool := a.m == 0
def F64.max (a b : F64) : F64 := if a.lt b then b else a
def F64.min (a b : F64) : F64 := if b.lt a then b else a
def F64.clamp (lo hi x : F64) : F64 := if x.lt lo then lo else if hi.lt x then hi else x

/-- The largest integer at most `a`. -/
def F64.floor (a : F64) : Int :=
  if 0 ≤ a.e then a.m * (2 ^ a.e.toNat : Nat) else a.m / (2 ^ (-a.e).toNat : Nat)

/-- The nearest integer, ties away from zero (R79). -/
def F64.nearest (a : F64) : Int :=
  if 0 ≤ a.e then a.m * (2 ^ a.e.toNat : Nat)
  else roundDiv a.m (2 ^ (-a.e).toNat)

/-- The smallest integer at least `a`. -/
def F64.ceil (a : F64) : Int := -(a.neg.floor)

/-- An exact integer quotient, correctly rounded. -/
def F64.ofRatio (n : Int) (d : Nat) : F64 := (F64.ofScaled n 0).div (F64.ofNat d)

/-- The length √(x² + y²), evaluated in that order. -/
def F64.hypot (x y : F64) : F64 := ((x.mul x).add (y.mul y)).sqrt

/-- The routine of R57: forty bisections for the largest `v` in `[lo, hi]` with `f v`. -/
def largestGo (f : F64 → Bool) : Nat → F64 → F64 → F64
  | 0, lo, _ => lo
  | k + 1, lo, hi =>
    let mid := (lo.add hi).div (F64.ofNat 2)
    if f mid then largestGo f k mid hi else largestGo f k lo mid

/-- "The largest v in [lo, hi] with f(v)" (R57). -/
def largest (f : F64 → Bool) (lo hi : F64) : F64 :=
  if f hi then hi else largestGo f 40 lo hi

end Sys2Proof.Machine
end

