-- ==== Sys2Proof/Machine/Kv.lean ====
section
/-!
DEFINITION. Machine/Kv.lean: sparse storage. A store is a list of (key, value) pairs in one canonical form: keys
strictly rising, no entry equal to what an unlisted key reads as. The DRAM, the flash, the register file, the chart
banks and the parameter sets are held so.
-/
namespace Sys2Proof.Machine

/-- A sparse store. -/
abbrev Kv (α : Type) := List (Nat × α)

/-- The entry listed under a key. -/
def Kv.find {α : Type} : Kv α → Nat → Option α
  | [], _ => none
  | (a, b) :: l, k => if a = k then some b else Kv.find l k

/-- What a key reads as: its entry, or the given value where it is not listed. -/
def Kv.get {α : Type} (d : α) (l : Kv α) (k : Nat) : α := (Kv.find l k).getD d

/-- List a value under a key, keys kept rising. -/
def Kv.insert {α : Type} (k : Nat) (v : α) : Kv α → Kv α
  | [] => [(k, v)]
  | (a, b) :: l =>
    if k < a then (k, v) :: (a, b) :: l
    else if k = a then (k, v) :: l
    else (a, b) :: Kv.insert k v l

/-- Drop a key. -/
def Kv.erase {α : Type} (k : Nat) : Kv α → Kv α
  | [] => []
  | (a, b) :: l => if a = k then Kv.erase k l else (a, b) :: Kv.erase k l

/-- Write a value; writing what an unlisted key reads as removes the entry. -/
def Kv.put {α : Type} [DecidableEq α] (d : α) (l : Kv α) (k : Nat) (v : α) : Kv α :=
  if v = d then Kv.erase k l else Kv.insert k v l

/-- Drop every key for which the test holds. -/
def Kv.dropWhere {α : Type} (p : Nat → Bool) (l : Kv α) : Kv α := l.filter (fun e => !p e.1)

/-- The keys rise strictly from above `lo` and no entry equals `d`. -/
def Kv.okFrom {α : Type} [DecidableEq α] (d : α) : Nat → Kv α → Bool
  | _, [] => true
  | lo, (a, b) :: l => decide (lo ≤ a) && decide (b ≠ d) && Kv.okFrom d (a + 1) l

/-- The canonical form of a store whose unlisted keys read as `d`. -/
def Kv.ok {α : Type} [DecidableEq α] (d : α) (l : Kv α) : Bool := Kv.okFrom d 0 l

/-! ### Byte memories -/

/-- A byte-addressed memory: (address, byte) pairs in canonical form. -/
abbrev Mem := List Host.Cell

/-- What an unlisted DRAM address reads as (R361: every block is zeroed before it can be read). -/
def Mem.unlisted : Byte := 0#8

/-- What an unlisted flash address reads as: the erased byte. -/
def Flash.unlisted : Byte := 0xFF#8

/-- Read one byte of DRAM. -/
def Mem.read (m : Mem) (a : Nat) : Byte := Kv.get Mem.unlisted m a

/-- Write one byte of DRAM. -/
def Mem.write (m : Mem) (a : Nat) (b : Byte) : Mem := Kv.put Mem.unlisted m a b

/-- Write a string of bytes from an address up. -/
def Mem.writeBytes (m : Mem) (a : Nat) : Bytes → Mem
  | [] => m
  | b :: bs => Mem.writeBytes (Mem.write m a b) (a + 1) bs

/-- Apply accepted writes, oldest first. -/
def Mem.applyAll (m : Mem) : List (Nat × Bytes) → Mem
  | [] => m
  | (a, bs) :: ws => Mem.applyAll (Mem.writeBytes m a bs) ws

/-- The canonical form of the DRAM. -/
def Memory.wf (m : Mem) : Bool := Kv.ok Mem.unlisted m

/-- The latest byte that a list of accepted writes (oldest first) gives an address, if any. -/
def pendingByte (ws : List (Nat × Bytes)) (a : Nat) : Option Byte :=
  ws.foldl (fun r w =>
    if w.1 ≤ a ∧ a < w.1 + w.2.length then some (w.2.getD (a - w.1) 0#8) else r) none

/-- Read one byte of DRAM under the writes accepted so far in the present command. -/
def readUnder (m : Mem) (ws : List (Nat × Bytes)) (a : Nat) : Byte :=
  (pendingByte ws a).getD (Mem.read m a)

/-- Read `n` bytes of DRAM from an address up, under the writes accepted so far. -/
def readBytesUnder (m : Mem) (ws : List (Nat × Bytes)) (a n : Nat) : Bytes :=
  (List.range n).map (fun i => readUnder m ws (a + i))

end Sys2Proof.Machine
end

