-- ==== Sys2Proof/Machine/Objects.lean ====
section
/-!
DEFINITION. Machine/Objects.lean: the device's objects and BAR0 registers, field by field, from the spec's own object
tables (each definition cites its table's rule): object ID, lowest bit, width, access code (R9), Applies value (R8) and
reset value.
-/
namespace Sys2Proof.Machine

/-- The access codes of R9. -/
inductive Access where
  | ro | rw | wo | w1c | rc
  deriving DecidableEq, Repr

/-- The Applies values of R8. -/
inductive Applies where
  | now | tick | vectorStart | tideMark | slack | boot
  deriving DecidableEq, Repr

/-- The columns of the housekeeping slot table of R393. -/
inductive ThmCol where
  | enable | kind | param1 | param2 | loFault | loWarn | hiWarn | hiFault
  deriving DecidableEq, Repr

/-- A field's reset value: a number, or one that depends on the instance. -/
inductive Rst where
  /-- the number of the Reset column -/
  | num (n : Nat)
  /-- CAL_CONFIG TEMP_SLOT: 0 for GATE, 15 + group otherwise (R390) -/
  | tempSlot
  /-- a column of the slot table of R393 -/
  | thm (c : ThmCol)
  deriving DecidableEq, Repr

/-- A register field. -/
structure Field where
  obj : Nat
  lsb : Nat
  width : Nat
  access : Access
  applies : Applies
  reset : Rst
  deriving DecidableEq, Repr

/-- An object of the index (R469). -/
structure ObjDesc where
  id : Nat
  size : Nat
  instLo : Nat
  instHi : Nat
  domain : Nat
  fields : List Field
  deriving DecidableEq, Repr

/-- Nominal millivolts of the rail slots 40 to 47 (R393). -/
def railNominal (slot : Nat) : Nat :=
  [750, 800, 900, 1200, 1100, 1100, 1800, 3300].getD (slot - 40) 0

/-- The kind of a housekeeping slot (R393): 0 die, 1 diode, 2 thermistor, 3 rail, 4 unused. -/
def thmKind (slot : Nat) : Nat :=
  if slot < 24 then 0 else if slot < 32 then 1 else if slot < 40 then 2 else if slot < 48 then 3 else 4

/-- The four reset limits LO_FAULT, LO_WARN, HI_WARN, HI_FAULT of a slot (R393); 0 for an unused slot. A rail's
limits are its nominal −5 %, −3 %, +3 %, +5 %, to the nearest millivolt. -/
def thmLimits (slot : Nat) : List Int :=
  match thmKind slot with
  | 0 => [-150, -100, 1000, 1100]
  | 1 => [-400, -300, 1000, 1200]
  | 2 => [-400, -300, 800, 1000]
  | 3 => [95, 97, 103, 105].map (fun p => roundDiv ((railNominal slot : Int) * p) 100)
  | _ => [0, 0, 0, 0]

/-- The reset value of a housekeeping field (R393, R394). -/
def thmReset (c : ThmCol) (slot : Nat) : Nat :=
  match c with
  | .enable => if thmKind slot = 0 ∨ thmKind slot = 3 then 1 else 0
  | .kind => thmKind slot
  | .param1 => if thmKind slot = 1 then 10080 else if thmKind slot = 2 then 3435 else 0
  | .param2 => if thmKind slot = 2 then 10000 else 0
  | .loFault => ofSigned 16 ((thmLimits slot).getD 0 0)
  | .loWarn => ofSigned 16 ((thmLimits slot).getD 1 0)
  | .hiWarn => ofSigned 16 ((thmLimits slot).getD 2 0)
  | .hiFault => ofSigned 16 ((thmLimits slot).getD 3 0)

/-- The value a field takes when its domain is released (R9). -/
def Field.resetVal (f : Field) (inst : Nat) : Nat :=
  match f.reset with
  | .num n => n
  | .tempSlot => if inst = 0 then 0 else 15 + inst
  | .thm c => thmReset c inst

/-- The register-file key of a field of an instance. -/
def Field.key (f : Field) (inst : Nat) : Nat := f.obj * 2 ^ 32 + inst * 2 ^ 16 + f.lsb
/-- Parameter set record, PS_MARK_SPEED [31:0] (R41): base marking speed on the bed, µm/s; 0 marks the set undefined. -/
def PS.MARK_SPEED : Field := ⟨0x20000, 0, 32, .rw, .tideMark, .num 0⟩
/-- Parameter set record, PS_JUMP_SPEED [63:32] (R41): base jump speed on the bed, µm/s. -/
def PS.JUMP_SPEED : Field := ⟨0x20000, 32, 32, .rw, .tideMark, .num 0⟩
/-- Parameter set record, PS_POWER [79:64] (R41): base power word; 0x0000 is off, 0xFFFF is the laser source's full scale. -/
def PS.POWER : Field := ⟨0x20000, 64, 16, .rw, .tideMark, .num 0⟩
/-- Parameter set record, PS_POWER_CEIL [95:80] (R41): highest power word that any scaling may reach. -/
def PS.POWER_CEIL : Field := ⟨0x20000, 80, 16, .rw, .tideMark, .num 0⟩
/-- Parameter set record, PS_Z_OFFSET [111:96] (R41): signed focus offset in Z head counts, added after the chart. -/
def PS.Z_OFFSET : Field := ⟨0x20000, 96, 16, .rw, .tideMark, .num 0⟩
/-- Parameter set record, PS_RFX_EN [112:112] (R41): 1: reflex loop active during this set's marks. -/
def PS.RFX_EN : Field := ⟨0x20000, 112, 1, .rw, .tideMark, .num 0⟩
/-- Parameter set record, PS_TRIM_EN [113:113] (R41): 1: trim loop scaling applied at this set's vector starts. -/
def PS.TRIM_EN : Field := ⟨0x20000, 113, 1, .rw, .tideMark, .num 0⟩
/-- Parameter set record, PS_GATE_WORD [114:114] (R41): 0: gate on the LG pair; 1: timed gate words to the head node. -/
def PS.GATE_WORD : Field := ⟨0x20000, 114, 1, .rw, .tideMark, .num 0⟩
/-- Parameter set record, PS_SKYWRITE [115:115] (R41): 1: run-in and run-out inserted around marks. -/
def PS.SKYWRITE : Field := ⟨0x20000, 115, 1, .rw, .tideMark, .num 0⟩

/-! ### SEQ_PSET (object 0x1010, R42 of chapter 02) -/

/-- SEQ_PSET.PSW_FIRST [7:0], WO, reset 0, tide mark (R42): first set number written. -/
def SEQ_PSET.PSW_FIRST : Field := ⟨0x1010, 0, 8, .wo, .tideMark, .num 0⟩
/-- SEQ_PSET.PSW_COUNT [15:8], WO, reset 0, tide mark (R42): number of sets, 1 to 14; PSW_FIRST + PSW_COUNT at most 256. -/
def SEQ_PSET.PSW_COUNT : Field := ⟨0x1010, 8, 8, .wo, .tideMark, .num 0⟩
/-- The object SEQ_PSET, 0x1010: size, instances (R22, R469), reset domain (R11) and fields. -/
def Obj.SEQ_PSET : ObjDesc := ⟨0x1010, 16, 0, 63, 9, [SEQ_PSET.PSW_FIRST, SEQ_PSET.PSW_COUNT]⟩

/-! ### SEQ_PSET_BLOCK (object 0x1011, R42 of chapter 02) -/

/-- SEQ_PSET_BLOCK.BLK_ADDR [63:0], WO, reset 0, tide mark (R42): DRAM address of the first set; 16-byte aligned. -/
def SEQ_PSET_BLOCK.BLK_ADDR : Field := ⟨0x1011, 0, 64, .wo, .tideMark, .num 0⟩
/-- SEQ_PSET_BLOCK.BLK_FIRST [71:64], WO, reset 0, tide mark (R42): first set number written. -/
def SEQ_PSET_BLOCK.BLK_FIRST : Field := ⟨0x1011, 64, 8, .wo, .tideMark, .num 0⟩
/-- SEQ_PSET_BLOCK.BLK_COUNT [80:72], WO, reset 0, tide mark (R42): number of sets, 1 to 256; BLK_FIRST + BLK_COUNT at most 256. -/
def SEQ_PSET_BLOCK.BLK_COUNT : Field := ⟨0x1011, 72, 9, .wo, .tideMark, .num 0⟩
/-- SEQ_PSET_BLOCK.BLK_CRC [127:96], WO, reset 0, tide mark (R42): CRC-32C over the BLK_COUNT × 16 bytes at BLK_ADDR; a mismatch fails the stage command with status BAD_FIELD. -/
def SEQ_PSET_BLOCK.BLK_CRC : Field := ⟨0x1011, 96, 32, .wo, .tideMark, .num 0⟩
/-- The object SEQ_PSET_BLOCK, 0x1011: size, instances (R22, R469), reset domain (R11) and fields. -/
def Obj.SEQ_PSET_BLOCK : ObjDesc := ⟨0x1011, 16, 0, 63, 9, [SEQ_PSET_BLOCK.BLK_ADDR, SEQ_PSET_BLOCK.BLK_FIRST, SEQ_PSET_BLOCK.BLK_COUNT, SEQ_PSET_BLOCK.BLK_CRC]⟩

/-! ### SEQ_MANIFEST (object 0x1001, R45 of chapter 02) -/

/-- SEQ_MANIFEST.MAN_ADDR [63:0], WO, reset 0, tide mark (R45): DRAM address of the manifest. -/
def SEQ_MANIFEST.MAN_ADDR : Field := ⟨0x1001, 0, 64, .wo, .tideMark, .num 0⟩
/-- SEQ_MANIFEST.MAN_LAYER_CHK [95:64], WO, reset 0, tide mark (R45): equals MAN_LAYER in the manifest. -/
def SEQ_MANIFEST.MAN_LAYER_CHK : Field := ⟨0x1001, 64, 32, .wo, .tideMark, .num 0⟩
/-- The object SEQ_MANIFEST, 0x1001: size, instances (R22, R469), reset domain (R11) and fields. -/
def Obj.SEQ_MANIFEST : ObjDesc := ⟨0x1001, 16, 0, 0, 9, [SEQ_MANIFEST.MAN_ADDR, SEQ_MANIFEST.MAN_LAYER_CHK]⟩

/-! ### BWK_MAXLEN (object 0x1401, R50 of chapter 02) -/

/-- BWK_MAXLEN.MAXLEN [31:0], RW, reset 40,000, tide mark (R50): longest MARK_LINE, in grains (default 20 mm); 2,000 to 200,000; a staged value out of range fails the consiste. -/
def BWK_MAXLEN.MAXLEN : Field := ⟨0x1401, 0, 32, .rw, .tideMark, .num 40000⟩
/-- The object BWK_MAXLEN, 0x1401: size, instances (R22, R469), reset domain (R11) and fields. -/
def Obj.BWK_MAXLEN : ObjDesc := ⟨0x1401, 4, 0, 0, 9, [BWK_MAXLEN.MAXLEN]⟩

/-! ### VST_CONFIG (object 0x7101, R54 of chapter 02) -/

/-- VST_CONFIG.VST_SLOTS [15:0], RW, reset 384, Slack (R54): ring size per channel, 8 to 384 tiles; 64 × 384 = 24,576 tiles. -/
def VST_CONFIG.VST_SLOTS : Field := ⟨0x7101, 0, 16, .rw, .slack, .num 384⟩
/-- VST_CONFIG.VST_START_FILL [23:16], RW, reset 8, Slack (R54): resident tiles needed per channel before EXPOSE, 1 to 64, at most VST_SLOTS. -/
def VST_CONFIG.VST_START_FILL : Field := ⟨0x7101, 16, 8, .rw, .slack, .num 8⟩
/-- The object VST_CONFIG, 0x7101: size, instances (R22, R469), reset domain (R11) and fields. -/
def Obj.VST_CONFIG : ObjDesc := ⟨0x7101, 4, 0, 0, 3, [VST_CONFIG.VST_SLOTS, VST_CONFIG.VST_START_FILL]⟩

/-! ### VST_RETRY (object 0x7102, R55 of chapter 02) -/

/-- VST_RETRY.VST_RETRY [31:0], RO, reset 0, now (R55): re-reads after a failed check at use; saturates at 2³² − 1. -/
def VST_RETRY.VST_RETRY : Field := ⟨0x7102, 0, 32, .ro, .now, .num 0⟩
/-- VST_RETRY.VST_BAD [63:32], RO, reset 0, now (R55): tiles that failed the check twice; saturates. -/
def VST_RETRY.VST_BAD : Field := ⟨0x7102, 32, 32, .ro, .now, .num 0⟩
/-- The object VST_RETRY, 0x7102: size, instances (R22, R469), reset domain (R11) and fields. -/
def Obj.VST_RETRY : ObjDesc := ⟨0x7102, 8, 0, 0, 3, [VST_RETRY.VST_RETRY, VST_RETRY.VST_BAD]⟩

/-! ### SEQ_LAYER_STATE (object 0x1002, R55 of chapter 02) -/

/-- SEQ_LAYER_STATE.LAYER_NOW [31:0], RO, reset 0, now (R55): MAN_LAYER of the layer exposing, or of the last one to expose. -/
def SEQ_LAYER_STATE.LAYER_NOW : Field := ⟨0x1002, 0, 32, .ro, .now, .num 0⟩
/-- SEQ_LAYER_STATE.QUEUE_DEPTH [34:32], RO, reset 0, now (R55): committed layers waiting, 0 to 4. -/
def SEQ_LAYER_STATE.QUEUE_DEPTH : Field := ⟨0x1002, 32, 3, .ro, .now, .num 0⟩
/-- SEQ_LAYER_STATE.LAYER_ACTIVE [35:35], RO, reset 0, now (R55): 1 from a layer's tide mark until it ends (R23), HOLD included. -/
def SEQ_LAYER_STATE.LAYER_ACTIVE : Field := ⟨0x1002, 35, 1, .ro, .now, .num 0⟩
/-- The object SEQ_LAYER_STATE, 0x1002: size, instances (R22, R469), reset domain (R11) and fields. -/
def Obj.SEQ_LAYER_STATE : ObjDesc := ⟨0x1002, 8, 0, 0, 9, [SEQ_LAYER_STATE.LAYER_NOW, SEQ_LAYER_STATE.QUEUE_DEPTH, SEQ_LAYER_STATE.LAYER_ACTIVE]⟩

/-! ### SEQ_TILE_POS (object 0x1003, R55 of chapter 02) -/

/-- SEQ_TILE_POS.TILE_INDEX [31:0], RO, reset 0, now (R55): index in the channel's tile list of the tile executing; adoption tiles show 0xFFFF_FFFF. -/
def SEQ_TILE_POS.TILE_INDEX : Field := ⟨0x1003, 0, 32, .ro, .now, .num 0⟩
/-- SEQ_TILE_POS.RECORD_INDEX [39:32], RO, reset 0, now (R55): record executing within that tile, 0 to 253. -/
def SEQ_TILE_POS.RECORD_INDEX : Field := ⟨0x1003, 32, 8, .ro, .now, .num 0⟩
/-- SEQ_TILE_POS.SEQ_UNDERRUN [55:40], RO, reset 0, now (R55): underruns in this layer; cleared at each tide mark; saturates at 65,535. -/
def SEQ_TILE_POS.SEQ_UNDERRUN : Field := ⟨0x1003, 40, 16, .ro, .now, .num 0⟩
/-- The object SEQ_TILE_POS, 0x1003: size, instances (R22, R469), reset domain (R11) and fields. -/
def Obj.SEQ_TILE_POS : ObjDesc := ⟨0x1003, 8, 0, 63, 9, [SEQ_TILE_POS.TILE_INDEX, SEQ_TILE_POS.RECORD_INDEX, SEQ_TILE_POS.SEQ_UNDERRUN]⟩

/-! ### SEQ_DYN (object 0x1012, R59 of chapter 03) -/

/-- SEQ_DYN.MARK_ACC [31:0], RW, reset 20,000, tide mark (R59): mark acceleration limit A_m, m/s²; 100 to 1,000,000. -/
def SEQ_DYN.MARK_ACC : Field := ⟨0x1012, 0, 32, .rw, .tideMark, .num 20000⟩
/-- SEQ_DYN.MARK_JERK [63:32], RW, reset 200,000, tide mark (R59): mark jerk limit J_m, in units of 1,000 m/s³; 100 to 100,000,000. -/
def SEQ_DYN.MARK_JERK : Field := ⟨0x1012, 32, 32, .rw, .tideMark, .num 200000⟩
/-- SEQ_DYN.JUMP_ACC [95:64], RW, reset 40,000, tide mark (R59): jump acceleration limit A_j, m/s²; 100 to 1,000,000. -/
def SEQ_DYN.JUMP_ACC : Field := ⟨0x1012, 64, 32, .rw, .tideMark, .num 40000⟩
/-- SEQ_DYN.JUMP_JERK [127:96], RW, reset 400,000, tide mark (R59): jump jerk limit J_j, in units of 1,000 m/s³; 100 to 100,000,000. -/
def SEQ_DYN.JUMP_JERK : Field := ⟨0x1012, 96, 32, .rw, .tideMark, .num 400000⟩
/-- SEQ_DYN.CORNER_TOL [143:128], RW, reset 20, tide mark (R59): largest distance of a blended corner's path from the sharp corner, grains; 1 to 10,000. -/
def SEQ_DYN.CORNER_TOL : Field := ⟨0x1012, 128, 16, .rw, .tideMark, .num 20⟩
/-- SEQ_DYN.REENTRY [159:144], RW, reset 80, tide mark (R59): re-entry margin, grains; 0 to 10,000. -/
def SEQ_DYN.REENTRY : Field := ⟨0x1012, 144, 16, .rw, .tideMark, .num 80⟩
/-- The object SEQ_DYN, 0x1012: size, instances (R22, R469), reset domain (R11) and fields. -/
def Obj.SEQ_DYN : ObjDesc := ⟨0x1012, 24, 0, 63, 9, [SEQ_DYN.MARK_ACC, SEQ_DYN.MARK_JERK, SEQ_DYN.JUMP_ACC, SEQ_DYN.JUMP_JERK, SEQ_DYN.CORNER_TOL, SEQ_DYN.REENTRY]⟩

/-! ### CHT_GEOM (object 0x1101, R70 of chapter 03) -/

/-- CHT_GEOM.X0 [31:0], RW, reset 0, tide mark (R70): bed X of node (0, 0), signed grains. -/
def CHT_GEOM.X0 : Field := ⟨0x1101, 0, 32, .rw, .tideMark, .num 0⟩
/-- CHT_GEOM.Y0 [63:32], RW, reset 0, tide mark (R70): bed Y of node (0, 0), signed grains. -/
def CHT_GEOM.Y0 : Field := ⟨0x1101, 32, 32, .rw, .tideMark, .num 0⟩
/-- CHT_GEOM.PITCH [79:64], RW, reset 0, tide mark (R70): node spacing, grains, 100 to 65,535; 0 marks the chart absent. -/
def CHT_GEOM.PITCH : Field := ⟨0x1101, 64, 16, .rw, .tideMark, .num 0⟩
/-- CHT_GEOM.MARGIN [95:80], RW, reset 0, tide mark (R70): width of the band outside coverage open to laser-off motion, grains, 0 to 65,535. -/
def CHT_GEOM.MARGIN : Field := ⟨0x1101, 80, 16, .rw, .tideMark, .num 0⟩
/-- CHT_GEOM.XC [127:96], RW, reset 0, tide mark (R70): bed X of the base-map origin, signed grains. -/
def CHT_GEOM.XC : Field := ⟨0x1101, 96, 32, .rw, .tideMark, .num 0⟩
/-- CHT_GEOM.YC [159:128], RW, reset 0, tide mark (R70): bed Y of the base-map origin, signed grains. -/
def CHT_GEOM.YC : Field := ⟨0x1101, 128, 32, .rw, .tideMark, .num 0⟩
/-- CHT_GEOM.A11 [191:160], RW, reset 0, tide mark (R70): X head counts per grain of x, sQ16.16. -/
def CHT_GEOM.A11 : Field := ⟨0x1101, 160, 32, .rw, .tideMark, .num 0⟩
/-- CHT_GEOM.A12 [223:192], RW, reset 0, tide mark (R70): X head counts per grain of y, sQ16.16. -/
def CHT_GEOM.A12 : Field := ⟨0x1101, 192, 32, .rw, .tideMark, .num 0⟩
/-- CHT_GEOM.A21 [255:224], RW, reset 0, tide mark (R70): Y head counts per grain of x, sQ16.16. -/
def CHT_GEOM.A21 : Field := ⟨0x1101, 224, 32, .rw, .tideMark, .num 0⟩
/-- CHT_GEOM.A22 [287:256], RW, reset 0, tide mark (R70): Y head counts per grain of y, sQ16.16. -/
def CHT_GEOM.A22 : Field := ⟨0x1101, 256, 32, .rw, .tideMark, .num 0⟩
/-- CHT_GEOM.Z0 [311:288], RW, reset 0, tide mark (R70): Z head counts at zero correction, signed. -/
def CHT_GEOM.Z0 : Field := ⟨0x1101, 288, 24, .rw, .tideMark, .num 0⟩
/-- The object CHT_GEOM, 0x1101: size, instances (R22, R469), reset domain (R11) and fields. -/
def Obj.CHT_GEOM : ObjDesc := ⟨0x1101, 40, 0, 63, 9, [CHT_GEOM.X0, CHT_GEOM.Y0, CHT_GEOM.PITCH, CHT_GEOM.MARGIN, CHT_GEOM.XC, CHT_GEOM.YC, CHT_GEOM.A11, CHT_GEOM.A12, CHT_GEOM.A21, CHT_GEOM.A22, CHT_GEOM.Z0]⟩

/-! ### CHT_NODES (object 0x1102, R71 of chapter 03) -/

/-- CHT_NODES.NODE_ADDR [63:0], WO, reset 0, tide mark (R71): DRAM address of node (0, 0) (R43); 8-byte aligned. -/
def CHT_NODES.NODE_ADDR : Field := ⟨0x1102, 0, 64, .wo, .tideMark, .num 0⟩
/-- CHT_NODES.NODE_CRC [95:64], WO, reset 0, tide mark (R71): CRC-32C over the 133,128 bytes at NODE_ADDR. -/
def CHT_NODES.NODE_CRC : Field := ⟨0x1102, 64, 32, .wo, .tideMark, .num 0⟩
/-- The object CHT_NODES, 0x1102: size, instances (R22, R469), reset domain (R11) and fields. -/
def Obj.CHT_NODES : ObjDesc := ⟨0x1102, 16, 0, 63, 9, [CHT_NODES.NODE_ADDR, CHT_NODES.NODE_CRC]⟩

/-! ### CHT_BANK (object 0x1103, R76 of chapter 03) -/

/-- CHT_BANK.CURRENT [0:0], RO, reset 0, now (R76): current bank, 0 or 1. -/
def CHT_BANK.CURRENT : Field := ⟨0x1103, 0, 1, .ro, .now, .num 0⟩
/-- CHT_BANK.INACTIVE_STATE [2:1], RO, reset 0, now (R76): 0 EMPTY; 1 STAGED; 2 COMMITTED, awaiting tide mark. -/
def CHT_BANK.INACTIVE_STATE : Field := ⟨0x1103, 1, 2, .ro, .now, .num 0⟩
/-- CHT_BANK.PENDING_LAYER [63:32], RO, reset 0, now (R76): MAN_LAYER at whose tide mark the inactive bank becomes current; valid when INACTIVE_STATE is 2. -/
def CHT_BANK.PENDING_LAYER : Field := ⟨0x1103, 32, 32, .ro, .now, .num 0⟩
/-- The object CHT_BANK, 0x1103: size, instances (R22, R469), reset domain (R11) and fields. -/
def Obj.CHT_BANK : ObjDesc := ⟨0x1103, 8, 0, 63, 9, [CHT_BANK.CURRENT, CHT_BANK.INACTIVE_STATE, CHT_BANK.PENDING_LAYER]⟩

/-! ### SEQ_AXIS_SETPOINT (object 0x1006, R79 of chapter 03) -/

/-- SEQ_AXIS_SETPOINT.SETPOINT [23:0], RO, reset 0, now (R79): last setpoint sent, signed head counts. -/
def SEQ_AXIS_SETPOINT.SETPOINT : Field := ⟨0x1006, 0, 24, .ro, .now, .num 0⟩
/-- SEQ_AXIS_SETPOINT.SAT_COUNT [63:32], RO, reset 0, now (R79): setpoints clamped by R73; cleared at each tide mark; saturates at 2³² − 1. -/
def SEQ_AXIS_SETPOINT.SAT_COUNT : Field := ⟨0x1006, 32, 32, .ro, .now, .num 0⟩
/-- The object SEQ_AXIS_SETPOINT, 0x1006: size, instances (R22, R469), reset domain (R11) and fields. -/
def Obj.SEQ_AXIS_SETPOINT : ObjDesc := ⟨0x1006, 8, 0, 191, 9, [SEQ_AXIS_SETPOINT.SETPOINT, SEQ_AXIS_SETPOINT.SAT_COUNT]⟩

/-! ### SEQ_MOTION (object 0x1004, R83 of chapter 03) -/

/-- SEQ_MOTION.STATE [3:0], RO, reset 0, now (R83): 0 IDLE; 1 RUN; 2 WAIT_SYNC; 3 WAIT_TILE; 4 STOPPING; 5 HELD_AT_END; 6 STOPPED_IN_PATH. -/
def SEQ_MOTION.STATE : Field := ⟨0x1004, 0, 4, .ro, .now, .num 0⟩
/-- SEQ_MOTION.INT_RECORD [15:8], RO, reset 0, now (R83): record index of the interrupted record; valid in STOPPED_IN_PATH. -/
def SEQ_MOTION.INT_RECORD : Field := ⟨0x1004, 8, 8, .ro, .now, .num 0⟩
/-- SEQ_MOTION.INT_TILE [63:32], RO, reset 0, now (R83): tile index of the interrupted record, as in TILE_INDEX. -/
def SEQ_MOTION.INT_TILE : Field := ⟨0x1004, 32, 32, .ro, .now, .num 0⟩
/-- SEQ_MOTION.INT_ARC [95:64], RO, reset 0, now (R83): s_off in grains, rounded down. -/
def SEQ_MOTION.INT_ARC : Field := ⟨0x1004, 64, 32, .ro, .now, .num 0⟩
/-- SEQ_MOTION.RE_ARC [127:96], RO, reset 0, now (R83): s_re in grains, rounded down. -/
def SEQ_MOTION.RE_ARC : Field := ⟨0x1004, 96, 32, .ro, .now, .num 0⟩
/-- The object SEQ_MOTION, 0x1004: size, instances (R22, R469), reset domain (R11) and fields. -/
def Obj.SEQ_MOTION : ObjDesc := ⟨0x1004, 16, 0, 63, 9, [SEQ_MOTION.STATE, SEQ_MOTION.INT_RECORD, SEQ_MOTION.INT_TILE, SEQ_MOTION.INT_ARC, SEQ_MOTION.RE_ARC]⟩

/-! ### SEQ_MOTION_STAT (object 0x1005, R83 of chapter 03) -/

/-- SEQ_MOTION_STAT.EDGE_CLIP [31:0], RO, reset 0, now (R83): run-ins and run-outs bounded by R78; cleared at each tide mark; saturates. -/
def SEQ_MOTION_STAT.EDGE_CLIP : Field := ⟨0x1005, 0, 32, .ro, .now, .num 0⟩
/-- SEQ_MOTION_STAT.STOPS [63:32], RO, reset 0, now (R83): stops in path; cleared at each tide mark; saturates. -/
def SEQ_MOTION_STAT.STOPS : Field := ⟨0x1005, 32, 32, .ro, .now, .num 0⟩
/-- The object SEQ_MOTION_STAT, 0x1005: size, instances (R22, R469), reset domain (R11) and fields. -/
def Obj.SEQ_MOTION_STAT : ObjDesc := ⟨0x1005, 8, 0, 63, 9, [SEQ_MOTION_STAT.EDGE_CLIP, SEQ_MOTION_STAT.STOPS]⟩

/-! ### GAT_CONFIG (object 0x1201, R104 of chapter 04) -/

/-- GAT_CONFIG.VMIN [31:0], RW, reset 10,000, tide mark (R104): lowest fitted speed for method A, µm/s; 1 to 1,000,000. -/
def GAT_CONFIG.VMIN : Field := ⟨0x1201, 0, 32, .rw, .tideMark, .num 10000⟩
/-- GAT_CONFIG.LAG_MAX [41:32], RW, reset 800, tide mark (R104): largest lag before R90 acts, µs; 10 to 1,000. -/
def GAT_CONFIG.LAG_MAX : Field := ⟨0x1201, 32, 10, .rw, .tideMark, .num 800⟩
/-- GAT_CONFIG.FE_CROSS_MAX [71:48], RW, reset 2,000, tide mark (R104): largest cross-track following error, head counts; 1 to 8,388,607. -/
def GAT_CONFIG.FE_CROSS_MAX : Field := ⟨0x1201, 48, 24, .rw, .tideMark, .num 2000⟩
/-- GAT_CONFIG.FE_TICKS [79:72], RW, reset 4, tide mark (R104): consecutive samples beyond a limit before failure; 1 to 255. -/
def GAT_CONFIG.FE_TICKS : Field := ⟨0x1201, 72, 8, .rw, .tideMark, .num 4⟩
/-- The object GAT_CONFIG, 0x1201: size, instances (R22, R469), reset domain (R11) and fields. -/
def Obj.GAT_CONFIG : ObjDesc := ⟨0x1201, 12, 0, 63, 9, [GAT_CONFIG.VMIN, GAT_CONFIG.LAG_MAX, GAT_CONFIG.FE_CROSS_MAX, GAT_CONFIG.FE_TICKS]⟩

/-! ### GAT_STATE (object 0x1202, R104 of chapter 04) -/

/-- GAT_STATE.MODE [0:0], RO, reset 0, now (R104): 0 MEASURED; 1 FALLBACK. -/
def GAT_STATE.MODE : Field := ⟨0x1202, 0, 1, .ro, .now, .num 0⟩
/-- GAT_STATE.GATE [1:1], RO, reset 0, now (R104): level driven. -/
def GAT_STATE.GATE : Field := ⟨0x1202, 1, 1, .ro, .now, .num 0⟩
/-- GAT_STATE.GATE_SEEN [2:2], RO, reset 0, now (R104): level in the latest sample. -/
def GAT_STATE.GATE_SEEN : Field := ⟨0x1202, 2, 1, .ro, .now, .num 0⟩
/-- GAT_STATE.MISS_RUN [7:4], RO, reset 0, now (R104): consecutive missing samples; saturates at 15. -/
def GAT_STATE.MISS_RUN : Field := ⟨0x1202, 4, 4, .ro, .now, .num 0⟩
/-- GAT_STATE.FE_NOW [31:8], RO, reset 0, now (R104): latest fe, head counts, rounded down. -/
def GAT_STATE.FE_NOW : Field := ⟨0x1202, 8, 24, .ro, .now, .num 0⟩
/-- GAT_STATE.LAG_NOW [63:32], RO, reset 0, now (R104): latest lag, or the frozen lag in FALLBACK, signed ns in two's complement; negative when the measured position . -/
def GAT_STATE.LAG_NOW : Field := ⟨0x1202, 32, 32, .ro, .now, .num 0⟩
/-- GAT_STATE.CONF_ARC [95:64], RO, reset 0, now (R104): confirmed arc of the present or last chain, grains, rounded down. -/
def GAT_STATE.CONF_ARC : Field := ⟨0x1202, 64, 32, .ro, .now, .num 0⟩
/-- The object GAT_STATE, 0x1202: size, instances (R22, R469), reset domain (R11) and fields. -/
def Obj.GAT_STATE : ObjDesc := ⟨0x1202, 12, 0, 63, 9, [GAT_STATE.MODE, GAT_STATE.GATE, GAT_STATE.GATE_SEEN, GAT_STATE.MISS_RUN, GAT_STATE.FE_NOW, GAT_STATE.LAG_NOW, GAT_STATE.CONF_ARC]⟩

/-! ### GAT_STAT (object 0x1203, R104 of chapter 04) -/

/-- GAT_STAT.LATE_EDGES [31:0], RO, reset 0, now (R104): edges placed at a window's start by R93. -/
def GAT_STAT.LATE_EDGES : Field := ⟨0x1203, 0, 32, .ro, .now, .num 0⟩
/-- GAT_STAT.MISSED [63:32], RO, reset 0, now (R104): missing samples. -/
def GAT_STAT.MISSED : Field := ⟨0x1203, 32, 32, .ro, .now, .num 0⟩
/-- GAT_STAT.FALLBACKS [79:64], RO, reset 0, now (R104): entries into FALLBACK. -/
def GAT_STAT.FALLBACKS : Field := ⟨0x1203, 64, 16, .ro, .now, .num 0⟩
/-- GAT_STAT.RESID_MAX [95:80], RO, reset 0, now (R104): largest edge residual of R94, 1/256 grain. -/
def GAT_STAT.RESID_MAX : Field := ⟨0x1203, 80, 16, .ro, .now, .num 0⟩
/-- GAT_STAT.MISMATCH [111:96], RO, reset 0, now (R104): gate-level disagreements of R102. -/
def GAT_STAT.MISMATCH : Field := ⟨0x1203, 96, 16, .ro, .now, .num 0⟩
/-- The object GAT_STAT, 0x1203: size, instances (R22, R469), reset domain (R11) and fields. -/
def Obj.GAT_STAT : ObjDesc := ⟨0x1203, 16, 0, 63, 9, [GAT_STAT.LATE_EDGES, GAT_STAT.MISSED, GAT_STAT.FALLBACKS, GAT_STAT.RESID_MAX, GAT_STAT.MISMATCH]⟩

/-! ### GAT_TRIM (object 0x1210, R104 of chapter 04) -/

/-- GAT_TRIM.FEAT_SEL [4:0], RW, reset 0, tide mark (R104): 16-bit word of the feature record used, 0 to 31. -/
def GAT_TRIM.FEAT_SEL : Field := ⟨0x1210, 0, 5, .rw, .tideMark, .num 0⟩
/-- GAT_TRIM.RESET_AT_TIDE [8:8], RW, reset 1, tide mark (R104): 1: k set to TRIM_INIT at each layer's tide mark. -/
def GAT_TRIM.RESET_AT_TIDE : Field := ⟨0x1210, 8, 1, .rw, .tideMark, .num 1⟩
/-- GAT_TRIM.TARGET [31:16], RW, reset 0, tide mark (R104): feature target, unsigned. -/
def GAT_TRIM.TARGET : Field := ⟨0x1210, 16, 16, .rw, .tideMark, .num 0⟩
/-- GAT_TRIM.GAIN [47:32], RW, reset 0, tide mark (R104): signed gain; 0 leaves k unchanged. -/
def GAT_TRIM.GAIN : Field := ⟨0x1210, 32, 16, .rw, .tideMark, .num 0⟩
/-- GAT_TRIM.TRIM_MIN [63:48], RW, reset 0x6000, tide mark (R104): lowest k, Q1.15. -/
def GAT_TRIM.TRIM_MIN : Field := ⟨0x1210, 48, 16, .rw, .tideMark, .num 0x6000⟩
/-- GAT_TRIM.TRIM_MAX [79:64], RW, reset 0xA000, tide mark (R104): highest k, Q1.15. -/
def GAT_TRIM.TRIM_MAX : Field := ⟨0x1210, 64, 16, .rw, .tideMark, .num 0xA000⟩
/-- GAT_TRIM.TRIM_INIT [95:80], RW, reset 0x8000, tide mark (R104): starting k, Q1.15. -/
def GAT_TRIM.TRIM_INIT : Field := ⟨0x1210, 80, 16, .rw, .tideMark, .num 0x8000⟩
/-- GAT_TRIM.MAXAGE [111:96], RW, reset 20, tide mark (R104): oldest usable record, ms; 1 to 65,535. -/
def GAT_TRIM.MAXAGE : Field := ⟨0x1210, 96, 16, .rw, .tideMark, .num 20⟩
/-- The object GAT_TRIM, 0x1210: size, instances (R22, R469), reset domain (R11) and fields. -/
def Obj.GAT_TRIM : ObjDesc := ⟨0x1210, 16, 0, 63, 9, [GAT_TRIM.FEAT_SEL, GAT_TRIM.RESET_AT_TIDE, GAT_TRIM.TARGET, GAT_TRIM.GAIN, GAT_TRIM.TRIM_MIN, GAT_TRIM.TRIM_MAX, GAT_TRIM.TRIM_INIT, GAT_TRIM.MAXAGE]⟩

/-! ### GAT_TRIM_STATE (object 0x1211, R104 of chapter 04) -/

/-- GAT_TRIM_STATE.K_NOW [15:0], RO, reset 0x8000, now (R104): present k. -/
def GAT_TRIM_STATE.K_NOW : Field := ⟨0x1211, 0, 16, .ro, .now, .num 0x8000⟩
/-- GAT_TRIM_STATE.K_APPLIED [31:16], RO, reset 0x8000, now (R104): k latched for the record executing. -/
def GAT_TRIM_STATE.K_APPLIED : Field := ⟨0x1211, 16, 16, .ro, .now, .num 0x8000⟩
/-- GAT_TRIM_STATE.UPDATES [63:32], RO, reset 0, now (R104): records used; cleared at each tide mark; saturates. -/
def GAT_TRIM_STATE.UPDATES : Field := ⟨0x1211, 32, 32, .ro, .now, .num 0⟩
/-- The object GAT_TRIM_STATE, 0x1211: size, instances (R22, R469), reset domain (R11) and fields. -/
def Obj.GAT_TRIM_STATE : ObjDesc := ⟨0x1211, 8, 0, 63, 9, [GAT_TRIM_STATE.K_NOW, GAT_TRIM_STATE.K_APPLIED, GAT_TRIM_STATE.UPDATES]⟩

/-! ### RFX_BANK0 (object 0x1301, R124 of chapter 05) -/

/-- RFX_BANK0.LOW [15:0], RW, reset 0, tide mark (R124): lower band edge, sample units. -/
def RFX_BANK0.LOW : Field := ⟨0x1301, 0, 16, .rw, .tideMark, .num 0⟩
/-- RFX_BANK0.HIGH [31:16], RW, reset 0xFFFF, tide mark (R124): upper band edge. -/
def RFX_BANK0.HIGH : Field := ⟨0x1301, 16, 16, .rw, .tideMark, .num 0xFFFF⟩
/-- RFX_BANK0.CONFIRM [34:32], RW, reset 1, tide mark (R124): consecutive out-of-band samples needed for a step, 1 to 4. -/
def RFX_BANK0.CONFIRM : Field := ⟨0x1301, 32, 3, .rw, .tideMark, .num 1⟩
/-- RFX_BANK0.RUNG_COUNT [39:36], RW, reset 2, tide mark (R124): N, 2 to 8. -/
def RFX_BANK0.RUNG_COUNT : Field := ⟨0x1301, 36, 4, .rw, .tideMark, .num 2⟩
/-- RFX_BANK0.START_RUNG [42:40], RW, reset 1, tide mark (R124): rung at the start of each active period. -/
def RFX_BANK0.START_RUNG : Field := ⟨0x1301, 40, 3, .rw, .tideMark, .num 1⟩
/-- RFX_BANK0.TARGET_RUNG [46:44], RW, reset 0, tide mark (R124): rung the integrator steers towards. -/
def RFX_BANK0.TARGET_RUNG : Field := ⟨0x1301, 44, 3, .rw, .tideMark, .num 0⟩
/-- RFX_BANK0.DWELL_MIN [55:48], RW, reset 0, tide mark (R124): samples after a step during which no step is taken, 0 to 255. -/
def RFX_BANK0.DWELL_MIN : Field := ⟨0x1301, 48, 8, .rw, .tideMark, .num 0⟩
/-- RFX_BANK0.BLANK [63:56], RW, reset 0, tide mark (R124): samples at the start of each active period that are logged but not decided, 0 to 255. -/
def RFX_BANK0.BLANK : Field := ⟨0x1301, 56, 8, .rw, .tideMark, .num 0⟩
/-- RFX_BANK0.BASE_STEP [79:64], RW, reset 0, tide mark (R124): change of B per integrator step, Q1.15, 0 to 0x1000. -/
def RFX_BANK0.BASE_STEP : Field := ⟨0x1301, 64, 16, .rw, .tideMark, .num 0⟩
/-- RFX_BANK0.BASE_MIN [95:80], RW, reset 0x8000, tide mark (R124): lowest B, Q1.15. -/
def RFX_BANK0.BASE_MIN : Field := ⟨0x1301, 80, 16, .rw, .tideMark, .num 0x8000⟩
/-- RFX_BANK0.INT_THRESH [119:96], RW, reset 0, tide mark (R124): accumulator threshold; 0 disables the integrator. -/
def RFX_BANK0.INT_THRESH : Field := ⟨0x1301, 96, 24, .rw, .tideMark, .num 0⟩
/-- RFX_BANK0.RS0 [143:128], RW, reset 0x7FFF for r = 0, 0x8000 for r = 1, else 0, tide mark (R124): factor of rung r, Q1.15, r = 0 to 7. -/
def RFX_BANK0.RS0 : Field := ⟨0x1301, 128, 16, .rw, .tideMark, .num 0x7FFF⟩
/-- RFX_BANK0.RS1 [159:144], RW, reset 0x7FFF for r = 0, 0x8000 for r = 1, else 0, tide mark (R124): factor of rung r, Q1.15, r = 0 to 7. -/
def RFX_BANK0.RS1 : Field := ⟨0x1301, 144, 16, .rw, .tideMark, .num 0x8000⟩
/-- RFX_BANK0.RS2 [175:160], RW, reset 0x7FFF for r = 0, 0x8000 for r = 1, else 0, tide mark (R124): factor of rung r, Q1.15, r = 0 to 7. -/
def RFX_BANK0.RS2 : Field := ⟨0x1301, 160, 16, .rw, .tideMark, .num 0⟩
/-- RFX_BANK0.RS3 [191:176], RW, reset 0x7FFF for r = 0, 0x8000 for r = 1, else 0, tide mark (R124): factor of rung r, Q1.15, r = 0 to 7. -/
def RFX_BANK0.RS3 : Field := ⟨0x1301, 176, 16, .rw, .tideMark, .num 0⟩
/-- RFX_BANK0.RS4 [207:192], RW, reset 0x7FFF for r = 0, 0x8000 for r = 1, else 0, tide mark (R124): factor of rung r, Q1.15, r = 0 to 7. -/
def RFX_BANK0.RS4 : Field := ⟨0x1301, 192, 16, .rw, .tideMark, .num 0⟩
/-- RFX_BANK0.RS5 [223:208], RW, reset 0x7FFF for r = 0, 0x8000 for r = 1, else 0, tide mark (R124): factor of rung r, Q1.15, r = 0 to 7. -/
def RFX_BANK0.RS5 : Field := ⟨0x1301, 208, 16, .rw, .tideMark, .num 0⟩
/-- RFX_BANK0.RS6 [239:224], RW, reset 0x7FFF for r = 0, 0x8000 for r = 1, else 0, tide mark (R124): factor of rung r, Q1.15, r = 0 to 7. -/
def RFX_BANK0.RS6 : Field := ⟨0x1301, 224, 16, .rw, .tideMark, .num 0⟩
/-- RFX_BANK0.RS7 [255:240], RW, reset 0x7FFF for r = 0, 0x8000 for r = 1, else 0, tide mark (R124): factor of rung r, Q1.15, r = 0 to 7. -/
def RFX_BANK0.RS7 : Field := ⟨0x1301, 240, 16, .rw, .tideMark, .num 0⟩
/-- The object RFX_BANK0, 0x1301: size, instances (R22, R469), reset domain (R11) and fields. -/
def Obj.RFX_BANK0 : ObjDesc := ⟨0x1301, 32, 0, 63, 9, [RFX_BANK0.LOW, RFX_BANK0.HIGH, RFX_BANK0.CONFIRM, RFX_BANK0.RUNG_COUNT, RFX_BANK0.START_RUNG, RFX_BANK0.TARGET_RUNG, RFX_BANK0.DWELL_MIN, RFX_BANK0.BLANK, RFX_BANK0.BASE_STEP, RFX_BANK0.BASE_MIN, RFX_BANK0.INT_THRESH, RFX_BANK0.RS0, RFX_BANK0.RS1, RFX_BANK0.RS2, RFX_BANK0.RS3, RFX_BANK0.RS4, RFX_BANK0.RS5, RFX_BANK0.RS6, RFX_BANK0.RS7]⟩

/-! ### RFX_BANK1 (object 0x1302, R124 of chapter 05) -/

/-- RFX_BANK1.LOW [15:0], RW, reset 0, tide mark (R124): lower band edge, sample units. -/
def RFX_BANK1.LOW : Field := ⟨0x1302, 0, 16, .rw, .tideMark, .num 0⟩
/-- RFX_BANK1.HIGH [31:16], RW, reset 0xFFFF, tide mark (R124): upper band edge. -/
def RFX_BANK1.HIGH : Field := ⟨0x1302, 16, 16, .rw, .tideMark, .num 0xFFFF⟩
/-- RFX_BANK1.CONFIRM [34:32], RW, reset 1, tide mark (R124): consecutive out-of-band samples needed for a step, 1 to 4. -/
def RFX_BANK1.CONFIRM : Field := ⟨0x1302, 32, 3, .rw, .tideMark, .num 1⟩
/-- RFX_BANK1.RUNG_COUNT [39:36], RW, reset 2, tide mark (R124): N, 2 to 8. -/
def RFX_BANK1.RUNG_COUNT : Field := ⟨0x1302, 36, 4, .rw, .tideMark, .num 2⟩
/-- RFX_BANK1.START_RUNG [42:40], RW, reset 1, tide mark (R124): rung at the start of each active period. -/
def RFX_BANK1.START_RUNG : Field := ⟨0x1302, 40, 3, .rw, .tideMark, .num 1⟩
/-- RFX_BANK1.TARGET_RUNG [46:44], RW, reset 0, tide mark (R124): rung the integrator steers towards. -/
def RFX_BANK1.TARGET_RUNG : Field := ⟨0x1302, 44, 3, .rw, .tideMark, .num 0⟩
/-- RFX_BANK1.DWELL_MIN [55:48], RW, reset 0, tide mark (R124): samples after a step during which no step is taken, 0 to 255. -/
def RFX_BANK1.DWELL_MIN : Field := ⟨0x1302, 48, 8, .rw, .tideMark, .num 0⟩
/-- RFX_BANK1.BLANK [63:56], RW, reset 0, tide mark (R124): samples at the start of each active period that are logged but not decided, 0 to 255. -/
def RFX_BANK1.BLANK : Field := ⟨0x1302, 56, 8, .rw, .tideMark, .num 0⟩
/-- RFX_BANK1.BASE_STEP [79:64], RW, reset 0, tide mark (R124): change of B per integrator step, Q1.15, 0 to 0x1000. -/
def RFX_BANK1.BASE_STEP : Field := ⟨0x1302, 64, 16, .rw, .tideMark, .num 0⟩
/-- RFX_BANK1.BASE_MIN [95:80], RW, reset 0x8000, tide mark (R124): lowest B, Q1.15. -/
def RFX_BANK1.BASE_MIN : Field := ⟨0x1302, 80, 16, .rw, .tideMark, .num 0x8000⟩
/-- RFX_BANK1.INT_THRESH [119:96], RW, reset 0, tide mark (R124): accumulator threshold; 0 disables the integrator. -/
def RFX_BANK1.INT_THRESH : Field := ⟨0x1302, 96, 24, .rw, .tideMark, .num 0⟩
/-- RFX_BANK1.RS0 [143:128], RW, reset 0x7FFF for r = 0, 0x8000 for r = 1, else 0, tide mark (R124): factor of rung r, Q1.15, r = 0 to 7. -/
def RFX_BANK1.RS0 : Field := ⟨0x1302, 128, 16, .rw, .tideMark, .num 0x7FFF⟩
/-- RFX_BANK1.RS1 [159:144], RW, reset 0x7FFF for r = 0, 0x8000 for r = 1, else 0, tide mark (R124): factor of rung r, Q1.15, r = 0 to 7. -/
def RFX_BANK1.RS1 : Field := ⟨0x1302, 144, 16, .rw, .tideMark, .num 0x8000⟩
/-- RFX_BANK1.RS2 [175:160], RW, reset 0x7FFF for r = 0, 0x8000 for r = 1, else 0, tide mark (R124): factor of rung r, Q1.15, r = 0 to 7. -/
def RFX_BANK1.RS2 : Field := ⟨0x1302, 160, 16, .rw, .tideMark, .num 0⟩
/-- RFX_BANK1.RS3 [191:176], RW, reset 0x7FFF for r = 0, 0x8000 for r = 1, else 0, tide mark (R124): factor of rung r, Q1.15, r = 0 to 7. -/
def RFX_BANK1.RS3 : Field := ⟨0x1302, 176, 16, .rw, .tideMark, .num 0⟩
/-- RFX_BANK1.RS4 [207:192], RW, reset 0x7FFF for r = 0, 0x8000 for r = 1, else 0, tide mark (R124): factor of rung r, Q1.15, r = 0 to 7. -/
def RFX_BANK1.RS4 : Field := ⟨0x1302, 192, 16, .rw, .tideMark, .num 0⟩
/-- RFX_BANK1.RS5 [223:208], RW, reset 0x7FFF for r = 0, 0x8000 for r = 1, else 0, tide mark (R124): factor of rung r, Q1.15, r = 0 to 7. -/
def RFX_BANK1.RS5 : Field := ⟨0x1302, 208, 16, .rw, .tideMark, .num 0⟩
/-- RFX_BANK1.RS6 [239:224], RW, reset 0x7FFF for r = 0, 0x8000 for r = 1, else 0, tide mark (R124): factor of rung r, Q1.15, r = 0 to 7. -/
def RFX_BANK1.RS6 : Field := ⟨0x1302, 224, 16, .rw, .tideMark, .num 0⟩
/-- RFX_BANK1.RS7 [255:240], RW, reset 0x7FFF for r = 0, 0x8000 for r = 1, else 0, tide mark (R124): factor of rung r, Q1.15, r = 0 to 7. -/
def RFX_BANK1.RS7 : Field := ⟨0x1302, 240, 16, .rw, .tideMark, .num 0⟩
/-- The object RFX_BANK1, 0x1302: size, instances (R22, R469), reset domain (R11) and fields. -/
def Obj.RFX_BANK1 : ObjDesc := ⟨0x1302, 32, 0, 63, 9, [RFX_BANK1.LOW, RFX_BANK1.HIGH, RFX_BANK1.CONFIRM, RFX_BANK1.RUNG_COUNT, RFX_BANK1.START_RUNG, RFX_BANK1.TARGET_RUNG, RFX_BANK1.DWELL_MIN, RFX_BANK1.BLANK, RFX_BANK1.BASE_STEP, RFX_BANK1.BASE_MIN, RFX_BANK1.INT_THRESH, RFX_BANK1.RS0, RFX_BANK1.RS1, RFX_BANK1.RS2, RFX_BANK1.RS3, RFX_BANK1.RS4, RFX_BANK1.RS5, RFX_BANK1.RS6, RFX_BANK1.RS7]⟩

/-! ### RFX_CONFIG (object 0x1303, R124 of chapter 05) -/

/-- RFX_CONFIG.SAMPLE_DIV [7:0], RW, reset 1, tide mark (R124): T_s = 100 ns × SAMPLE_DIV; divides 10,000,000. -/
def RFX_CONFIG.SAMPLE_DIV : Field := ⟨0x1303, 0, 8, .rw, .tideMark, .num 1⟩
/-- RFX_CONFIG.STARVE [15:8], RW, reset 20, tide mark (R124): sample periods without a sample before starving, 2 to 255. -/
def RFX_CONFIG.STARVE : Field := ⟨0x1303, 8, 8, .rw, .tideMark, .num 20⟩
/-- RFX_CONFIG.STARVE_ACT [16:16], RW, reset 0, tide mark (R124): 0: hold the rung; 1: go to rung 0. -/
def RFX_CONFIG.STARVE_ACT : Field := ⟨0x1303, 16, 1, .rw, .tideMark, .num 0⟩
/-- RFX_CONFIG.BASE_RESET_AT_TIDE [17:17], RW, reset 1, tide mark (R124): 1: B set to BASE_INIT at each layer's tide mark. -/
def RFX_CONFIG.BASE_RESET_AT_TIDE : Field := ⟨0x1303, 17, 1, .rw, .tideMark, .num 1⟩
/-- RFX_CONFIG.BASE_INIT [47:32], RW, reset 0x8000, tide mark (R124): starting B, Q1.15. -/
def RFX_CONFIG.BASE_INIT : Field := ⟨0x1303, 32, 16, .rw, .tideMark, .num 0x8000⟩
/-- The object RFX_CONFIG, 0x1303: size, instances (R22, R469), reset domain (R11) and fields. -/
def Obj.RFX_CONFIG : ObjDesc := ⟨0x1303, 8, 0, 63, 9, [RFX_CONFIG.SAMPLE_DIV, RFX_CONFIG.STARVE, RFX_CONFIG.STARVE_ACT, RFX_CONFIG.BASE_RESET_AT_TIDE, RFX_CONFIG.BASE_INIT]⟩

/-! ### RFX_SELECT (object 0x1304, R124 of chapter 05) -/

/-- RFX_SELECT.SEL [0:0], RW, reset 0, tick (R124): bank in use for samples from the latched tick boundary (R114). -/
def RFX_SELECT.SEL : Field := ⟨0x1304, 0, 1, .rw, .tick, .num 0⟩
/-- The object RFX_SELECT, 0x1304: size, instances (R22, R469), reset domain (R11) and fields. -/
def Obj.RFX_SELECT : ObjDesc := ⟨0x1304, 4, 0, 63, 9, [RFX_SELECT.SEL]⟩

/-! ### RFX_STATE (object 0x1305, R124 of chapter 05) -/

/-- RFX_STATE.ACTIVE [0:0], RO, reset 0, now (R124): 1 during an active period. -/
def RFX_STATE.ACTIVE : Field := ⟨0x1305, 0, 1, .ro, .now, .num 0⟩
/-- RFX_STATE.BANK [1:1], RO, reset 0, now (R124): bank in use for the latest sample. -/
def RFX_STATE.BANK : Field := ⟨0x1305, 1, 1, .ro, .now, .num 0⟩
/-- RFX_STATE.STARVING [2:2], RO, reset 0, now (R124): 1 during a starved period. -/
def RFX_STATE.STARVING : Field := ⟨0x1305, 2, 1, .ro, .now, .num 0⟩
/-- RFX_STATE.RUNG [6:4], RO, reset 0, now (R124): present rung. -/
def RFX_STATE.RUNG : Field := ⟨0x1305, 4, 3, .ro, .now, .num 0⟩
/-- RFX_STATE.LAST_SAMPLE [31:16], RO, reset 0, now (R124): VALUE of the latest accepted sample. -/
def RFX_STATE.LAST_SAMPLE : Field := ⟨0x1305, 16, 16, .ro, .now, .num 0⟩
/-- RFX_STATE.BASE [47:32], RO, reset 0x8000, now (R124): present B. -/
def RFX_STATE.BASE : Field := ⟨0x1305, 32, 16, .ro, .now, .num 0x8000⟩
/-- RFX_STATE.FACTOR [63:48], RO, reset 0x8000, now (R124): F of the latest word emitted. -/
def RFX_STATE.FACTOR : Field := ⟨0x1305, 48, 16, .ro, .now, .num 0x8000⟩
/-- RFX_STATE.INTEG [95:64], RO, reset 0, now (R124): accumulator I, signed. -/
def RFX_STATE.INTEG : Field := ⟨0x1305, 64, 32, .ro, .now, .num 0⟩
/-- RFX_STATE.SEQ_IN [101:96], RO, reset 0, now (R124): SEQ of the latest accepted sample. -/
def RFX_STATE.SEQ_IN : Field := ⟨0x1305, 96, 6, .ro, .now, .num 0⟩
/-- RFX_STATE.SEQ_OUT [107:102], RO, reset 0, now (R124): SEQ of the latest word emitted. -/
def RFX_STATE.SEQ_OUT : Field := ⟨0x1305, 102, 6, .ro, .now, .num 0⟩
/-- The object RFX_STATE, 0x1305: size, instances (R22, R469), reset domain (R11) and fields. -/
def Obj.RFX_STATE : ObjDesc := ⟨0x1305, 16, 0, 63, 9, [RFX_STATE.ACTIVE, RFX_STATE.BANK, RFX_STATE.STARVING, RFX_STATE.RUNG, RFX_STATE.LAST_SAMPLE, RFX_STATE.BASE, RFX_STATE.FACTOR, RFX_STATE.INTEG, RFX_STATE.SEQ_IN, RFX_STATE.SEQ_OUT]⟩

/-! ### RFX_STAT (object 0x1306, R124 of chapter 05) -/

/-- RFX_STAT.CHANGES [31:0], RO, reset 0, now (R124): rung changes. -/
def RFX_STAT.CHANGES : Field := ⟨0x1306, 0, 32, .ro, .now, .num 0⟩
/-- RFX_STAT.WORDS [63:32], RO, reset 0, now (R124): FACTOR and OFF words transmitted. -/
def RFX_STAT.WORDS : Field := ⟨0x1306, 32, 32, .ro, .now, .num 0⟩
/-- RFX_STAT.GAPS [79:64], RO, reset 0, now (R124): missing samples (R108). -/
def RFX_STAT.GAPS : Field := ⟨0x1306, 64, 16, .ro, .now, .num 0⟩
/-- RFX_STAT.BADWORDS [95:80], RO, reset 0, now (R124): malformed SAMPLE words. -/
def RFX_STAT.BADWORDS : Field := ⟨0x1306, 80, 16, .ro, .now, .num 0⟩
/-- RFX_STAT.STALE [111:96], RO, reset 0, now (R124): duplicate or stale SAMPLE words. -/
def RFX_STAT.STALE : Field := ⟨0x1306, 96, 16, .ro, .now, .num 0⟩
/-- RFX_STAT.STARVED [127:112], RO, reset 0, now (R124): starved periods. -/
def RFX_STAT.STARVED : Field := ⟨0x1306, 112, 16, .ro, .now, .num 0⟩
/-- RFX_STAT.BASE_STEPS [143:128], RO, reset 0, now (R124): changes of B. -/
def RFX_STAT.BASE_STEPS : Field := ⟨0x1306, 128, 16, .ro, .now, .num 0⟩
/-- RFX_STAT.BASE_SAT [159:144], RO, reset 0, now (R124): integrator steps lost at a limit of B. -/
def RFX_STAT.BASE_SAT : Field := ⟨0x1306, 144, 16, .ro, .now, .num 0⟩
/-- RFX_STAT.SUPERSEDED [175:160], RO, reset 0, now (R124): words replaced or discarded before transmission (R118). -/
def RFX_STAT.SUPERSEDED : Field := ⟨0x1306, 160, 16, .ro, .now, .num 0⟩
/-- The object RFX_STAT, 0x1306: size, instances (R22, R469), reset domain (R11) and fields. -/
def Obj.RFX_STAT : ObjDesc := ⟨0x1306, 24, 0, 63, 9, [RFX_STAT.CHANGES, RFX_STAT.WORDS, RFX_STAT.GAPS, RFX_STAT.BADWORDS, RFX_STAT.STALE, RFX_STAT.STARVED, RFX_STAT.BASE_STEPS, RFX_STAT.BASE_SAT, RFX_STAT.SUPERSEDED]⟩

/-! ### RFX_LATENCY (object 0x1307, R124 of chapter 05) -/

/-- RFX_LATENCY.LAT_MAX [15:0], RO, reset 0, now (R124): largest pin-to-pin latency (R119), units of 250 ps. -/
def RFX_LATENCY.LAT_MAX : Field := ⟨0x1307, 0, 16, .ro, .now, .num 0⟩
/-- RFX_LATENCY.OVER_BOUND [63:32], RO, reset 0, now (R124): latencies beyond the bound in force; saturates. -/
def RFX_LATENCY.OVER_BOUND : Field := ⟨0x1307, 32, 32, .ro, .now, .num 0⟩
/-- The object RFX_LATENCY, 0x1307: size, instances (R22, R469), reset domain (R11) and fields. -/
def Obj.RFX_LATENCY : ObjDesc := ⟨0x1307, 8, 0, 63, 9, [RFX_LATENCY.LAT_MAX, RFX_LATENCY.OVER_BOUND]⟩

/-! ### BWK_GEOM (object 0x1402, R127 of chapter 06) -/

/-- BWK_GEOM.KEEPOUT [31:0], RW, reset 1,000, tide mark (R127): keep-out KO, grains; 1 to 1,000,000. -/
def BWK_GEOM.KEEPOUT : Field := ⟨0x1402, 0, 32, .rw, .tideMark, .num 1000⟩
/-- BWK_GEOM.SHADOW_LEN [63:32], RW, reset 20,000, tide mark (R127): downstream shadow length SL, grains; 0 to 2,000,000. -/
def BWK_GEOM.SHADOW_LEN : Field := ⟨0x1402, 32, 32, .rw, .tideMark, .num 20000⟩
/-- BWK_GEOM.SHADOW_WIDE [95:64], RW, reset 2,000, tide mark (R127): lateral shadow widening SW, grains; 0 to 1,000,000. -/
def BWK_GEOM.SHADOW_WIDE : Field := ⟨0x1402, 64, 32, .rw, .tideMark, .num 2000⟩
/-- BWK_GEOM.FLOW [97:96], RW, reset 0, tide mark (R127): gas flow direction: 0 +X, 1 −X, 2 +Y, 3 −Y. -/
def BWK_GEOM.FLOW : Field := ⟨0x1402, 96, 2, .rw, .tideMark, .num 0⟩
/-- BWK_GEOM.LINGER [127:112], RW, reset 100, tide mark (R127): time a reservation outlives its off edge, µs; 0 to 10,000. -/
def BWK_GEOM.LINGER : Field := ⟨0x1402, 112, 16, .rw, .tideMark, .num 100⟩
/-- The object BWK_GEOM, 0x1402: size, instances (R22, R469), reset domain (R11) and fields. -/
def Obj.BWK_GEOM : ObjDesc := ⟨0x1402, 16, 0, 0, 9, [BWK_GEOM.KEEPOUT, BWK_GEOM.SHADOW_LEN, BWK_GEOM.SHADOW_WIDE, BWK_GEOM.FLOW, BWK_GEOM.LINGER]⟩

/-! ### BWK_WAIT (object 0x1404, R142 of chapter 06) -/

/-- BWK_WAIT.WAIT_CAP [31:0], RW, reset 200, tide mark (R142): rounds refused before a request is capped; 1 to 2,000,000. -/
def BWK_WAIT.WAIT_CAP : Field := ⟨0x1404, 0, 32, .rw, .tideMark, .num 200⟩
/-- BWK_WAIT.WAIT_ALARM [63:32], RW, reset 20,000, tide mark (R142): rounds refused before BWK_WAIT_LONG; 0 disables. -/
def BWK_WAIT.WAIT_ALARM : Field := ⟨0x1404, 32, 32, .rw, .tideMark, .num 20000⟩
/-- BWK_WAIT.YIELD_AFTER [79:64], RW, reset 40, tide mark (R142): rounds refused before a yield is allowed; 0 disables yielding. -/
def BWK_WAIT.YIELD_AFTER : Field := ⟨0x1404, 64, 16, .rw, .tideMark, .num 40⟩
/-- BWK_WAIT.YIELD_MAX [83:80], RW, reset 4, tide mark (R142): tiles run ahead per suspension; 1 to 15. -/
def BWK_WAIT.YIELD_MAX : Field := ⟨0x1404, 80, 4, .rw, .tideMark, .num 4⟩
/-- The object BWK_WAIT, 0x1404: size, instances (R22, R469), reset domain (R11) and fields. -/
def Obj.BWK_WAIT : ObjDesc := ⟨0x1404, 12, 0, 0, 9, [BWK_WAIT.WAIT_CAP, BWK_WAIT.WAIT_ALARM, BWK_WAIT.YIELD_AFTER, BWK_WAIT.YIELD_MAX]⟩

/-! ### BWK_CASCADE (object 0x1403, R142 of chapter 06) -/

/-- BWK_CASCADE.BORDER_EN [0:0], RW, reset 0, tide mark (R142): 1: border arbitration on. -/
def BWK_CASCADE.BORDER_EN : Field := ⟨0x1403, 0, 1, .rw, .tideMark, .num 0⟩
/-- BWK_CASCADE.SHARED [4:1], RW, reset 0, tide mark (R142): sides facing another region: bit 1 X low, bit 2 X high, bit 3 Y low, bit 4 Y high. -/
def BWK_CASCADE.SHARED : Field := ⟨0x1403, 1, 4, .rw, .tideMark, .num 0⟩
/-- BWK_CASCADE.REG_X_LO [63:32], RW, reset 0, tide mark (R142): region low X, signed grains. -/
def BWK_CASCADE.REG_X_LO : Field := ⟨0x1403, 32, 32, .rw, .tideMark, .num 0⟩
/-- BWK_CASCADE.REG_X_HI [95:64], RW, reset 0, tide mark (R142): region high X, signed grains. -/
def BWK_CASCADE.REG_X_HI : Field := ⟨0x1403, 64, 32, .rw, .tideMark, .num 0⟩
/-- BWK_CASCADE.REG_Y_LO [127:96], RW, reset 0, tide mark (R142): region low Y, signed grains. -/
def BWK_CASCADE.REG_Y_LO : Field := ⟨0x1403, 96, 32, .rw, .tideMark, .num 0⟩
/-- BWK_CASCADE.REG_Y_HI [159:128], RW, reset 0, tide mark (R142): region high Y, signed grains. -/
def BWK_CASCADE.REG_Y_HI : Field := ⟨0x1403, 128, 32, .rw, .tideMark, .num 0⟩
/-- BWK_CASCADE.BORDER_W [191:160], RW, reset 0, tide mark (R142): border width, grains; 0 to 4,000,000. -/
def BWK_CASCADE.BORDER_W : Field := ⟨0x1403, 160, 32, .rw, .tideMark, .num 0⟩
/-- The object BWK_CASCADE, 0x1403: size, instances (R22, R469), reset domain (R11) and fields. -/
def Obj.BWK_CASCADE : ObjDesc := ⟨0x1403, 24, 0, 0, 9, [BWK_CASCADE.BORDER_EN, BWK_CASCADE.SHARED, BWK_CASCADE.REG_X_LO, BWK_CASCADE.REG_X_HI, BWK_CASCADE.REG_Y_LO, BWK_CASCADE.REG_Y_HI, BWK_CASCADE.BORDER_W]⟩

/-! ### BWK_STATE (object 0x1405, R142 of chapter 06) -/

/-- BWK_STATE.STATE [2:0], RO, reset 0, now (R142): 0 IDLE; 1 WAITING; 2 PENDING_BORDER; 3 HELD; 4 YIELDED. -/
def BWK_STATE.STATE : Field := ⟨0x1405, 0, 3, .ro, .now, .num 0⟩
/-- BWK_STATE.CAPPED [3:3], RO, reset 0, now (R142): 1 while the present request is capped. -/
def BWK_STATE.CAPPED : Field := ⟨0x1405, 3, 1, .ro, .now, .num 0⟩
/-- BWK_STATE.BLOCKER_KIND [6:4], RO, reset 0, now (R142): reason for the latest refusal: 0 none; 1 held; 2 granted earlier in the round; 3 fence; 4 lead device; 5 table. -/
def BWK_STATE.BLOCKER_KIND : Field := ⟨0x1405, 4, 3, .ro, .now, .num 0⟩
/-- BWK_STATE.BLOCKER [31:16], RO, reset 0xFFFF, now (R142): g of the first reservation or fence that blocked; 0xFFFF for kinds 0, 4 and 5. -/
def BWK_STATE.BLOCKER : Field := ⟨0x1405, 16, 16, .ro, .now, .num 0xFFFF⟩
/-- BWK_STATE.WAIT_NOW [63:32], RO, reset 0, now (R142): wait count of the present request. -/
def BWK_STATE.WAIT_NOW : Field := ⟨0x1405, 32, 32, .ro, .now, .num 0⟩
/-- BWK_STATE.HELD_NOW [71:64], RO, reset 0, now (R142): reservations of this channel held or lingering; saturates at 255. -/
def BWK_STATE.HELD_NOW : Field := ⟨0x1405, 64, 8, .ro, .now, .num 0⟩
/-- BWK_STATE.YIELD_RUN [75:72], RO, reset 0, now (R142): tiles run ahead in the present suspension. -/
def BWK_STATE.YIELD_RUN : Field := ⟨0x1405, 72, 4, .ro, .now, .num 0⟩
/-- The object BWK_STATE, 0x1405: size, instances (R22, R469), reset domain (R11) and fields. -/
def Obj.BWK_STATE : ObjDesc := ⟨0x1405, 12, 0, 63, 9, [BWK_STATE.STATE, BWK_STATE.CAPPED, BWK_STATE.BLOCKER_KIND, BWK_STATE.BLOCKER, BWK_STATE.WAIT_NOW, BWK_STATE.HELD_NOW, BWK_STATE.YIELD_RUN]⟩

/-! ### BWK_STAT (object 0x1406, R142 of chapter 06) -/

/-- BWK_STAT.GRANTS [31:0], RO, reset 0, now (R142): requests granted. -/
def BWK_STAT.GRANTS : Field := ⟨0x1406, 0, 32, .ro, .now, .num 0⟩
/-- BWK_STAT.REFUSALS [63:32], RO, reset 0, now (R142): rounds refused. -/
def BWK_STAT.REFUSALS : Field := ⟨0x1406, 32, 32, .ro, .now, .num 0⟩
/-- BWK_STAT.WAIT_MAX [95:64], RO, reset 0, now (R142): largest wait count at grant. -/
def BWK_STAT.WAIT_MAX : Field := ⟨0x1406, 64, 32, .ro, .now, .num 0⟩
/-- BWK_STAT.CAPPED [111:96], RO, reset 0, now (R142): requests that became capped. -/
def BWK_STAT.CAPPED : Field := ⟨0x1406, 96, 16, .ro, .now, .num 0⟩
/-- BWK_STAT.YIELDS [127:112], RO, reset 0, now (R142): tiles run ahead. -/
def BWK_STAT.YIELDS : Field := ⟨0x1406, 112, 16, .ro, .now, .num 0⟩
/-- BWK_STAT.BORDER_REQS [143:128], RO, reset 0, now (R142): border requests sent. -/
def BWK_STAT.BORDER_REQS : Field := ⟨0x1406, 128, 16, .ro, .now, .num 0⟩
/-- BWK_STAT.BORDER_REFUSED [159:144], RO, reset 0, now (R142): border requests refused by the lead device. -/
def BWK_STAT.BORDER_REFUSED : Field := ⟨0x1406, 144, 16, .ro, .now, .num 0⟩
/-- BWK_STAT.BORDER_LATE [175:160], RO, reset 0, now (R142): late border requests or answers (R139). -/
def BWK_STAT.BORDER_LATE : Field := ⟨0x1406, 160, 16, .ro, .now, .num 0⟩
/-- BWK_STAT.TABLE_FULL [191:176], RO, reset 0, now (R142): refusals under R131. -/
def BWK_STAT.TABLE_FULL : Field := ⟨0x1406, 176, 16, .ro, .now, .num 0⟩
/-- The object BWK_STAT, 0x1406: size, instances (R22, R469), reset domain (R11) and fields. -/
def Obj.BWK_STAT : ObjDesc := ⟨0x1406, 24, 0, 63, 9, [BWK_STAT.GRANTS, BWK_STAT.REFUSALS, BWK_STAT.WAIT_MAX, BWK_STAT.CAPPED, BWK_STAT.YIELDS, BWK_STAT.BORDER_REQS, BWK_STAT.BORDER_REFUSED, BWK_STAT.BORDER_LATE, BWK_STAT.TABLE_FULL]⟩

/-! ### ADP_CONFIG (object 0x1501, R156 of chapter 07) -/

/-- ADP_CONFIG.ADOPT_MASK [63:0], RW, reset 0, tide mark (R156): bit a set: channel a may adopt this channel's work. -/
def ADP_CONFIG.ADOPT_MASK : Field := ⟨0x1501, 0, 64, .rw, .tideMark, .num 0⟩
/-- ADP_CONFIG.ADOPT_EN [64:64], RW, reset 0, tide mark (R156): 1: adoption on for this channel. -/
def ADP_CONFIG.ADOPT_EN : Field := ⟨0x1501, 64, 1, .rw, .tideMark, .num 0⟩
/-- The object ADP_CONFIG, 0x1501: size, instances (R22, R469), reset domain (R11) and fields. -/
def Obj.ADP_CONFIG : ObjDesc := ⟨0x1501, 12, 0, 63, 9, [ADP_CONFIG.ADOPT_MASK, ADP_CONFIG.ADOPT_EN]⟩

/-! ### ADP_POLICY (object 0x1502, R156 of chapter 07) -/

/-- ADP_POLICY.RES_ADDR [63:0], RW, reset 0, tide mark (R156): DRAM address of the residue area (R43); 16-byte aligned. -/
def ADP_POLICY.RES_ADDR : Field := ⟨0x1502, 0, 64, .rw, .tideMark, .num 0⟩
/-- ADP_POLICY.RES_SIZE [87:64], RW, reset 0, tide mark (R156): capacity in entries, 0 to 1,048,576; 0 keeps counts only. -/
def ADP_POLICY.RES_SIZE : Field := ⟨0x1502, 64, 24, .rw, .tideMark, .num 0⟩
/-- ADP_POLICY.NEXT_LAYER [88:88], RW, reset 0, tide mark (R156): 0 HALT; 1 ADOPT (R155). -/
def ADP_POLICY.NEXT_LAYER : Field := ⟨0x1502, 88, 1, .rw, .tideMark, .num 0⟩
/-- The object ADP_POLICY, 0x1502: size, instances (R22, R469), reset domain (R11) and fields. -/
def Obj.ADP_POLICY : ObjDesc := ⟨0x1502, 12, 0, 0, 9, [ADP_POLICY.RES_ADDR, ADP_POLICY.RES_SIZE, ADP_POLICY.NEXT_LAYER]⟩

/-! ### ADP_STATE (object 0x1503, R156 of chapter 07) -/

/-- ADP_STATE.STATE [1:0], RO, reset 0, now (R156): 0 IN_SERVICE; 1 FAILED, planning; 2 FAILED, adopting; 3 FAILED, adoption complete. -/
def ADP_STATE.STATE : Field := ⟨0x1503, 0, 2, .ro, .now, .num 0⟩
/-- ADP_STATE.QUEUED [23:8], RO, reset 0, now (R156): adoption tiles in this channel's queue as adopter. -/
def ADP_STATE.QUEUED : Field := ⟨0x1503, 8, 16, .ro, .now, .num 0⟩
/-- The object ADP_STATE, 0x1503: size, instances (R22, R469), reset domain (R11) and fields. -/
def Obj.ADP_STATE : ObjDesc := ⟨0x1503, 4, 0, 63, 9, [ADP_STATE.STATE, ADP_STATE.QUEUED]⟩

/-! ### ADP_CONTROL (object 0x1504, R156 of chapter 07) -/

/-- ADP_CONTROL.RESTORE [0:0], WO, reset 0, now (R156): 1: return the channel to service (R156). -/
def ADP_CONTROL.RESTORE : Field := ⟨0x1504, 0, 1, .wo, .now, .num 0⟩
/-- The object ADP_CONTROL, 0x1504: size, instances (R22, R469), reset domain (R11) and fields. -/
def Obj.ADP_CONTROL : ObjDesc := ⟨0x1504, 4, 0, 63, 9, [ADP_CONTROL.RESTORE]⟩

/-! ### ADP_REPORT (object 0x1510, R156 of chapter 07) -/

/-- ADP_REPORT.CAUSE [3:0], RO, reset 0, now (R156): 0 none; 1 ACK_LOST; 2 SOURCE_FAULT; 3 FOLLOWING; 4 CASSETTE; 5 CARRIED. -/
def ADP_REPORT.CAUSE : Field := ⟨0x1510, 0, 4, .ro, .now, .num 0⟩
/-- ADP_REPORT.DONE [4:4], RO, reset 0, now (R156): 1 once adoption has completed. -/
def ADP_REPORT.DONE : Field := ⟨0x1510, 4, 1, .ro, .now, .num 0⟩
/-- ADP_REPORT.INT_RECORD [15:8], RO, reset 0, now (R156): record of the interrupted chain's first segment. -/
def ADP_REPORT.INT_RECORD : Field := ⟨0x1510, 8, 8, .ro, .now, .num 0⟩
/-- ADP_REPORT.LAYER [63:32], RO, reset 0, now (R156): MAN_LAYER. -/
def ADP_REPORT.LAYER : Field := ⟨0x1510, 32, 32, .ro, .now, .num 0⟩
/-- ADP_REPORT.FAIL_SEC [95:64], RO, reset 0, now (R156): low 32 bits of the seconds of the declaring tick (R7). -/
def ADP_REPORT.FAIL_SEC : Field := ⟨0x1510, 64, 32, .ro, .now, .num 0⟩
/-- ADP_REPORT.FAIL_NS [125:96], RO, reset 0, now (R156): nanoseconds of the declaring tick. -/
def ADP_REPORT.FAIL_NS : Field := ⟨0x1510, 96, 30, .ro, .now, .num 0⟩
/-- ADP_REPORT.INT_TILE [159:128], RO, reset 0, now (R156): tile index of the interrupted chain; 0xFFFF_FFFF when none. -/
def ADP_REPORT.INT_TILE : Field := ⟨0x1510, 128, 32, .ro, .now, .num 0⟩
/-- ADP_REPORT.CONF_ARC [191:160], RO, reset 0, now (R156): s_off, grains, rounded down. -/
def ADP_REPORT.CONF_ARC : Field := ⟨0x1510, 160, 32, .ro, .now, .num 0⟩
/-- ADP_REPORT.RE_ARC [223:192], RO, reset 0, now (R156): s_re, grains, rounded down. -/
def ADP_REPORT.RE_ARC : Field := ⟨0x1510, 192, 32, .ro, .now, .num 0⟩
/-- ADP_REPORT.UNCONF_LEN [255:224], RO, reset 0, now (R156): R145, grains, rounded up. -/
def ADP_REPORT.UNCONF_LEN : Field := ⟨0x1510, 224, 32, .ro, .now, .num 0⟩
/-- ADP_REPORT.ADOPTERS [319:256], RO, reset 0, now (R156): bit a set: channel a received work. -/
def ADP_REPORT.ADOPTERS : Field := ⟨0x1510, 256, 64, .ro, .now, .num 0⟩
/-- ADP_REPORT.CHAINS_ADOPTED [351:320], RO, reset 0, now (R156): units assigned to adopters. -/
def ADP_REPORT.CHAINS_ADOPTED : Field := ⟨0x1510, 320, 32, .ro, .now, .num 0⟩
/-- ADP_REPORT.CHAINS_RESIDUE [383:352], RO, reset 0, now (R156): units listed in the residue. -/
def ADP_REPORT.CHAINS_RESIDUE : Field := ⟨0x1510, 352, 32, .ro, .now, .num 0⟩
/-- ADP_REPORT.TILES_BUILT [415:384], RO, reset 0, now (R156): adoption tiles built. -/
def ADP_REPORT.TILES_BUILT : Field := ⟨0x1510, 384, 32, .ro, .now, .num 0⟩
/-- ADP_REPORT.TILES_DONE [447:416], RO, reset 0, now (R156): adoption tiles ended on their adopters. -/
def ADP_REPORT.TILES_DONE : Field := ⟨0x1510, 416, 32, .ro, .now, .num 0⟩
/-- The object ADP_REPORT, 0x1510: size, instances (R22, R469), reset domain (R11) and fields. -/
def Obj.ADP_REPORT : ObjDesc := ⟨0x1510, 64, 0, 63, 9, [ADP_REPORT.CAUSE, ADP_REPORT.DONE, ADP_REPORT.INT_RECORD, ADP_REPORT.LAYER, ADP_REPORT.FAIL_SEC, ADP_REPORT.FAIL_NS, ADP_REPORT.INT_TILE, ADP_REPORT.CONF_ARC, ADP_REPORT.RE_ARC, ADP_REPORT.UNCONF_LEN, ADP_REPORT.ADOPTERS, ADP_REPORT.CHAINS_ADOPTED, ADP_REPORT.CHAINS_RESIDUE, ADP_REPORT.TILES_BUILT, ADP_REPORT.TILES_DONE]⟩

/-! ### ADP_RESIDUE (object 0x1511, R156 of chapter 07) -/

/-- ADP_RESIDUE.RES_FIRST [23:0], RO, reset 0, now (R156): index in the residue area of this loss's first entry. -/
def ADP_RESIDUE.RES_FIRST : Field := ⟨0x1511, 0, 24, .ro, .now, .num 0⟩
/-- ADP_RESIDUE.RES_COUNT [63:32], RO, reset 0, now (R156): entries arising from this loss. -/
def ADP_RESIDUE.RES_COUNT : Field := ⟨0x1511, 32, 32, .ro, .now, .num 0⟩
/-- ADP_RESIDUE.RES_OVERFLOW [95:64], RO, reset 0, now (R156): entries not written for lack of room. -/
def ADP_RESIDUE.RES_OVERFLOW : Field := ⟨0x1511, 64, 32, .ro, .now, .num 0⟩
/-- The object ADP_RESIDUE, 0x1511: size, instances (R22, R469), reset domain (R11) and fields. -/
def Obj.ADP_RESIDUE : ObjDesc := ⟨0x1511, 12, 0, 63, 9, [ADP_RESIDUE.RES_FIRST, ADP_RESIDUE.RES_COUNT, ADP_RESIDUE.RES_OVERFLOW]⟩

/-! ### STR_PORT_CFG (object 0x2001, R197 of chapter 08) -/

/-- STR_PORT_CFG.ENABLE [0:0], RW, reset 1, now (R197): 0: port held down, lanes idle. -/
def STR_PORT_CFG.ENABLE : Field := ⟨0x2001, 0, 1, .rw, .now, .num 1⟩
/-- STR_PORT_CFG.RATE_MAX [1:1], RW, reset 1, now (R197): 0: 4.0 Gb/s only; 1: 8.0 Gb/s allowed. -/
def STR_PORT_CFG.RATE_MAX : Field := ⟨0x2001, 1, 1, .rw, .now, .num 1⟩
/-- STR_PORT_CFG.STORED_EQ [2:2], RW, reset 1, now (R197): 1: retraining first tries the last taps (R188). -/
def STR_PORT_CFG.STORED_EQ : Field := ⟨0x2001, 2, 1, .rw, .now, .num 1⟩
/-- STR_PORT_CFG.NEAP_EN [3:3], RW, reset 0, now (R197): 1: Neap allowed (R189). -/
def STR_PORT_CFG.NEAP_EN : Field := ⟨0x2001, 3, 1, .rw, .now, .num 0⟩
/-- STR_PORT_CFG.BELL_TX [4:4], RW, reset 0, now (R197): link ports: 1 sends bells on lane 0; ignored on other ports. -/
def STR_PORT_CFG.BELL_TX : Field := ⟨0x2001, 4, 1, .rw, .now, .num 0⟩
/-- STR_PORT_CFG.TX_PRESET [10:8], RW, reset 0, now (R197): preset used at 8.0 Gb/s before any request. -/
def STR_PORT_CFG.TX_PRESET : Field := ⟨0x2001, 8, 3, .rw, .now, .num 0⟩
/-- The object STR_PORT_CFG, 0x2001: size, instances (R22, R469), reset domain (R11) and fields. -/
def Obj.STR_PORT_CFG : ObjDesc := ⟨0x2001, 4, 0, 20, 4, [STR_PORT_CFG.ENABLE, STR_PORT_CFG.RATE_MAX, STR_PORT_CFG.STORED_EQ, STR_PORT_CFG.NEAP_EN, STR_PORT_CFG.BELL_TX, STR_PORT_CFG.TX_PRESET]⟩

/-! ### STR_PORT_CTRL (object 0x2002, R197 of chapter 08) -/

/-- STR_PORT_CTRL.RETRAIN [0:0], WO, reset 0, now (R197): 1: retrain the port (R188). -/
def STR_PORT_CTRL.RETRAIN : Field := ⟨0x2002, 0, 1, .wo, .now, .num 0⟩
/-- STR_PORT_CTRL.NEAP_ENTER [1:1], WO, reset 0, now (R197): 1: enter Neap if R189 allows; otherwise completes with status BAD_MODE. -/
def STR_PORT_CTRL.NEAP_ENTER : Field := ⟨0x2002, 1, 1, .wo, .now, .num 0⟩
/-- STR_PORT_CTRL.NEAP_EXIT [2:2], WO, reset 0, now (R197): 1: leave Neap. -/
def STR_PORT_CTRL.NEAP_EXIT : Field := ⟨0x2002, 2, 1, .wo, .now, .num 0⟩
/-- STR_PORT_CTRL.CLEAR_STATS [3:3], WO, reset 0, now (R197): 1: zero STR_PORT_STAT. -/
def STR_PORT_CTRL.CLEAR_STATS : Field := ⟨0x2002, 3, 1, .wo, .now, .num 0⟩
/-- The object STR_PORT_CTRL, 0x2002: size, instances (R22, R469), reset domain (R11) and fields. -/
def Obj.STR_PORT_CTRL : ObjDesc := ⟨0x2002, 4, 0, 20, 4, [STR_PORT_CTRL.RETRAIN, STR_PORT_CTRL.NEAP_ENTER, STR_PORT_CTRL.NEAP_EXIT, STR_PORT_CTRL.CLEAR_STATS]⟩

/-! ### STR_PORT_STATE (object 0x2003, R197 of chapter 08) -/

/-- STR_PORT_STATE.STATE [2:0], RO, reset 0, now (R197): 0 DOWN; 1 TRAINING; 2 EQUALISING; 3 UP; 4 NEAP; 5 FAILED. -/
def STR_PORT_STATE.STATE : Field := ⟨0x2003, 0, 3, .ro, .now, .num 0⟩
/-- STR_PORT_STATE.RATE [3:3], RO, reset 0, now (R197): 0 4.0 Gb/s; 1 8.0 Gb/s. -/
def STR_PORT_STATE.RATE : Field := ⟨0x2003, 3, 1, .ro, .now, .num 0⟩
/-- STR_PORT_STATE.FALLBACK [4:4], RO, reset 0, now (R197): 1 after R186. -/
def STR_PORT_STATE.FALLBACK : Field := ⟨0x2003, 4, 1, .ro, .now, .num 0⟩
/-- STR_PORT_STATE.FAR_KIND [9:8], RO, reset 0, now (R197): kind reported in TS1. -/
def STR_PORT_STATE.FAR_KIND : Field := ⟨0x2003, 8, 2, .ro, .now, .num 0⟩
/-- STR_PORT_STATE.TX_PRE0 [19:16], RO, reset 0, now (R197): device transmit taps, lane 0 (post-cursor saturates at 15). -/
def STR_PORT_STATE.TX_PRE0 : Field := ⟨0x2003, 16, 4, .ro, .now, .num 0⟩
/-- STR_PORT_STATE.TX_POST0 [23:20], RO, reset 0, now (R197): device transmit taps, lane 0 (post-cursor saturates at 15). -/
def STR_PORT_STATE.TX_POST0 : Field := ⟨0x2003, 20, 4, .ro, .now, .num 0⟩
/-- STR_PORT_STATE.TX_PRE1 [27:24], RO, reset 0, now (R197): device transmit taps, lane 1. -/
def STR_PORT_STATE.TX_PRE1 : Field := ⟨0x2003, 24, 4, .ro, .now, .num 0⟩
/-- STR_PORT_STATE.TX_POST1 [31:28], RO, reset 0, now (R197): device transmit taps, lane 1. -/
def STR_PORT_STATE.TX_POST1 : Field := ⟨0x2003, 28, 4, .ro, .now, .num 0⟩
/-- STR_PORT_STATE.LINK_DELAY [63:32], RO, reset 0, now (R197): one-way delay, 1/256 ns (R187). -/
def STR_PORT_STATE.LINK_DELAY : Field := ⟨0x2003, 32, 32, .ro, .now, .num 0⟩
/-- The object STR_PORT_STATE, 0x2003: size, instances (R22, R469), reset domain (R11) and fields. -/
def Obj.STR_PORT_STATE : ObjDesc := ⟨0x2003, 8, 0, 20, 4, [STR_PORT_STATE.STATE, STR_PORT_STATE.RATE, STR_PORT_STATE.FALLBACK, STR_PORT_STATE.FAR_KIND, STR_PORT_STATE.TX_PRE0, STR_PORT_STATE.TX_POST0, STR_PORT_STATE.TX_PRE1, STR_PORT_STATE.TX_POST1, STR_PORT_STATE.LINK_DELAY]⟩

/-! ### STR_PORT_STAT (object 0x2004, R197 of chapter 08) -/

/-- STR_PORT_STAT.CODE_ERR [15:0], RO, reset 0, now (R197): code and disparity errors. -/
def STR_PORT_STAT.CODE_ERR : Field := ⟨0x2004, 0, 16, .ro, .now, .num 0⟩
/-- STR_PORT_STAT.FRAME_BAD [31:16], RO, reset 0, now (R197): frames discarded (R166). -/
def STR_PORT_STAT.FRAME_BAD : Field := ⟨0x2004, 16, 16, .ro, .now, .num 0⟩
/-- STR_PORT_STAT.FRAME_ABORT [47:32], RO, reset 0, now (R197): frames ended by ERR. -/
def STR_PORT_STAT.FRAME_ABORT : Field := ⟨0x2004, 32, 16, .ro, .now, .num 0⟩
/-- STR_PORT_STAT.SURGE_BAD [63:48], RO, reset 0, now (R197): malformed surge words. -/
def STR_PORT_STAT.SURGE_BAD : Field := ⟨0x2004, 48, 16, .ro, .now, .num 0⟩
/-- STR_PORT_STAT.DUP [79:64], RO, reset 0, now (R197): duplicate frames (R179). -/
def STR_PORT_STAT.DUP : Field := ⟨0x2004, 64, 16, .ro, .now, .num 0⟩
/-- STR_PORT_STAT.STALE [95:80], RO, reset 0, now (R197): stale frames. -/
def STR_PORT_STAT.STALE : Field := ⟨0x2004, 80, 16, .ro, .now, .num 0⟩
/-- STR_PORT_STAT.LM_BAD [111:96], RO, reset 0, now (R197): LM sets with a bad check word. -/
def STR_PORT_STAT.LM_BAD : Field := ⟨0x2004, 96, 16, .ro, .now, .num 0⟩
/-- STR_PORT_STAT.TICK_LATE [127:112], RO, reset 0, now (R197): late TICK_UP (R171). -/
def STR_PORT_STAT.TICK_LATE : Field := ⟨0x2004, 112, 16, .ro, .now, .num 0⟩
/-- STR_PORT_STAT.RETRAINS [143:128], RO, reset 0, now (R197): retrainings. -/
def STR_PORT_STAT.RETRAINS : Field := ⟨0x2004, 128, 16, .ro, .now, .num 0⟩
/-- STR_PORT_STAT.NEAP_EXITS [159:144], RO, reset 0, now (R197): exits from Neap. -/
def STR_PORT_STAT.NEAP_EXITS : Field := ⟨0x2004, 144, 16, .ro, .now, .num 0⟩
/-- STR_PORT_STAT.CFG_LATE [175:160], RO, reset 0, now (R197): CFG_WR answered LATE (R193). -/
def STR_PORT_STAT.CFG_LATE : Field := ⟨0x2004, 160, 16, .ro, .now, .num 0⟩
/-- The object STR_PORT_STAT, 0x2004: size, instances (R22, R469), reset domain (R11) and fields. -/
def Obj.STR_PORT_STAT : ObjDesc := ⟨0x2004, 22, 0, 20, 4, [STR_PORT_STAT.CODE_ERR, STR_PORT_STAT.FRAME_BAD, STR_PORT_STAT.FRAME_ABORT, STR_PORT_STAT.SURGE_BAD, STR_PORT_STAT.DUP, STR_PORT_STAT.STALE, STR_PORT_STAT.LM_BAD, STR_PORT_STAT.TICK_LATE, STR_PORT_STAT.RETRAINS, STR_PORT_STAT.NEAP_EXITS, STR_PORT_STAT.CFG_LATE]⟩

/-! ### STR_CHAIN (object 0x2005, R197 of chapter 08) -/

/-- STR_CHAIN.CHAIN_NODES [7:0], RO, reset 0, now (R197): nodes numbered on the chain itself. -/
def STR_CHAIN.CHAIN_NODES : Field := ⟨0x2005, 0, 8, .ro, .now, .num 0⟩
/-- STR_CHAIN.OVERFLOW [8:8], RO, reset 0, now (R197): 1 when the last ENUM overflowed. -/
def STR_CHAIN.OVERFLOW : Field := ⟨0x2005, 8, 1, .ro, .now, .num 0⟩
/-- STR_CHAIN.EXT_NODES [27:16], RO, reset 0, now (R197): relay-extended nodes numbered behind the chain. -/
def STR_CHAIN.EXT_NODES : Field := ⟨0x2005, 16, 12, .ro, .now, .num 0⟩
/-- The object STR_CHAIN, 0x2005: size, instances (R22, R469), reset domain (R11) and fields. -/
def Obj.STR_CHAIN : ObjDesc := ⟨0x2005, 4, 16, 17, 4, [STR_CHAIN.CHAIN_NODES, STR_CHAIN.OVERFLOW, STR_CHAIN.EXT_NODES]⟩

/-! ### BAR0 doorbell and interrupt registers (R199) -/

/-- BAR0 register DOORBELL [7:0] at offset 0x1000, WO, reset 0 (R199): bit n: post mailbox n. -/
def BAR0.DOORBELL : Field := ⟨0x31000, 0, 8, .wo, .now, .num 0⟩
/-- BAR0 register MB_BUSY [7:0] at offset 0x1004, RO, reset 0 (R199): bit n: mailbox n posted and not yet complete. -/
def BAR0.MB_BUSY : Field := ⟨0x31004, 0, 8, .ro, .now, .num 0⟩
/-- BAR0 register MB_DONE [7:0] at offset 0x1008, W1C, reset 0 (R199): bit n: a response has been written to mailbox n. -/
def BAR0.MB_DONE : Field := ⟨0x31008, 0, 8, .w1c, .now, .num 0⟩
/-- BAR0 register INT_STATUS [1:0] at offset 0x100C, W1C, reset 0 (R199): bit 0 EV: an event entered the ring; bit 1 MODE: the mode changed. -/
def BAR0.INT_STATUS : Field := ⟨0x3100C, 0, 2, .w1c, .now, .num 0⟩
/-- BAR0 register INT_MASK [9:0] at offset 0x1010, RW, reset 0x3FF (R199): bits 7:0 mailboxes, bit 8 EV, bit 9 MODE; 1 suppresses the MSI-X message, not the status bit. -/
def BAR0.INT_MASK : Field := ⟨0x31010, 0, 10, .rw, .now, .num 0x3FF⟩
/-- BAR0 register EV_PROD [31:0] at offset 0x1014, RO, reset 0 (R199): events written to the ring since reset, free-running. -/
def BAR0.EV_PROD : Field := ⟨0x31014, 0, 32, .ro, .now, .num 0⟩
/-- BAR0 register EV_CONS [31:0] at offset 0x1018, RW, reset 0 (R199): events consumed by host software, free-running; a write outside EV_PROD − 1,024 to EV_PROD is ignored. -/
def BAR0.EV_CONS : Field := ⟨0x31018, 0, 32, .rw, .now, .num 0⟩

/-! ### PLT_TOKEN (object 0x0101, R229 of chapter 09) -/

/-- PLT_TOKEN.HOLDER [2:0], RO, reset 7, now (R229): master ID holding the token; 7 none. -/
def PLT_TOKEN.HOLDER : Field := ⟨0x0101, 0, 3, .ro, .now, .num 7⟩
/-- PLT_TOKEN.TOKEN_TIMEOUT [31:16], RW, reset 2,000, now (R229): ms without a command from the holder before the token lapses; 100 to 60,000. -/
def PLT_TOKEN.TOKEN_TIMEOUT : Field := ⟨0x0101, 16, 16, .rw, .now, .num 2000⟩
/-- PLT_TOKEN.EPOCH0 [47:32], RO, reset 0, now (R229): epoch of master 0; 0 no session. -/
def PLT_TOKEN.EPOCH0 : Field := ⟨0x0101, 32, 16, .ro, .now, .num 0⟩
/-- PLT_TOKEN.EPOCH1 [63:48], RO, reset 0, now (R229): epoch of master 1. -/
def PLT_TOKEN.EPOCH1 : Field := ⟨0x0101, 48, 16, .ro, .now, .num 0⟩
/-- PLT_TOKEN.EPOCH2 [79:64], RO, reset 0, now (R229): epoch of master 2. -/
def PLT_TOKEN.EPOCH2 : Field := ⟨0x0101, 64, 16, .ro, .now, .num 0⟩
/-- The object PLT_TOKEN, 0x0101: size, instances (R22, R469), reset domain (R11) and fields. -/
def Obj.PLT_TOKEN : ObjDesc := ⟨0x0101, 12, 0, 0, 2, [PLT_TOKEN.HOLDER, PLT_TOKEN.TOKEN_TIMEOUT, PLT_TOKEN.EPOCH0, PLT_TOKEN.EPOCH1, PLT_TOKEN.EPOCH2]⟩

/-! ### PLT_STAGE (object 0x0102, R229 of chapter 09) -/

/-- PLT_STAGE.STATE [2:0], RO, reset 0, now (R229): 0 EMPTY; 1 OPEN; 2 CHECKING; 3 PASSED; 4 FAILED. -/
def PLT_STAGE.STATE : Field := ⟨0x0102, 0, 3, .ro, .now, .num 0⟩
/-- PLT_STAGE.OBJECTS [31:16], RO, reset 0, now (R229): object instances staged, 0 to 16,384. -/
def PLT_STAGE.OBJECTS : Field := ⟨0x0102, 16, 16, .ro, .now, .num 0⟩
/-- PLT_STAGE.FAILS [63:32], RO, reset 0, now (R229): failures found by the last check. -/
def PLT_STAGE.FAILS : Field := ⟨0x0102, 32, 32, .ro, .now, .num 0⟩
/-- PLT_STAGE.TILES_DONE [95:64], RO, reset 0, now (R229): tiles checked by the running or last check. -/
def PLT_STAGE.TILES_DONE : Field := ⟨0x0102, 64, 32, .ro, .now, .num 0⟩
/-- The object PLT_STAGE, 0x0102: size, instances (R22, R469), reset domain (R11) and fields. -/
def Obj.PLT_STAGE : ObjDesc := ⟨0x0102, 12, 0, 0, 2, [PLT_STAGE.STATE, PLT_STAGE.OBJECTS, PLT_STAGE.FAILS, PLT_STAGE.TILES_DONE]⟩

/-! ### PLT_QUEUE (object 0x0103, R229 of chapter 09) -/

/-- PLT_QUEUE.SETS [3:0], RO, reset 0, now (R229): committed sets waiting, 0 to 8. -/
def PLT_QUEUE.SETS : Field := ⟨0x0103, 0, 4, .ro, .now, .num 0⟩
/-- PLT_QUEUE.LAYERS [6:4], RO, reset 0, now (R229): of those, sets with a manifest, 0 to 4. -/
def PLT_QUEUE.LAYERS : Field := ⟨0x0103, 4, 3, .ro, .now, .num 0⟩
/-- PLT_QUEUE.NEXT_SET_ID [31:16], RO, reset 1, now (R229): SET_ID the next commit receives. -/
def PLT_QUEUE.NEXT_SET_ID : Field := ⟨0x0103, 16, 16, .ro, .now, .num 1⟩
/-- PLT_QUEUE.HEAD_SET_ID [47:32], RO, reset 0, now (R229): SET_ID at the head of the queue; 0 when empty. -/
def PLT_QUEUE.HEAD_SET_ID : Field := ⟨0x0103, 32, 16, .ro, .now, .num 0⟩
/-- PLT_QUEUE.LAST_APPLIED [63:48], RO, reset 0, now (R229): SET_ID most recently applied. -/
def PLT_QUEUE.LAST_APPLIED : Field := ⟨0x0103, 48, 16, .ro, .now, .num 0⟩
/-- PLT_QUEUE.APPLIED_SEC [95:64], RO, reset 0, now (R229): low 32 bits of the seconds of that tide mark. -/
def PLT_QUEUE.APPLIED_SEC : Field := ⟨0x0103, 64, 32, .ro, .now, .num 0⟩
/-- PLT_QUEUE.APPLIED_NS [125:96], RO, reset 0, now (R229): nanoseconds of that tide mark. -/
def PLT_QUEUE.APPLIED_NS : Field := ⟨0x0103, 96, 30, .ro, .now, .num 0⟩
/-- The object PLT_QUEUE, 0x0103: size, instances (R22, R469), reset domain (R11) and fields. -/
def Obj.PLT_QUEUE : ObjDesc := ⟨0x0103, 16, 0, 0, 2, [PLT_QUEUE.SETS, PLT_QUEUE.LAYERS, PLT_QUEUE.NEXT_SET_ID, PLT_QUEUE.HEAD_SET_ID, PLT_QUEUE.LAST_APPLIED, PLT_QUEUE.APPLIED_SEC, PLT_QUEUE.APPLIED_NS]⟩

/-! ### PLT_MB_STAT (object 0x0104, R229 of chapter 09) -/

/-- PLT_MB_STAT.COMMANDS [31:0], RO, reset 0, now (R229): commands admitted. -/
def PLT_MB_STAT.COMMANDS : Field := ⟨0x0104, 0, 32, .ro, .now, .num 0⟩
/-- PLT_MB_STAT.REPEATS [47:32], RO, reset 0, now (R229): repeats answered from store (R203). -/
def PLT_MB_STAT.REPEATS : Field := ⟨0x0104, 32, 16, .ro, .now, .num 0⟩
/-- PLT_MB_STAT.CONFLICTS [63:48], RO, reset 0, now (R229): commands completed with CONFLICT_LOST. -/
def PLT_MB_STAT.CONFLICTS : Field := ⟨0x0104, 48, 16, .ro, .now, .num 0⟩
/-- PLT_MB_STAT.DB_IGNORED [79:64], RO, reset 0, now (R229): doorbells for busy mailboxes (R199). -/
def PLT_MB_STAT.DB_IGNORED : Field := ⟨0x0104, 64, 16, .ro, .now, .num 0⟩
/-- PLT_MB_STAT.DROPPED [95:80], RO, reset 0, now (R229): master 2: datagrams dropped (R227 to R229). -/
def PLT_MB_STAT.DROPPED : Field := ⟨0x0104, 80, 16, .ro, .now, .num 0⟩
/-- The object PLT_MB_STAT, 0x0104: size, instances (R22, R469), reset domain (R11) and fields. -/
def Obj.PLT_MB_STAT : ObjDesc := ⟨0x0104, 12, 0, 2, 2, [PLT_MB_STAT.COMMANDS, PLT_MB_STAT.REPEATS, PLT_MB_STAT.CONFLICTS, PLT_MB_STAT.DB_IGNORED, PLT_MB_STAT.DROPPED]⟩

/-! ### PLT_EVQ (object 0x0105, R229 of chapter 09) -/

/-- PLT_EVQ.EV_HOLDOFF [15:0], RW, reset 50, now (R229): least time between vector 8 messages, µs; 0 to 10,000. -/
def PLT_EVQ.EV_HOLDOFF : Field := ⟨0x0105, 0, 16, .rw, .now, .num 50⟩
/-- PLT_EVQ.EV_LOST [63:32], RO, reset 0, now (R229): events dropped at a full ring; saturates. -/
def PLT_EVQ.EV_LOST : Field := ⟨0x0105, 32, 32, .ro, .now, .num 0⟩
/-- The object PLT_EVQ, 0x0105: size, instances (R22, R469), reset domain (R11) and fields. -/
def Obj.PLT_EVQ : ObjDesc := ⟨0x0105, 8, 0, 0, 2, [PLT_EVQ.EV_HOLDOFF, PLT_EVQ.EV_LOST]⟩

/-! ### PLT_MGMT (object 0x0110, R229 of chapter 09) -/

/-- PLT_MGMT.MGMT_EN [0:0], RW, reset 0, boot (R229): 1: Ethernet service on. -/
def PLT_MGMT.MGMT_EN : Field := ⟨0x0110, 0, 1, .rw, .boot, .num 0⟩
/-- PLT_MGMT.MGMT_PORT [31:16], RW, reset 49,410, boot (R229): UDP port, 1,024 to 65,535. -/
def PLT_MGMT.MGMT_PORT : Field := ⟨0x0110, 16, 16, .rw, .boot, .num 49410⟩
/-- PLT_MGMT.MGMT_IP [63:32], RW, reset 0, boot (R229): device address on ETH0. -/
def PLT_MGMT.MGMT_IP : Field := ⟨0x0110, 32, 32, .rw, .boot, .num 0⟩
/-- PLT_MGMT.MGMT_MASK [95:64], RW, reset 0, boot (R229): subnet mask. -/
def PLT_MGMT.MGMT_MASK : Field := ⟨0x0110, 64, 32, .rw, .boot, .num 0⟩
/-- PLT_MGMT.MGMT_GW [127:96], RW, reset 0, boot (R229): gateway; 0 none. -/
def PLT_MGMT.MGMT_GW : Field := ⟨0x0110, 96, 32, .rw, .boot, .num 0⟩
/-- PLT_MGMT.PEER0 [159:128], RW, reset 0, boot (R229): permitted client addresses, 32 bits each from PEER0 upwards; 0 unused. -/
def PLT_MGMT.PEER0 : Field := ⟨0x0110, 128, 32, .rw, .boot, .num 0⟩
/-- PLT_MGMT.PEER1 [191:160], RW, reset 0, boot (R229): permitted client addresses, 32 bits each from PEER0 upwards; 0 unused. -/
def PLT_MGMT.PEER1 : Field := ⟨0x0110, 160, 32, .rw, .boot, .num 0⟩
/-- PLT_MGMT.PEER2 [223:192], RW, reset 0, boot (R229): permitted client addresses, 32 bits each from PEER0 upwards; 0 unused. -/
def PLT_MGMT.PEER2 : Field := ⟨0x0110, 192, 32, .rw, .boot, .num 0⟩
/-- PLT_MGMT.PEER3 [255:224], RW, reset 0, boot (R229): permitted client addresses, 32 bits each from PEER0 upwards; 0 unused. -/
def PLT_MGMT.PEER3 : Field := ⟨0x0110, 224, 32, .rw, .boot, .num 0⟩
/-- The object PLT_MGMT, 0x0110: size, instances (R22, R469), reset domain (R11) and fields. -/
def Obj.PLT_MGMT : ObjDesc := ⟨0x0110, 32, 0, 0, 2, [PLT_MGMT.MGMT_EN, PLT_MGMT.MGMT_PORT, PLT_MGMT.MGMT_IP, PLT_MGMT.MGMT_MASK, PLT_MGMT.MGMT_GW, PLT_MGMT.PEER0, PLT_MGMT.PEER1, PLT_MGMT.PEER2, PLT_MGMT.PEER3]⟩

/-! ### PLT_MODE (object 0x0106, R248 of chapter 10) -/

/-- PLT_MODE.MODE [3:0], RO, reset 1, now (R248): present mode (R230). -/
def PLT_MODE.MODE : Field := ⟨0x0106, 0, 4, .ro, .now, .num 1⟩
/-- PLT_MODE.PHASE [5:4], RO, reset 0, now (R248): 0 none; 1 SETTLING; 2 HELD. -/
def PLT_MODE.PHASE : Field := ⟨0x0106, 4, 2, .ro, .now, .num 0⟩
/-- PLT_MODE.RETURN [11:8], RO, reset 0, now (R248): mode entered on RESUME or SAFE_CLEAR. -/
def PLT_MODE.RETURN : Field := ⟨0x0106, 8, 4, .ro, .now, .num 0⟩
/-- PLT_MODE.HOLD_CAUSE [14:12], RO, reset 0, now (R248): 0 none; 1 HOLD; 2 HOLD with IMMEDIATE; 3 escalation; 4 URGENT work. -/
def PLT_MODE.HOLD_CAUSE : Field := ⟨0x0106, 12, 3, .ro, .now, .num 0⟩
/-- PLT_MODE.PREV_MODE [19:16], RO, reset 0, now (R248): mode left at the latest change. -/
def PLT_MODE.PREV_MODE : Field := ⟨0x0106, 16, 4, .ro, .now, .num 0⟩
/-- PLT_MODE.ENTRY_SEC [63:32], RO, reset 0, now (R248): low 32 bits of the seconds of the latest change. -/
def PLT_MODE.ENTRY_SEC : Field := ⟨0x0106, 32, 32, .ro, .now, .num 0⟩
/-- PLT_MODE.ENTRY_NS [93:64], RO, reset 0, now (R248): nanoseconds of the latest change. -/
def PLT_MODE.ENTRY_NS : Field := ⟨0x0106, 64, 30, .ro, .now, .num 0⟩
/-- PLT_MODE.ESC_SOURCE [111:96], RO, reset 0, now (R248): R241. -/
def PLT_MODE.ESC_SOURCE : Field := ⟨0x0106, 96, 16, .ro, .now, .num 0⟩
/-- The object PLT_MODE, 0x0106: size, instances (R22, R469), reset domain (R11) and fields. -/
def Obj.PLT_MODE : ObjDesc := ⟨0x0106, 16, 0, 0, 2, [PLT_MODE.MODE, PLT_MODE.PHASE, PLT_MODE.RETURN, PLT_MODE.HOLD_CAUSE, PLT_MODE.PREV_MODE, PLT_MODE.ENTRY_SEC, PLT_MODE.ENTRY_NS, PLT_MODE.ESC_SOURCE]⟩

/-! ### PLT_SLACK (object 0x0107, R248 of chapter 10) -/

/-- PLT_SLACK.SLACK_MIN [31:0], RW, reset 0, Slack (R248): least Slack duration, µs; 0 to 60,000,000. -/
def PLT_SLACK.SLACK_MIN : Field := ⟨0x0107, 0, 32, .rw, .slack, .num 0⟩
/-- PLT_SLACK.SLACK_WARN [63:32], RW, reset 0, Slack (R248): Slack duration before SLACK_LONG, µs; 0 disables. -/
def PLT_SLACK.SLACK_WARN : Field := ⟨0x0107, 32, 32, .rw, .slack, .num 0⟩
/-- The object PLT_SLACK, 0x0107: size, instances (R22, R469), reset domain (R11) and fields. -/
def Obj.PLT_SLACK : ObjDesc := ⟨0x0107, 8, 0, 0, 2, [PLT_SLACK.SLACK_MIN, PLT_SLACK.SLACK_WARN]⟩

/-! ### SAF_STATUS (object 0xB001, R248 of chapter 10) -/

/-- SAF_STATUS.LEVEL_A [0:0], RO, reset 0, now (R248): present filtered levels of LSAF_A_N, LSAF_B_N, ESTOP_N; 1 inactive. -/
def SAF_STATUS.LEVEL_A : Field := ⟨0xB001, 0, 1, .ro, .now, .num 0⟩
/-- SAF_STATUS.LEVEL_B [1:1], RO, reset 0, now (R248): present filtered levels of LSAF_A_N, LSAF_B_N, ESTOP_N; 1 inactive. -/
def SAF_STATUS.LEVEL_B : Field := ⟨0xB001, 1, 1, .ro, .now, .num 0⟩
/-- SAF_STATUS.LEVEL_E [2:2], RO, reset 0, now (R248): present filtered levels of LSAF_A_N, LSAF_B_N, ESTOP_N; 1 inactive. -/
def SAF_STATUS.LEVEL_E : Field := ⟨0xB001, 2, 1, .ro, .now, .num 0⟩
/-- SAF_STATUS.DISC [3:3], RO, reset 0, now (R248): discrepancy latched (R245). -/
def SAF_STATUS.DISC : Field := ⟨0xB001, 3, 1, .ro, .now, .num 0⟩
/-- SAF_STATUS.CAUSE [7:4], RO, reset 0, now (R248): since the last SAFE_CLEAR: bit 4 LSAF_A_N; bit 5 LSAF_B_N; bit 6 ESTOP_N; bit 7 STOP or escalation. -/
def SAF_STATUS.CAUSE : Field := ⟨0xB001, 4, 4, .ro, .now, .num 0⟩
/-- SAF_STATUS.TRIPS [31:16], RO, reset 0, now (R248): interlock trips counted by R242; saturates. -/
def SAF_STATUS.TRIPS : Field := ⟨0xB001, 16, 16, .ro, .now, .num 0⟩
/-- SAF_STATUS.LAST_GATE_NS [47:32], RO, reset 0, now (R248): R243 step 2 of the latest trip, ns. -/
def SAF_STATUS.LAST_GATE_NS : Field := ⟨0xB001, 32, 16, .ro, .now, .num 0⟩
/-- SAF_STATUS.HIGH_FOR [63:48], RO, reset 0, now (R248): time all inputs have been inactive without a break, ms; saturates. -/
def SAF_STATUS.HIGH_FOR : Field := ⟨0xB001, 48, 16, .ro, .now, .num 0⟩
/-- The object SAF_STATUS, 0xB001: size, instances (R22, R469), reset domain (R11) and fields. -/
def Obj.SAF_STATUS : ObjDesc := ⟨0xB001, 8, 0, 0, 0, [SAF_STATUS.LEVEL_A, SAF_STATUS.LEVEL_B, SAF_STATUS.LEVEL_E, SAF_STATUS.DISC, SAF_STATUS.CAUSE, SAF_STATUS.TRIPS, SAF_STATUS.LAST_GATE_NS, SAF_STATUS.HIGH_FOR]⟩

/-! ### CAM_PORT (object 0x3001, R267 of chapter 11) -/

/-- CAM_PORT.ENABLE [0:0], RW, reset 0, now (R267): 1: receiver on. -/
def CAM_PORT.ENABLE : Field := ⟨0x3001, 0, 1, .rw, .now, .num 0⟩
/-- CAM_PORT.LANES [2:1], RW, reset 3, now (R267): data lanes minus 1. -/
def CAM_PORT.LANES : Field := ⟨0x3001, 1, 2, .rw, .now, .num 3⟩
/-- CAM_PORT.LANE_RATE [19:8], RW, reset 2,500, now (R267): HS rate per lane, Mb/s; 80 to 2,500. -/
def CAM_PORT.LANE_RATE : Field := ⟨0x3001, 8, 12, .rw, .now, .num 2500⟩
/-- CAM_PORT.RING_SLOTS [39:32], RW, reset 4, now (R267): slots, 2 to 64. -/
def CAM_PORT.RING_SLOTS : Field := ⟨0x3001, 32, 8, .rw, .now, .num 4⟩
/-- CAM_PORT.SLOT_SIZE [95:64], RW, reset 0, now (R267): bytes per slot, multiple of 4,096, at most 32 MiB; at least 2 × WIDTH × HEIGHT of every context bound to the p. -/
def CAM_PORT.SLOT_SIZE : Field := ⟨0x3001, 64, 32, .rw, .now, .num 0⟩
/-- CAM_PORT.RING_ADDR [191:128], RW, reset 0, now (R267): DRAM address, 4,096-byte aligned. -/
def CAM_PORT.RING_ADDR : Field := ⟨0x3001, 128, 64, .rw, .now, .num 0⟩
/-- The object CAM_PORT, 0x3001: size, instances (R22, R469), reset domain (R11) and fields. -/
def Obj.CAM_PORT : ObjDesc := ⟨0x3001, 24, 0, 7, 6, [CAM_PORT.ENABLE, CAM_PORT.LANES, CAM_PORT.LANE_RATE, CAM_PORT.RING_SLOTS, CAM_PORT.SLOT_SIZE, CAM_PORT.RING_ADDR]⟩

/-! ### CAM_TRIG (object 0x3002, R267 of chapter 11) -/

/-- CAM_TRIG.MODE [1:0], RW, reset 0, now (R267): 0 off; 1 periodic; 2 compare; 3 software. -/
def CAM_TRIG.MODE : Field := ⟨0x3002, 0, 2, .rw, .now, .num 0⟩
/-- CAM_TRIG.POL [2:2], RW, reset 0, now (R267): 0 active high; 1 active low. -/
def CAM_TRIG.POL : Field := ⟨0x3002, 2, 1, .rw, .now, .num 0⟩
/-- CAM_TRIG.CMP_UNIT [10:8], RW, reset 0, now (R267): compare unit, 0 to 7. -/
def CAM_TRIG.CMP_UNIT : Field := ⟨0x3002, 8, 3, .rw, .now, .num 0⟩
/-- CAM_TRIG.WIDTH [31:16], RW, reset 125, now (R267): pulse width, units of 8 ns; 1 to 65,535. -/
def CAM_TRIG.WIDTH : Field := ⟨0x3002, 16, 16, .rw, .now, .num 125⟩
/-- CAM_TRIG.PERIOD [63:32], RW, reset 1,000,000, now (R267): ns; 1,000 to 1,000,000,000, a multiple of 8 that divides 10⁹. -/
def CAM_TRIG.PERIOD : Field := ⟨0x3002, 32, 32, .rw, .now, .num 1000000⟩
/-- CAM_TRIG.PHASE [95:64], RW, reset 0, now (R267): ns; a multiple of 8, less than PERIOD. -/
def CAM_TRIG.PHASE : Field := ⟨0x3002, 64, 32, .rw, .now, .num 0⟩
/-- CAM_TRIG.PULSE [96:96], WO, reset 0, tick (R267): 1: one pulse in software mode. -/
def CAM_TRIG.PULSE : Field := ⟨0x3002, 96, 1, .wo, .tick, .num 0⟩
/-- The object CAM_TRIG, 0x3002: size, instances (R22, R469), reset domain (R11) and fields. -/
def Obj.CAM_TRIG : ObjDesc := ⟨0x3002, 16, 0, 7, 6, [CAM_TRIG.MODE, CAM_TRIG.POL, CAM_TRIG.CMP_UNIT, CAM_TRIG.WIDTH, CAM_TRIG.PERIOD, CAM_TRIG.PHASE, CAM_TRIG.PULSE]⟩

/-! ### CAM_STAT (object 0x3003, R267 of chapter 11) -/

/-- CAM_STAT.FRAMES [31:0], RC, reset 0, now (R267): frames opened. -/
def CAM_STAT.FRAMES : Field := ⟨0x3003, 0, 32, .rc, .now, .num 0⟩
/-- CAM_STAT.DROPPED [47:32], RC, reset 0, now (R267): frames dropped at a full ring. -/
def CAM_STAT.DROPPED : Field := ⟨0x3003, 32, 16, .rc, .now, .num 0⟩
/-- CAM_STAT.ORPHAN [63:48], RC, reset 0, now (R267): frames on unbound streams. -/
def CAM_STAT.ORPHAN : Field := ⟨0x3003, 48, 16, .rc, .now, .num 0⟩
/-- CAM_STAT.ECC_CORR [79:64], RC, reset 0, now (R267): corrected headers. -/
def CAM_STAT.ECC_CORR : Field := ⟨0x3003, 64, 16, .rc, .now, .num 0⟩
/-- CAM_STAT.ECC_BAD [95:80], RC, reset 0, now (R267): packets discarded. -/
def CAM_STAT.ECC_BAD : Field := ⟨0x3003, 80, 16, .rc, .now, .num 0⟩
/-- CAM_STAT.CRC_ERR [111:96], RC, reset 0, now (R267): payload CRC errors. -/
def CAM_STAT.CRC_ERR : Field := ⟨0x3003, 96, 16, .rc, .now, .num 0⟩
/-- CAM_STAT.DT_SKIP [127:112], RC, reset 0, now (R267): packets of other data types. -/
def CAM_STAT.DT_SKIP : Field := ⟨0x3003, 112, 16, .rc, .now, .num 0⟩
/-- CAM_STAT.TRIG_SKIP [143:128], RC, reset 0, now (R267): triggers skipped (R266). -/
def CAM_STAT.TRIG_SKIP : Field := ⟨0x3003, 128, 16, .rc, .now, .num 0⟩
/-- CAM_STAT.FIFO_HWM [159:144], RC, reset 0, now (R267): highest FIFO fill, units of 64 bytes. -/
def CAM_STAT.FIFO_HWM : Field := ⟨0x3003, 144, 16, .rc, .now, .num 0⟩
/-- The object CAM_STAT, 0x3003: size, instances (R22, R469), reset domain (R11) and fields. -/
def Obj.CAM_STAT : ObjDesc := ⟨0x3003, 20, 0, 7, 6, [CAM_STAT.FRAMES, CAM_STAT.DROPPED, CAM_STAT.ORPHAN, CAM_STAT.ECC_CORR, CAM_STAT.ECC_BAD, CAM_STAT.CRC_ERR, CAM_STAT.DT_SKIP, CAM_STAT.TRIG_SKIP, CAM_STAT.FIFO_HWM]⟩

/-! ### IPL_CTX (object 0x3101, R267 of chapter 11) -/

/-- IPL_CTX.ENABLE [0:0], RW, reset 0, now (R267): 1: context bound. -/
def IPL_CTX.ENABLE : Field := ⟨0x3101, 0, 1, .rw, .now, .num 0⟩
/-- IPL_CTX.PORT [3:1], RW, reset 0, now (R267): camera port. -/
def IPL_CTX.PORT : Field := ⟨0x3101, 1, 3, .rw, .now, .num 0⟩
/-- IPL_CTX.VC [5:4], RW, reset 0, now (R267): virtual channel. -/
def IPL_CTX.VC : Field := ⟨0x3101, 4, 2, .rw, .now, .num 0⟩
/-- IPL_CTX.DT [7:6], RW, reset 1, now (R267): 0 RAW8; 1 RAW10; 2 RAW12; 3 RAW14. -/
def IPL_CTX.DT : Field := ⟨0x3101, 6, 2, .rw, .now, .num 1⟩
/-- IPL_CTX.PRIORITY [11:8], RW, reset 0, now (R267): 0 to 15, higher first (R256). -/
def IPL_CTX.PRIORITY : Field := ⟨0x3101, 8, 4, .rw, .now, .num 0⟩
/-- IPL_CTX.TRIM_BIND [12:12], RW, reset 0, now (R267): 1: records go to TRIM_CH. -/
def IPL_CTX.TRIM_BIND : Field := ⟨0x3101, 12, 1, .rw, .now, .num 0⟩
/-- IPL_CTX.TRIM_CH [21:16], RW, reset 0, now (R267): laser channel. -/
def IPL_CTX.TRIM_CH : Field := ⟨0x3101, 16, 6, .rw, .now, .num 0⟩
/-- IPL_CTX.LIGHT_GRP [31:24], RW, reset 0, now (R267): bit n: lighting group n (R267). -/
def IPL_CTX.LIGHT_GRP : Field := ⟨0x3101, 24, 8, .rw, .now, .num 0⟩
/-- IPL_CTX.WIDTH [47:32], RW, reset 512, now (R267): pixels per line, 16 to 4,096. -/
def IPL_CTX.WIDTH : Field := ⟨0x3101, 32, 16, .rw, .now, .num 512⟩
/-- IPL_CTX.HEIGHT [63:48], RW, reset 512, now (R267): lines, 1 to 4,096. -/
def IPL_CTX.HEIGHT : Field := ⟨0x3101, 48, 16, .rw, .now, .num 512⟩
/-- IPL_CTX.FRAME_INTERVAL [95:64], RW, reset 1,000, now (R267): expected frame interval, µs; 100 to 10,000,000. -/
def IPL_CTX.FRAME_INTERVAL : Field := ⟨0x3101, 64, 32, .rw, .now, .num 1000⟩
/-- IPL_CTX.TIMEOUT_MULT [99:96], RW, reset 2, now (R267): 2 to 15 (R255). -/
def IPL_CTX.TIMEOUT_MULT : Field := ⟨0x3101, 96, 4, .rw, .now, .num 2⟩
/-- IPL_CTX.SNR_S [108:104], RW, reset 0, now (R267): 0 to 16. -/
def IPL_CTX.SNR_S : Field := ⟨0x3101, 104, 5, .rw, .now, .num 0⟩
/-- IPL_CTX.TNR_K [120:112], RW, reset 256, now (R267): 1 to 256. -/
def IPL_CTX.TNR_K : Field := ⟨0x3101, 112, 9, .rw, .now, .num 256⟩
/-- IPL_CTX.TNR_THRESH [143:128], RW, reset 0xFFFF, now (R267): largest difference still filtered. -/
def IPL_CTX.TNR_THRESH : Field := ⟨0x3101, 128, 16, .rw, .now, .num 0xFFFF⟩
/-- IPL_CTX.DARK_EN [144:144], RW, reset 0, now (R267): stage enables. -/
def IPL_CTX.DARK_EN : Field := ⟨0x3101, 144, 1, .rw, .now, .num 0⟩
/-- IPL_CTX.FLAT_EN [145:145], RW, reset 0, now (R267): stage enables. -/
def IPL_CTX.FLAT_EN : Field := ⟨0x3101, 145, 1, .rw, .now, .num 0⟩
/-- IPL_CTX.DEF_EN [146:146], RW, reset 0, now (R267): stage enables. -/
def IPL_CTX.DEF_EN : Field := ⟨0x3101, 146, 1, .rw, .now, .num 0⟩
/-- IPL_CTX.DEF_COUNT [175:160], RW, reset 0, now (R267): defect entries, 0 to 4,096. -/
def IPL_CTX.DEF_COUNT : Field := ⟨0x3101, 160, 16, .rw, .now, .num 0⟩
/-- IPL_CTX.DEF_CRC [223:192], RW, reset 0, now (R267): CRC-32C over the list. -/
def IPL_CTX.DEF_CRC : Field := ⟨0x3101, 192, 32, .rw, .now, .num 0⟩
/-- IPL_CTX.ROI_X0 [239:224], RW, reset 0, now (R267): ROI corner, 16 bits each. -/
def IPL_CTX.ROI_X0 : Field := ⟨0x3101, 224, 16, .rw, .now, .num 0⟩
/-- IPL_CTX.ROI_Y0 [255:240], RW, reset 0, now (R267): ROI corner, 16 bits each. -/
def IPL_CTX.ROI_Y0 : Field := ⟨0x3101, 240, 16, .rw, .now, .num 0⟩
/-- IPL_CTX.ROI_W [271:256], RW, reset 512, now (R267): ROI size, 16 bits each, 1 to 4,096. -/
def IPL_CTX.ROI_W : Field := ⟨0x3101, 256, 16, .rw, .now, .num 512⟩
/-- IPL_CTX.ROI_H [287:272], RW, reset 512, now (R267): ROI size, 16 bits each, 1 to 4,096. -/
def IPL_CTX.ROI_H : Field := ⟨0x3101, 272, 16, .rw, .now, .num 512⟩
/-- IPL_CTX.THRESH [303:288], RW, reset 0x8000, now (R267): pool threshold. -/
def IPL_CTX.THRESH : Field := ⟨0x3101, 288, 16, .rw, .now, .num 0x8000⟩
/-- IPL_CTX.SPAT_T [319:304], RW, reset 0xC000, now (R267): spatter threshold. -/
def IPL_CTX.SPAT_T : Field := ⟨0x3101, 304, 16, .rw, .now, .num 0xC000⟩
/-- IPL_CTX.SPAT_R [327:320], RW, reset 16, now (R267): spatter radius, pixels. -/
def IPL_CTX.SPAT_R : Field := ⟨0x3101, 320, 8, .rw, .now, .num 16⟩
/-- IPL_CTX.TREF_ADDR [447:384], RW, reset 0, now (R267): temporal reference, 64-byte aligned. -/
def IPL_CTX.TREF_ADDR : Field := ⟨0x3101, 384, 64, .rw, .now, .num 0⟩
/-- IPL_CTX.DARK_ADDR [511:448], RW, reset 0, now (R267): dark reference. -/
def IPL_CTX.DARK_ADDR : Field := ⟨0x3101, 448, 64, .rw, .now, .num 0⟩
/-- IPL_CTX.FLAT_ADDR [575:512], RW, reset 0, now (R267): flat reference. -/
def IPL_CTX.FLAT_ADDR : Field := ⟨0x3101, 512, 64, .rw, .now, .num 0⟩
/-- IPL_CTX.DEF_ADDR [639:576], RW, reset 0, now (R267): defect list, 4-byte aligned. -/
def IPL_CTX.DEF_ADDR : Field := ⟨0x3101, 576, 64, .rw, .now, .num 0⟩
/-- The object IPL_CTX, 0x3101: size, instances (R22, R469), reset domain (R11) and fields. -/
def Obj.IPL_CTX : ObjDesc := ⟨0x3101, 80, 0, 31, 6, [IPL_CTX.ENABLE, IPL_CTX.PORT, IPL_CTX.VC, IPL_CTX.DT, IPL_CTX.PRIORITY, IPL_CTX.TRIM_BIND, IPL_CTX.TRIM_CH, IPL_CTX.LIGHT_GRP, IPL_CTX.WIDTH, IPL_CTX.HEIGHT, IPL_CTX.FRAME_INTERVAL, IPL_CTX.TIMEOUT_MULT, IPL_CTX.SNR_S, IPL_CTX.TNR_K, IPL_CTX.TNR_THRESH, IPL_CTX.DARK_EN, IPL_CTX.FLAT_EN, IPL_CTX.DEF_EN, IPL_CTX.DEF_COUNT, IPL_CTX.DEF_CRC, IPL_CTX.ROI_X0, IPL_CTX.ROI_Y0, IPL_CTX.ROI_W, IPL_CTX.ROI_H, IPL_CTX.THRESH, IPL_CTX.SPAT_T, IPL_CTX.SPAT_R, IPL_CTX.TREF_ADDR, IPL_CTX.DARK_ADDR, IPL_CTX.FLAT_ADDR, IPL_CTX.DEF_ADDR]⟩

/-! ### IPL_CTX_STATE (object 0x3102, R267 of chapter 11) -/

/-- IPL_CTX_STATE.NR_SIG [31:0], RO, reset 0, now (R267): R261, as at the last frame taken. -/
def IPL_CTX_STATE.NR_SIG : Field := ⟨0x3102, 0, 32, .ro, .now, .num 0⟩
/-- IPL_CTX_STATE.DARK_STATE [33:32], RO, reset 0, now (R267): 0 NONE; 1 VALID; 2 STALE; 3 CAPTURING. -/
def IPL_CTX_STATE.DARK_STATE : Field := ⟨0x3102, 32, 2, .ro, .now, .num 0⟩
/-- IPL_CTX_STATE.FLAT_STATE [35:34], RO, reset 0, now (R267): as DARK_STATE. -/
def IPL_CTX_STATE.FLAT_STATE : Field := ⟨0x3102, 34, 2, .ro, .now, .num 0⟩
/-- IPL_CTX_STATE.DARK_ID [63:48], RO, reset 0, now (R267): ID of the dark; 0 none. -/
def IPL_CTX_STATE.DARK_ID : Field := ⟨0x3102, 48, 16, .ro, .now, .num 0⟩
/-- IPL_CTX_STATE.FLAT_ID [79:64], RO, reset 0, now (R267): ID of the flat; 0 none. -/
def IPL_CTX_STATE.FLAT_ID : Field := ⟨0x3102, 64, 16, .ro, .now, .num 0⟩
/-- IPL_CTX_STATE.FLAT_DARK_ID [95:80], RO, reset 0, now (R267): dark in use at the flat's capture. -/
def IPL_CTX_STATE.FLAT_DARK_ID : Field := ⟨0x3102, 80, 16, .ro, .now, .num 0⟩
/-- IPL_CTX_STATE.DARK_SIG [127:96], RO, reset 0, now (R267): NR_SIG at the dark's capture. -/
def IPL_CTX_STATE.DARK_SIG : Field := ⟨0x3102, 96, 32, .ro, .now, .num 0⟩
/-- IPL_CTX_STATE.FLAT_SIG [159:128], RO, reset 0, now (R267): NR_SIG at the flat's capture. -/
def IPL_CTX_STATE.FLAT_SIG : Field := ⟨0x3102, 128, 32, .ro, .now, .num 0⟩
/-- The object IPL_CTX_STATE, 0x3102: size, instances (R22, R469), reset domain (R11) and fields. -/
def Obj.IPL_CTX_STATE : ObjDesc := ⟨0x3102, 20, 0, 31, 6, [IPL_CTX_STATE.NR_SIG, IPL_CTX_STATE.DARK_STATE, IPL_CTX_STATE.FLAT_STATE, IPL_CTX_STATE.DARK_ID, IPL_CTX_STATE.FLAT_ID, IPL_CTX_STATE.FLAT_DARK_ID, IPL_CTX_STATE.DARK_SIG, IPL_CTX_STATE.FLAT_SIG]⟩

/-! ### IPL_STAT (object 0x3103, R267 of chapter 11) -/

/-- IPL_STAT.PROCESSED [31:0], RC, reset 0, now (R267): records written. -/
def IPL_STAT.PROCESSED : Field := ⟨0x3103, 0, 32, .rc, .now, .num 0⟩
/-- IPL_STAT.SHORT [47:32], RC, reset 0, now (R267): SHORT frames, TIMEOUT frames excluded. -/
def IPL_STAT.SHORT : Field := ⟨0x3103, 32, 16, .rc, .now, .num 0⟩
/-- IPL_STAT.LONG [63:48], RC, reset 0, now (R267): LONG frames. -/
def IPL_STAT.LONG : Field := ⟨0x3103, 48, 16, .rc, .now, .num 0⟩
/-- IPL_STAT.TIMEOUT [79:64], RC, reset 0, now (R267): frames ended by the watchdog. -/
def IPL_STAT.TIMEOUT : Field := ⟨0x3103, 64, 16, .rc, .now, .num 0⟩
/-- IPL_STAT.MISSING [95:80], RC, reset 0, now (R267): R255. -/
def IPL_STAT.MISSING : Field := ⟨0x3103, 80, 16, .rc, .now, .num 0⟩
/-- IPL_STAT.DROPPED [111:96], RC, reset 0, now (R267): frames dropped at a full ring. -/
def IPL_STAT.DROPPED : Field := ⟨0x3103, 96, 16, .rc, .now, .num 0⟩
/-- IPL_STAT.STALE_USE [127:112], RC, reset 0, now (R267): frames with a stage bypassed as stale. -/
def IPL_STAT.STALE_USE : Field := ⟨0x3103, 112, 16, .rc, .now, .num 0⟩
/-- The object IPL_STAT, 0x3103: size, instances (R22, R469), reset domain (R11) and fields. -/
def Obj.IPL_STAT : ObjDesc := ⟨0x3103, 16, 0, 31, 6, [IPL_STAT.PROCESSED, IPL_STAT.SHORT, IPL_STAT.LONG, IPL_STAT.TIMEOUT, IPL_STAT.MISSING, IPL_STAT.DROPPED, IPL_STAT.STALE_USE]⟩

/-! ### IPL_OUT (object 0x3110, R267 of chapter 11) -/

/-- IPL_OUT.FRING_ADDR [63:0], RW, reset 0, now (R267): DRAM address, 64-byte aligned. -/
def IPL_OUT.FRING_ADDR : Field := ⟨0x3110, 0, 64, .rw, .now, .num 0⟩
/-- IPL_OUT.FRING_LOG2 [67:64], RW, reset 6, now (R267): ring size 2^n records, 6 to 15. -/
def IPL_OUT.FRING_LOG2 : Field := ⟨0x3110, 64, 4, .rw, .now, .num 6⟩
/-- IPL_OUT.FR_EN [68:68], RW, reset 0, now (R267): 1: records written to the ring. -/
def IPL_OUT.FR_EN : Field := ⟨0x3110, 68, 1, .rw, .now, .num 0⟩
/-- IPL_OUT.FR_PROD [127:96], RO, reset 0, now (R267): records written since reset, free-running. -/
def IPL_OUT.FR_PROD : Field := ⟨0x3110, 96, 32, .ro, .now, .num 0⟩
/-- IPL_OUT.FR_CONS [159:128], RW, reset 0, now (R267): records consumed by host software. -/
def IPL_OUT.FR_CONS : Field := ⟨0x3110, 128, 32, .rw, .now, .num 0⟩
/-- IPL_OUT.FR_LOST [191:160], RO, reset 0, now (R267): records dropped from the ring; saturates. -/
def IPL_OUT.FR_LOST : Field := ⟨0x3110, 160, 32, .ro, .now, .num 0⟩
/-- The object IPL_OUT, 0x3110: size, instances (R22, R469), reset domain (R11) and fields. -/
def Obj.IPL_OUT : ObjDesc := ⟨0x3110, 24, 0, 0, 6, [IPL_OUT.FRING_ADDR, IPL_OUT.FRING_LOG2, IPL_OUT.FR_EN, IPL_OUT.FR_PROD, IPL_OUT.FR_CONS, IPL_OUT.FR_LOST]⟩

/-! ### LUM_GLOBAL (object 0x3201, R283 of chapter 12) -/

/-- LUM_GLOBAL.GLOBAL [15:0], RW, reset 0x8000, tick (R283): global level G, Q1.15, 0 to 0x8000. -/
def LUM_GLOBAL.GLOBAL : Field := ⟨0x3201, 0, 16, .rw, .tick, .num 0x8000⟩
/-- LUM_GLOBAL.GLOBAL_FADE [31:16], RW, reset 0, tick (R283): fade time of GLOBAL, ms. -/
def LUM_GLOBAL.GLOBAL_FADE : Field := ⟨0x3201, 16, 16, .rw, .tick, .num 0⟩
/-- LUM_GLOBAL.OPENCHK_MAXDEFER [47:32], RW, reset 10, now (R283): R278, s; 1 to 3,600. -/
def LUM_GLOBAL.OPENCHK_MAXDEFER : Field := ⟨0x3201, 32, 16, .rw, .now, .num 10⟩
/-- LUM_GLOBAL.SHORT_V [63:48], RW, reset 1,200, now (R283): R275, mV; 200 to 4,000. -/
def LUM_GLOBAL.SHORT_V : Field := ⟨0x3201, 48, 16, .rw, .now, .num 1200⟩
/-- The object LUM_GLOBAL, 0x3201: size, instances (R22, R469), reset domain (R11) and fields. -/
def Obj.LUM_GLOBAL : ObjDesc := ⟨0x3201, 8, 0, 0, 8, [LUM_GLOBAL.GLOBAL, LUM_GLOBAL.GLOBAL_FADE, LUM_GLOBAL.OPENCHK_MAXDEFER, LUM_GLOBAL.SHORT_V]⟩

/-! ### LUM_SINK (object 0x3202, R283 of chapter 12) -/

/-- LUM_SINK.ENABLE [0:0], RW, reset 0, tick (R283): 1: sink on. -/
def LUM_SINK.ENABLE : Field := ⟨0x3202, 0, 1, .rw, .tick, .num 0⟩
/-- LUM_SINK.MODE [1:1], RW, reset 0, tick (R283): 0 steady; 1 strobe. -/
def LUM_SINK.MODE : Field := ⟨0x3202, 1, 1, .rw, .tick, .num 0⟩
/-- LUM_SINK.CURVE [3:2], RW, reset 0, tick (R283): 0 linear; 1 gamma; 2 logarithmic (R271). -/
def LUM_SINK.CURVE : Field := ⟨0x3202, 2, 2, .rw, .tick, .num 0⟩
/-- LUM_SINK.CURVE_P [5:4], RW, reset 0, tick (R283): curve parameter (R271). -/
def LUM_SINK.CURVE_P : Field := ⟨0x3202, 4, 2, .rw, .tick, .num 0⟩
/-- LUM_SINK.GROUP [10:8], RW, reset 0, now (R283): lighting group. -/
def LUM_SINK.GROUP : Field := ⟨0x3202, 8, 3, .rw, .now, .num 0⟩
/-- LUM_SINK.STROBE_PORT [14:12], RW, reset 0, tick (R283): camera port whose CTRIG starts strobes. -/
def LUM_SINK.STROBE_PORT : Field := ⟨0x3202, 12, 3, .rw, .tick, .num 0⟩
/-- LUM_SINK.LEVEL [31:16], RW, reset 0, tick (R283): level B, target of the fade. -/
def LUM_SINK.LEVEL : Field := ⟨0x3202, 16, 16, .rw, .tick, .num 0⟩
/-- LUM_SINK.FADE [47:32], RW, reset 0, tick (R283): fade time, ms. -/
def LUM_SINK.FADE : Field := ⟨0x3202, 32, 16, .rw, .tick, .num 0⟩
/-- LUM_SINK.IMAX [63:48], RW, reset 0, tick (R283): current at E = 65,535, µA; 0 to 60,000. -/
def LUM_SINK.IMAX : Field := ⟨0x3202, 48, 16, .rw, .tick, .num 0⟩
/-- LUM_SINK.HYB_TH [79:64], RW, reset 6,000, tick (R283): dimming threshold and diagnostic current, µA; 500 to 60,000. -/
def LUM_SINK.HYB_TH : Field := ⟨0x3202, 64, 16, .rw, .tick, .num 6000⟩
/-- LUM_SINK.STROBE_I [95:80], RW, reset 0, tick (R283): strobe current, µA; 0 to 60,000. -/
def LUM_SINK.STROBE_I : Field := ⟨0x3202, 80, 16, .rw, .tick, .num 0⟩
/-- LUM_SINK.PERIOD [127:96], RW, reset 50,000, tick (R283): ns; 10,000 to 1,000,000, a multiple of 8 that divides 10⁹. -/
def LUM_SINK.PERIOD : Field := ⟨0x3202, 96, 32, .rw, .tick, .num 50000⟩
/-- LUM_SINK.PHASE [159:128], RW, reset 0, tick (R283): ns; a multiple of 8, less than PERIOD. -/
def LUM_SINK.PHASE : Field := ⟨0x3202, 128, 32, .rw, .tick, .num 0⟩
/-- LUM_SINK.STROBE_W [175:160], RW, reset 500, tick (R283): strobe length, units of 8 ns; 1 to 65,535. -/
def LUM_SINK.STROBE_W : Field := ⟨0x3202, 160, 16, .rw, .tick, .num 500⟩
/-- The object LUM_SINK, 0x3202: size, instances (R22, R469), reset domain (R11) and fields. -/
def Obj.LUM_SINK : ObjDesc := ⟨0x3202, 24, 0, 15, 8, [LUM_SINK.ENABLE, LUM_SINK.MODE, LUM_SINK.CURVE, LUM_SINK.CURVE_P, LUM_SINK.GROUP, LUM_SINK.STROBE_PORT, LUM_SINK.LEVEL, LUM_SINK.FADE, LUM_SINK.IMAX, LUM_SINK.HYB_TH, LUM_SINK.STROBE_I, LUM_SINK.PERIOD, LUM_SINK.PHASE, LUM_SINK.STROBE_W]⟩

/-! ### LUM_SINK_STATE (object 0x3203, R283 of chapter 12) -/

/-- LUM_SINK_STATE.OPEN_STATE [1:0], RO, reset 0, now (R283): 0 UNKNOWN; 1 OK; 2 OPEN; 3 UNVERIFIED. -/
def LUM_SINK_STATE.OPEN_STATE : Field := ⟨0x3203, 0, 2, .ro, .now, .num 0⟩
/-- LUM_SINK_STATE.LAST_RESULT [3:2], RO, reset 0, now (R283): 0 none; 1 OK; 2 OPEN. -/
def LUM_SINK_STATE.LAST_RESULT : Field := ⟨0x3203, 2, 2, .ro, .now, .num 0⟩
/-- LUM_SINK_STATE.SHORT_LO [4:4], RO, reset 0, now (R283): shorted to LSn−1. -/
def LUM_SINK_STATE.SHORT_LO : Field := ⟨0x3203, 4, 1, .ro, .now, .num 0⟩
/-- LUM_SINK_STATE.SHORT_HI [5:5], RO, reset 0, now (R283): shorted to LSn+1. -/
def LUM_SINK_STATE.SHORT_HI : Field := ⟨0x3203, 5, 1, .ro, .now, .num 0⟩
/-- LUM_SINK_STATE.DIAG_DUE [6:6], RO, reset 0, now (R283): R278. -/
def LUM_SINK_STATE.DIAG_DUE : Field := ⟨0x3203, 6, 1, .ro, .now, .num 0⟩
/-- LUM_SINK_STATE.DRIVE [7:7], RO, reset 0, now (R283): 0 analogue or off; 1 pulsed. -/
def LUM_SINK_STATE.DRIVE : Field := ⟨0x3203, 7, 1, .ro, .now, .num 0⟩
/-- LUM_SINK_STATE.LEVEL_NOW [31:16], RO, reset 0, now (R283): B at the latest period start. -/
def LUM_SINK_STATE.LEVEL_NOW : Field := ⟨0x3203, 16, 16, .ro, .now, .num 0⟩
/-- LUM_SINK_STATE.E_NOW [47:32], RO, reset 0, now (R283): E at the latest period start. -/
def LUM_SINK_STATE.E_NOW : Field := ⟨0x3203, 32, 16, .ro, .now, .num 0⟩
/-- LUM_SINK_STATE.I_NOW [63:48], RO, reset 0, now (R283): I_t, µA. -/
def LUM_SINK_STATE.I_NOW : Field := ⟨0x3203, 48, 16, .ro, .now, .num 0⟩
/-- LUM_SINK_STATE.SINCE_CHECK [95:64], RO, reset 0, now (R283): ms; saturates. -/
def LUM_SINK_STATE.SINCE_CHECK : Field := ⟨0x3203, 64, 32, .ro, .now, .num 0⟩
/-- LUM_SINK_STATE.DIAG_DEFERS [111:96], RO, reset 0, now (R283): NO_WINDOW outcomes; saturates. -/
def LUM_SINK_STATE.DIAG_DEFERS : Field := ⟨0x3203, 96, 16, .ro, .now, .num 0⟩
/-- The object LUM_SINK_STATE, 0x3203: size, instances (R22, R469), reset domain (R11) and fields. -/
def Obj.LUM_SINK_STATE : ObjDesc := ⟨0x3203, 16, 0, 15, 8, [LUM_SINK_STATE.OPEN_STATE, LUM_SINK_STATE.LAST_RESULT, LUM_SINK_STATE.SHORT_LO, LUM_SINK_STATE.SHORT_HI, LUM_SINK_STATE.DIAG_DUE, LUM_SINK_STATE.DRIVE, LUM_SINK_STATE.LEVEL_NOW, LUM_SINK_STATE.E_NOW, LUM_SINK_STATE.I_NOW, LUM_SINK_STATE.SINCE_CHECK, LUM_SINK_STATE.DIAG_DEFERS]⟩

/-! ### LUM_SINK_CTRL (object 0x3204, R283 of chapter 12) -/

/-- LUM_SINK_CTRL.CLEAR_SHORT [0:0], WO, reset 0, now (R283): 1: release the sink and its shorted neighbour (R275). -/
def LUM_SINK_CTRL.CLEAR_SHORT : Field := ⟨0x3204, 0, 1, .wo, .now, .num 0⟩
/-- The object LUM_SINK_CTRL, 0x3204: size, instances (R22, R469), reset domain (R11) and fields. -/
def Obj.LUM_SINK_CTRL : ObjDesc := ⟨0x3204, 4, 0, 15, 8, [LUM_SINK_CTRL.CLEAR_SHORT]⟩

/-! ### LUM_SHW (object 0x3210, R283 of chapter 12) -/

/-- LUM_SHW.ENABLE [0:0], RW, reset 0, now (R283): 1: frames sent. -/
def LUM_SHW.ENABLE : Field := ⟨0x3210, 0, 1, .rw, .now, .num 0⟩
/-- LUM_SHW.RTN_EN [1:1], RW, reset 0, now (R283): 1: return judged (R283). -/
def LUM_SHW.RTN_EN : Field := ⟨0x3210, 1, 1, .rw, .now, .num 0⟩
/-- LUM_SHW.UPDATE [2:2], WO, reset 0, now (R283): 1: take a new snapshot (R282). -/
def LUM_SHW.UPDATE : Field := ⟨0x3210, 2, 1, .wo, .now, .num 0⟩
/-- LUM_SHW.DRIVERS [15:8], RW, reset 1, now (R283): drivers addressed, 1 to 128. -/
def LUM_SHW.DRIVERS : Field := ⟨0x3210, 8, 8, .rw, .now, .num 1⟩
/-- LUM_SHW.REFRESH [31:16], RW, reset 20, now (R283): ms; 13 to 1,000, dividing 1,000. -/
def LUM_SHW.REFRESH : Field := ⟨0x3210, 16, 16, .rw, .now, .num 20⟩
/-- LUM_SHW.TABLE_ADDR [95:32], RW, reset 0, now (R283): DRAM address (R43), 8-byte aligned. -/
def LUM_SHW.TABLE_ADDR : Field := ⟨0x3210, 32, 64, .rw, .now, .num 0⟩
/-- The object LUM_SHW, 0x3210: size, instances (R22, R469), reset domain (R11) and fields. -/
def Obj.LUM_SHW : ObjDesc := ⟨0x3210, 12, 16, 17, 8, [LUM_SHW.ENABLE, LUM_SHW.RTN_EN, LUM_SHW.UPDATE, LUM_SHW.DRIVERS, LUM_SHW.REFRESH, LUM_SHW.TABLE_ADDR]⟩

/-! ### LUM_SHW_STATE (object 0x3211, R283 of chapter 12) -/

/-- LUM_SHW_STATE.RTN_STATE [1:0], RO, reset 0, now (R283): 0 not judged; 1 OK; 2 SHORT_CHAIN; 3 NONE. -/
def LUM_SHW_STATE.RTN_STATE : Field := ⟨0x3211, 0, 2, .ro, .now, .num 0⟩
/-- LUM_SHW_STATE.DRIVERS_SEEN [15:8], RO, reset 0, now (R283): R283. -/
def LUM_SHW_STATE.DRIVERS_SEEN : Field := ⟨0x3211, 8, 8, .ro, .now, .num 0⟩
/-- LUM_SHW_STATE.FRAME_NO [31:16], RO, reset 0, now (R283): number of the latest frame. -/
def LUM_SHW_STATE.FRAME_NO : Field := ⟨0x3211, 16, 16, .ro, .now, .num 0⟩
/-- LUM_SHW_STATE.FRAMES [63:32], RO, reset 0, now (R283): frames sent; saturates. -/
def LUM_SHW_STATE.FRAMES : Field := ⟨0x3211, 32, 32, .ro, .now, .num 0⟩
/-- LUM_SHW_STATE.RTN_ERR [79:64], RO, reset 0, now (R283): frames not OK; saturates. -/
def LUM_SHW_STATE.RTN_ERR : Field := ⟨0x3211, 64, 16, .ro, .now, .num 0⟩
/-- The object LUM_SHW_STATE, 0x3211: size, instances (R22, R469), reset domain (R11) and fields. -/
def Obj.LUM_SHW_STATE : ObjDesc := ⟨0x3211, 12, 16, 17, 8, [LUM_SHW_STATE.RTN_STATE, LUM_SHW_STATE.DRIVERS_SEEN, LUM_SHW_STATE.FRAME_NO, LUM_SHW_STATE.FRAMES, LUM_SHW_STATE.RTN_ERR]⟩

/-! ### MOT_CONFIG (object 0x4001, R311 of chapter 13) -/

/-- MOT_CONFIG.ENABLE [0:0], RW, reset 0, now (R311): 1: axis enabled. -/
def MOT_CONFIG.ENABLE : Field := ⟨0x4001, 0, 1, .rw, .now, .num 0⟩
/-- MOT_CONFIG.DIR_INV [1:1], RW, reset 0, now (R311): 1: MDIR inverted. -/
def MOT_CONFIG.DIR_INV : Field := ⟨0x4001, 1, 1, .rw, .now, .num 0⟩
/-- MOT_CONFIG.LIM_EN [2:2], RW, reset 0, now (R311): 1: virtual limits on. -/
def MOT_CONFIG.LIM_EN : Field := ⟨0x4001, 2, 1, .rw, .now, .num 0⟩
/-- MOT_CONFIG.ENC_SRC [7:3], RW, reset 31, now (R311): 0 to 7 incremental, 8 to 11 SSI, 31 none. -/
def MOT_CONFIG.ENC_SRC : Field := ⟨0x4001, 3, 5, .rw, .now, .num 31⟩
/-- MOT_CONFIG.STEP_W [15:8], RW, reset 25, now (R311): step pulse width, 8 ns units; 1 to 255. -/
def MOT_CONFIG.STEP_W : Field := ⟨0x4001, 8, 8, .rw, .now, .num 25⟩
/-- MOT_CONFIG.DIR_SETUP [23:16], RW, reset 25, now (R311): 8 ns units; 0 to 125. -/
def MOT_CONFIG.DIR_SETUP : Field := ⟨0x4001, 16, 8, .rw, .now, .num 25⟩
/-- MOT_CONFIG.VMAX [63:32], RW, reset 10,000, now (R311): steps/s; 1 to 2,000,000. -/
def MOT_CONFIG.VMAX : Field := ⟨0x4001, 32, 32, .rw, .now, .num 10000⟩
/-- MOT_CONFIG.AMAX [95:64], RW, reset 100,000, now (R311): steps/s²; 1 to 1,000,000,000. -/
def MOT_CONFIG.AMAX : Field := ⟨0x4001, 64, 32, .rw, .now, .num 100000⟩
/-- MOT_CONFIG.JMAX [127:96], RW, reset 10,000, now (R311): 1,000 steps/s³; 1 to 4,000,000,000. -/
def MOT_CONFIG.JMAX : Field := ⟨0x4001, 96, 32, .rw, .now, .num 10000⟩
/-- MOT_CONFIG.LIM_LO [159:128], RW, reset 0, now (R311): signed steps. -/
def MOT_CONFIG.LIM_LO : Field := ⟨0x4001, 128, 32, .rw, .now, .num 0⟩
/-- MOT_CONFIG.LIM_HI [191:160], RW, reset 0, now (R311): signed steps. -/
def MOT_CONFIG.LIM_HI : Field := ⟨0x4001, 160, 32, .rw, .now, .num 0⟩
/-- MOT_CONFIG.CUR_UP [223:192], RW, reset 5,000, now (R311): steps/s. -/
def MOT_CONFIG.CUR_UP : Field := ⟨0x4001, 192, 32, .rw, .now, .num 5000⟩
/-- MOT_CONFIG.CUR_DN [255:224], RW, reset 4,000, now (R311): steps/s. -/
def MOT_CONFIG.CUR_DN : Field := ⟨0x4001, 224, 32, .rw, .now, .num 4000⟩
/-- MOT_CONFIG.ENC_NUM [271:256], RW, reset 1, now (R311): counts per ENC_DEN steps; 1 to 65,535. -/
def MOT_CONFIG.ENC_NUM : Field := ⟨0x4001, 256, 16, .rw, .now, .num 1⟩
/-- MOT_CONFIG.ENC_DEN [287:272], RW, reset 1, now (R311): 1 to 65,535. -/
def MOT_CONFIG.ENC_DEN : Field := ⟨0x4001, 272, 16, .rw, .now, .num 1⟩
/-- MOT_CONFIG.DEV_WIN [303:288], RW, reset 0, now (R311): counts; 0 disables the stall test. -/
def MOT_CONFIG.DEV_WIN : Field := ⟨0x4001, 288, 16, .rw, .now, .num 0⟩
/-- MOT_CONFIG.DEV_TICKS [311:304], RW, reset 4, now (R311): 1 to 255. -/
def MOT_CONFIG.DEV_TICKS : Field := ⟨0x4001, 304, 8, .rw, .now, .num 4⟩
/-- The object MOT_CONFIG, 0x4001: size, instances (R22, R469), reset domain (R11) and fields. -/
def Obj.MOT_CONFIG : ObjDesc := ⟨0x4001, 40, 0, 7, 7, [MOT_CONFIG.ENABLE, MOT_CONFIG.DIR_INV, MOT_CONFIG.LIM_EN, MOT_CONFIG.ENC_SRC, MOT_CONFIG.STEP_W, MOT_CONFIG.DIR_SETUP, MOT_CONFIG.VMAX, MOT_CONFIG.AMAX, MOT_CONFIG.JMAX, MOT_CONFIG.LIM_LO, MOT_CONFIG.LIM_HI, MOT_CONFIG.CUR_UP, MOT_CONFIG.CUR_DN, MOT_CONFIG.ENC_NUM, MOT_CONFIG.ENC_DEN, MOT_CONFIG.DEV_WIN, MOT_CONFIG.DEV_TICKS]⟩

/-! ### MOT_STATE (object 0x4002, R311 of chapter 13) -/

/-- MOT_STATE.STATE [2:0], RO, reset 0, now (R311): 0 DISABLED; 1 IDLE; 2 MOVING; 3 STOPPING; 4 STOPPED_KEPT; 5 FAULT. -/
def MOT_STATE.STATE : Field := ⟨0x4002, 0, 3, .ro, .now, .num 0⟩
/-- MOT_STATE.CUR_MODE [3:3], RO, reset 0, now (R311): MCUR level. -/
def MOT_STATE.CUR_MODE : Field := ⟨0x4002, 3, 1, .ro, .now, .num 0⟩
/-- MOT_STATE.DIR [4:4], RO, reset 0, now (R311): MDIR level before inversion. -/
def MOT_STATE.DIR : Field := ⟨0x4002, 4, 1, .ro, .now, .num 0⟩
/-- MOT_STATE.IN_RECOAT [5:5], RO, reset 0, now (R311): 1 while the recoat sequence uses the axis. -/
def MOT_STATE.IN_RECOAT : Field := ⟨0x4002, 5, 1, .ro, .now, .num 0⟩
/-- MOT_STATE.FAULT_CAUSE [7:6], RO, reset 0, now (R311): 0 none; 1 stall; 2 driver; 3 input. -/
def MOT_STATE.FAULT_CAUSE : Field := ⟨0x4002, 6, 2, .ro, .now, .num 0⟩
/-- MOT_STATE.POS_CMD [63:32], RO, reset 0, now (R311): signed steps. -/
def MOT_STATE.POS_CMD : Field := ⟨0x4002, 32, 32, .ro, .now, .num 0⟩
/-- MOT_STATE.TARGET [95:64], RO, reset 0, now (R311): target in force, or KEPT_TARGET. -/
def MOT_STATE.TARGET : Field := ⟨0x4002, 64, 32, .ro, .now, .num 0⟩
/-- MOT_STATE.REMAIN [127:96], RO, reset 0, now (R311): TARGET − POS_CMD. -/
def MOT_STATE.REMAIN : Field := ⟨0x4002, 96, 32, .ro, .now, .num 0⟩
/-- MOT_STATE.VEL [159:128], RO, reset 0, now (R311): v, steps/s, rounded towards zero. -/
def MOT_STATE.VEL : Field := ⟨0x4002, 128, 32, .ro, .now, .num 0⟩
/-- MOT_STATE.DEV [191:160], RO, reset 0, now (R311): dev of R296, signed counts. -/
def MOT_STATE.DEV : Field := ⟨0x4002, 160, 32, .ro, .now, .num 0⟩
/-- The object MOT_STATE, 0x4002: size, instances (R22, R469), reset domain (R11) and fields. -/
def Obj.MOT_STATE : ObjDesc := ⟨0x4002, 24, 0, 7, 7, [MOT_STATE.STATE, MOT_STATE.CUR_MODE, MOT_STATE.DIR, MOT_STATE.IN_RECOAT, MOT_STATE.FAULT_CAUSE, MOT_STATE.POS_CMD, MOT_STATE.TARGET, MOT_STATE.REMAIN, MOT_STATE.VEL, MOT_STATE.DEV]⟩

/-! ### MOT_STAT (object 0x4003, R311 of chapter 13) -/

/-- MOT_STAT.MOT_OVERWRITES [31:0], RC, reset 0, now (R311): targets never taken (R290). -/
def MOT_STAT.MOT_OVERWRITES : Field := ⟨0x4003, 0, 32, .rc, .now, .num 0⟩
/-- MOT_STAT.LIMIT_REFUSED [47:32], RC, reset 0, now (R311): R291. -/
def MOT_STAT.LIMIT_REFUSED : Field := ⟨0x4003, 32, 16, .rc, .now, .num 0⟩
/-- MOT_STAT.STALLS [63:48], RC, reset 0, now (R311): R296. -/
def MOT_STAT.STALLS : Field := ⟨0x4003, 48, 16, .rc, .now, .num 0⟩
/-- MOT_STAT.CUR_SWITCHES [95:64], RC, reset 0, now (R311): R295. -/
def MOT_STAT.CUR_SWITCHES : Field := ⟨0x4003, 64, 32, .rc, .now, .num 0⟩
/-- MOT_STAT.EXPOSE_CUTS [111:96], RC, reset 0, now (R311): R292. -/
def MOT_STAT.EXPOSE_CUTS : Field := ⟨0x4003, 96, 16, .rc, .now, .num 0⟩
/-- The object MOT_STAT, 0x4003: size, instances (R22, R469), reset domain (R11) and fields. -/
def Obj.MOT_STAT : ObjDesc := ⟨0x4003, 16, 0, 7, 7, [MOT_STAT.MOT_OVERWRITES, MOT_STAT.LIMIT_REFUSED, MOT_STAT.STALLS, MOT_STAT.CUR_SWITCHES, MOT_STAT.EXPOSE_CUTS]⟩

/-! ### MOT_RECOAT (object 0x4010, R311 of chapter 13) -/

/-- MOT_RECOAT.RC_EN [0:0], RW, reset 0, tide mark (R311): 1: recoat sequence runs in each Slack. -/
def MOT_RECOAT.RC_EN : Field := ⟨0x4010, 0, 1, .rw, .tideMark, .num 0⟩
/-- MOT_RECOAT.BIDIR [1:1], RW, reset 0, tide mark (R311): 1: alternate strokes. -/
def MOT_RECOAT.BIDIR : Field := ⟨0x4010, 1, 1, .rw, .tideMark, .num 0⟩
/-- MOT_RECOAT.PLAT_AXIS [4:2], RW, reset 0, tide mark (R311): platform axis. -/
def MOT_RECOAT.PLAT_AXIS : Field := ⟨0x4010, 2, 3, .rw, .tideMark, .num 0⟩
/-- MOT_RECOAT.RC_AXIS [7:5], RW, reset 1, tide mark (R311): recoater axis. -/
def MOT_RECOAT.RC_AXIS : Field := ⟨0x4010, 5, 3, .rw, .tideMark, .num 1⟩
/-- MOT_RECOAT.CMP_REARM [15:8], RW, reset 0, tide mark (R311): bit u: re-arm compare unit u. -/
def MOT_RECOAT.CMP_REARM : Field := ⟨0x4010, 8, 8, .rw, .tideMark, .num 0⟩
/-- MOT_RECOAT.PLAT_STEP [63:32], RW, reset 0, tide mark (R311): platform move per layer, signed steps. -/
def MOT_RECOAT.PLAT_STEP : Field := ⟨0x4010, 32, 32, .rw, .tideMark, .num 0⟩
/-- MOT_RECOAT.RC_HOME [95:64], RW, reset 0, tide mark (R311): signed steps. -/
def MOT_RECOAT.RC_HOME : Field := ⟨0x4010, 64, 32, .rw, .tideMark, .num 0⟩
/-- MOT_RECOAT.RC_FAR [127:96], RW, reset 0, tide mark (R311): signed steps. -/
def MOT_RECOAT.RC_FAR : Field := ⟨0x4010, 96, 32, .rw, .tideMark, .num 0⟩
/-- MOT_RECOAT.RC_SETTLE [143:128], RW, reset 0, tide mark (R311): µs. -/
def MOT_RECOAT.RC_SETTLE : Field := ⟨0x4010, 128, 16, .rw, .tideMark, .num 0⟩
/-- The object MOT_RECOAT, 0x4010: size, instances (R22, R469), reset domain (R11) and fields. -/
def Obj.MOT_RECOAT : ObjDesc := ⟨0x4010, 20, 0, 0, 7, [MOT_RECOAT.RC_EN, MOT_RECOAT.BIDIR, MOT_RECOAT.PLAT_AXIS, MOT_RECOAT.RC_AXIS, MOT_RECOAT.CMP_REARM, MOT_RECOAT.PLAT_STEP, MOT_RECOAT.RC_HOME, MOT_RECOAT.RC_FAR, MOT_RECOAT.RC_SETTLE]⟩

/-! ### PFI_INC (object 0x4101, R311 of chapter 13) -/

/-- PFI_INC.FILT [7:0], RW, reset 4, now (R311): 8 ns units. -/
def PFI_INC.FILT : Field := ⟨0x4101, 0, 8, .rw, .now, .num 4⟩
/-- PFI_INC.INV [8:8], RW, reset 0, now (R311): 1: count direction inverted. -/
def PFI_INC.INV : Field := ⟨0x4101, 8, 1, .rw, .now, .num 0⟩
/-- PFI_INC.GATE_Z [9:9], RW, reset 1, now (R311): R301. -/
def PFI_INC.GATE_Z : Field := ⟨0x4101, 9, 1, .rw, .now, .num 1⟩
/-- PFI_INC.ZERO_MODE [11:10], RW, reset 0, now (R311): R303; 3 reserved. -/
def PFI_INC.ZERO_MODE : Field := ⟨0x4101, 10, 2, .rw, .now, .num 0⟩
/-- PFI_INC.LINES [47:16], RW, reset 0, now (R311): lines per revolution; 0 disables the check. -/
def PFI_INC.LINES : Field := ⟨0x4101, 16, 32, .rw, .now, .num 0⟩
/-- PFI_INC.TOL [55:48], RW, reset 2, now (R311): counts. -/
def PFI_INC.TOL : Field := ⟨0x4101, 48, 8, .rw, .now, .num 2⟩
/-- PFI_INC.MISMATCH_MAX [59:56], RW, reset 3, now (R311): 1 to 15. -/
def PFI_INC.MISMATCH_MAX : Field := ⟨0x4101, 56, 4, .rw, .now, .num 3⟩
/-- PFI_INC.ZERO_VALUE [95:64], RW, reset 0, now (R311): signed counts. -/
def PFI_INC.ZERO_VALUE : Field := ⟨0x4101, 64, 32, .rw, .now, .num 0⟩
/-- The object PFI_INC, 0x4101: size, instances (R22, R469), reset domain (R11) and fields. -/
def Obj.PFI_INC : ObjDesc := ⟨0x4101, 12, 0, 7, 7, [PFI_INC.FILT, PFI_INC.INV, PFI_INC.GATE_Z, PFI_INC.ZERO_MODE, PFI_INC.LINES, PFI_INC.TOL, PFI_INC.MISMATCH_MAX, PFI_INC.ZERO_VALUE]⟩

/-! ### PFI_SSI (object 0x4102, R311 of chapter 13) -/

/-- PFI_SSI.ENABLE [0:0], RW, reset 0, now (R311): 1: readings taken. -/
def PFI_SSI.ENABLE : Field := ⟨0x4102, 0, 1, .rw, .now, .num 0⟩
/-- PFI_SSI.GRAY [1:1], RW, reset 1, now (R311): 1: Gray code. -/
def PFI_SSI.GRAY : Field := ⟨0x4102, 1, 1, .rw, .now, .num 1⟩
/-- PFI_SSI.BITS [13:8], RW, reset 25, now (R311): 8 to 32. -/
def PFI_SSI.BITS : Field := ⟨0x4102, 8, 6, .rw, .now, .num 25⟩
/-- PFI_SSI.CLK_KHZ [31:16], RW, reset 2,000, now (R311): 100 to 4,000. -/
def PFI_SSI.CLK_KHZ : Field := ⟨0x4102, 16, 16, .rw, .now, .num 2000⟩
/-- PFI_SSI.MONO_US [39:32], RW, reset 20, now (R311): 1 to 60. -/
def PFI_SSI.MONO_US : Field := ⟨0x4102, 32, 8, .rw, .now, .num 20⟩
/-- PFI_SSI.RATE_DIV [43:40], RW, reset 3, now (R311): 1 to 15. -/
def PFI_SSI.RATE_DIV : Field := ⟨0x4102, 40, 4, .rw, .now, .num 3⟩
/-- PFI_SSI.ERR_MAX [47:44], RW, reset 3, now (R311): 1 to 15. -/
def PFI_SSI.ERR_MAX : Field := ⟨0x4102, 44, 4, .rw, .now, .num 3⟩
/-- The object PFI_SSI, 0x4102: size, instances (R22, R469), reset domain (R11) and fields. -/
def Obj.PFI_SSI : ObjDesc := ⟨0x4102, 6, 0, 3, 7, [PFI_SSI.ENABLE, PFI_SSI.GRAY, PFI_SSI.BITS, PFI_SSI.CLK_KHZ, PFI_SSI.MONO_US, PFI_SSI.RATE_DIV, PFI_SSI.ERR_MAX]⟩

/-! ### PFI_INC_STATE (object 0x4103, R311 of chapter 13) -/

/-- PFI_INC_STATE.POS [31:0], RO, reset 0, now (R311): count. -/
def PFI_INC_STATE.POS : Field := ⟨0x4103, 0, 32, .ro, .now, .num 0⟩
/-- PFI_INC_STATE.IDX_POS [63:32], RO, reset 0, now (R311): R301. -/
def PFI_INC_STATE.IDX_POS : Field := ⟨0x4103, 32, 32, .ro, .now, .num 0⟩
/-- PFI_INC_STATE.IDX_DIFF [95:64], RO, reset 0, now (R311): latest D. -/
def PFI_INC_STATE.IDX_DIFF : Field := ⟨0x4103, 64, 32, .ro, .now, .num 0⟩
/-- PFI_INC_STATE.IDX_STICKY [96:96], RO, reset 0, now (R311): R302. -/
def PFI_INC_STATE.IDX_STICKY : Field := ⟨0x4103, 96, 1, .ro, .now, .num 0⟩
/-- PFI_INC_STATE.FAULT [97:97], RO, reset 0, now (R311): R302. -/
def PFI_INC_STATE.FAULT : Field := ⟨0x4103, 97, 1, .ro, .now, .num 0⟩
/-- PFI_INC_STATE.DIR [98:98], RO, reset 0, now (R311): 1 positive. -/
def PFI_INC_STATE.DIR : Field := ⟨0x4103, 98, 1, .ro, .now, .num 0⟩
/-- PFI_INC_STATE.MISS_RUN [103:100], RO, reset 0, now (R311): consecutive mismatches. -/
def PFI_INC_STATE.MISS_RUN : Field := ⟨0x4103, 100, 4, .ro, .now, .num 0⟩
/-- PFI_INC_STATE.PFI_INDEX_ERR [143:128], RO, reset 0, now (R311): mismatches; saturates. -/
def PFI_INC_STATE.PFI_INDEX_ERR : Field := ⟨0x4103, 128, 16, .ro, .now, .num 0⟩
/-- PFI_INC_STATE.QERR [159:144], RO, reset 0, now (R311): saturates. -/
def PFI_INC_STATE.QERR : Field := ⟨0x4103, 144, 16, .ro, .now, .num 0⟩
/-- PFI_INC_STATE.UNCHECKED [175:160], RO, reset 0, now (R311): saturates. -/
def PFI_INC_STATE.UNCHECKED : Field := ⟨0x4103, 160, 16, .ro, .now, .num 0⟩
/-- The object PFI_INC_STATE, 0x4103: size, instances (R22, R469), reset domain (R11) and fields. -/
def Obj.PFI_INC_STATE : ObjDesc := ⟨0x4103, 22, 0, 7, 7, [PFI_INC_STATE.POS, PFI_INC_STATE.IDX_POS, PFI_INC_STATE.IDX_DIFF, PFI_INC_STATE.IDX_STICKY, PFI_INC_STATE.FAULT, PFI_INC_STATE.DIR, PFI_INC_STATE.MISS_RUN, PFI_INC_STATE.PFI_INDEX_ERR, PFI_INC_STATE.QERR, PFI_INC_STATE.UNCHECKED]⟩

/-! ### PFI_SSI_STATE (object 0x4104, R311 of chapter 13) -/

/-- PFI_SSI_STATE.RAW [31:0], RO, reset 0, now (R311): latest good value, decoded. -/
def PFI_SSI_STATE.RAW : Field := ⟨0x4104, 0, 32, .ro, .now, .num 0⟩
/-- PFI_SSI_STATE.POS [63:32], RO, reset 0, now (R311): R304. -/
def PFI_SSI_STATE.POS : Field := ⟨0x4104, 32, 32, .ro, .now, .num 0⟩
/-- PFI_SSI_STATE.SSI_ERRS [79:64], RO, reset 0, now (R311): saturates. -/
def PFI_SSI_STATE.SSI_ERRS : Field := ⟨0x4104, 64, 16, .ro, .now, .num 0⟩
/-- PFI_SSI_STATE.FAULT [80:80], RO, reset 0, now (R311): R305. -/
def PFI_SSI_STATE.FAULT : Field := ⟨0x4104, 80, 1, .ro, .now, .num 0⟩
/-- The object PFI_SSI_STATE, 0x4104: size, instances (R22, R469), reset domain (R11) and fields. -/
def Obj.PFI_SSI_STATE : ObjDesc := ⟨0x4104, 12, 0, 3, 7, [PFI_SSI_STATE.RAW, PFI_SSI_STATE.POS, PFI_SSI_STATE.SSI_ERRS, PFI_SSI_STATE.FAULT]⟩

/-! ### PFI_CLEAR (object 0x4105, R311 of chapter 13) -/

/-- PFI_CLEAR.INC_STICKY [7:0], WO, reset 0, now (R311): bit i: clear IDX_STICKY of input i. -/
def PFI_CLEAR.INC_STICKY : Field := ⟨0x4105, 0, 8, .wo, .now, .num 0⟩
/-- PFI_CLEAR.INC_FAULT [15:8], WO, reset 0, now (R311): bit i: clear FAULT and MISS_RUN of input i. -/
def PFI_CLEAR.INC_FAULT : Field := ⟨0x4105, 8, 8, .wo, .now, .num 0⟩
/-- PFI_CLEAR.SSI_FAULT [19:16], WO, reset 0, now (R311): bit i: clear FAULT of SSI input i. -/
def PFI_CLEAR.SSI_FAULT : Field := ⟨0x4105, 16, 4, .wo, .now, .num 0⟩
/-- PFI_CLEAR.CMP_STICKY [31:24], WO, reset 0, now (R311): bit u: clear MISSED_STICKY of unit u. -/
def PFI_CLEAR.CMP_STICKY : Field := ⟨0x4105, 24, 8, .wo, .now, .num 0⟩
/-- The object PFI_CLEAR, 0x4105: size, instances (R22, R469), reset domain (R11) and fields. -/
def Obj.PFI_CLEAR : ObjDesc := ⟨0x4105, 4, 0, 0, 7, [PFI_CLEAR.INC_STICKY, PFI_CLEAR.INC_FAULT, PFI_CLEAR.SSI_FAULT, PFI_CLEAR.CMP_STICKY]⟩

/-! ### PFI_CMP (object 0x4110, R311 of chapter 13) -/

/-- PFI_CMP.ARM [0:0], RW, reset 0, now (R311): R307. -/
def PFI_CMP.ARM : Field := ⟨0x4110, 0, 1, .rw, .now, .num 0⟩
/-- PFI_CMP.CATCH [1:1], RW, reset 0, now (R311): R308. -/
def PFI_CMP.CATCH : Field := ⟨0x4110, 1, 1, .rw, .now, .num 0⟩
/-- PFI_CMP.SRC [6:2], RW, reset 0, now (R311): R306. -/
def PFI_CMP.SRC : Field := ⟨0x4110, 2, 5, .rw, .now, .num 0⟩
/-- PFI_CMP.OUT_POL [7:7], RW, reset 0, now (R311): 1: CMPO inverted. -/
def PFI_CMP.OUT_POL : Field := ⟨0x4110, 7, 1, .rw, .now, .num 0⟩
/-- PFI_CMP.CATCH_WIN [15:8], RW, reset 4, now (R311): counts. -/
def PFI_CMP.CATCH_WIN : Field := ⟨0x4110, 8, 8, .rw, .now, .num 4⟩
/-- PFI_CMP.PULSE_W [31:16], RW, reset 125, now (R311): 8 ns units; 1 to 65,535. -/
def PFI_CMP.PULSE_W : Field := ⟨0x4110, 16, 16, .rw, .now, .num 125⟩
/-- PFI_CMP.LIST_ADDR [95:32], RW, reset 0, now (R311): 8-byte aligned. -/
def PFI_CMP.LIST_ADDR : Field := ⟨0x4110, 32, 64, .rw, .now, .num 0⟩
/-- PFI_CMP.LIST_COUNT [108:96], RW, reset 0, now (R311): 1 to 4,096. -/
def PFI_CMP.LIST_COUNT : Field := ⟨0x4110, 96, 13, .rw, .now, .num 0⟩
/-- PFI_CMP.LIST_CRC [159:128], RW, reset 0, now (R311): CRC-32C over the list. -/
def PFI_CMP.LIST_CRC : Field := ⟨0x4110, 128, 32, .rw, .now, .num 0⟩
/-- PFI_CMP.LOG_ADDR [223:160], RW, reset 0, now (R311): status log, 4,096 bytes. -/
def PFI_CMP.LOG_ADDR : Field := ⟨0x4110, 160, 64, .rw, .now, .num 0⟩
/-- The object PFI_CMP, 0x4110: size, instances (R22, R469), reset domain (R11) and fields. -/
def Obj.PFI_CMP : ObjDesc := ⟨0x4110, 28, 0, 7, 7, [PFI_CMP.ARM, PFI_CMP.CATCH, PFI_CMP.SRC, PFI_CMP.OUT_POL, PFI_CMP.CATCH_WIN, PFI_CMP.PULSE_W, PFI_CMP.LIST_ADDR, PFI_CMP.LIST_COUNT, PFI_CMP.LIST_CRC, PFI_CMP.LOG_ADDR]⟩

/-! ### PFI_CMP_STATE (object 0x4111, R311 of chapter 13) -/

/-- PFI_CMP_STATE.NEXT [12:0], RO, reset 0, now (R311): armed entry; LIST_COUNT when exhausted. -/
def PFI_CMP_STATE.NEXT : Field := ⟨0x4111, 0, 13, .ro, .now, .num 0⟩
/-- PFI_CMP_STATE.ARMED [13:13], RO, reset 0, now (R311): 1 while armed. -/
def PFI_CMP_STATE.ARMED : Field := ⟨0x4111, 13, 1, .ro, .now, .num 0⟩
/-- PFI_CMP_STATE.MISSED_STICKY [14:14], RO, reset 0, now (R311): R308. -/
def PFI_CMP_STATE.MISSED_STICKY : Field := ⟨0x4111, 14, 1, .ro, .now, .num 0⟩
/-- PFI_CMP_STATE.FIRED [31:16], RO, reset 0, now (R311): . -/
def PFI_CMP_STATE.FIRED : Field := ⟨0x4111, 16, 16, .ro, .now, .num 0⟩
/-- PFI_CMP_STATE.LATE [47:32], RO, reset 0, now (R311): . -/
def PFI_CMP_STATE.LATE : Field := ⟨0x4111, 32, 16, .ro, .now, .num 0⟩
/-- PFI_CMP_STATE.MISSED [63:48], RO, reset 0, now (R311): . -/
def PFI_CMP_STATE.MISSED : Field := ⟨0x4111, 48, 16, .ro, .now, .num 0⟩
/-- PFI_CMP_STATE.FIRST_MISSED [79:64], RO, reset 0xFFFF, now (R311): index; 0xFFFF none. -/
def PFI_CMP_STATE.FIRST_MISSED : Field := ⟨0x4111, 64, 16, .ro, .now, .num 0xFFFF⟩
/-- The object PFI_CMP_STATE, 0x4111: size, instances (R22, R469), reset domain (R11) and fields. -/
def Obj.PFI_CMP_STATE : ObjDesc := ⟨0x4111, 10, 0, 7, 7, [PFI_CMP_STATE.NEXT, PFI_CMP_STATE.ARMED, PFI_CMP_STATE.MISSED_STICKY, PFI_CMP_STATE.FIRED, PFI_CMP_STATE.LATE, PFI_CMP_STATE.MISSED, PFI_CMP_STATE.FIRST_MISSED]⟩

/-! ### PFI_EMU (object 0x4120, R311 of chapter 13) -/

/-- PFI_EMU.ENABLE [0:0], RW, reset 0, now (R311): R310. -/
def PFI_EMU.ENABLE : Field := ⟨0x4120, 0, 1, .rw, .now, .num 0⟩
/-- PFI_EMU.SRC [5:1], RW, reset 0, now (R311): R310. -/
def PFI_EMU.SRC : Field := ⟨0x4120, 1, 5, .rw, .now, .num 0⟩
/-- PFI_EMU.NUM [23:8], RW, reset 1, now (R311): 1 to 65,535. -/
def PFI_EMU.NUM : Field := ⟨0x4120, 8, 16, .rw, .now, .num 1⟩
/-- PFI_EMU.DEN [39:24], RW, reset 1, now (R311): 1 to 65,535. -/
def PFI_EMU.DEN : Field := ⟨0x4120, 24, 16, .rw, .now, .num 1⟩
/-- PFI_EMU.LINES [71:40], RW, reset 0, now (R311): 0: no index. -/
def PFI_EMU.LINES : Field := ⟨0x4120, 40, 32, .rw, .now, .num 0⟩
/-- The object PFI_EMU, 0x4120: size, instances (R22, R469), reset domain (R11) and fields. -/
def Obj.PFI_EMU : ObjDesc := ⟨0x4120, 9, 0, 1, 7, [PFI_EMU.ENABLE, PFI_EMU.SRC, PFI_EMU.NUM, PFI_EMU.DEN, PFI_EMU.LINES]⟩

/-! ### PFI_EMU_STATE (object 0x4121, R311 of chapter 13) -/

/-- PFI_EMU_STATE.OUT_POS [31:0], RO, reset 0, now (R311): output count. -/
def PFI_EMU_STATE.OUT_POS : Field := ⟨0x4121, 0, 32, .ro, .now, .num 0⟩
/-- PFI_EMU_STATE.BACKLOG [63:32], RO, reset 0, now (R311): signed counts still to send. -/
def PFI_EMU_STATE.BACKLOG : Field := ⟨0x4121, 32, 32, .ro, .now, .num 0⟩
/-- The object PFI_EMU_STATE, 0x4121: size, instances (R22, R469), reset domain (R11) and fields. -/
def Obj.PFI_EMU_STATE : ObjDesc := ⟨0x4121, 8, 0, 1, 7, [PFI_EMU_STATE.OUT_POS, PFI_EMU_STATE.BACKLOG]⟩

/-! ### TWN_CONFIG (object 0x5001, R332 of chapter 14) -/

/-- TWN_CONFIG.TWIN_EN [0:0], RW, reset 0, boot (R332): 1: unit of a twin pair. -/
def TWN_CONFIG.TWIN_EN : Field := ⟨0x5001, 0, 1, .rw, .boot, .num 0⟩
/-- TWN_CONFIG.TAKEBACK_EN [1:1], RW, reset 1, now (R332): 1: the preferred unit takes back (R327). -/
def TWN_CONFIG.TAKEBACK_EN : Field := ⟨0x5001, 1, 1, .rw, .now, .num 1⟩
/-- TWN_CONFIG.TAKEBACK_HOLDOFF [31:16], RW, reset 10, now (R332): s; 1 to 3,600. -/
def TWN_CONFIG.TAKEBACK_HOLDOFF : Field := ⟨0x5001, 16, 16, .rw, .now, .num 10⟩
/-- The object TWN_CONFIG, 0x5001: size, instances (R22, R469), reset domain (R11) and fields. -/
def Obj.TWN_CONFIG : ObjDesc := ⟨0x5001, 4, 0, 0, 4, [TWN_CONFIG.TWIN_EN, TWN_CONFIG.TAKEBACK_EN, TWN_CONFIG.TAKEBACK_HOLDOFF]⟩

/-! ### TWN_STATE (object 0x5002, R332 of chapter 14) -/

/-- TWN_STATE.UNIT [0:0], RO, reset strap, now (R332): unit ID. -/
def TWN_STATE.UNIT : Field := ⟨0x5002, 0, 1, .ro, .now, .num 0⟩
/-- TWN_STATE.PREFERRED [1:1], RO, reset strap, now (R332): 1: TW_PREF high. -/
def TWN_STATE.PREFERRED : Field := ⟨0x5002, 1, 1, .ro, .now, .num 1⟩
/-- TWN_STATE.ROLE [3:2], RO, reset 0, now (R332): 0 SOLO; 1 FORMING; 2 ACTIVE; 3 STANDBY. -/
def TWN_STATE.ROLE : Field := ⟨0x5002, 2, 2, .ro, .now, .num 0⟩
/-- TWN_STATE.ELIGIBLE [4:4], RO, reset 0, now (R332): standby eligible. -/
def TWN_STATE.ELIGIBLE : Field := ⟨0x5002, 4, 1, .ro, .now, .num 0⟩
/-- TWN_STATE.PATH_LINK [5:5], RO, reset 0, now (R332): heartbeats arriving on each path. -/
def TWN_STATE.PATH_LINK : Field := ⟨0x5002, 5, 1, .ro, .now, .num 0⟩
/-- TWN_STATE.PATH_PIN [6:6], RO, reset 0, now (R332): heartbeats arriving on each path. -/
def TWN_STATE.PATH_PIN : Field := ⟨0x5002, 6, 1, .ro, .now, .num 0⟩
/-- TWN_STATE.MUTED [7:7], RO, reset 0, now (R332): R320. -/
def TWN_STATE.MUTED : Field := ⟨0x5002, 7, 1, .ro, .now, .num 0⟩
/-- TWN_STATE.PARTNER_ROLE [9:8], RO, reset 1, now (R332): as ROLE, from the latest heartbeat. -/
def TWN_STATE.PARTNER_ROLE : Field := ⟨0x5002, 8, 2, .ro, .now, .num 1⟩
/-- TWN_STATE.PARTNER_ELIG [10:10], RO, reset 0, now (R332): from the latest heartbeat. -/
def TWN_STATE.PARTNER_ELIG : Field := ⟨0x5002, 10, 1, .ro, .now, .num 0⟩
/-- TWN_STATE.TAKEOVER_EPOCH [31:16], RO, reset 0, now (R332): R324. -/
def TWN_STATE.TAKEOVER_EPOCH : Field := ⟨0x5002, 16, 16, .ro, .now, .num 0⟩
/-- TWN_STATE.ELIG_FOR [63:32], RO, reset 0, now (R332): s eligible without a break; saturates. -/
def TWN_STATE.ELIG_FOR : Field := ⟨0x5002, 32, 32, .ro, .now, .num 0⟩
/-- TWN_STATE.HB_AGE [79:64], RO, reset 0, now (R332): µs since the last heartbeat on either path; saturates. -/
def TWN_STATE.HB_AGE : Field := ⟨0x5002, 64, 16, .ro, .now, .num 0⟩
/-- The object TWN_STATE, 0x5002: size, instances (R22, R469), reset domain (R11) and fields. -/
def Obj.TWN_STATE : ObjDesc := ⟨0x5002, 12, 0, 0, 4, [TWN_STATE.UNIT, TWN_STATE.PREFERRED, TWN_STATE.ROLE, TWN_STATE.ELIGIBLE, TWN_STATE.PATH_LINK, TWN_STATE.PATH_PIN, TWN_STATE.MUTED, TWN_STATE.PARTNER_ROLE, TWN_STATE.PARTNER_ELIG, TWN_STATE.TAKEOVER_EPOCH, TWN_STATE.ELIG_FOR, TWN_STATE.HB_AGE]⟩

/-! ### TWN_STAT (object 0x5003, R332 of chapter 14) -/

/-- TWN_STAT.TAKEOVERS [15:0], RO, reset 0, now (R332): R324. -/
def TWN_STAT.TAKEOVERS : Field := ⟨0x5003, 0, 16, .ro, .now, .num 0⟩
/-- TWN_STAT.TAKEBACKS [31:16], RO, reset 0, now (R332): R327. -/
def TWN_STAT.TAKEBACKS : Field := ⟨0x5003, 16, 16, .ro, .now, .num 0⟩
/-- TWN_STAT.DIVERGENCES [47:32], RO, reset 0, now (R332): R319. -/
def TWN_STAT.DIVERGENCES : Field := ⟨0x5003, 32, 16, .ro, .now, .num 0⟩
/-- TWN_STAT.PATH_ALARMS [63:48], RO, reset 0, now (R332): R323. -/
def TWN_STAT.PATH_ALARMS : Field := ⟨0x5003, 48, 16, .ro, .now, .num 0⟩
/-- TWN_STAT.RESYNCS [79:64], RO, reset 0, now (R332): R321. -/
def TWN_STAT.RESYNCS : Field := ⟨0x5003, 64, 16, .ro, .now, .num 0⟩
/-- TWN_STAT.RESYNC_ABANDONED [95:80], RO, reset 0, now (R332): R321. -/
def TWN_STAT.RESYNC_ABANDONED : Field := ⟨0x5003, 80, 16, .ro, .now, .num 0⟩
/-- TWN_STAT.LATE_FWD [111:96], RO, reset 0, now (R332): R315. -/
def TWN_STAT.LATE_FWD : Field := ⟨0x5003, 96, 16, .ro, .now, .num 0⟩
/-- TWN_STAT.DUAL_ACTIVE_MAX [127:112], RO, reset 0, now (R332): µs (R326). -/
def TWN_STAT.DUAL_ACTIVE_MAX : Field := ⟨0x5003, 112, 16, .ro, .now, .num 0⟩
/-- The object TWN_STAT, 0x5003: size, instances (R22, R469), reset domain (R11) and fields. -/
def Obj.TWN_STAT : ObjDesc := ⟨0x5003, 16, 0, 0, 4, [TWN_STAT.TAKEOVERS, TWN_STAT.TAKEBACKS, TWN_STAT.DIVERGENCES, TWN_STAT.PATH_ALARMS, TWN_STAT.RESYNCS, TWN_STAT.RESYNC_ABANDONED, TWN_STAT.LATE_FWD, TWN_STAT.DUAL_ACTIVE_MAX]⟩

/-! ### CSC_CONFIG (object 0x5101, R332 of chapter 14) -/

/-- CSC_CONFIG.MEMBERS [15:0], RW, reset 0x0001, boot (R332): bit i: CASC_ID i is a member; 0x0001 alone means no cascade. -/
def CSC_CONFIG.MEMBERS : Field := ⟨0x5101, 0, 16, .rw, .boot, .num 0x0001⟩
/-- The object CSC_CONFIG, 0x5101: size, instances (R22, R469), reset domain (R11) and fields. -/
def Obj.CSC_CONFIG : ObjDesc := ⟨0x5101, 4, 0, 0, 4, [CSC_CONFIG.MEMBERS]⟩

/-! ### CSC_STATE (object 0x5102, R332 of chapter 14) -/

/-- CSC_STATE.CASC_ID [3:0], RO, reset strap, now (R332): this member. -/
def CSC_STATE.CASC_ID : Field := ⟨0x5102, 0, 4, .ro, .now, .num 0⟩
/-- CSC_STATE.LEAD [4:4], RO, reset 0, now (R332): 1 on CASC_ID 0. -/
def CSC_STATE.LEAD : Field := ⟨0x5102, 4, 1, .ro, .now, .num 0⟩
/-- CSC_STATE.FORMED [5:5], RO, reset 0, now (R332): R329. -/
def CSC_STATE.FORMED : Field := ⟨0x5102, 5, 1, .ro, .now, .num 0⟩
/-- CSC_STATE.SEEN [31:16], RO, reset 0, now (R332): bit i: member i heard within 151 µs. -/
def CSC_STATE.SEEN : Field := ⟨0x5102, 16, 16, .ro, .now, .num 0⟩
/-- CSC_STATE.LAST_ANNOUNCE [63:32], RO, reset 0, now (R332): tick index of the latest announced boundary. -/
def CSC_STATE.LAST_ANNOUNCE : Field := ⟨0x5102, 32, 32, .ro, .now, .num 0⟩
/-- The object CSC_STATE, 0x5102: size, instances (R22, R469), reset domain (R11) and fields. -/
def Obj.CSC_STATE : ObjDesc := ⟨0x5102, 8, 0, 0, 4, [CSC_STATE.CASC_ID, CSC_STATE.LEAD, CSC_STATE.FORMED, CSC_STATE.SEEN, CSC_STATE.LAST_ANNOUNCE]⟩

/-! ### TIM_CONFIG (object 0x6001, R354 of chapter 15) -/

/-- TIM_CONFIG.SRC [1:0], RW, reset 0, now (R354): 0 FREE; 1 PPS; 2 PLANT; 3 reserved. -/
def TIM_CONFIG.SRC : Field := ⟨0x6001, 0, 2, .rw, .now, .num 0⟩
/-- TIM_CONFIG.PPS_OUT_EN [2:2], RW, reset 0, now (R354): R353. -/
def TIM_CONFIG.PPS_OUT_EN : Field := ⟨0x6001, 2, 1, .rw, .now, .num 0⟩
/-- TIM_CONFIG.LEGACY_TXQ [3:3], RW, reset 0, now (R354): R351. -/
def TIM_CONFIG.LEGACY_TXQ : Field := ⟨0x6001, 3, 1, .rw, .now, .num 0⟩
/-- TIM_CONFIG.STEP_THRESH [31:8], RW, reset 100, now (R354): µs; 40 to 16,000,000. -/
def TIM_CONFIG.STEP_THRESH : Field := ⟨0x6001, 8, 24, .rw, .now, .num 100⟩
/-- TIM_CONFIG.LOCK_THRESH [47:32], RW, reset 100, now (R354): ns; 1 to 65,535. -/
def TIM_CONFIG.LOCK_THRESH : Field := ⟨0x6001, 32, 16, .rw, .now, .num 100⟩
/-- TIM_CONFIG.KP [63:48], RW, reset 1,024, now (R354): 1/256 ppb per ns. -/
def TIM_CONFIG.KP : Field := ⟨0x6001, 48, 16, .rw, .now, .num 1024⟩
/-- TIM_CONFIG.KI [79:64], RW, reset 256, now (R354): 1/256 ppb per ns. -/
def TIM_CONFIG.KI : Field := ⟨0x6001, 64, 16, .rw, .now, .num 256⟩
/-- TIM_CONFIG.PPS_W [87:80], RW, reset 100, now (R354): ms; 1 to 250. -/
def TIM_CONFIG.PPS_W : Field := ⟨0x6001, 80, 8, .rw, .now, .num 100⟩
/-- TIM_CONFIG.PPS_IN_DELAY [127:96], RW, reset 0, now (R354): signed, 1/256 ns. -/
def TIM_CONFIG.PPS_IN_DELAY : Field := ⟨0x6001, 96, 32, .rw, .now, .num 0⟩
/-- TIM_CONFIG.UTC_OFFSET [143:128], RW, reset 37, now (R354): s (R347). -/
def TIM_CONFIG.UTC_OFFSET : Field := ⟨0x6001, 128, 16, .rw, .now, .num 37⟩
/-- TIM_CONFIG.FREE_PPB [175:144], RW, reset 0, now (R354): signed ppb; −100,000 to +100,000. -/
def TIM_CONFIG.FREE_PPB : Field := ⟨0x6001, 144, 32, .rw, .now, .num 0⟩
/-- The object TIM_CONFIG, 0x6001: size, instances (R22, R469), reset domain (R11) and fields. -/
def Obj.TIM_CONFIG : ObjDesc := ⟨0x6001, 24, 0, 0, 5, [TIM_CONFIG.SRC, TIM_CONFIG.PPS_OUT_EN, TIM_CONFIG.LEGACY_TXQ, TIM_CONFIG.STEP_THRESH, TIM_CONFIG.LOCK_THRESH, TIM_CONFIG.KP, TIM_CONFIG.KI, TIM_CONFIG.PPS_W, TIM_CONFIG.PPS_IN_DELAY, TIM_CONFIG.UTC_OFFSET, TIM_CONFIG.FREE_PPB]⟩

/-! ### TIM_STATE (object 0x6002, R354 of chapter 15) -/

/-- TIM_STATE.EFF_SRC [1:0], RO, reset 0, now (R354): R336. -/
def TIM_STATE.EFF_SRC : Field := ⟨0x6002, 0, 2, .ro, .now, .num 0⟩
/-- TIM_STATE.STATE [4:2], RO, reset 1, now (R354): 0 FREE; 1 ACQUIRING; 2 STEP_WAIT; 3 LOCKING; 4 LOCKED; 5 HOLDOVER. -/
def TIM_STATE.STATE : Field := ⟨0x6002, 2, 3, .ro, .now, .num 1⟩
/-- TIM_STATE.TIME_VALID [5:5], RO, reset 0, now (R354): R335. -/
def TIM_STATE.TIME_VALID : Field := ⟨0x6002, 5, 1, .ro, .now, .num 0⟩
/-- TIM_STATE.OFFSET_ALARM [6:6], RO, reset 0, now (R354): R342. -/
def TIM_STATE.OFFSET_ALARM : Field := ⟨0x6002, 6, 1, .ro, .now, .num 0⟩
/-- TIM_STATE.STEP_ARMED [7:7], RO, reset 1, now (R354): R342. -/
def TIM_STATE.STEP_ARMED : Field := ⟨0x6002, 7, 1, .ro, .now, .num 1⟩
/-- TIM_STATE.RATE [47:16], RO, reset 0, now (R354): RATE in force, signed ppb. -/
def TIM_STATE.RATE : Field := ⟨0x6002, 16, 32, .ro, .now, .num 0⟩
/-- TIM_STATE.UTC_NOW [63:48], RO, reset 37, now (R354): R347. -/
def TIM_STATE.UTC_NOW : Field := ⟨0x6002, 48, 16, .ro, .now, .num 37⟩
/-- TIM_STATE.OFFSET [95:64], RO, reset 0, now (R354): latest θ, signed, 1/16 ns; saturates. -/
def TIM_STATE.OFFSET : Field := ⟨0x6002, 64, 32, .ro, .now, .num 0⟩
/-- TIM_STATE.MEAS_SEC [127:96], RO, reset 0, now (R354): low 32 bits of the seconds of the latest measurement. -/
def TIM_STATE.MEAS_SEC : Field := ⟨0x6002, 96, 32, .ro, .now, .num 0⟩
/-- TIM_STATE.MEAS_NS [157:128], RO, reset 0, now (R354): nanoseconds of that measurement. -/
def TIM_STATE.MEAS_NS : Field := ⟨0x6002, 128, 30, .ro, .now, .num 0⟩
/-- The object TIM_STATE, 0x6002: size, instances (R22, R469), reset domain (R11) and fields. -/
def Obj.TIM_STATE : ObjDesc := ⟨0x6002, 20, 0, 0, 5, [TIM_STATE.EFF_SRC, TIM_STATE.STATE, TIM_STATE.TIME_VALID, TIM_STATE.OFFSET_ALARM, TIM_STATE.STEP_ARMED, TIM_STATE.RATE, TIM_STATE.UTC_NOW, TIM_STATE.OFFSET, TIM_STATE.MEAS_SEC, TIM_STATE.MEAS_NS]⟩

/-! ### TIM_NOW (object 0x6003, R354 of chapter 15) -/

/-- TIM_NOW.SEC [63:0], RO, reset 0, now (R354): seconds. -/
def TIM_NOW.SEC : Field := ⟨0x6003, 0, 64, .ro, .now, .num 0⟩
/-- TIM_NOW.NS [93:64], RO, reset 0, now (R354): nanoseconds. -/
def TIM_NOW.NS : Field := ⟨0x6003, 64, 30, .ro, .now, .num 0⟩
/-- TIM_NOW.FRAC [111:96], RO, reset 0, now (R354): 2⁻¹⁶ ns. -/
def TIM_NOW.FRAC : Field := ⟨0x6003, 96, 16, .ro, .now, .num 0⟩
/-- The object TIM_NOW, 0x6003: size, instances (R22, R469), reset domain (R11) and fields. -/
def Obj.TIM_NOW : ObjDesc := ⟨0x6003, 16, 0, 0, 5, [TIM_NOW.SEC, TIM_NOW.NS, TIM_NOW.FRAC]⟩

/-! ### TIM_PTP (object 0x6004, R354 of chapter 15) -/

/-- TIM_PTP.MACH_DOM [7:0], RW, reset 1, now (R354): machine domainNumber. -/
def TIM_PTP.MACH_DOM : Field := ⟨0x6004, 0, 8, .rw, .now, .num 1⟩
/-- TIM_PTP.PLANT_DOM [15:8], RW, reset 0, now (R354): plant domainNumber. -/
def TIM_PTP.PLANT_DOM : Field := ⟨0x6004, 8, 8, .rw, .now, .num 0⟩
/-- TIM_PTP.MACH_MECH [16:16], RW, reset 0, now (R354): 0 delay request-response; 1 peer-to-peer. -/
def TIM_PTP.MACH_MECH : Field := ⟨0x6004, 16, 1, .rw, .now, .num 0⟩
/-- TIM_PTP.PLANT_MECH [17:17], RW, reset 0, now (R354): as MACH_MECH. -/
def TIM_PTP.PLANT_MECH : Field := ⟨0x6004, 17, 1, .rw, .now, .num 0⟩
/-- TIM_PTP.TWO_STEP [18:18], RW, reset 0, now (R354): 1: the grandmaster sends Follow_Up. -/
def TIM_PTP.TWO_STEP : Field := ⟨0x6004, 18, 1, .rw, .now, .num 0⟩
/-- TIM_PTP.MACH_UDP [19:19], RW, reset 0, now (R354): 0 Layer 2; 1 UDP/IPv4 on ETH1. -/
def TIM_PTP.MACH_UDP : Field := ⟨0x6004, 19, 1, .rw, .now, .num 0⟩
/-- TIM_PTP.TC_EN [20:20], RW, reset 1, now (R354): R348. -/
def TIM_PTP.TC_EN : Field := ⟨0x6004, 20, 1, .rw, .now, .num 1⟩
/-- TIM_PTP.LOG_SYNC [27:24], RW, reset −3, now (R354): signed; −7 to 1. -/
def TIM_PTP.LOG_SYNC : Field := ⟨0x6004, 24, 4, .rw, .now, .num 13⟩
/-- TIM_PTP.LOG_ANNOUNCE [31:28], RW, reset 1, now (R354): signed; 0 to 3. -/
def TIM_PTP.LOG_ANNOUNCE : Field := ⟨0x6004, 28, 4, .rw, .now, .num 1⟩
/-- TIM_PTP.LOG_DELAY [35:32], RW, reset 0, now (R354): signed; −4 to 3; least Delay_Req or Pdelay_Req interval. -/
def TIM_PTP.LOG_DELAY : Field := ⟨0x6004, 32, 4, .rw, .now, .num 0⟩
/-- TIM_PTP.PRIO1 [47:40], RW, reset 128, now (R354): priority1. -/
def TIM_PTP.PRIO1 : Field := ⟨0x6004, 40, 8, .rw, .now, .num 128⟩
/-- TIM_PTP.PRIO2 [55:48], RW, reset 128, now (R354): priority2. -/
def TIM_PTP.PRIO2 : Field := ⟨0x6004, 48, 8, .rw, .now, .num 128⟩
/-- TIM_PTP.MACH_IP [95:64], RW, reset 0, now (R354): ETH1 address for UDP, octets as in PLT_MGMT. -/
def TIM_PTP.MACH_IP : Field := ⟨0x6004, 64, 32, .rw, .now, .num 0⟩
/-- The object TIM_PTP, 0x6004: size, instances (R22, R469), reset domain (R11) and fields. -/
def Obj.TIM_PTP : ObjDesc := ⟨0x6004, 12, 0, 0, 5, [TIM_PTP.MACH_DOM, TIM_PTP.PLANT_DOM, TIM_PTP.MACH_MECH, TIM_PTP.PLANT_MECH, TIM_PTP.TWO_STEP, TIM_PTP.MACH_UDP, TIM_PTP.TC_EN, TIM_PTP.LOG_SYNC, TIM_PTP.LOG_ANNOUNCE, TIM_PTP.LOG_DELAY, TIM_PTP.PRIO1, TIM_PTP.PRIO2, TIM_PTP.MACH_IP]⟩

/-! ### TIM_PORT (object 0x6005, R354 of chapter 15) -/

/-- TIM_PORT.ETH0_TX_LAT [15:0], RW, reset 0, now (R354): R350. -/
def TIM_PORT.ETH0_TX_LAT : Field := ⟨0x6005, 0, 16, .rw, .now, .num 0⟩
/-- TIM_PORT.ETH0_RX_LAT [31:16], RW, reset 0, now (R354): R350. -/
def TIM_PORT.ETH0_RX_LAT : Field := ⟨0x6005, 16, 16, .rw, .now, .num 0⟩
/-- TIM_PORT.ETH1_TX_LAT [47:32], RW, reset 0, now (R354): R350. -/
def TIM_PORT.ETH1_TX_LAT : Field := ⟨0x6005, 32, 16, .rw, .now, .num 0⟩
/-- TIM_PORT.ETH1_RX_LAT [63:48], RW, reset 0, now (R354): R350. -/
def TIM_PORT.ETH1_RX_LAT : Field := ⟨0x6005, 48, 16, .rw, .now, .num 0⟩
/-- The object TIM_PORT, 0x6005: size, instances (R22, R469), reset domain (R11) and fields. -/
def Obj.TIM_PORT : ObjDesc := ⟨0x6005, 8, 0, 0, 5, [TIM_PORT.ETH0_TX_LAT, TIM_PORT.ETH0_RX_LAT, TIM_PORT.ETH1_TX_LAT, TIM_PORT.ETH1_RX_LAT]⟩

/-! ### TIM_STAT (object 0x6006, R354 of chapter 15) -/

/-- TIM_STAT.STEPS [15:0], RO, reset 0, now (R354): R344. -/
def TIM_STAT.STEPS : Field := ⟨0x6006, 0, 16, .ro, .now, .num 0⟩
/-- TIM_STAT.HOLDOVERS [31:16], RO, reset 0, now (R354): R341. -/
def TIM_STAT.HOLDOVERS : Field := ⟨0x6006, 16, 16, .ro, .now, .num 0⟩
/-- TIM_STAT.RESID_MAX [47:32], RO, reset 0, now (R354): largest residence, ns (R348). -/
def TIM_STAT.RESID_MAX : Field := ⟨0x6006, 32, 16, .ro, .now, .num 0⟩
/-- TIM_STAT.FOREIGN_GM [63:48], RO, reset 0, now (R354): R347. -/
def TIM_STAT.FOREIGN_GM : Field := ⟨0x6006, 48, 16, .ro, .now, .num 0⟩
/-- TIM_STAT.TC_FWD [95:64], RO, reset 0, now (R354): R348. -/
def TIM_STAT.TC_FWD : Field := ⟨0x6006, 64, 32, .ro, .now, .num 0⟩
/-- TIM_STAT.TXQ_LOST [111:96], RO, reset 0, now (R354): R351. -/
def TIM_STAT.TXQ_LOST : Field := ⟨0x6006, 96, 16, .ro, .now, .num 0⟩
/-- The object TIM_STAT, 0x6006: size, instances (R22, R469), reset domain (R11) and fields. -/
def Obj.TIM_STAT : ObjDesc := ⟨0x6006, 16, 0, 0, 5, [TIM_STAT.STEPS, TIM_STAT.HOLDOVERS, TIM_STAT.RESID_MAX, TIM_STAT.FOREIGN_GM, TIM_STAT.TC_FWD, TIM_STAT.TXQ_LOST]⟩

/-! ### TIM_TXQ (object 0x6010, R354 of chapter 15) -/

/-- TIM_TXQ.VALID [0:0], RC, reset 0, now (R354): 1: an entry is returned. -/
def TIM_TXQ.VALID : Field := ⟨0x6010, 0, 1, .rc, .now, .num 0⟩
/-- TIM_TXQ.PORT [1:1], RC, reset 0, now (R354): 0 ETH0; 1 ETH1. -/
def TIM_TXQ.PORT : Field := ⟨0x6010, 1, 1, .rc, .now, .num 0⟩
/-- TIM_TXQ.MSG_TYPE [7:4], RC, reset 0, now (R354): messageType. -/
def TIM_TXQ.MSG_TYPE : Field := ⟨0x6010, 4, 4, .rc, .now, .num 0⟩
/-- TIM_TXQ.DOMAIN [15:8], RC, reset 0, now (R354): domainNumber. -/
def TIM_TXQ.DOMAIN : Field := ⟨0x6010, 8, 8, .rc, .now, .num 0⟩
/-- TIM_TXQ.TXQ_ID [31:16], RC, reset 0, now (R354): R351. -/
def TIM_TXQ.TXQ_ID : Field := ⟨0x6010, 16, 16, .rc, .now, .num 0⟩
/-- TIM_TXQ.SEQ_ID [47:32], RC, reset 0, now (R354): sequenceId. -/
def TIM_TXQ.SEQ_ID : Field := ⟨0x6010, 32, 16, .rc, .now, .num 0⟩
/-- TIM_TXQ.SEC [127:64], RC, reset 0, now (R354): egress stamp, seconds. -/
def TIM_TXQ.SEC : Field := ⟨0x6010, 64, 64, .rc, .now, .num 0⟩
/-- TIM_TXQ.NS [157:128], RC, reset 0, now (R354): nanoseconds. -/
def TIM_TXQ.NS : Field := ⟨0x6010, 128, 30, .rc, .now, .num 0⟩
/-- TIM_TXQ.FRAC [175:160], RC, reset 0, now (R354): 2⁻¹⁶ ns. -/
def TIM_TXQ.FRAC : Field := ⟨0x6010, 160, 16, .rc, .now, .num 0⟩
/-- The object TIM_TXQ, 0x6010: size, instances (R22, R469), reset domain (R11) and fields. -/
def Obj.TIM_TXQ : ObjDesc := ⟨0x6010, 24, 0, 0, 5, [TIM_TXQ.VALID, TIM_TXQ.PORT, TIM_TXQ.MSG_TYPE, TIM_TXQ.DOMAIN, TIM_TXQ.TXQ_ID, TIM_TXQ.SEQ_ID, TIM_TXQ.SEC, TIM_TXQ.NS, TIM_TXQ.FRAC]⟩

/-! ### DRC_CONFIG (object 0x7001, R373 of chapter 16) -/

/-- DRC_CONFIG.MEMDOWN [0:0], RW, reset 0, boot (R373): 1: memory-down, described by the fields below. -/
def DRC_CONFIG.MEMDOWN : Field := ⟨0x7001, 0, 1, .rw, .boot, .num 0⟩
/-- DRC_CONFIG.WIDTH [1:1], RW, reset 0, boot (R373): memory-down: 0 x8; 1 x4. -/
def DRC_CONFIG.WIDTH : Field := ⟨0x7001, 1, 1, .rw, .boot, .num 0⟩
/-- DRC_CONFIG.RANKS [2:2], RW, reset 0, boot (R373): memory-down: 0 one rank; 1 two ranks. -/
def DRC_CONFIG.RANKS : Field := ⟨0x7001, 2, 1, .rw, .boot, .num 0⟩
/-- DRC_CONFIG.DENSITY [4:3], RW, reset 0, boot (R373): memory-down: 0 16 Gb; 1 24 Gb; 2 32 Gb; 3 reserved. -/
def DRC_CONFIG.DENSITY : Field := ⟨0x7001, 3, 2, .rw, .boot, .num 0⟩
/-- DRC_CONFIG.RATE_MAX [15:8], RW, reset 64, boot (R373): highest rate, 100 MT/s; 32 to 64. -/
def DRC_CONFIG.RATE_MAX : Field := ⟨0x7001, 8, 8, .rw, .boot, .num 64⟩
/-- DRC_CONFIG.MIN_EYE [23:16], RW, reset 16, boot (R373): smallest pass window, 1/64 UI; 8 to 32. -/
def DRC_CONFIG.MIN_EYE : Field := ⟨0x7001, 16, 8, .rw, .boot, .num 16⟩
/-- DRC_CONFIG.PNR_LOG2 [27:24], RW, reset 10, boot (R373): R364; 6 to 14. -/
def DRC_CONFIG.PNR_LOG2 : Field := ⟨0x7001, 24, 4, .rw, .boot, .num 10⟩
/-- DRC_CONFIG.ACT_TH [47:32], RW, reset 1,000, boot (R373): R365; 128 to 8,192. -/
def DRC_CONFIG.ACT_TH : Field := ⟨0x7001, 32, 16, .rw, .boot, .num 1000⟩
/-- DRC_CONFIG.AGE_CAP [63:48], RW, reset 2,000, boot (R373): R367, ns; 200 to 20,000. -/
def DRC_CONFIG.AGE_CAP : Field := ⟨0x7001, 48, 16, .rw, .boot, .num 2000⟩
/-- DRC_CONFIG.SCRUB_HOURS [71:64], RW, reset 24, now (R373): R371; 1 to 168. -/
def DRC_CONFIG.SCRUB_HOURS : Field := ⟨0x7001, 64, 8, .rw, .now, .num 24⟩
/-- DRC_CONFIG.RAAIMT [79:72], RW, reset 0, boot (R373): memory-down: RFM threshold, activates / 8. -/
def DRC_CONFIG.RAAIMT : Field := ⟨0x7001, 72, 8, .rw, .boot, .num 0⟩
/-- DRC_CONFIG.RAAMMT [87:80], RW, reset 0, boot (R373): memory-down: RFM ceiling, activates / 8. -/
def DRC_CONFIG.RAAMMT : Field := ⟨0x7001, 80, 8, .rw, .boot, .num 0⟩
/-- The object DRC_CONFIG, 0x7001: size, instances (R22, R469), reset domain (R11) and fields. -/
def Obj.DRC_CONFIG : ObjDesc := ⟨0x7001, 12, 0, 0, 3, [DRC_CONFIG.MEMDOWN, DRC_CONFIG.WIDTH, DRC_CONFIG.RANKS, DRC_CONFIG.DENSITY, DRC_CONFIG.RATE_MAX, DRC_CONFIG.MIN_EYE, DRC_CONFIG.PNR_LOG2, DRC_CONFIG.ACT_TH, DRC_CONFIG.AGE_CAP, DRC_CONFIG.SCRUB_HOURS, DRC_CONFIG.RAAIMT, DRC_CONFIG.RAAMMT]⟩

/-! ### DRC_STATE (object 0x7002, R373 of chapter 16) -/

/-- DRC_STATE.TRAINED [0:0], RO, reset 0, now (R373): 1 once every subchannel is trained. -/
def DRC_STATE.TRAINED : Field := ⟨0x7002, 0, 1, .ro, .now, .num 0⟩
/-- DRC_STATE.INIT_DONE [1:1], RO, reset 0, now (R373): R361. -/
def DRC_STATE.INIT_DONE : Field := ⟨0x7002, 1, 1, .ro, .now, .num 0⟩
/-- DRC_STATE.PHASE [3:2], RO, reset 1, now (R373): 0 SERVICE; 1 START; 2 TEST; 3 RECOVERY (R365). -/
def DRC_STATE.PHASE : Field := ⟨0x7002, 2, 2, .ro, .now, .num 1⟩
/-- DRC_STATE.FAST_TRAIN [4:4], RO, reset 0, now (R373): 1: stored values verified on every subchannel (R360). -/
def DRC_STATE.FAST_TRAIN : Field := ⟨0x7002, 4, 1, .ro, .now, .num 0⟩
/-- DRC_STATE.RATE [15:8], RO, reset 0, now (R373): rate in use, 100 MT/s. -/
def DRC_STATE.RATE : Field := ⟨0x7002, 8, 8, .ro, .now, .num 0⟩
/-- DRC_STATE.HOST_MIB [31:16], RO, reset 0, now (R373): host part, MiB (R357). -/
def DRC_STATE.HOST_MIB : Field := ⟨0x7002, 16, 16, .ro, .now, .num 0⟩
/-- DRC_STATE.INIT_BLOCKS [63:32], RO, reset 0, now (R373): 64 KiB blocks zeroed. -/
def DRC_STATE.INIT_BLOCKS : Field := ⟨0x7002, 32, 32, .ro, .now, .num 0⟩
/-- DRC_STATE.SCRUB_PASS [79:64], RO, reset 0, now (R373): full scrub passes since reset; saturates. -/
def DRC_STATE.SCRUB_PASS : Field := ⟨0x7002, 64, 16, .ro, .now, .num 0⟩
/-- The object DRC_STATE, 0x7002: size, instances (R22, R469), reset domain (R11) and fields. -/
def Obj.DRC_STATE : ObjDesc := ⟨0x7002, 12, 0, 0, 3, [DRC_STATE.TRAINED, DRC_STATE.INIT_DONE, DRC_STATE.PHASE, DRC_STATE.FAST_TRAIN, DRC_STATE.RATE, DRC_STATE.HOST_MIB, DRC_STATE.INIT_BLOCKS, DRC_STATE.SCRUB_PASS]⟩

/-! ### DRC_LANE (object 0x7003, R373 of chapter 16) -/

/-- DRC_LANE.EYE_MIN_RD [7:0], RO, reset 0, now (R373): narrowest read window, 1/64 UI. -/
def DRC_LANE.EYE_MIN_RD : Field := ⟨0x7003, 0, 8, .ro, .now, .num 0⟩
/-- DRC_LANE.EYE_MIN_WR [15:8], RO, reset 0, now (R373): narrowest write window, 1/64 UI. -/
def DRC_LANE.EYE_MIN_WR : Field := ⟨0x7003, 8, 8, .ro, .now, .num 0⟩
/-- DRC_LANE.WORST_RD [21:16], RO, reset 0, now (R373): lane of EYE_MIN_RD, 0 to 39. -/
def DRC_LANE.WORST_RD : Field := ⟨0x7003, 16, 6, .ro, .now, .num 0⟩
/-- DRC_LANE.WORST_WR [29:24], RO, reset 0, now (R373): lane of EYE_MIN_WR, 0 to 39. -/
def DRC_LANE.WORST_WR : Field := ⟨0x7003, 24, 6, .ro, .now, .num 0⟩
/-- DRC_LANE.FAILED_LANES [79:40], RO, reset 0, now (R373): bit n: lane n failed training. -/
def DRC_LANE.FAILED_LANES : Field := ⟨0x7003, 40, 40, .ro, .now, .num 0⟩
/-- The object DRC_LANE, 0x7003: size, instances (R22, R469), reset domain (R11) and fields. -/
def Obj.DRC_LANE : ObjDesc := ⟨0x7003, 12, 0, 3, 3, [DRC_LANE.EYE_MIN_RD, DRC_LANE.EYE_MIN_WR, DRC_LANE.WORST_RD, DRC_LANE.WORST_WR, DRC_LANE.FAILED_LANES]⟩

/-! ### DRC_STAT (object 0x7004, R373 of chapter 16) -/

/-- DRC_STAT.CE [31:0], RO, reset 0, now (R373): corrected reads (R370). -/
def DRC_STAT.CE : Field := ⟨0x7004, 0, 32, .ro, .now, .num 0⟩
/-- DRC_STAT.UE [47:32], RO, reset 0, now (R373): uncorrectable reads (R371). -/
def DRC_STAT.UE : Field := ⟨0x7004, 32, 16, .ro, .now, .num 0⟩
/-- DRC_STAT.RAW_DRAINS [63:48], RO, reset 0, now (R373): R368. -/
def DRC_STAT.RAW_DRAINS : Field := ⟨0x7004, 48, 16, .ro, .now, .num 0⟩
/-- DRC_STAT.AGE_CAPS [79:64], RO, reset 0, now (R373): R367. -/
def DRC_STAT.AGE_CAPS : Field := ⟨0x7004, 64, 16, .ro, .now, .num 0⟩
/-- DRC_STAT.RH_PROB [95:80], RO, reset 0, now (R373): neighbour refreshes by R364. -/
def DRC_STAT.RH_PROB : Field := ⟨0x7004, 80, 16, .ro, .now, .num 0⟩
/-- DRC_STAT.RH_COUNT [111:96], RO, reset 0, now (R373): neighbour refreshes by R365. -/
def DRC_STAT.RH_COUNT : Field := ⟨0x7004, 96, 16, .ro, .now, .num 0⟩
/-- DRC_STAT.RFM [127:112], RO, reset 0, now (R373): RFM commands (R363). -/
def DRC_STAT.RFM : Field := ⟨0x7004, 112, 16, .ro, .now, .num 0⟩
/-- The object DRC_STAT, 0x7004: size, instances (R22, R469), reset domain (R11) and fields. -/
def Obj.DRC_STAT : ObjDesc := ⟨0x7004, 16, 0, 3, 3, [DRC_STAT.CE, DRC_STAT.UE, DRC_STAT.RAW_DRAINS, DRC_STAT.AGE_CAPS, DRC_STAT.RH_PROB, DRC_STAT.RH_COUNT, DRC_STAT.RFM]⟩

/-! ### DRC_UE_LOG (object 0x7005, R373 of chapter 16) -/

/-- DRC_UE_LOG.UE_ADDR [63:0], RO, reset 0, now (R373): DRAM address of the burst. -/
def DRC_UE_LOG.UE_ADDR : Field := ⟨0x7005, 0, 64, .ro, .now, .num 0⟩
/-- DRC_UE_LOG.UE_CLASS [66:64], RO, reset 0, now (R373): 0 VEC; 1 CAM; 2 HOST; 3 MGMT; 4 maintenance. -/
def DRC_UE_LOG.UE_CLASS : Field := ⟨0x7005, 64, 3, .ro, .now, .num 0⟩
/-- DRC_UE_LOG.UE_SEC [127:96], RO, reset 0, now (R373): low 32 bits of the seconds (R7). -/
def DRC_UE_LOG.UE_SEC : Field := ⟨0x7005, 96, 32, .ro, .now, .num 0⟩
/-- DRC_UE_LOG.UE_NS [157:128], RO, reset 0, now (R373): nanoseconds. -/
def DRC_UE_LOG.UE_NS : Field := ⟨0x7005, 128, 30, .ro, .now, .num 0⟩
/-- The object DRC_UE_LOG, 0x7005: size, instances (R22, R469), reset domain (R11) and fields. -/
def Obj.DRC_UE_LOG : ObjDesc := ⟨0x7005, 20, 0, 0, 3, [DRC_UE_LOG.UE_ADDR, DRC_UE_LOG.UE_CLASS, DRC_UE_LOG.UE_SEC, DRC_UE_LOG.UE_NS]⟩

/-! ### VST_STATE (object 0x7103, R373 of chapter 16) -/

/-- VST_STATE.RESIDENT [8:0], RO, reset 0, now (R373): tiles resident in the ring, 0 to 384. -/
def VST_STATE.RESIDENT : Field := ⟨0x7103, 0, 9, .ro, .now, .num 0⟩
/-- VST_STATE.ECC_CORR [31:16], RO, reset 0, now (R373): words corrected (R372); saturates. -/
def VST_STATE.ECC_CORR : Field := ⟨0x7103, 16, 16, .ro, .now, .num 0⟩
/-- VST_STATE.FETCH_MAX_NS [63:32], RO, reset 0, now (R373): longest tile fetch, ns; cleared at each tide mark. -/
def VST_STATE.FETCH_MAX_NS : Field := ⟨0x7103, 32, 32, .ro, .now, .num 0⟩
/-- The object VST_STATE, 0x7103: size, instances (R22, R469), reset domain (R11) and fields. -/
def Obj.VST_STATE : ObjDesc := ⟨0x7103, 8, 0, 63, 3, [VST_STATE.RESIDENT, VST_STATE.ECC_CORR, VST_STATE.FETCH_MAX_NS]⟩

/-! ### CAL_CONFIG (object 0x8001, R390 of chapter 17) -/

/-- CAL_CONFIG.AUTO [0:0], RW, reset 1, now (R390): 1: temperature trigger on (R375). -/
def CAL_CONFIG.AUTO : Field := ⟨0x8001, 0, 1, .rw, .now, .num 1⟩
/-- CAL_CONFIG.TEMP_SLOT [13:8], RW, reset 0 for GATE; 15 + group otherwise, now (R390): housekeeping slot; for GATE, the slot of HP0, 0 to 48. -/
def CAL_CONFIG.TEMP_SLOT : Field := ⟨0x8001, 8, 6, .rw, .now, .tempSlot⟩
/-- CAL_CONFIG.TRIG_DC [31:16], RW, reset 30, now (R390): 0.1 °C; 5 to 500. -/
def CAL_CONFIG.TRIG_DC : Field := ⟨0x8001, 16, 16, .rw, .now, .num 30⟩
/-- The object CAL_CONFIG, 0x8001: size, instances (R22, R469), reset domain (R11) and fields. -/
def Obj.CAL_CONFIG : ObjDesc := ⟨0x8001, 4, 0, 4, 0, [CAL_CONFIG.AUTO, CAL_CONFIG.TEMP_SLOT, CAL_CONFIG.TRIG_DC]⟩

/-! ### CAL_STATE (object 0x8002, R390 of chapter 17) -/

/-- CAL_STATE.STATE [2:0], RO, reset 0, now (R390): 0 VALID; 1 DUE; 2 QUEUED; 3 RUNNING; 4 NO_RECORD. -/
def CAL_STATE.STATE : Field := ⟨0x8002, 0, 3, .ro, .now, .num 0⟩
/-- CAL_STATE.LAST_RESULT [4:3], RO, reset 0, now (R390): 0 none; 1 passed; 2 failed; 3 abandoned. -/
def CAL_STATE.LAST_RESULT : Field := ⟨0x8002, 3, 2, .ro, .now, .num 0⟩
/-- CAL_STATE.PENDING [12:8], RO, reset 0, now (R390): deferred requests naming the group. -/
def CAL_STATE.PENDING : Field := ⟨0x8002, 8, 5, .ro, .now, .num 0⟩
/-- CAL_STATE.T_LAST [31:16], RO, reset trim, now (R390): signed, 0.1 °C; for GATE, that of the latest pass. -/
def CAL_STATE.T_LAST : Field := ⟨0x8002, 16, 16, .ro, .now, .num 0⟩
/-- CAL_STATE.CAL_COUNT [63:32], RO, reset trim, now (R390): passed runs; saturates. -/
def CAL_STATE.CAL_COUNT : Field := ⟨0x8002, 32, 32, .ro, .now, .num 0⟩
/-- CAL_STATE.LAST_SEC [95:64], RO, reset trim, now (R390): low 32 bits of the seconds of CAL_LAST_TIME. -/
def CAL_STATE.LAST_SEC : Field := ⟨0x8002, 64, 32, .ro, .now, .num 0⟩
/-- CAL_STATE.LAST_NS [125:96], RO, reset trim, now (R390): nanoseconds of CAL_LAST_TIME. -/
def CAL_STATE.LAST_NS : Field := ⟨0x8002, 96, 30, .ro, .now, .num 0⟩
/-- CAL_STATE.FAILS [143:128], RO, reset 0, now (R390): failed runs since reset; saturates. -/
def CAL_STATE.FAILS : Field := ⟨0x8002, 128, 16, .ro, .now, .num 0⟩
/-- CAL_STATE.WRITE_FAILS [159:144], RO, reset 0, now (R390): R387; saturates. -/
def CAL_STATE.WRITE_FAILS : Field := ⟨0x8002, 144, 16, .ro, .now, .num 0⟩
/-- The object CAL_STATE, 0x8002: size, instances (R22, R469), reset domain (R11) and fields. -/
def Obj.CAL_STATE : ObjDesc := ⟨0x8002, 20, 0, 4, 0, [CAL_STATE.STATE, CAL_STATE.LAST_RESULT, CAL_STATE.PENDING, CAL_STATE.T_LAST, CAL_STATE.CAL_COUNT, CAL_STATE.LAST_SEC, CAL_STATE.LAST_NS, CAL_STATE.FAILS, CAL_STATE.WRITE_FAILS]⟩

/-! ### CAL_GATE (object 0x8003, R390 of chapter 17) -/

/-- CAL_GATE.DUE [63:0], RO, reset 0, now (R390): bit c: channel c due. -/
def CAL_GATE.DUE : Field := ⟨0x8003, 0, 64, .ro, .now, .num 0⟩
/-- CAL_GATE.RUNS_EXPOSE [95:64], RO, reset 0, now (R390): runs passed in laser-off intervals (R378); saturates. -/
def CAL_GATE.RUNS_EXPOSE : Field := ⟨0x8003, 64, 32, .ro, .now, .num 0⟩
/-- CAL_GATE.ABANDONED [111:96], RO, reset 0, now (R390): R379; saturates. -/
def CAL_GATE.ABANDONED : Field := ⟨0x8003, 96, 16, .ro, .now, .num 0⟩
/-- The object CAL_GATE, 0x8003: size, instances (R22, R469), reset domain (R11) and fields. -/
def Obj.CAL_GATE : ObjDesc := ⟨0x8003, 16, 0, 0, 0, [CAL_GATE.DUE, CAL_GATE.RUNS_EXPOSE, CAL_GATE.ABANDONED]⟩

/-! ### CAL_TRIM (object 0x8010, R390 of chapter 17) -/

/-- CAL_TRIM.TRIM_VALID [0:0], RO, reset 0, now (R390): R389. -/
def CAL_TRIM.TRIM_VALID : Field := ⟨0x8010, 0, 1, .ro, .now, .num 0⟩
/-- CAL_TRIM.OTP_SRC [2:1], RO, reset 0, now (R390): 0 first copy; 1 second copy; 2 built-in defaults. -/
def CAL_TRIM.OTP_SRC : Field := ⟨0x8010, 1, 2, .ro, .now, .num 0⟩
/-- CAL_TRIM.FALLBACK [25:16], RO, reset 0, now (R390): bit n: part n loaded from its only valid copy. -/
def CAL_TRIM.FALLBACK : Field := ⟨0x8010, 16, 10, .ro, .now, .num 0⟩
/-- CAL_TRIM.DEFAULT [35:26], RO, reset 0, now (R390): bit n: part n had no valid copy. -/
def CAL_TRIM.DEFAULT : Field := ⟨0x8010, 26, 10, .ro, .now, .num 0⟩
/-- CAL_TRIM.UNKNOWN_IDS [55:48], RO, reset 0, now (R390): R389 step 3; saturates. -/
def CAL_TRIM.UNKNOWN_IDS : Field := ⟨0x8010, 48, 8, .ro, .now, .num 0⟩
/-- The object CAL_TRIM, 0x8010: size, instances (R22, R469), reset domain (R11) and fields. -/
def Obj.CAL_TRIM : ObjDesc := ⟨0x8010, 8, 0, 0, 0, [CAL_TRIM.TRIM_VALID, CAL_TRIM.OTP_SRC, CAL_TRIM.FALLBACK, CAL_TRIM.DEFAULT, CAL_TRIM.UNKNOWN_IDS]⟩

/-! ### HBR_STATE (object 0x0201, R409 of chapter 18) -/

/-- HBR_STATE.BOOT_COUNT [31:0], RO, reset 0, now (R409): boot count (R399). -/
def HBR_STATE.BOOT_COUNT : Field := ⟨0x0201, 0, 32, .ro, .now, .num 0⟩
/-- HBR_STATE.RESTARTS [47:32], RO, reset 0, now (R409): R392; saturates. -/
def HBR_STATE.RESTARTS : Field := ⟨0x0201, 32, 16, .ro, .now, .num 0⟩
/-- The object HBR_STATE, 0x0201: size, instances (R22, R469), reset domain (R11) and fields. -/
def Obj.HBR_STATE : ObjDesc := ⟨0x0201, 8, 0, 0, 1, [HBR_STATE.BOOT_COUNT, HBR_STATE.RESTARTS]⟩

/-! ### THM_SLOT (object 0x8101, R409 of chapter 18) -/

/-- THM_SLOT.ENABLE [0:0], RW, reset R393, now (R409): 1: limits compared. -/
def THM_SLOT.ENABLE : Field := ⟨0x8101, 0, 1, .rw, .now, .thm .enable⟩
/-- THM_SLOT.KIND [3:1], RO, reset R393, now (R409): 0 die; 1 diode; 2 thermistor; 3 rail; 4 unused. -/
def THM_SLOT.KIND : Field := ⟨0x8101, 1, 3, .ro, .now, .thm .kind⟩
/-- THM_SLOT.PARAM1 [31:16], RW, reset 10,080 diode; 3,435 thermistor; else 0, now (R409): R394. -/
def THM_SLOT.PARAM1 : Field := ⟨0x8101, 16, 16, .rw, .now, .thm .param1⟩
/-- THM_SLOT.PARAM2 [47:32], RW, reset 10,000 thermistor; else 0, now (R409): R394. -/
def THM_SLOT.PARAM2 : Field := ⟨0x8101, 32, 16, .rw, .now, .thm .param2⟩
/-- THM_SLOT.LO_FAULT [79:64], RW, reset R393, now (R409): signed. -/
def THM_SLOT.LO_FAULT : Field := ⟨0x8101, 64, 16, .rw, .now, .thm .loFault⟩
/-- THM_SLOT.LO_WARN [95:80], RW, reset R393, now (R409): signed. -/
def THM_SLOT.LO_WARN : Field := ⟨0x8101, 80, 16, .rw, .now, .thm .loWarn⟩
/-- THM_SLOT.HI_WARN [111:96], RW, reset R393, now (R409): signed. -/
def THM_SLOT.HI_WARN : Field := ⟨0x8101, 96, 16, .rw, .now, .thm .hiWarn⟩
/-- THM_SLOT.HI_FAULT [127:112], RW, reset R393, now (R409): signed. -/
def THM_SLOT.HI_FAULT : Field := ⟨0x8101, 112, 16, .rw, .now, .thm .hiFault⟩
/-- The object THM_SLOT, 0x8101: size, instances (R22, R469), reset domain (R11) and fields. -/
def Obj.THM_SLOT : ObjDesc := ⟨0x8101, 16, 0, 63, 1, [THM_SLOT.ENABLE, THM_SLOT.KIND, THM_SLOT.PARAM1, THM_SLOT.PARAM2, THM_SLOT.LO_FAULT, THM_SLOT.LO_WARN, THM_SLOT.HI_WARN, THM_SLOT.HI_FAULT]⟩

/-! ### THM_READ (object 0x8102, R409 of chapter 18) -/

/-- THM_READ.VALUE [15:0], RO, reset 0, now (R409): latest reading, signed. -/
def THM_READ.VALUE : Field := ⟨0x8102, 0, 16, .ro, .now, .num 0⟩
/-- THM_READ.STATE [18:16], RO, reset 0, now (R409): 0 OK; 1 WARN_LO; 2 WARN_HI; 3 FAULT_LO; 4 FAULT_HI; 5 ERR. -/
def THM_READ.STATE : Field := ⟨0x8102, 16, 3, .ro, .now, .num 0⟩
/-- THM_READ.MIN [47:32], RO, reset 0x7FFF, now (R409): lowest reading since reset. -/
def THM_READ.MIN : Field := ⟨0x8102, 32, 16, .ro, .now, .num 0x7FFF⟩
/-- THM_READ.MAX [63:48], RO, reset 0x8000, now (R409): highest reading since reset. -/
def THM_READ.MAX : Field := ⟨0x8102, 48, 16, .ro, .now, .num 0x8000⟩
/-- The object THM_READ, 0x8102: size, instances (R22, R469), reset domain (R11) and fields. -/
def Obj.THM_READ : ObjDesc := ⟨0x8102, 8, 0, 63, 1, [THM_READ.VALUE, THM_READ.STATE, THM_READ.MIN, THM_READ.MAX]⟩

/-! ### UPD_STATE (object 0x8301, R409 of chapter 18) -/

/-- UPD_STATE.RUNNING [0:0], RO, reset 0, now (R409): slot booted: 0 A, 1 B. -/
def UPD_STATE.RUNNING : Field := ⟨0x8301, 0, 1, .ro, .now, .num 0⟩
/-- UPD_STATE.ACTIVE [1:1], RO, reset 0, now (R409): R399. -/
def UPD_STATE.ACTIVE : Field := ⟨0x8301, 1, 1, .ro, .now, .num 0⟩
/-- UPD_STATE.TRIAL [3:2], RO, reset 3, now (R409): 0 A; 1 B; 3 none. -/
def UPD_STATE.TRIAL : Field := ⟨0x8301, 2, 2, .ro, .now, .num 3⟩
/-- UPD_STATE.STAGED_OK [4:4], RO, reset 0, now (R409): 1: the other slot holds a valid image. -/
def UPD_STATE.STAGED_OK : Field := ⟨0x8301, 4, 1, .ro, .now, .num 0⟩
/-- UPD_STATE.SVN_COUNTER [15:8], RO, reset 0, now (R409): OTP security counter. -/
def UPD_STATE.SVN_COUNTER : Field := ⟨0x8301, 8, 8, .ro, .now, .num 0⟩
/-- UPD_STATE.RUN_SVN [23:16], RO, reset 0, now (R409): IMG_SVN running. -/
def UPD_STATE.RUN_SVN : Field := ⟨0x8301, 16, 8, .ro, .now, .num 0⟩
/-- UPD_STATE.RUN_RELEASE [39:24], RO, reset 0, now (R409): IMG_MAJOR, IMG_MINOR running. -/
def UPD_STATE.RUN_RELEASE : Field := ⟨0x8301, 24, 16, .ro, .now, .num 0⟩
/-- The object UPD_STATE, 0x8301: size, instances (R22, R469), reset domain (R11) and fields. -/
def Obj.UPD_STATE : ObjDesc := ⟨0x8301, 8, 0, 0, 1, [UPD_STATE.RUNNING, UPD_STATE.ACTIVE, UPD_STATE.TRIAL, UPD_STATE.STAGED_OK, UPD_STATE.SVN_COUNTER, UPD_STATE.RUN_SVN, UPD_STATE.RUN_RELEASE]⟩

/-! ### CON_WINDOW (object 0x8201, R409 of chapter 18) -/

/-- CON_WINDOW.STATE [2:0], RO, reset 0, now (R409): 0 ABSENT; 1 PENDING; 2 OK; 3 AUTH_FAIL; 4 EXHAUSTED. -/
def CON_WINDOW.STATE : Field := ⟨0x8201, 0, 3, .ro, .now, .num 0⟩
/-- CON_WINDOW.OVERRIDE [3:3], RO, reset 0, now (R409): R408. -/
def CON_WINDOW.OVERRIDE : Field := ⟨0x8201, 3, 1, .ro, .now, .num 0⟩
/-- CON_WINDOW.FULL_W [47:32], RW, reset 0, now (R409): window: source power at word 0xFFFF, W; blade: reserved. -/
def CON_WINDOW.FULL_W : Field := ⟨0x8201, 32, 16, .rw, .now, .num 0⟩
/-- CON_WINDOW.SERIAL [127:64], RO, reset 0, now (R409): R403. -/
def CON_WINDOW.SERIAL : Field := ⟨0x8201, 64, 64, .ro, .now, .num 0⟩
/-- CON_WINDOW.LEFT_MAIN [159:128], RO, reset 0, now (R409): as last written. -/
def CON_WINDOW.LEFT_MAIN : Field := ⟨0x8201, 128, 32, .ro, .now, .num 0⟩
/-- CON_WINDOW.LEFT_HITS [191:160], RO, reset 0, now (R409): as last written. -/
def CON_WINDOW.LEFT_HITS : Field := ⟨0x8201, 160, 32, .ro, .now, .num 0⟩
/-- CON_WINDOW.PENDING [223:192], RO, reset 0, now (R409): whole J or strokes not yet written. -/
def CON_WINDOW.PENDING : Field := ⟨0x8201, 192, 32, .ro, .now, .num 0⟩
/-- CON_WINDOW.LIFE_EPOCH [255:224], RO, reset 0, now (R409): as last written. -/
def CON_WINDOW.LIFE_EPOCH : Field := ⟨0x8201, 224, 32, .ro, .now, .num 0⟩
/-- CON_WINDOW.LOST_MAIN [271:256], RO, reset 0, now (R409): R407; saturates. -/
def CON_WINDOW.LOST_MAIN : Field := ⟨0x8201, 256, 16, .ro, .now, .num 0⟩
/-- CON_WINDOW.WB_FAILS [287:272], RO, reset 0, now (R409): R407; saturates. -/
def CON_WINDOW.WB_FAILS : Field := ⟨0x8201, 272, 16, .ro, .now, .num 0⟩
/-- The object CON_WINDOW, 0x8201: size, instances (R22, R469), reset domain (R11) and fields. -/
def Obj.CON_WINDOW : ObjDesc := ⟨0x8201, 36, 0, 63, 1, [CON_WINDOW.STATE, CON_WINDOW.OVERRIDE, CON_WINDOW.FULL_W, CON_WINDOW.SERIAL, CON_WINDOW.LEFT_MAIN, CON_WINDOW.LEFT_HITS, CON_WINDOW.PENDING, CON_WINDOW.LIFE_EPOCH, CON_WINDOW.LOST_MAIN, CON_WINDOW.WB_FAILS]⟩

/-! ### CON_BLADE (object 0x8210, R409 of chapter 18) -/

/-- CON_BLADE.STATE [2:0], RO, reset 0, now (R409): 0 ABSENT; 1 PENDING; 2 OK; 3 AUTH_FAIL; 4 EXHAUSTED. -/
def CON_BLADE.STATE : Field := ⟨0x8210, 0, 3, .ro, .now, .num 0⟩
/-- CON_BLADE.OVERRIDE [3:3], RO, reset 0, now (R409): R408. -/
def CON_BLADE.OVERRIDE : Field := ⟨0x8210, 3, 1, .ro, .now, .num 0⟩
/-- CON_BLADE.AXIS [10:8], RW, reset 1, now (R409): blade: recoater axis; window: reserved. -/
def CON_BLADE.AXIS : Field := ⟨0x8210, 8, 3, .rw, .now, .num 1⟩
/-- CON_BLADE.NODE [31:16], RW, reset 0, now (R409): blade: node address; window: reserved. -/
def CON_BLADE.NODE : Field := ⟨0x8210, 16, 16, .rw, .now, .num 0⟩
/-- CON_BLADE.SERIAL [127:64], RO, reset 0, now (R409): R403. -/
def CON_BLADE.SERIAL : Field := ⟨0x8210, 64, 64, .ro, .now, .num 0⟩
/-- CON_BLADE.LEFT_MAIN [159:128], RO, reset 0, now (R409): as last written. -/
def CON_BLADE.LEFT_MAIN : Field := ⟨0x8210, 128, 32, .ro, .now, .num 0⟩
/-- CON_BLADE.LEFT_HITS [191:160], RO, reset 0, now (R409): as last written. -/
def CON_BLADE.LEFT_HITS : Field := ⟨0x8210, 160, 32, .ro, .now, .num 0⟩
/-- CON_BLADE.PENDING [223:192], RO, reset 0, now (R409): whole J or strokes not yet written. -/
def CON_BLADE.PENDING : Field := ⟨0x8210, 192, 32, .ro, .now, .num 0⟩
/-- CON_BLADE.LIFE_EPOCH [255:224], RO, reset 0, now (R409): as last written. -/
def CON_BLADE.LIFE_EPOCH : Field := ⟨0x8210, 224, 32, .ro, .now, .num 0⟩
/-- CON_BLADE.LOST_MAIN [271:256], RO, reset 0, now (R409): R407; saturates. -/
def CON_BLADE.LOST_MAIN : Field := ⟨0x8210, 256, 16, .ro, .now, .num 0⟩
/-- CON_BLADE.WB_FAILS [287:272], RO, reset 0, now (R409): R407; saturates. -/
def CON_BLADE.WB_FAILS : Field := ⟨0x8210, 272, 16, .ro, .now, .num 0⟩
/-- The object CON_BLADE, 0x8210: size, instances (R22, R469), reset domain (R11) and fields. -/
def Obj.CON_BLADE : ObjDesc := ⟨0x8210, 36, 0, 3, 1, [CON_BLADE.STATE, CON_BLADE.OVERRIDE, CON_BLADE.AXIS, CON_BLADE.NODE, CON_BLADE.SERIAL, CON_BLADE.LEFT_MAIN, CON_BLADE.LEFT_HITS, CON_BLADE.PENDING, CON_BLADE.LIFE_EPOCH, CON_BLADE.LOST_MAIN, CON_BLADE.WB_FAILS]⟩

/-! ### REC_CONFIG (object 0x9001, R419 of chapter 19) -/

/-- REC_CONFIG.REC_AUTO [0:0], RW, reset 1, boot (R419): R410. -/
def REC_CONFIG.REC_AUTO : Field := ⟨0x9001, 0, 1, .rw, .boot, .num 1⟩
/-- REC_CONFIG.REC_SIZE [31:16], RW, reset 256, boot (R419): MiB; 16 to 4,096, a multiple of 16. -/
def REC_CONFIG.REC_SIZE : Field := ⟨0x9001, 16, 16, .rw, .boot, .num 256⟩
/-- REC_CONFIG.REC_ADDR [95:32], RW, reset 0, boot (R419): DRAM address when REC_AUTO is 0. -/
def REC_CONFIG.REC_ADDR : Field := ⟨0x9001, 32, 64, .rw, .boot, .num 0⟩
/-- The object REC_CONFIG, 0x9001: size, instances (R22, R469), reset domain (R11) and fields. -/
def Obj.REC_CONFIG : ObjDesc := ⟨0x9001, 12, 0, 0, 3, [REC_CONFIG.REC_AUTO, REC_CONFIG.REC_SIZE, REC_CONFIG.REC_ADDR]⟩

/-! ### REC_STATE (object 0x9002, R419 of chapter 19) -/

/-- REC_STATE.FULL [0:0], RO, reset 0, now (R419): R417. -/
def REC_STATE.FULL : Field := ⟨0x9002, 0, 1, .ro, .now, .num 0⟩
/-- REC_STATE.WRITING [1:1], RO, reset 0, now (R419): 1 while a record is reserved and not sealed. -/
def REC_STATE.WRITING : Field := ⟨0x9002, 1, 1, .ro, .now, .num 0⟩
/-- REC_STATE.CFG_BAD [2:2], RO, reset 0, now (R419): R410. -/
def REC_STATE.CFG_BAD : Field := ⟨0x9002, 2, 1, .ro, .now, .num 0⟩
/-- REC_STATE.FIFO_HWM [15:8], RO, reset 0, now (R419): highest intake FIFO fill, 0 to 64. -/
def REC_STATE.FIFO_HWM : Field := ⟨0x9002, 8, 8, .ro, .now, .num 0⟩
/-- REC_STATE.NEXT_SEQ [63:32], RO, reset 0, now (R419): REC_SEQ of the next record. -/
def REC_STATE.NEXT_SEQ : Field := ⟨0x9002, 32, 32, .ro, .now, .num 0⟩
/-- REC_STATE.SEAL_PTR [127:64], RO, reset 0, now (R419): bytes from REC_BASE to the end of the last sealed record. -/
def REC_STATE.SEAL_PTR : Field := ⟨0x9002, 64, 64, .ro, .now, .num 0⟩
/-- REC_STATE.REC_BASE [191:128], RO, reset 0, now (R419): DRAM address of the region. -/
def REC_STATE.REC_BASE : Field := ⟨0x9002, 128, 64, .ro, .now, .num 0⟩
/-- The object REC_STATE, 0x9002: size, instances (R22, R469), reset domain (R11) and fields. -/
def Obj.REC_STATE : ObjDesc := ⟨0x9002, 24, 0, 0, 3, [REC_STATE.FULL, REC_STATE.WRITING, REC_STATE.CFG_BAD, REC_STATE.FIFO_HWM, REC_STATE.NEXT_SEQ, REC_STATE.SEAL_PTR, REC_STATE.REC_BASE]⟩

/-! ### REC_STAT (object 0x9003, R419 of chapter 19) -/

/-- REC_STAT.REC_LOST [31:0], RO, reset 0, now (R419): R417. -/
def REC_STAT.REC_LOST : Field := ⟨0x9003, 0, 32, .ro, .now, .num 0⟩
/-- REC_STAT.LOST_TAP [63:32], RO, reset 0, now (R419): R15. -/
def REC_STAT.LOST_TAP : Field := ⟨0x9003, 32, 32, .ro, .now, .num 0⟩
/-- REC_STAT.LOST_INTAKE [95:64], RO, reset 0, now (R419): R414. -/
def REC_STAT.LOST_INTAKE : Field := ⟨0x9003, 64, 32, .ro, .now, .num 0⟩
/-- REC_STAT.LOST_FULL [127:96], RO, reset 0, now (R419): R417. -/
def REC_STAT.LOST_FULL : Field := ⟨0x9003, 96, 32, .ro, .now, .num 0⟩
/-- REC_STAT.RECORDS [159:128], RO, reset 0, now (R419): records sealed since BOOT. -/
def REC_STAT.RECORDS : Field := ⟨0x9003, 128, 32, .ro, .now, .num 0⟩
/-- The object REC_STAT, 0x9003: size, instances (R22, R469), reset domain (R11) and fields. -/
def Obj.REC_STAT : ObjDesc := ⟨0x9003, 20, 0, 0, 3, [REC_STAT.REC_LOST, REC_STAT.LOST_TAP, REC_STAT.LOST_INTAKE, REC_STAT.LOST_FULL, REC_STAT.RECORDS]⟩

/-! ### RST_STATE (object 0xA001, R432 of chapter 20) -/

/-- RST_STATE.IN_RESET [9:0], RO, reset 0x3FE, now (R432): bit d: domain d held in reset. -/
def RST_STATE.IN_RESET : Field := ⟨0xA001, 0, 10, .ro, .now, .num 0x3FE⟩
/-- RST_STATE.RST_PEND [19:10], RO, reset 0, now (R432): bit 10 + d for domain d: held only for an unqualified clock or a held predecessor (R424). -/
def RST_STATE.RST_PEND : Field := ⟨0xA001, 10, 10, .ro, .now, .num 0⟩
/-- RST_STATE.CLK_QUAL [29:20], RO, reset 0, now (R432): bit 20 + d for domain d: clock qualified (R423). -/
def RST_STATE.CLK_QUAL : Field := ⟨0xA001, 20, 10, .ro, .now, .num 0⟩
/-- RST_STATE.LAST_CAUSE [34:32], RO, reset 0, now (R432): R421; power-on only (R431). -/
def RST_STATE.LAST_CAUSE : Field := ⟨0xA001, 32, 3, .ro, .now, .num 0⟩
/-- RST_STATE.FAST_BOOT [35:35], RO, reset 0, now (R432): 1: the last boot used both stored records (R429). -/
def RST_STATE.FAST_BOOT : Field := ⟨0xA001, 35, 1, .ro, .now, .num 0⟩
/-- RST_STATE.BOOT_MS [63:48], RO, reset 0, now (R432): release of the reset to STANDBY in the last boot, ms; saturates. -/
def RST_STATE.BOOT_MS : Field := ⟨0xA001, 48, 16, .ro, .now, .num 0⟩
/-- The object RST_STATE, 0xA001: size, instances (R22, R469), reset domain (R11) and fields. -/
def Obj.RST_STATE : ObjDesc := ⟨0xA001, 8, 0, 0, 0, [RST_STATE.IN_RESET, RST_STATE.RST_PEND, RST_STATE.CLK_QUAL, RST_STATE.LAST_CAUSE, RST_STATE.FAST_BOOT, RST_STATE.BOOT_MS]⟩

/-! ### RST_SW (object 0xA002, R432 of chapter 20) -/

/-- RST_SW.SW_RESET [9:3], RW, reset 0, now (R432): bit d: hold domain d, for MEM to EXP (R426). -/
def RST_SW.SW_RESET : Field := ⟨0xA002, 3, 7, .rw, .now, .num 0⟩
/-- The object RST_SW, 0xA002: size, instances (R22, R469), reset domain (R11) and fields. -/
def Obj.RST_SW : ObjDesc := ⟨0xA002, 4, 0, 0, 0, [RST_SW.SW_RESET]⟩

/-! ### RST_CONFIG (object 0xA003, R432 of chapter 20) -/

/-- RST_CONFIG.GAP [15:0], RO, reset trim, now (R432): REFCLK cycles between releases, 256 to 65,535; safe default 1,024. -/
def RST_CONFIG.GAP : Field := ⟨0xA003, 0, 16, .ro, .now, .num 1024⟩
/-- RST_CONFIG.WDOG_RESET_MS [31:16], RW, reset 10, now (R432): R427, ms; 0, or 10 to 1,000. -/
def RST_CONFIG.WDOG_RESET_MS : Field := ⟨0xA003, 16, 16, .rw, .now, .num 10⟩
/-- The object RST_CONFIG, 0xA003: size, instances (R22, R469), reset domain (R11) and fields. -/
def Obj.RST_CONFIG : ObjDesc := ⟨0xA003, 4, 0, 0, 0, [RST_CONFIG.GAP, RST_CONFIG.WDOG_RESET_MS]⟩

/-! ### RST_HIST (object 0xA004, R432 of chapter 20) -/

/-- RST_HIST.RESETN_COUNT [15:0], RO, reset 0, now (R432): resets by RESET_N (R432). -/
def RST_HIST.RESETN_COUNT : Field := ⟨0xA004, 0, 16, .ro, .now, .num 0⟩
/-- RST_HIST.DEVRESET_COUNT [31:16], RO, reset 0, now (R432): resets by DEV_RESET. -/
def RST_HIST.DEVRESET_COUNT : Field := ⟨0xA004, 16, 16, .ro, .now, .num 0⟩
/-- RST_HIST.WDOG_COUNT [47:32], RO, reset 0, now (R432): watchdog resets. -/
def RST_HIST.WDOG_COUNT : Field := ⟨0xA004, 32, 16, .ro, .now, .num 0⟩
/-- RST_HIST.CLK_DROPS [63:48], RO, reset 0, now (R432): R425. -/
def RST_HIST.CLK_DROPS : Field := ⟨0xA004, 48, 16, .ro, .now, .num 0⟩
/-- The object RST_HIST, 0xA004: size, instances (R22, R469), reset domain (R11) and fields. -/
def Obj.RST_HIST : ObjDesc := ⟨0xA004, 8, 0, 0, 0, [RST_HIST.RESETN_COUNT, RST_HIST.DEVRESET_COUNT, RST_HIST.WDOG_COUNT, RST_HIST.CLK_DROPS]⟩

/-! ### BST_RESULT (object 0xA101, R445 of chapter 21) -/

/-- BST_RESULT.KIND [0:0], RO, reset 0, now (R445): BR_KIND. -/
def BST_RESULT.KIND : Field := ⟨0xA101, 0, 1, .ro, .now, .num 0⟩
/-- BST_RESULT.RESULT [9:8], RO, reset 0, now (R445): R440. -/
def BST_RESULT.RESULT : Field := ⟨0xA101, 8, 2, .ro, .now, .num 0⟩
/-- BST_RESULT.REPAIRED [10:10], RO, reset 0, now (R445): R440. -/
def BST_RESULT.REPAIRED : Field := ⟨0xA101, 10, 1, .ro, .now, .num 0⟩
/-- BST_RESULT.FAIL_STEP [23:16], RO, reset 0, now (R445): R440. -/
def BST_RESULT.FAIL_STEP : Field := ⟨0xA101, 16, 8, .ro, .now, .num 0⟩
/-- BST_RESULT.FAIL_ARRAY [47:32], RO, reset 0, now (R445): R440. -/
def BST_RESULT.FAIL_ARRAY : Field := ⟨0xA101, 32, 16, .ro, .now, .num 0⟩
/-- BST_RESULT.FAIL_DETAIL [63:48], RO, reset 0, now (R445): R440. -/
def BST_RESULT.FAIL_DETAIL : Field := ⟨0xA101, 48, 16, .ro, .now, .num 0⟩
/-- BST_RESULT.UNARMABLE [127:64], RO, reset 0, now (R445): bit c: channel c unarmable under R443. -/
def BST_RESULT.UNARMABLE : Field := ⟨0xA101, 64, 64, .ro, .now, .num 0⟩
/-- The object BST_RESULT, 0xA101: size, instances (R22, R469), reset domain (R11) and fields. -/
def Obj.BST_RESULT : ObjDesc := ⟨0xA101, 16, 0, 0, 0, [BST_RESULT.KIND, BST_RESULT.RESULT, BST_RESULT.REPAIRED, BST_RESULT.FAIL_STEP, BST_RESULT.FAIL_ARRAY, BST_RESULT.FAIL_DETAIL, BST_RESULT.UNARMABLE]⟩

/-! ### BST_REPAIR (object 0xA102, R445 of chapter 21) -/

/-- BST_REPAIR.SOFT_ENTRIES [15:0], RO, reset 0, now (R445): COUNT of the map in force. -/
def BST_REPAIR.SOFT_ENTRIES : Field := ⟨0xA102, 0, 16, .ro, .now, .num 0⟩
/-- BST_REPAIR.FUSED [31:16], RO, reset 0, now (R445): fuse entries used. -/
def BST_REPAIR.FUSED : Field := ⟨0xA102, 16, 16, .ro, .now, .num 0⟩
/-- BST_REPAIR.FUSE_FREE [47:32], RO, reset 128, now (R445): fuse entries free. -/
def BST_REPAIR.FUSE_FREE : Field := ⟨0xA102, 32, 16, .ro, .now, .num 128⟩
/-- BST_REPAIR.TEST_OPEN [48:48], RO, reset 0, now (R445): R439. -/
def BST_REPAIR.TEST_OPEN : Field := ⟨0xA102, 48, 1, .ro, .now, .num 0⟩
/-- The object BST_REPAIR, 0xA102: size, instances (R22, R469), reset domain (R11) and fields. -/
def Obj.BST_REPAIR : ObjDesc := ⟨0xA102, 8, 0, 0, 0, [BST_REPAIR.SOFT_ENTRIES, BST_REPAIR.FUSED, BST_REPAIR.FUSE_FREE, BST_REPAIR.TEST_OPEN]⟩

/-! ### Identity block and staging-ring registers of BAR0 (R463, R466) -/

/-- ID_DEVICE, identity block offset 0x00 [15:0], read only (R463). -/
def BAR0.ID_DEVICE : Field := ⟨0x30000, 0, 16, .ro, .now, .num 0x6464⟩
/-- ID_FAMILY, identity block offset 0x00 [23:16], read only (R463). -/
def BAR0.ID_FAMILY : Field := ⟨0x30000, 16, 8, .ro, .now, .num 0x01⟩
/-- ID_SILICON, identity block offset 0x04 [7:0], read only (R463). -/
def BAR0.ID_SILICON : Field := ⟨0x30004, 0, 8, .ro, .now, .num 0xB0⟩
/-- ID_FW_MINOR, identity block offset 0x04 [15:8], read only (R463). -/
def BAR0.ID_FW_MINOR : Field := ⟨0x30004, 8, 8, .ro, .now, .num 0⟩
/-- ID_FW_MAJOR, identity block offset 0x04 [23:16], read only (R463). -/
def BAR0.ID_FW_MAJOR : Field := ⟨0x30004, 16, 8, .ro, .now, .num 0⟩
/-- ID_BOOT, identity block offset 0x08 [2:0], read only (R463). -/
def BAR0.ID_BOOT : Field := ⟨0x30008, 0, 3, .ro, .now, .num 1⟩
/-- ID_HOST_MIB, identity block offset 0x18 [31:0], read only (R463). -/
def BAR0.ID_HOST_MIB : Field := ⟨0x30018, 0, 32, .ro, .now, .num 0⟩
/-- TSW_PROD at BAR0 offset 0x01008000, 32 bits, free-running (R466). -/
def BAR0.TSW_PROD : Field := ⟨0x1038000, 0, 32, .rw, .now, .num 0⟩
/-- TSW_CONS at BAR0 offset 0x01008004, 32 bits, free-running (R466). -/
def BAR0.TSW_CONS : Field := ⟨0x1038004, 0, 32, .ro, .now, .num 0⟩

/-- Objects of the index (R469), part 0. -/
def objTable0 : List ObjDesc := [Obj.PLT_TOKEN, Obj.PLT_STAGE, Obj.PLT_QUEUE, Obj.PLT_MB_STAT, Obj.PLT_EVQ, Obj.PLT_MODE, Obj.PLT_SLACK, Obj.PLT_MGMT, Obj.HBR_STATE, Obj.SEQ_MANIFEST, Obj.SEQ_LAYER_STATE, Obj.SEQ_TILE_POS, Obj.SEQ_MOTION, Obj.SEQ_MOTION_STAT, Obj.SEQ_AXIS_SETPOINT, Obj.SEQ_PSET, Obj.SEQ_PSET_BLOCK, Obj.SEQ_DYN, Obj.CHT_GEOM, Obj.CHT_NODES]

/-- Objects of the index (R469), part 1. -/
def objTable1 : List ObjDesc := [Obj.CHT_BANK, Obj.GAT_CONFIG, Obj.GAT_STATE, Obj.GAT_STAT, Obj.GAT_TRIM, Obj.GAT_TRIM_STATE, Obj.RFX_BANK0, Obj.RFX_BANK1, Obj.RFX_CONFIG, Obj.RFX_SELECT, Obj.RFX_STATE, Obj.RFX_STAT, Obj.RFX_LATENCY, Obj.BWK_MAXLEN, Obj.BWK_GEOM, Obj.BWK_CASCADE, Obj.BWK_WAIT, Obj.BWK_STATE, Obj.BWK_STAT, Obj.ADP_CONFIG]

/-- Objects of the index (R469), part 2. -/
def objTable2 : List ObjDesc := [Obj.ADP_POLICY, Obj.ADP_STATE, Obj.ADP_CONTROL, Obj.ADP_REPORT, Obj.ADP_RESIDUE, Obj.STR_PORT_CFG, Obj.STR_PORT_CTRL, Obj.STR_PORT_STATE, Obj.STR_PORT_STAT, Obj.STR_CHAIN, Obj.CAM_PORT, Obj.CAM_TRIG, Obj.CAM_STAT, Obj.IPL_CTX, Obj.IPL_CTX_STATE, Obj.IPL_STAT, Obj.IPL_OUT, Obj.LUM_GLOBAL, Obj.LUM_SINK, Obj.LUM_SINK_STATE]

/-- Objects of the index (R469), part 3. -/
def objTable3 : List ObjDesc := [Obj.LUM_SINK_CTRL, Obj.LUM_SHW, Obj.LUM_SHW_STATE, Obj.MOT_CONFIG, Obj.MOT_STATE, Obj.MOT_STAT, Obj.MOT_RECOAT, Obj.PFI_INC, Obj.PFI_SSI, Obj.PFI_INC_STATE, Obj.PFI_SSI_STATE, Obj.PFI_CLEAR, Obj.PFI_CMP, Obj.PFI_CMP_STATE, Obj.PFI_EMU, Obj.PFI_EMU_STATE, Obj.TWN_CONFIG, Obj.TWN_STATE, Obj.TWN_STAT, Obj.CSC_CONFIG]

/-- Objects of the index (R469), part 4. -/
def objTable4 : List ObjDesc := [Obj.CSC_STATE, Obj.TIM_CONFIG, Obj.TIM_STATE, Obj.TIM_NOW, Obj.TIM_PTP, Obj.TIM_PORT, Obj.TIM_STAT, Obj.TIM_TXQ, Obj.DRC_CONFIG, Obj.DRC_STATE, Obj.DRC_LANE, Obj.DRC_STAT, Obj.DRC_UE_LOG, Obj.VST_CONFIG, Obj.VST_RETRY, Obj.VST_STATE, Obj.CAL_CONFIG, Obj.CAL_STATE, Obj.CAL_GATE, Obj.CAL_TRIM]

/-- Objects of the index (R469), part 5. -/
def objTable5 : List ObjDesc := [Obj.THM_SLOT, Obj.THM_READ, Obj.CON_WINDOW, Obj.CON_BLADE, Obj.UPD_STATE, Obj.REC_CONFIG, Obj.REC_STATE, Obj.REC_STAT, Obj.RST_STATE, Obj.RST_SW, Obj.RST_CONFIG, Obj.RST_HIST, Obj.BST_RESULT, Obj.BST_REPAIR, Obj.SAF_STATUS]

/-- Every object the device defines (R469), by rising object ID. -/
def objTable : List ObjDesc := objTable0 ++ objTable1 ++ objTable2 ++ objTable3 ++ objTable4 ++ objTable5

end Sys2Proof.Machine
end

