-- ==== Sys2Proof/Machine/StatePilot.lean ====
section
/-!
DEFINITION. Machine/StatePilot.lean: the state of the control plane and of the fabric ports (R157 to R248).
-/
namespace Sys2Proof.Machine

/-- A command as the pilot holds it: R200's header and payload, with its opcode. -/
structure Cmd where
  master : Nat
  mailbox : Nat
  op : Nat
  seq : Nat
  epoch : Nat
  flags : Nat
  length : Nat
  object : Nat
  inst : Nat
  reserved : Nat
  payload : Bytes
  deriving DecidableEq, Repr

/-- The mailbox of one master (R199, R203): slots, whether it is posted and whether a command of it is in progress, the
SEQ, opcode and epoch of the last completed command, and the source of a datagram. -/
structure Mbox where
  cmdSlot : Bytes
  respSlot : Bytes
  posted : Bool
  busy : Option Cmd
  last : Option (Nat × Nat × Nat)
  peer : Nat × Nat
  deriving DecidableEq, Repr

/-- An object of a set: its ID, instance, image, and the data it carried from DRAM (R42, R45). -/
structure SetObj where
  obj : Nat
  inst : Nat
  image : Bytes
  data : Bytes
  deriving DecidableEq, Repr

/-- A committed set (R216): its number, objects, NOT_BEFORE, and the control tick from which it may take effect. -/
structure CommSet where
  id : Nat
  objs : List SetObj
  notBefore : Option Time
  earliest : Nat
  manifest : Option Bytes
  deriving DecidableEq, Repr

/-- A failure found by the consistency check (R215). -/
structure Fail where
  code : Nat
  rec_ : Nat
  obj : Nat
  inst : Nat
  index : Nat
  deriving DecidableEq, Repr

/-- What a command still under way waits for (R208). -/
inductive LongKind where
  /-- the DRAM copy of a staged object (R42, R45, R71) -/
  | stageCopy
  /-- the consistency check (R214) -/
  | check
  /-- DISARM or ABORT admitted in SLACK (R233, R240) -/
  | leaveSlack
  /-- RESUME admitted during SETTLING (R238) -/
  | resume
  /-- a calibration request (R382), by its REQ_ID -/
  | cal (id : Nat)
  /-- a reference capture of a context (R262) -/
  | capture (ctx : Nat)
  /-- UPD_STAGE (R401) -/
  | updStage
  /-- CON_REAUTH of a cassette (R405): 0 to 63 a window, 64 to 67 a blade -/
  | reauth (cass : Nat)
  /-- work of the harbour's firmware on records (R387, R402, R405, R408, R409, R445) -/
  | harbour
  /-- an exchange of roles (R327) -/
  | handover
  /-- a restart of the logbook region (R418) -/
  | recClear
  /-- BST_SHUTDOWN, until the shutdown test is entered (R433) -/
  | shutdown (restart jtag : Bool)
  deriving DecidableEq, Repr

/-- A command under way. -/
structure LongCmd where
  cmd : Cmd
  kind : LongKind
  since : Nat
  deriving DecidableEq, Repr

/-- A mode that a command asks for (R206, R233, R239, R240, R247, R382), acted on at the next tick boundary (R14).
`abort` keeps how many sets the queue held, for ABORT discards those alone. -/
inductive ModeReq where
  | safe
  | hold (immediate : Bool)
  | urgent
  | arm
  | serviceEnter
  | serviceExit
  | calibrate
  | clear
  | abort (sets : Nat)
  deriving DecidableEq, Repr

/-- An event posted and not yet in the ring (R223, R224): the instant of its cause where the defining rule names one, and
the elapsed tick at which it was raised. -/
structure Ev where
  code : Nat
  inst : Nat
  at_ : Option Time
  data : Bytes
  tick : Nat
  deriving DecidableEq, Repr

/-- An item of Slack work (R235): 0 life write-back, 1 calibration, 2 self-test, 3 open-lamp diagnosis. -/
structure SlackItem where
  kind : Nat
  ref : Nat
  arg : Nat
  running : Bool
  deriving DecidableEq, Repr

/-- The pilot's state beside its objects. `prevEpoch` keeps the latest epoch each master was given since reset (R202); `mirror` holds the status mirror as last refreshed; bytes past its end read as
zero. `applied` is the set taken at the latest tide mark, until PLT_QUEUE shows it (R220); `nodePlan` the tide mark named in
CFG_WRs already sent for a set (R193); `slackOwed` a layer that ended in HOLD or SAFE, whose SLACK entry waits;
`disarmDue` the elapsed tick of a DISARM admitted in ARMED (R233); `wdogMissed` the control ticks missed in a row. `eventSince` and `holdoffUntil` serve R226; `freeNumber` is R47's freedom after
entry into STANDBY; `holdReturn` keeps the RETURN of a HOLD that SAFE interrupted, `heldInSafe` the cause and source of the latest HOLD requested
in SAFE (R16). `tripAt` is
the boundary (elapsed tick, instant) that latched a trip not yet reported (R243); `modeReqs` what commands have asked of the
mode controller since the last tick boundary. -/
structure Pilot where
  mboxes : List Mbox
  holderSince : Nat
  prevEpoch : List (Option Nat)
  staged : List SetObj
  check : List Fail
  queue : List CommSet
  long : List LongCmd
  ring : Kv Bytes
  lostNew : Nat
  holdoffUntil : Nat
  eventSince : Bool
  msixMasked : Nat
  msixHeld : Nat
  mirror : Bytes
  mirSeq : Nat
  freeNumber : Bool
  holdReturn : Nat
  heldInSafe : Option (Nat × Nat)
  slackSince : Nat
  slackWarned : Bool
  slackWork : List SlackItem
  modeSince : Nat
  applied : Option (Nat × Time)
  nodePlan : Option (Nat × Time)
  slackOwed : Bool
  disarmDue : Option Nat
  resetDue : Option Nat
  discSince : Option Nat
  discClear : Bool
  highSince : Nat
  tripAt : Option (Nat × Time)
  modeReqs : List ModeReq
  wdogMissed : Nat
  ethPeer : Option (Nat × Nat)
  restDue : Bool
  deriving DecidableEq, Repr

/-- A CFG_WR or CFG_RD waiting for its answer (R193). -/
structure CfgOut where
  seq : Nat
  node : Nat
  read : Bool
  tag : Nat
  now : Bool
  payload : Bytes
  sentAt : Nat
  retries : Nat
  tideLayer : Bool
  deriving DecidableEq, Repr

/-- A Strand port beside its objects (R157, R178 to R193). Bring-up: runs of TS1 and TS2 by lane, the latest set by lane
(R182), the rates the far end offers, whether RATE has been sent, lanes whose equalisation has ended (own receiver, far
receiver) and whether one gave up, the last request answered (number + 1, 0 for none), its answer and the requests made by
lane, the blocks that the stored taps have still to pass by lane (R188; 0 where requests judge), echoes answered and their
sum, LINK_UP sent, the elapsed ticks at the start and at FAILED, the taps last in use. Streams by node (R178, R179): the
next SEQ, LAST + 1 where one has been accepted, the nodes (on link ports the streams) sent to since the port came UP. Then configuration under way,
acknowledgements, the node status and the faults it reports, the latest bell's lateness and instant, Neap (1 asked, 2 in
Neap, 3 leaving) and the lanes whose node has accepted it, the nodes counted absent, and the first extended address behind
each relay (R194). -/
structure Port where
  ts1 : List Nat
  ts2 : List Nat
  lastLm : Kv Nat
  farRates : Nat
  rateSent : Bool
  eqOwn : Nat
  eqFar : Nat
  eqGaveUp : Bool
  eqSeen : List Nat
  eqAnswer : List Nat
  eqAsked : List Nat
  eqTry : List Nat
  echoes : Nat
  echoSum : Int
  linkUpSent : Bool
  since : Nat
  failedAt : Nat
  storedTaps : List (Nat × Nat)
  txTick : Nat
  rxTick : Option Nat
  resyncTick : Bool
  txCtl : Kv Nat
  rxCtl : Kv Nat
  sentTo : List Nat
  sent : List CfgOut
  ackGot : Bool
  missRun : Nat
  nodeStatus : Option (Nat × Nat)
  srcFaults : Nat
  cassFaults : Nat
  bellLate : Nat
  bellAt : Option Time
  neapStep : Nat
  neapAcks : Nat
  absent : List Nat
  ranges : Kv Nat
  deriving DecidableEq, Repr

def Mbox.init : Mbox := ⟨zeros 256, zeros 256, false, none, none, (0, 0)⟩

def Pilot.init : Pilot :=
  { mboxes := List.replicate 24 Mbox.init, holderSince := 0, prevEpoch := [none, none, none], staged := [],
    check := [], queue := [], long := [], ring := [], lostNew := 0, holdoffUntil := 0, eventSince := false,
    msixMasked := 0, msixHeld := 0, mirror := [], mirSeq := 0, freeNumber := true, holdReturn := 0, heldInSafe := none,
    slackSince := 0, slackWarned := false, slackWork := [], modeSince := 0, applied := none, nodePlan := none, slackOwed := false, disarmDue := none,
    resetDue := none, discSince := none, discClear := false, highSince := 0, tripAt := none, modeReqs := [], wdogMissed := 0,
    ethPeer := none, restDue := false }

def Port.init : Port :=
  { ts1 := [0, 0], ts2 := [0, 0], lastLm := [], farRates := 0, rateSent := false, eqOwn := 0, eqFar := 0,
    eqGaveUp := false, eqSeen := [0, 0], eqAnswer := [0, 0], eqAsked := [0, 0], eqTry := [0, 0], echoes := 0, echoSum := 0,
    linkUpSent := false, since := 0, failedAt := 0, storedTaps := [], txTick := 0, rxTick := none, resyncTick := true, txCtl := [],
    rxCtl := [], sentTo := [], sent := [], ackGot := false, missRun := 0, nodeStatus := none, srcFaults := 0,
    cassFaults := 0, bellLate := 0, bellAt := none, neapStep := 0, neapAcks := 0, absent := [], ranges := [] }

end Sys2Proof.Machine
end

