-- ==== Sys2Proof/Machine/StateAxes.lean ====
section
/-!
DEFINITION. Machine/StateAxes.lean: the state of bed axes, encoders, compare units and emulation (R284 to R311) beside
their objects.
-/
namespace Sys2Proof.Machine

/-- A bed axis (R286 to R297): p, v, a; the target in force, a latched target not yet taken with the elapsed tick that latches it, a kept target; whether the
time-optimal stop runs; the encoder reference E₀ and the run of excessive deviations; the driver fault input; the causes of
the fault it stands in; the level of MDIR. -/
structure Axis where
  p : F64
  v : F64
  a : F64
  target : Option Int
  latch : Option (Int × Nat)
  kept : Option Int
  stopping : Bool
  e0 : Int
  devRun : Nat
  mflt : Bool
  causes : List Nat
  mdir : Bool
  deriving DecidableEq, Repr

/-- An incremental input (R300 to R303): the filtered levels of ENC_A, ENC_B and ENC_Z, an index event not yet taken, whether
it has counted, and whether an index event has been met since the last change of direction. -/
structure IncIn where
  a : Bool
  b : Bool
  z : Bool
  index : Bool
  counted : Bool
  prevIndex : Bool
  turned : Bool
  deriving DecidableEq, Repr

/-- An SSI input (R304, R305): profile ticks to the next reading, whether one is being read, the previous value, the run of
errors, the sign of the last change (0 none), and a new reading for the stall test. -/
structure SsiIn where
  div : Nat
  busy : Bool
  prev : Option Nat
  errRun : Nat
  dir : Int
  fresh : Bool
  value : Option Nat
  deriving DecidableEq, Repr

/-- An entry of a compare list (R306). -/
structure CmpEntry where
  pos : Int
  dir : Nat
  act : Nat
  deriving DecidableEq, Repr

/-- A compare unit (R306 to R309): the list on-die, the output level, the end of its pulse, whether CMP_MISSED has been
posted for this arming, and whether the armed entry still waits for the first direction of travel to be judged. -/
structure Cmp where
  list : List CmpEntry
  out : Bool
  pulseEnd : Time
  missPosted : Bool
  unjudged : Bool
  deriving DecidableEq, Repr

/-- The recoat sequence (R298, R299): the step under way (0 none, 3 platform, 4 settling, 5 to the far end or the single
stroke, 6 back home), whether it has failed there, whether HOLD or SAFE interrupts it, when settling ends, and whether it
has reported done in this Slack. -/
structure Recoat where
  step : Nat
  failed : Bool
  paused : Bool
  settleAt : Option Nat
  done : Bool
  deriving DecidableEq, Repr

/-- Axes, inputs, compare units and the positions that emulation outputs started from (R310). -/
structure Axes where
  axes : List Axis
  incs : List IncIn
  ssis : List SsiIn
  cmps : List Cmp
  emuS0 : List Int
  recoat : Recoat
  deriving DecidableEq, Repr

def Axis.init : Axis := ⟨F64.zero, F64.zero, F64.zero, none, none, none, false, 0, 0, false, [], false⟩
def IncIn.init : IncIn := ⟨false, false, false, false, false, false, false⟩
def SsiIn.init : SsiIn := ⟨0, false, none, 0, 0, false, none⟩
def Cmp.init : Cmp := ⟨[], false, 0, false, false⟩
def Recoat.init : Recoat := ⟨0, false, false, none, true⟩
def Axes.init : Axes :=
  ⟨List.replicate 8 Axis.init, List.replicate 8 IncIn.init, List.replicate 4 SsiIn.init, List.replicate 8 Cmp.init,
   [0, 0], Recoat.init⟩

end Sys2Proof.Machine
end

