-- ==== Sys2Proof/Machine/Tile.lean ====
section
/-!
DEFINITION. Machine/Tile.lean: the tile and its vector records (R28 to R38), the tile check (R49), the chain tests of
the breakwater (R125, R141), and the reading of a checked tile as the items a sequencer executes.
-/
namespace Sys2Proof.Machine

/-- The tile header (R29). -/
structure TileHdr where
  magic : Nat
  version : Nat
  channel : Nat
  flags : Nat
  planSeq : Nat
  layer : Nat
  count : Nat
  deriving DecidableEq, Repr

/-- A vector record (R32); `a` and `b` are read as signed 32-bit. -/
structure VRec where
  op : Nat
  flags : Nat
  pset : Nat
  a : Int
  b : Int
  power : Nat
  speed : Nat
  deriving DecidableEq, Repr

def tileHdr (t : Bytes) : TileHdr :=
  ⟨fieldLE t 0 1, fieldLE t 1 1, fieldLE t 2 1, fieldLE t 3 1, fieldLE t 4 4, fieldLE t 8 4, fieldLE t 12 2⟩

def TileHdr.reorderable (h : TileHdr) : Bool := bitOf h.flags 0
def TileHdr.adoption (h : TileHdr) : Bool := bitOf h.flags 1

/-- The 16 bytes of record `n` (R28). -/
def recBytes (t : Bytes) (n : Nat) : Bytes := slice t (16 + 16 * n) 16

def parseRec (r : Bytes) : VRec :=
  ⟨fieldLE r 0 1, fieldLE r 1 1, fieldLE r 2 2, fieldLEs r 4 4, fieldLEs r 8 4, fieldLE r 12 2, fieldLE r 14 2⟩

/-- Record `n` of a tile. -/
def tileRec (t : Bytes) (n : Nat) : VRec := parseRec (recBytes t n)

def opMark : Nat := 0x01
def opJump : Nat := 0x02
def opDwell : Nat := 0x03
def opSync : Nat := 0x04
def opProfile : Nat := 0x05
def opEnd : Nat := 0x0F

def VRec.laser (r : VRec) : Bool := bitOf r.flags 0
def VRec.join (r : VRec) : Bool := bitOf r.flags 1
def VRec.noSky (r : VRec) : Bool := bitOf r.flags 2
def VRec.isMark (r : VRec) : Bool := r.op == opMark
def VRec.isJump (r : VRec) : Bool := r.op == opJump
def VRec.litDwell (r : VRec) : Bool := r.op == opDwell && r.laser
/-- A record that takes ticks (R33, R34). -/
def VRec.takesTicks (r : VRec) : Bool := r.op == opMark || r.op == opJump || r.op == opDwell
/-- The first and second operand read unsigned. -/
def VRec.ua (r : VRec) : Nat := ofSigned 32 r.a
def VRec.ub (r : VRec) : Nat := ofSigned 32 r.b

/-- The records in use, in order (R31). -/
def usedRecs (t : Bytes) : List VRec := (List.range (min 254 (tileHdr t).count)).map (tileRec t)

/-- A parameter set record (R41), as its 128-bit value. -/
def psGet (f : Field) (w : Nat) : Nat := bits w f.lsb f.width

/-- A set is defined when its PS_MARK_SPEED is not 0 (R41). -/
def psDefined (w : Nat) : Bool := psGet PS.MARK_SPEED w != 0

/-- The rules of R41 that a staged set must keep (P_RANGE). -/
def psRangeOk (w : Nat) : Bool :=
  if psDefined w then
    decide (psGet PS.MARK_SPEED w ≤ 20000000) && decide (1 ≤ psGet PS.JUMP_SPEED w) &&
    decide (psGet PS.JUMP_SPEED w ≤ 20000000) && decide (psGet PS.POWER w ≤ psGet PS.POWER_CEIL w) &&
    bits w 116 12 == 0
  else w == 0

/-- The bed speed of a mark, µm/s (R35). -/
def markSpeed (ps speed : Nat) : Nat := (psGet PS.MARK_SPEED ps * speed) >>> 15
/-- The bed speed of a jump, µm/s (R35). -/
def jumpSpeed (ps speed : Nat) : Nat := (psGet PS.JUMP_SPEED ps * speed) >>> 15
/-- The power word (R35). -/
def powerWord (ps power : Nat) : Nat := (psGet PS.POWER ps * power) >>> 15

/-- What a tile is judged against: the channel that executes it, the layer, the plan number of the channel's previous
tile, the parameter sets, the chart's geometry and the breakwater's limits in force (R49, R141). -/
structure TileEnv where
  channel : Nat
  layer : Nat
  prevSeq : Option Nat
  pset : Nat → Nat
  x0 : Int
  y0 : Int
  pitch : Nat
  maxLen : Nat
  borderEn : Bool
  regXLo : Int
  regXHi : Int
  regYLo : Int
  regYHi : Int

/-- A point lies in the coverage region (R70); a chart with PITCH 0 covers nothing (R76). -/
def TileEnv.covers (e : TileEnv) (x y : Int) : Bool :=
  e.pitch != 0 && decide (e.x0 ≤ x) && decide (x ≤ e.x0 + 128 * e.pitch) &&
  decide (e.y0 ≤ y) && decide (y ≤ e.y0 + 128 * e.pitch)

/-- A point lies in the device's region (R137). -/
def TileEnv.inRegion (e : TileEnv) (x y : Int) : Bool :=
  decide (e.regXLo ≤ x) && decide (x ≤ e.regXHi) && decide (e.regYLo ≤ y) && decide (y ≤ e.regYHi)

/-- A valid endpoint (R26). -/
def coordOk (x y : Int) : Bool := decide (x.natAbs ≤ 2147000) && decide (y.natAbs ≤ 2147000)

/-- The point fixed by the latest JUMP or MARK_LINE before each record of a tile (R34). -/
def startPoints : List VRec → Option (Int × Int) → List (VRec × Option (Int × Int))
  | [], _ => []
  | r :: rs, p =>
    (r, p) :: startPoints rs (if r.isMark || r.isJump then some (r.a, r.b) else p)

/-- The squared length of a mark from its start point. -/
def markLen2 (r : VRec) (p : Int × Int) : Nat :=
  ((r.a - p.1) * (r.a - p.1) + (r.b - p.2) * (r.b - p.2)).toNat

/-- The index of the first record that fails a test of its start point, its next record and itself. -/
def firstBad (f : VRec → Option (Int × Int) → Option VRec → Bool) :
    List (VRec × Option (Int × Int)) → Nat → Option Nat
  | [], _ => none
  | (r, p) :: rs, n => if f r p (rs.head?.map Prod.fst) then some n else firstBad f rs (n + 1)

/-- T_COUNT: the count itself, or the first record that breaks R31. -/
def badCount (t : Bytes) : Option Nat :=
  let n := (tileHdr t).count
  if n < 2 ∨ 254 < n then some 0xFF
  else (List.range 254).find? (fun i =>
    if i + 1 < n then (tileRec t i).op == opEnd
    else if i + 1 = n then (tileRec t i).op != opEnd
    else !allZero (slice t (16 + 16 * i) 16))

def badOpcode (r : VRec) : Bool :=
  !(r.op == opMark || r.op == opJump || r.op == opDwell || r.op == opSync || r.op == opProfile || r.op == opEnd)

/-- The flags that R33 allows an opcode. -/
def flagsAllowed (op : Nat) : Nat := if op = opMark then 6 else if op = opDwell then 1 else 0

def badFlags (r : VRec) : Bool := (r.flags &&& flagsAllowed r.op) != r.flags

/-- A field marked 0 in R33, or a reserved one, is non-zero. -/
def badReserved (r : VRec) : Bool :=
  if r.op = opJump then r.power != 0
  else if r.op = opDwell then r.b != 0 || r.speed != 0 || (!r.laser && (r.power != 0 || r.pset != 0))
  else if r.op = opSync then r.ua >>> 8 != 0 || r.power != 0 || r.speed != 0 || r.pset != 0
  else if r.op = opProfile then r.pset != 0
  else if r.op = opEnd then r.a != 0 || r.b != 0 || r.power != 0 || r.speed != 0 || r.pset != 0
  else false

/-- The record names a parameter set (R33). -/
def VRec.namesSet (r : VRec) : Bool := r.isMark || r.isJump || r.litDwell

def badPset (e : TileEnv) (r : VRec) : Bool :=
  r.namesSet && (decide (255 < r.pset) || !psDefined (e.pset r.pset))

def badCoord (r : VRec) : Bool := (r.isMark || r.isJump) && !coordOk r.a r.b

def badField (e : TileEnv) (r : VRec) (p : Option (Int × Int)) : Bool :=
  ((r.isMark || r.isJump) && !e.covers r.a r.b) ||
  (r.isMark && (match p with | some q => !e.covers q.1 q.2 | none => false))

def badMaxLen (e : TileEnv) (r : VRec) (p : Option (Int × Int)) : Bool :=
  r.isMark && (match p with | some q => decide (e.maxLen * e.maxLen < markLen2 r q) | none => false)

def badRate (e : TileEnv) (r : VRec) (p : Option (Int × Int)) : Bool :=
  r.isMark && (match p with
    | some q =>
      let v := markSpeed (e.pset r.pset) r.speed
      decide (10000000000 * markLen2 r q < v * v)
    | none => false)

def badSpeed (e : TileEnv) (r : VRec) : Bool :=
  let v := if r.isMark then markSpeed (e.pset r.pset) r.speed else jumpSpeed (e.pset r.pset) r.speed
  ((r.isMark || r.isJump) && (decide (v < 1) || decide (20000000 < v))) ||
  (r.op == opDwell && (decide (r.ua < 10) || decide (2000000 < r.ua)))

def badPower (e : TileEnv) (r : VRec) (nxt : Option VRec) : Bool :=
  ((r.isMark || r.litDwell) &&
    (r.power == 0 || decide (psGet PS.POWER_CEIL (e.pset r.pset) < powerWord (e.pset r.pset) r.power))) ||
  (r.op == opProfile && (match nxt with
    | some m => m.isMark &&
        (decide (psGet PS.POWER_CEIL (e.pset m.pset) < powerWord (e.pset m.pset) r.power) ||
         decide (psGet PS.POWER_CEIL (e.pset m.pset) < powerWord (e.pset m.pset) r.speed))
    | none => false))

def badProfile (r : VRec) (p : Option (Int × Int)) (nxt : Option VRec) : Bool :=
  r.op == opProfile && (match nxt with
    | some m => !m.isMark || (match p with
        | some q => decide (markLen2 m q < (r.ua + r.ub) * (r.ua + r.ub))
        | none => false)
    | none => true)

/-- R34: some record takes ticks, and the first such is a JUMP. -/
def badFirst (rs : List VRec) : Option Nat :=
  match rs.findIdx? VRec.takesTicks with
  | some i => if (rs[i]?).any VRec.isJump then none else some i
  | none => some 0xFF

def badJoin (r : VRec) (nxt : Option VRec) : Bool :=
  r.isMark && r.join && (match nxt with
    | some m => !m.isMark || m.pset != r.pset
    | none => true)

def badSync (h : TileHdr) (r : VRec) : Bool :=
  r.op == opSync && (decide (1 < r.ua) || h.reorderable || h.adoption)

/-- A chain of records: its start point and the bounding box of its points (R125). -/
structure Box where
  xlo : Int
  xhi : Int
  ylo : Int
  yhi : Int
  deriving DecidableEq, Repr

def Box.point (x y : Int) : Box := ⟨x, x, y, y⟩
def Box.grow (b : Box) (x y : Int) : Box := ⟨min b.xlo x, max b.xhi x, min b.ylo y, max b.yhi y⟩

/-- The chains of a tile's records, each with its first record index and its points (R61). -/
def chainPts : List (VRec × Option (Int × Int)) → Nat → Option (Nat × List (Int × Int)) →
    List (Nat × List (Int × Int))
  | [], _, cur => cur.toList
  | (r, p) :: rs, n, cur =>
    if r.isMark then
      let c := match cur with
        | some (n0, ps) => (n0, ps ++ [(r.a, r.b)])
        | none => (n, p.toList ++ [(r.a, r.b)])
      if r.join then chainPts rs (n + 1) (some c) else c :: chainPts rs (n + 1) none
    else cur.toList ++ chainPts rs (n + 1) none

/-- The box of a list of points. -/
def boxOf : List (Int × Int) → Box
  | [] => Box.point 0 0
  | (x, y) :: ps => ps.foldl (fun b q => b.grow q.1 q.2) (Box.point x y)

/-- B_EXTENT of R141: a box wider or taller than BWK_MAXLEN. -/
def boxTooBig (maxLen : Nat) (b : Box) : Bool :=
  decide ((maxLen : Int) < b.xhi - b.xlo) || decide ((maxLen : Int) < b.yhi - b.ylo)

def badExtent (e : TileEnv) (rs : List (VRec × Option (Int × Int))) : Option Nat :=
  ((chainPts rs 0 none).find? (fun c => boxTooBig e.maxLen (boxOf c.2))).map Prod.fst

/-- B_REGION of R141 on a record: a mark's ends or a lit dwell's position outside the region. -/
def badRegion (e : TileEnv) (r : VRec) (p : Option (Int × Int)) : Bool :=
  e.borderEn &&
  ((r.isMark && !e.inRegion r.a r.b) ||
   ((r.isMark || r.litDwell) && (match p with | some q => !e.inRegion q.1 q.2 | none => false)))

/-- The first failing test of the list, with its code and record. -/
def firstFail : List (Nat × Option Nat) → Option (Nat × Nat)
  | [] => none
  | (code, some r) :: _ => some (code, r)
  | (_, none) :: l => firstFail l

def recBad (f : VRec → Bool) (rs : List (VRec × Option (Int × Int))) : Option Nat :=
  firstBad (fun r _ _ => f r) rs 0

/-- The tile check (R49): the first failing code in table order, with the record it concerns. A poisoned tile (R371,
R372) fails T_CRC. -/
def tileCheck (e : TileEnv) (t : Bytes) (poisoned : Bool) : Option (Nat × Nat) :=
  let h := tileHdr t
  let us := usedRecs t
  let rs := startPoints us none
  if poisoned || crc32c (t.take 4080) != fieldLE t 4080 4 then some (0x01, 0xFF)
  else if h.magic != 0xA5 || h.version != 1 then some (0x02, 0xFF)
  else if h.channel != e.channel then some (0x03, 0xFF)
  else if h.layer != e.layer then some (0x04, 0xFF)
  else if !h.adoption && (match e.prevSeq with | some p => decide (h.planSeq ≤ p) | none => false) then
    some (0x05, 0xFF)
  else if let some i := badCount t then some (0x06, i)
  else
    firstFail
      [ (0x07, recBad badOpcode rs),
        (0x08, if h.flags >>> 3 != 0 then some 0xFF else recBad badFlags rs),
        (0x09, if fieldLE t 14 2 != 0 || !allZero (slice t 4084 12) then some 0xFF else recBad badReserved rs),
        (0x0A, recBad (badPset e) rs),
        (0x0B, recBad badCoord rs),
        (0x0C, firstBad (fun r p _ => badField e r p) rs 0),
        (0x0D, firstBad (fun r p _ => badMaxLen e r p) rs 0),
        (0x0E, firstBad (fun r p _ => badRate e r p) rs 0),
        (0x0F, recBad (badSpeed e) rs),
        (0x10, firstBad (fun r _ n => badPower e r n) rs 0),
        (0x11, firstBad badProfile rs 0),
        (0x12, badFirst us),
        (0x13, firstBad (fun r _ n => badJoin r n) rs 0),
        (0x14, recBad (badSync h) rs) ]

/-- The breakwater's tests of a tile (R141), made with those of R49 in the consistency check. -/
def tileBwk (e : TileEnv) (t : Bytes) : Option (Nat × Nat) :=
  let rs := startPoints (usedRecs t) none
  firstFail [(0x47, badExtent e rs), (0x48, firstBad (fun r p _ => badRegion e r p) rs 0)]

/-! ### Items: what a sequencer executes -/

/-- The ramps of a POWER_PROFILE (R33, R38). -/
structure Ramps where
  lin : Nat
  lout : Nat
  start : Nat
  stop : Nat
  deriving DecidableEq, Repr

/-- One MARK_LINE of a chain. -/
structure Mark where
  ix : Nat
  x : Int
  y : Int
  pset : Nat
  power : Nat
  speed : Nat
  noSky : Bool
  ramps : Option Ramps
  deriving DecidableEq, Repr

/-- A chain (R61) as records give it: its start point S, its marks, and whether a DWELL stands before and after it. -/
structure Chain where
  ix : Nat
  sx : Int
  sy : Int
  marks : List Mark
  afterDwell : Bool
  beforeDwell : Bool
  deriving DecidableEq, Repr

/-- What a sequencer executes, in order. `ix` is a record index of the tile. -/
inductive Item where
  | jump (ix : Nat) (x y : Int) (pset speed : Nat)
  | chain (c : Chain)
  | dwell (ix : Nat) (ticks : Nat) (laser : Bool) (pset power : Nat)
  | barrier (ix : Nat) (id : Nat)
  | layerTime (ix : Nat) (ticks : Nat)
  | endTile (ix : Nat)
  deriving DecidableEq, Repr

/-- The record index of an item. -/
def Item.ix : Item → Nat
  | .jump r _ _ _ _ => r
  | .chain c => c.ix
  | .dwell r _ _ _ _ => r
  | .barrier r _ => r
  | .layerTime r _ => r
  | .endTile r => r

/-- Reading state: the point fixed so far, a POWER_PROFILE waiting for its mark, the chain being gathered, and whether
the latest record other than a POWER_PROFILE was a DWELL. -/
structure ItemAcc where
  p : Int × Int
  ramps : Option Ramps
  cur : Option Chain
  wasDwell : Bool
  out : List Item
  deriving DecidableEq, Repr

def ItemAcc.flush (s : ItemAcc) (dwellNext : Bool) : ItemAcc :=
  match s.cur with
  | some c => { s with cur := none, out := s.out ++ [.chain { c with beforeDwell := dwellNext }] }
  | none => s

def itemStep (s : ItemAcc) (n : Nat) (r : VRec) : ItemAcc :=
  if r.isMark then
    let m : Mark := ⟨n, r.a, r.b, r.pset, r.power, r.speed, r.noSky, s.ramps⟩
    let c := match s.cur with
      | some c => { c with marks := c.marks ++ [m] }
      | none => ⟨n, s.p.1, s.p.2, [m], s.wasDwell, false⟩
    { s with p := (r.a, r.b), ramps := none, cur := some c, wasDwell := false }
  else if r.isJump then
    let s := s.flush false
    { s with p := (r.a, r.b), wasDwell := false, out := s.out ++ [.jump n r.a r.b r.pset r.speed] }
  else if r.op = opDwell then
    let s := s.flush true
    { s with wasDwell := true, out := s.out ++ [.dwell n r.ua r.laser r.pset r.power] }
  else if r.op = opSync then
    let s := s.flush false
    { s with wasDwell := false,
             out := s.out ++ [if r.ua % 256 = 0 then .barrier n r.ub else .layerTime n r.ub] }
  else if r.op = opProfile then
    { s with ramps := some ⟨r.ua, r.ub, r.power, r.speed⟩ }
  else
    let s := s.flush false
    { s with wasDwell := false, out := s.out ++ [.endTile n] }

/-- A mark without JOIN ends its chain: the next record is looked at to learn whether it is a DWELL. -/
def itemsGo : List VRec → Nat → Bool → ItemAcc → ItemAcc
  | [], _, _, s => s.flush false
  | r :: rs, n, closed, s =>
    let s := if closed && r.op != opProfile then s.flush (r.op == opDwell) else s
    let closed' := if r.op == opProfile then closed else r.isMark && !r.join
    let s := if closed && r.op == opProfile then s.flush
        (match (rs.find? (fun q => q.op != opProfile)) with | some q => q.op == opDwell | none => false) else s
    itemsGo rs (n + 1) closed' (itemStep s n r)

/-- The items of a checked tile. -/
def tileItems (t : Bytes) : List Item :=
  (itemsGo (usedRecs t) 0 false ⟨(0, 0), none, none, false, []⟩).out

end Sys2Proof.Machine
end

