-- ==== Sys2Proof/Machine/Planner.lean ====
section
/-!
DEFINITION. Machine/Planner.lean: the trajectory planner (R56 to R67, R77, R78, R81): the speed-change primitive, jumps,
chains with run-in, run-out and blended corners, the stop in path, and the sampling of a planned motion.
-/
namespace Sys2Proof.Machine

/-- One grain in metres (R56). -/
def grainM : F64 := F64.ofRatio 5 10000000
/-- A whole number of grains in metres. -/
def metres (g : Int) : F64 := (F64.ofInt g).mul grainM
/-- A length in metres as grains. -/
def toGrains (x : F64) : F64 := x.div grainM
/-- A speed of whole µm/s in m/s (R56). -/
def speedMS (v : Nat) : F64 := (F64.ofNat v).mul (F64.ofRatio 1 1000000)
/-- The whole grain nearest a bed coordinate in metres, ties away from zero (R79). -/
def nearestGrain (x : F64) : Int := (toGrains x).nearest

def two : F64 := F64.ofNat 2

/-- Limits on motion along the path (R59): acceleration in m/s², jerk in m/s³. -/
structure Limits where
  acc : F64
  jerk : F64
  deriving DecidableEq, Repr

/-- A²/J. -/
def Limits.knee (l : Limits) : F64 := (l.acc.mul l.acc).div l.jerk

/-- The duration of the speed change from `v0` to `v1` (R60). -/
def changeTime (l : Limits) (v0 v1 : F64) : F64 :=
  let d := (v1.sub v0).abs
  if l.knee.le d then (d.div l.acc).add (l.acc.div l.jerk)
  else two.mul (d.div l.jerk).sqrt

/-- The distance D(v0, v1) of a speed change (R60). -/
def changeDist (l : Limits) (v0 v1 : F64) : F64 :=
  ((v0.add v1).div two).mul (changeTime l v0 v1)

/-- A stretch of constant jerk along the nominal arc: it starts at time `t0` (seconds from the motion's start) at arc
`s0`, speed `v0`, acceleration `a0`, and lasts `dur`. -/
structure Phase where
  t0 : F64
  dur : F64
  s0 : F64
  v0 : F64
  a0 : F64
  jerk : F64
  deriving DecidableEq, Repr

/-- The arc, speed and acceleration `τ` seconds into a phase. -/
def Phase.at (p : Phase) (τ : F64) : F64 × F64 × F64 :=
  let a := p.a0.add (p.jerk.mul τ)
  let v := p.v0.add (τ.mul (p.a0.add ((p.jerk.mul τ).div two)))
  let s := p.s0.add (τ.mul (p.v0.add (τ.mul ((p.a0.div two).add ((p.jerk.mul τ).div (F64.ofNat 6))))))
  (s, v, a)

/-- Phases gathered so far, with the time, arc and speed at their end. -/
structure PhaseAcc where
  t : F64
  s : F64
  v : F64
  out : List Phase
  deriving DecidableEq, Repr

/-- Append constant-jerk stretches from speed `v` and acceleration 0, then fix the end time, arc and speed. -/
def PhaseAcc.push (a : PhaseAcc) (l : List (F64 × F64)) (t s v : F64) : PhaseAcc :=
  let go := l.foldl (fun (st : F64 × F64 × F64 × F64 × List Phase) x =>
    let p : Phase := ⟨st.1, x.1, st.2.1, st.2.2.1, st.2.2.2.1, x.2⟩
    let e := p.at x.1
    (st.1.add x.1, e.1, e.2.1, e.2.2, st.2.2.2.2 ++ [p]))
    (a.t, a.s, a.v, F64.zero, a.out)
  ⟨t, s, v, go.2.2.2.2⟩

/-- Append the speed change to `v1` (R60). -/
def PhaseAcc.change (a : PhaseAcc) (l : Limits) (v1 : F64) : PhaseAcc :=
  let d := (v1.sub a.v).abs
  if d.isZero then a
  else
    let j := if a.v.lt v1 then l.jerk else l.jerk.neg
    let ph :=
      if l.knee.le d then
        let tj := l.acc.div l.jerk
        [(tj, j), ((d.div l.acc).sub tj, F64.zero), (tj, j.neg)]
      else
        let tj := (d.div l.jerk).sqrt
        [(tj, j), (tj, j.neg)]
    a.push ph (a.t.add (changeTime l a.v v1)) (a.s.add (changeDist l a.v v1)) v1

/-- Append a stretch of constant speed over a distance. -/
def PhaseAcc.hold (a : PhaseAcc) (dist : F64) : PhaseAcc :=
  if a.v.isZero || !(F64.zero.lt dist) then a
  else
    let t := dist.div a.v
    a.push [(t, F64.zero)] (a.t.add t) (a.s.add dist) a.v

/-- A stretch of the path by nominal arc: a straight line through a point, or a blend (R65). -/
inductive PieceKind where
  | line (s0 x y ux uy : F64)
  | blend (s0 len x y ux uy wx wy : F64)
  deriving DecidableEq, Repr

/-- A piece holds up to arc `sEnd`; the last piece holds beyond it too. -/
structure Piece where
  sEnd : F64
  kind : PieceKind
  deriving DecidableEq, Repr

/-- The bed position, in metres, at a nominal arc of a piece (R65, R66). -/
def PieceKind.pos (k : PieceKind) (s : F64) : F64 × F64 :=
  match k with
  | .line s0 x y ux uy =>
    let d := s.sub s0
    (x.add (d.mul ux), y.add (d.mul uy))
  | .blend s0 len x y ux uy wx wy =>
    let τ := (s.sub s0).div len
    let τ3 := (τ.mul τ).mul τ
    let w := τ3.sub ((τ3.mul τ).div two)
    let r := τ.sub w
    (x.add (len.mul ((r.mul ux).add (w.mul wx))), y.add (len.mul ((r.mul uy).add (w.mul wy))))

/-- The position at a nominal arc of a path. -/
def pathPos : List Piece → F64 → F64 × F64
  | [], _ => (F64.zero, F64.zero)
  | [p], s => p.kind.pos s
  | p :: q :: ps, s => if s.lt p.sEnd then p.kind.pos s else pathPos (q :: ps) s

/-- A planned motion along a path: its phases, its duration in seconds, and its path. -/
structure Track where
  phases : List Phase
  total : F64
  pieces : List Piece
  deriving DecidableEq, Repr

/-- The arc, speed and acceleration of a list of phases at a time from the motion's start. -/
def phaseAt : List Phase → F64 → Option (F64 × F64 × F64)
  | [], _ => none
  | p :: ps, t =>
    if t.lt (p.t0.add p.dur) || ps.isEmpty then
      some (p.at (F64.min p.dur (F64.max F64.zero (t.sub p.t0))))
    else phaseAt ps t

/-- The arc, speed and acceleration `t` seconds into a motion; at its end it rests. -/
def Track.state (k : Track) (t : F64) : F64 × F64 × F64 :=
  (phaseAt k.phases t).getD (F64.zero, F64.zero, F64.zero)

/-- The bed position `t` seconds into a motion, in metres. -/
def Track.posAt (k : Track) (t : F64) : F64 × F64 := pathPos k.pieces (k.state t).1

/-- A straight laser-off motion (R62): from a point to a point at most at a given speed, under the jump limits. -/
def planJump (l : Limits) (x0 y0 x1 y1 : F64) (v : F64) : Track :=
  let dx := x1.sub x0
  let dy := y1.sub y0
  let len := F64.hypot dx dy
  if len.isZero then ⟨[], F64.zero, [⟨F64.zero, .line F64.zero x0 y0 F64.zero F64.zero⟩]⟩
  else
    let pk := largest (fun v => (two.mul (changeDist l F64.zero v)).le len) F64.zero v
    let d := changeDist l F64.zero pk
    let a : PhaseAcc := ⟨F64.zero, F64.zero, F64.zero, []⟩
    let a := a.change l pk
    let a := a.hold (len.sub (two.mul d))
    let a := a.change l F64.zero
    ⟨a.out, a.t, [⟨len, .line F64.zero x0 y0 (dx.div len) (dy.div len)⟩]⟩

/-- What the planner takes from the committed set for a chain (R59, R70). -/
structure ChainEnv where
  mark : Limits
  tol : Nat
  x0 : Int
  y0 : Int
  pitch : Nat
  margin : Nat
  deriving DecidableEq, Repr

/-- A segment of a chain: record, start, direction, length and speed (R67). -/
structure Seg where
  ix : Nat
  x : F64
  y : F64
  ux : F64
  uy : F64
  len : F64
  v : F64
  deriving DecidableEq, Repr

/-- A planned chain: arcs in metres from its start point S; `inLen` is L_in, `arcs` are the records' start arcs. -/
structure ChainPlan where
  track : Track
  inLen : F64
  len : F64
  runIn : Bool
  runOut : Bool
  outLen : F64
  clips : Nat
  tStart : F64
  arcs : List (Nat × F64 × F64)
  deriving DecidableEq, Repr

/-- The corner quantity q = |u₂ − u₁| of R65. -/
def cornerQ (a b : Seg) : F64 := F64.hypot (b.ux.sub a.ux) (b.uy.sub a.uy)

/-- The blend time T(c) of R65. -/
def blendTime (l : Limits) (c q : F64) : F64 :=
  F64.max ((((F64.ofRatio 3 2).mul c).mul q).div l.acc)
    (((((F64.ofNat 6).mul c).mul q).div l.jerk).sqrt)

/-- The half-length h(c) of R65. -/
def blendHalf (l : Limits) (c q : F64) : F64 := (c.mul (blendTime l c q)).div two

def k332 : F64 := F64.ofRatio 3 32

/-- The corner speed of R65, before the passes of R67. -/
def cornerSpeed (e : ChainEnv) (a b : Seg) : F64 :=
  let q := cornerQ a b
  let vm := F64.min a.v b.v
  if q.isZero then vm
  else
    let lmin := F64.min a.len b.len
    let tol := F64.min (metres (e.tol : Int)) ((k332.mul q).mul lmin)
    largest (fun v => (((k332.mul v).mul (blendTime e.mark v q)).mul q).le tol) F64.zero vm

/-- The distance from a point along a direction to the edge of the extended region (R78). -/
def edgeDist (e : ChainEnv) (x y ux uy : F64) : F64 :=
  let xlo := metres (e.x0 - e.margin)
  let xhi := metres (e.x0 + 128 * e.pitch + e.margin)
  let ylo := metres (e.y0 - e.margin)
  let yhi := metres (e.y0 + 128 * e.pitch + e.margin)
  let one (lo hi p u : F64) : Option F64 :=
    if u.isZero then none
    else some (if F64.zero.lt u then (hi.sub p).div u else (lo.sub p).div u)
  match one xlo xhi x ux, one ylo yhi y uy with
  | some a, some b => F64.max F64.zero (F64.min a b)
  | some a, none => F64.max F64.zero a
  | none, some b => F64.max F64.zero b
  | none, none => F64.zero

/-- The backward pass of R67, from the last corner speed down: speeds c[0 … n]. -/
def backPass (l : Limits) : List F64 → List F64 → List F64
  | c0 :: cs, ln :: ls =>
    match backPass l cs ls with
    | c1 :: rest =>
      (if c1.lt c0 then largest (fun v => (changeDist l v c1).le ln) c1 c0 else c0) :: c1 :: rest
    | [] => [c0]
  | cs, _ => cs

/-- The forward pass of R67. -/
def forwardPass (l : Limits) : List F64 → List F64 → List F64
  | c0 :: c1 :: cs, ln :: ls =>
    let c1' := if c0.lt c1 then largest (fun v => (changeDist l c0 v).le ln) c0 c1 else c1
    c0 :: forwardPass l (c1' :: cs) ls
  | cs, _ => cs

/-- The half-lengths h[0 … n] of R67 for corner speeds c[0 … n]. -/
def halves (l : Limits) (segs : List Seg) (cs : List F64) : List F64 :=
  F64.zero :: (((List.zip segs (segs.drop 1)).zip (cs.drop 1)).map
    (fun p => blendHalf l p.2 (cornerQ p.1.1 p.1.2))) ++ [F64.zero]

/-- The lengths len[i] = L[i] − h[i − 1] − h[i] of R67. -/
def lens (segs : List Seg) (hs : List F64) : List F64 :=
  (segs.zip (hs.zip (hs.drop 1))).map (fun p => (p.1.len.sub p.2.1).sub p.2.2)

/-- The peak speed of a segment (R67). -/
def peakSpeed (l : Limits) (c0 c1 v ln : F64) : F64 :=
  if ((changeDist l c0 v).add (changeDist l v c1)).le ln then v
  else largest (fun w => ((changeDist l c0 w).add (changeDist l w c1)).le ln) (F64.max c0 c1) v

/-- Phases of the segments and of the blends between them. -/
def segPhases (l : Limits) : List Seg → List F64 → List F64 → List F64 → PhaseAcc → PhaseAcc
  | sg :: sgs, c0 :: c1 :: cs, h1 :: hs, ln :: lns, a =>
    let pk := peakSpeed l c0 c1 sg.v ln
    let a := a.change l pk
    let a := a.hold ((ln.sub (changeDist l c0 pk)).sub (changeDist l pk c1))
    let a := a.change l c1
    let a := if sgs.isEmpty then a else a.hold (two.mul h1)
    segPhases l sgs (c1 :: cs) hs lns a
  | _, _, _, _, a => a

/-- The path of a chain by nominal arc (R66); `hs` are h[1 …]. -/
def chainPieces : List Seg → List F64 → F64 → List Piece
  | [], _, _ => []
  | [sg], _, s => [⟨s.add sg.len, .line s sg.x sg.y sg.ux sg.uy⟩]
  | a :: b :: sgs, h :: hs, s =>
    let e := s.add a.len
    let line : Piece := ⟨e.sub h, .line s a.x a.y a.ux a.uy⟩
    let bl : List Piece :=
      if h.isZero then []
      else [⟨e.add h, .blend (e.sub h) (two.mul h) (b.x.sub (h.mul a.ux)) (b.y.sub (h.mul a.uy))
              a.ux a.uy b.ux b.uy⟩]
    line :: bl ++ chainPieces (b :: sgs) hs e
  | a :: b :: sgs, [], s => ⟨s.add a.len, .line s a.x a.y a.ux a.uy⟩ :: chainPieces (b :: sgs) [] (s.add a.len)

/-- The segments of a chain from its start point (metres) and its marks' end points (grains). -/
def mkSegs : F64 → F64 → List (Nat × Int × Int × Nat) → List Seg
  | _, _, [] => []
  | x, y, (ix, xe, ye, v) :: ms =>
    let x1 := metres xe
    let y1 := metres ye
    let dx := x1.sub x
    let dy := y1.sub y
    let len := F64.hypot dx dy
    ⟨ix, x, y, dx.div len, dy.div len, len, speedMS v⟩ :: mkSegs x1 y1 ms

/-- The start arc and length of each record of a chain. -/
def segArcs : List Seg → F64 → List (Nat × F64 × F64)
  | [], _ => []
  | sg :: sgs, s => (sg.ix, s, sg.len) :: segArcs sgs (s.add sg.len)

/-- Plan a chain (R61, R64 to R67, R78). -/
def planChain (e : ChainEnv) (sx sy : Int) (ms : List (Nat × Int × Int × Nat)) (runIn runOut : Bool) : ChainPlan :=
  let l := e.mark
  let segs := mkSegs (metres sx) (metres sy) ms
  let first := segs.head?.getD ⟨0, F64.zero, F64.zero, F64.zero, F64.zero, F64.zero, F64.zero⟩
  let last := segs.getLast?.getD first
  let bound (v : F64) (avail : F64) : F64 × Nat :=
    if (changeDist l F64.zero v).le avail then (v, 0)
    else (largest (fun w => (changeDist l F64.zero w).le avail) F64.zero v, 1)
  let bi := if runIn then bound first.v (edgeDist e first.x first.y first.ux.neg first.uy.neg)
            else (F64.zero, 0)
  let ex := last.x.add (last.len.mul last.ux)
  let ey := last.y.add (last.len.mul last.uy)
  let bo := if runOut then bound last.v (edgeDist e ex ey last.ux last.uy) else (F64.zero, 0)
  let c0 := bi.1 :: ((List.zip segs (segs.drop 1)).map (fun p => cornerSpeed e p.1 p.2)) ++ [bo.1]
  let ln0 := lens segs (halves l segs c0)
  let c1 := forwardPass l (backPass l c0 ln0) ln0
  let hs := halves l segs c1
  let lns := lens segs hs
  let cIn := c1.head?.getD F64.zero
  let cOut := c1.getLast?.getD F64.zero
  let inLen := changeDist l F64.zero cIn
  let outLen := changeDist l cOut F64.zero
  let a0 : PhaseAcc := ⟨F64.zero, inLen.neg, F64.zero, []⟩
  let a1 := a0.change l cIn
  let a1 := { a1 with s := F64.zero }
  let a2 := segPhases l segs c1 (hs.drop 1) lns a1
  let a3 := a2.change l F64.zero
  { track := ⟨a3.out, a3.t, chainPieces segs (hs.drop 1) F64.zero⟩,
    inLen := inLen,
    len := segs.foldl (fun s g => s.add g.len) F64.zero,
    runIn := runIn, runOut := runOut, outLen := outLen,
    clips := bi.2 + bo.2,
    tStart := a1.t,
    arcs := segArcs segs F64.zero }

/-- The time-optimal jerk-limited stop from a speed and an acceleration (R81): constant-jerk stretches to rest. -/
def stopPhases (l : Limits) (v a : F64) : List (F64 × F64) :=
  let half (x : F64) := x.div two
  let v0 := v.add (half ((a.mul a.abs).div l.jerk))
  let neg := v0.lt F64.zero
  let vv := if neg then v.neg else v
  let aa := if neg then a.neg else a
  let sg (x : F64) := if neg then x.neg else x
  let p2 := (l.jerk.mul vv).add (half (aa.mul aa))
  let p := (F64.max F64.zero p2).sqrt
  let raw :=
    if p.le l.acc then
      [((aa.add p).div l.jerk, l.jerk.neg), (p.div l.jerk, l.jerk)]
    else
      let d := aa.add l.acc
      let t1 := d.abs.div l.jerk
      let j1 := if d.lt F64.zero then l.jerk else l.jerk.neg
      let v1 := vv.add (t1.mul (aa.add (half (j1.mul t1))))
      [(t1, j1), (F64.max F64.zero ((v1.sub (half l.knee)).div l.acc), F64.zero), (l.acc.div l.jerk, l.jerk)]
  raw.map (fun x => (x.1, sg x.2))

/-- Stop along a motion's path from the state it has `t` seconds in (R81); the path is kept, and beyond its end the
straight extension of its last piece. -/
def planStop (l : Limits) (k : Track) (t : F64) : Track :=
  let st := k.state t
  let go := (stopPhases l st.2.1 st.2.2).foldl
    (fun (r : F64 × F64 × F64 × F64 × List Phase) x =>
      let p : Phase := ⟨r.1, x.1, r.2.1, r.2.2.1, r.2.2.2.1, x.2⟩
      let e := p.at x.1
      (r.1.add x.1, e.1, e.2.1, e.2.2, r.2.2.2.2 ++ [p]))
    (F64.zero, st.1, st.2.1, st.2.2, [])
  ⟨go.2.2.2.2, go.1, k.pieces⟩

end Sys2Proof.Machine
end

