-- ==== Sys2Proof/Machine/StateExposure.lean ====
section
/-!
DEFINITION. Machine/StateExposure.lean: the state of the exposure path: sequencers, tile buffers, gating, feedback,
reflex loops, breakwater and adoption (R28 to R156). Registers that an object shows live in the register file; here is
the rest.
-/
namespace Sys2Proof.Machine

/-- A tile resident in a channel's ring (R52): the layer and list index it was fetched for, and whether a word of it was
delivered poisoned (R371, R372). -/
structure RingTile where
  layer : Nat
  index : Nat
  bytes : Bytes
  poisoned : Bool
  deriving DecidableEq, Repr

/-- Where a record of remaining work came from (R150, R152): its index in its present tile, the original source channel,
tile index and record, and the arc of that record (grains) it covers. -/
structure Origin where
  ix : Nat
  srcChan : Nat
  srcTile : Nat
  srcRec : Nat
  from_ : Nat
  upto : Nat
  deriving DecidableEq, Repr

/-- What an adoption tile carries beside its bytes: the failed channel of the loss it was built for and the origins of
its records. -/
structure AdoptInfo where
  loss : Nat
  origins : List Origin
  deriving DecidableEq, Repr

/-- Progress of a tile in a buffer half (R51). -/
inductive TileCk where
  | waiting | passed | failedOnce | failedTwice
  deriving DecidableEq, Repr

/-- A tile in one half of the double buffer. An adoption tile shows index 0xFFFF_FFFF. -/
structure BufTile where
  layer : Nat
  index : Nat
  bytes : Bytes
  poisoned : Bool
  ck : TileCk
  adopt : Option AdoptInfo
  deriving DecidableEq, Repr

/-- A tile waiting in an adoption queue (R151). -/
structure AdoptTile where
  bytes : Bytes
  info : AdoptInfo
  deriving DecidableEq, Repr

/-- The schedule of one MARK_LINE of a chain (R98): start arc and length in metres on the chain's arc, the set's word, the
scales, and the trim factor once latched (R100). -/
structure SchedMark where
  ix : Nat
  start : F64
  len : F64
  ps : Nat
  power : Nat
  ramps : Option Ramps
  k : Option Nat
  deriving DecidableEq, Repr

/-- The power schedule of a chain, or of a lit DWELL: trace arc (grains) of its start point S, arc on the original chain
at S (grains), length (grains), its marks, the end of a DWELL as an application instant, and whether its off edge has been
placed. -/
structure Sched where
  id : Nat
  sigmaS : F64
  reBase : F64
  len : F64
  marks : List SchedMark
  dwell : Option Time
  offPlaced : Bool
  deriving DecidableEq, Repr

/-- A gate event waiting for its edge (R84, R92). `fixed` is the application instant of a DWELL's edge. -/
structure GateEv where
  id : Nat
  on : Bool
  sigma : F64
  moving : Bool
  fixed : Option Time
  rfx : Bool
  word : Bool
  deriving DecidableEq, Repr

/-- A placed edge (R91). -/
structure Edge where
  id : Nat
  at_ : Time
  on : Bool
  word : Bool
  rfx : Bool
  moving : Bool
  sigma : F64
  deriving DecidableEq, Repr

/-- An entry of the commanded trace (R87): application instant, setpoints, trace arc in grains. -/
structure TraceEnt where
  at_ : Time
  hx : Int
  hy : Int
  sigma : F64
  deriving DecidableEq, Repr

/-- A projected sample (R86, R88). -/
structure Samp where
  at_ : Time
  sigma : F64
  seen : Bool
  deriving DecidableEq, Repr

/-- A position sample as a TICK_UP carries it (R86, R171). -/
structure RawSample where
  mx : Int
  my : Int
  valid : Bool
  seen : Bool
  edge : Option Time
  stamp : Time
  onTime : Bool
  deriving DecidableEq, Repr

/-- Confirmation of the present or last chain (R101): trace arc of S, whether gate-on has been seen, whether every
sample since carried it, whether the off edge is confirmed, an off edge stamp still to be interpolated, the confirmed
arc in grains on the chain's own arc, and the chain's arc base (R82). -/
structure Confirm where
  id : Nat
  sigmaS : F64
  reBase : F64
  seenOn : Bool
  unbroken : Bool
  done : Bool
  pendingOff : Option Time
  arc : F64
  onAt : Time
  base : F64
  deriving DecidableEq, Repr

/-- What the spot is doing. `n` counts ticks since the motion's start; `sigma0` is the trace arc (grains) at that
start. -/
inductive Motion where
  /-- at rest -/
  | rest
  /-- a JUMP record (`isRec`), or a motion the device makes: a resume JUMP, a return JUMP or a connecting move;
  `tenTicks` for a JUMP (R36) -/
  | jump (k : Track) (n : Nat) (sigma0 : F64) (tenTicks isRec : Bool) (tx ty : F64)
  /-- a chain: `reBase` is the arc (metres) of its start point on the original chain (R82) -/
  | chain (p : ChainPlan) (n : Nat) (sigma0 : F64) (reBase : F64) (id : Nat)
  /-- a DWELL: ticks done and to do -/
  | dwell (n total : Nat) (laser : Bool)
  deriving DecidableEq, Repr

/-- What a resume has to make up for (R83): nothing, a JUMP back to a point under a parameter set (with the arc, in
grains, of the chain that a stop found in its run-out), or a JUMP made afresh to the point where the next motion
starts. A JUMP back stays owed until it has ended, so that a stop within it does not lose its target. -/
inductive Interrupted where
  | nothing
  | back (x y : F64) (pset : Nat) (arc : F64)
  | again
  deriving DecidableEq, Repr

/-- A breakwater request being presented (R128, R132): its box, wait count, rounds since it was last presented fresh,
whether BWK_WAIT_LONG has been posted for it, and the tiles run ahead in its suspension. -/
structure Req where
  box : Box
  wait : Nat
  sinceFresh : Nat
  alarmed : Bool
  ran : Nat
  deriving DecidableEq, Repr

/-- A tile suspended by a yield (R135): the tile, its remaining items, its request (with the tiles run ahead), the
point at which the suspended motion starts, and its re-entry, if it is one. -/
structure Suspended where
  tile : BufTile
  items : List Item
  req : Req
  x : F64
  y : F64
  reentry : Option (F64 × F64)
  deriving DecidableEq, Repr

/-- The feedback of a channel and its run counters (R86 to R90, R102, R103): samples received and not yet latched, the
commanded trace and the index of its first entry, the match index, the samples method A may use, the projected sample with
the latest stamp, the lag of the last on-time one in nanoseconds and the lag frozen in FALLBACK, and the application ticks of
a lit DWELL with those done (R82). -/
structure Feedback where
  latched : List RawSample
  traceBase : Nat
  trace : List TraceEnt
  matchIx : Nat
  recent : List Samp
  lastSamp : Option Samp
  lag : F64
  frozen : F64
  feRun : Nat
  mismatchRun : Nat
  goodRun : Nat
  dwellFrom : Option (Time × Time)
  dwellDone : Nat
  lastStamp : Time
  deriving DecidableEq, Repr

/-- Gating of a channel: events waiting, edges placed and not yet driven, power schedules, the confirmation, the next
chain's number, feature records for the trim loop, and the levels of the LG pair and of the gate words. `winEdge` is the start of the latest window that holds an edge of the channel; `edgeLog` keeps
placed edges for the comparison of R102 and the residual of R94. -/
structure Gating where
  pend : List GateEv
  placed : List Edge
  edgeLog : List Edge
  winEdge : Option Time
  scheds : List Sched
  conf : Confirm
  nextId : Nat
  feats : List (Time × Nat)
  lgHigh : Bool
  wordLevel : Bool
  deriving DecidableEq, Repr

/-- A word waiting in a channel's transmit slot (R118): its payload, emission order, kind, and the receive instant of
the SAMPLE that caused it (R121). -/
structure SlotWord where
  payload : Nat
  order : Nat
  isOff : Bool
  cause : Option Time
  deriving DecidableEq, Repr

/-- The reflex loop beside RFX_STATE (R105 to R123). -/
structure Reflex where
  cnt : Nat
  last : Int
  hold : Nat
  blank : Nat
  onRung : Nat
  firstWord : Bool
  from_ : Option Time
  to_ : Option Time
  lastInst : Option Time
  prevSel : Nat
  selFrom : Time
  decidedBank : Nat
  slot : Option SlotWord
  dead : Bool
  emitted : Bool
  deriving DecidableEq, Repr

/-- How the sequencer is halted. -/
inductive Halt where
  | none | atEnd | inPath
  deriving DecidableEq, Repr

/-- A DWELL with LASER_ON as it was started: its record, its tile, and the point it holds. -/
structure LitDwell where
  item : Item
  tile : BufTile
  x : F64
  y : F64
  deriving DecidableEq, Repr

/-- The sequencer of one channel: its list of the layer, the layer and index its ring fetches next, the number of own tiles
moved into the buffer, the ring, the double buffer, a suspended tile, the adoption queue, the items left of the tile
executing, and the motion. `chainRest` is the set of the chain at whose end the spot still rests; `lit` the latest DWELL with
LASER_ON, `owed` that what a stop left of it comes before anything else (R82, R83); `lastSpot` the nominal
point, in grains, that the head node applies at the latest boundary, and `ahead` those of the frames sent since (R87). -/
structure SeqCh where
  armed : Bool
  ended : Bool
  listAddr : Nat
  listCount : Nat
  fetchAt : Option (Nat × Nat)
  moveNext : Nat
  ring : List RingTile
  exec : Option BufTile
  idle : Option BufTile
  susp : Option Suspended
  adoptQ : List AdoptTile
  prevSeq : Option Nat
  items : List Item
  prevLit : Bool
  gapTick : Bool
  motion : Motion
  stopTrack : Option (Track × Nat × F64)
  posX : F64
  posY : F64
  sigma : F64
  moved : Bool
  zOff : Int
  req : Option Req
  granted : Bool
  pendingBorder : Bool
  halt : Halt
  haltAt : Nat
  intr : Interrupted
  reentry : Option (F64 × F64)
  cut : Option Nat
  syncWait : Nat
  syncPosted : Bool
  underrunSeen : Bool
  extentFault : Bool
  chainRest : Option Nat
  lit : Option LitDwell
  owed : Bool
  lastSpot : Int × Int
  ahead : List (Int × Int)
  restored : Bool
  fb : Feedback
  gat : Gating
  rfx : Reflex
  deriving DecidableEq, Repr

/-- A reservation (R125, R126): owner's global channel, box, zone, owner's chain, its release instant once fixed, and
whether it is a pending or held border reservation (R138). -/
structure Resv where
  g : Nat
  id : Nat
  box : Box
  zone : Box
  release : Option Time
  border : Bool
  pending : Bool
  reqId : Nat
  origin : Nat
  deriving DecidableEq, Repr

/-- A border request at the lead device (R138). -/
structure BorderReq where
  origin : Nat
  reqId : Nat
  g : Nat
  planSeq : Nat
  capped : Bool
  box : Box
  zone : Box
  deriving DecidableEq, Repr

/-- A border release with its origin tick (R140). -/
structure BorderRel where
  origin : Nat
  reqId : Nat
  g : Nat
  deriving DecidableEq, Repr

/-- A fence left standing at the lead device (R140). -/
structure BorderFence where
  g : Nat
  box : Box
  zone : Box
  since : Nat
  deriving DecidableEq, Repr

/-- The breakwater: the reservation table, the answers received in time (origin tick, request, granted), and the lead
device's border state. -/
structure Bwk where
  table : List Resv
  sendQ : List BorderReq
  ansQ : List (Nat × Nat × Nat × Nat)
  answers : List (Nat × Nat × Bool)
  nextReq : Nat
  reqs : List BorderReq
  rels : List BorderRel
  fences : List BorderFence
  leadTable : List BorderReq
  deriving DecidableEq, Repr

/-- A unit of adoption (R146): its original source channel and tile, the plan sequence number, the work (a chain or a
lit DWELL), the point at which it starts, and the origins of its records. -/
structure AUnit where
  srcChan : Nat
  srcTile : Nat
  planSeq : Nat
  item : Item
  x : Int
  y : Int
  origins : List Origin
  deriving DecidableEq, Repr

/-- A loss being planned or adopted (R145 to R153): failed channel, layer, declaring instant, cause; the tick count at the
declaration, and whether a control tick boundary has come since, so that planning may begin (R150); units already read and
tiles (index, address) still in DRAM; own tiles not begun, adoption tiles queued and possible candidates per channel as
they stood at the declaring boundary; adoption tiles still out. -/
structure Loss where
  chan : Nat
  layer : Nat
  failTime : Time
  cause : Nat
  tick : Nat
  begun : Bool
  planned : Bool
  units : List AUnit
  unread : List (Nat × Nat)
  nOwn : List Nat
  nAdopt : List Nat
  cands : List Nat
  out : Nat
  deriving DecidableEq, Repr

/-- The layer in progress (R44, R47, R39). -/
structure Layer where
  mask : Nat
  syncTimeout : Nat
  lists : List (Nat × Nat)
  elapsed : Nat
  arrived : List (Nat × Nat)
  deriving DecidableEq, Repr

def emptyBox : Box := ⟨0, 0, 0, 0⟩

def Confirm.init : Confirm :=
  ⟨0, F64.zero, F64.zero, false, true, false, none, F64.zero, 0, F64.zero⟩

def Feedback.init : Feedback :=
  ⟨[], 0, [], 0, [], none, F64.zero, F64.zero, 0, 0, 0, none, 0, 0⟩

def Gating.init : Gating := ⟨[], [], [], none, [], Confirm.init, 1, [], false, false⟩

def Reflex.init : Reflex := ⟨0, 0, 0, 0, 0, true, none, none, none, 0, 0, 0, none, false, false⟩

/-- The channel is at rest: no motion and no stop under way. -/
def SeqCh.atRest (s : SeqCh) : Bool := s.motion == .rest && s.stopTrack.isNone

/-- A sequencer after the release of EXP (R473). -/
def SeqCh.init : SeqCh :=
  { armed := false, ended := true, listAddr := 0, listCount := 0, fetchAt := none, moveNext := 0,
    ring := [], exec := none, idle := none, susp := none, adoptQ := [], prevSeq := none, items := [],
    prevLit := false, gapTick := false, motion := .rest, stopTrack := none,
    posX := F64.zero, posY := F64.zero, sigma := F64.zero, moved := false, zOff := 0, req := none,
    granted := false, pendingBorder := false, halt := .none, haltAt := 0, intr := .nothing,
    reentry := none, cut := none, syncWait := 0, syncPosted := false,
    underrunSeen := false, extentFault := false, chainRest := none, lit := none, owed := false,
    lastSpot := (0, 0), ahead := [], restored := false,
    fb := Feedback.init, gat := Gating.init, rfx := Reflex.init }

def Bwk.init : Bwk := ⟨[], [], [], [], 1, [], [], [], []⟩

def Layer.init : Layer := ⟨0, 0, [], 0, []⟩

end Sys2Proof.Machine
end

