-- ==== Sys2Proof/Machine/StateHarbour.lean ====
section
/-!
DEFINITION. Machine/StateHarbour.lean: the state of the harbour (R374 to R409), of reset and bring-up (R420 to R432), of
the shutdown self-test (R433 to R445) and of the PCIe endpoint (R454 to R468) beside their objects: non-volatile memory,
calibration, cassettes.
-/
namespace Sys2Proof.Machine

/-- An OTP key slot: the hash programmed, if any, and its revocation fuse (R398, R405). -/
structure KeySlot where
  hash : Option Nat
  revoked : Bool
  deriving DecidableEq, Repr

/-- A repair map entry (R444). -/
structure Repair where
  array : Nat
  kind : Nat
  spare : Nat
  addr : Nat
  deriving DecidableEq, Repr

/-- One-time programmable memory: the two copies of the trim block, each a list of trim words by TRIM_ID or not valid
(R389); image and issuer key slots; security counter fuses blown; fused repairs. -/
structure Otp where
  trimA : Option (Kv Nat)
  trimB : Option (Kv Nat)
  imageKeys : List KeySlot
  issuerKeys : List KeySlot
  svn : Nat
  repairs : List Repair
  deriving DecidableEq, Repr

/-- A calibration request (R381 to R383): its REQ_ID, groups named, groups still to run and failed, the elapsed tick of its
deadline, whether it completed DEFERRED, whether it is URGENT, whether HOLD was entered for it (R239), and whether its groups
may run in the present mode. -/
structure CalReq where
  id : Nat
  groups : Nat
  left : Nat
  failed : Nat
  deadline : Nat
  deferred : Bool
  urgent : Bool
  asksHold : Bool
  admitted : Bool
  deriving DecidableEq, Repr

/-- A run of a group under way (R377): the GATE channels it measures, temperatures and machine time at its start, the
requests it serves, and whether it is an item of Slack work. -/
structure CalRun where
  group : Nat
  chans : Nat
  temps : List Int
  at_ : Time
  serves : List Nat
  slack : Bool
  deriving DecidableEq, Repr

/-- A GATE run of one channel in a laser-off interval (R378): start in elapsed ticks, reading. -/
structure GateRun where
  chan : Nat
  start : Nat
  temp : Int
  at_ : Time
  deriving DecidableEq, Repr

/-- Calibration and trim: requests, the run under way, GATE runs in EXPOSE, GATE values in force and waiting for a vector
start (SCALE + 4096 × OFFSET, by channel), T_LAST by channel (with the mark of a passed run), payloads in force of parts 2
to 8, parts marked for writing, the elapsed tick of each part's latest write, parts with a valid record, groups due, the
shadow of the trim load, a TIMPHY result that waits for its tick boundary (elapsed tick, payload), and whether work for which
HOLD was entered has failed (R239). -/
structure Cal where
  reqs : List CalReq
  nextId : Nat
  run : Option CalRun
  gateRuns : List GateRun
  gate : Kv Nat
  gateNext : Kv Nat
  gateTemp : Kv Nat
  parts : List Bytes
  marked : List Nat
  written : Kv Nat
  validParts : Nat
  due : Nat
  shadow : Kv Nat
  phyDue : Option (Nat × Bytes)
  holdFailed : Bool
  deriving DecidableEq, Repr

/-- A cassette beside CON_WINDOW or CON_BLADE: the step of its authentication or write-back (0 none, 1 READ_ID, 2 CHALLENGE,
3 READ_LIFE, 4 WRITE_LIFE, 5 the signature's verification), the request under way and when it was sent, the ID block read,
the nonce drawn, the signature returned, whether the
authentication belongs to a write-back, the exact remainder of R406, the SERIAL that accrued PENDING, whether a life state
is held, rated life, whether CON_LOW has been posted, the life being written, and a command that waits. -/
structure Cass where
  step : Nat
  reqId : Nat
  sentAt : Nat
  idBlock : Bytes
  nonce : Nat
  sig : Bytes
  forLife : Bool
  remain : Nat
  accrued : Nat
  hasLife : Bool
  ratedMain : Nat
  ratedHits : Nat
  lowPosted : Bool
  writing : Nat × Nat × Nat
  authDue : Bool
  deriving DecidableEq, Repr

/-- The harbour: flash device 0, OTP, cassettes (0 to 63 windows, 64 to 67 blades), life write-back of the present Slack,
the next request ID, housekeeping slot, good readings in a row by slot, calibration, a restart of the processor pair, the
image staged for UPD_STAGE, the image running, and the fallback to post. -/
structure Harbour where
  flash : List Host.Cell
  otp : Otp
  cass : List Cass
  lifeDue : List Nat
  nextReq : Nat
  slot : Nat
  goodRuns : Kv Nat
  cal : Cal
  restarting : Option Nat
  staging : Option (Nat × Nat)
  writing10 : Bool
  fallback : Option Nat
  booted : Bool
  deriving DecidableEq, Repr

/-- Reset (R420 to R432): whether a device reset is asserted and by which cause, when RESET_N or the internal reset will
release it, the elapsed ticks of the latest release and of the start of this boot, the PLLs being qualified, domains that
owe their own bring-up items, and a device reset that waits. -/
structure RstSt where
  asserted : Option Nat
  lastRelease : Nat
  bootStart : Nat
  dueAt : Option (Nat × Nat)
  clkLost : List (Nat × Nat)
  dramTrained : Bool
  fastRecord : Bool
  fastDram : Bool
  degraded : List (Nat × Nat × Nat)
  deriving DecidableEq, Repr

/-- The shutdown self-test (R433 to R445): entry instant, RESTART and JTAG_OPEN, ports held FAILED, abandonment, the
instruction register of test access. -/
structure Bst where
  entered : Option Time
  restart : Bool
  jtagOpen : Bool
  portsHeld : Nat
  abandoned : Bool
  jtagIr : Nat
  deriving DecidableEq, Repr

/-- The PCIe endpoint: PERST_N active, Bus Master Enable, the vectors masked in the MSI-X table, the descriptor ring, and
whether a descriptor is under way. -/
structure Pcie where
  perst : Bool
  busMaster : Bool
  ring : List Host.Cell
  deriving DecidableEq, Repr

def KeySlot.init : KeySlot := ⟨none, false⟩
def Otp.init : Otp := ⟨none, none, List.replicate 4 KeySlot.init, List.replicate 4 KeySlot.init, 0, []⟩
def Cal.init : Cal :=
  ⟨[], 1, none, [], [], [], [], List.replicate 10 (zeros 224), [], [], 0, 0, [], none, false⟩
def Cass.init : Cass :=
  ⟨0, 0, 0, [], 0, [], false, 0, 0, false, 0, 0, false, (0, 0, 0), false⟩
def Harbour.init : Harbour :=
  { flash := [], otp := Otp.init, cass := List.replicate 68 Cass.init, lifeDue := [], nextReq := 1, slot := 0,
    goodRuns := [], cal := Cal.init, restarting := none, staging := none, writing10 := false, fallback := none,
    booted := false }
def RstSt.init : RstSt := ⟨none, 0, 0, none, [], false, false, false, []⟩
def Bst.init : Bst := ⟨none, false, false, 0, false, 0⟩
def Pcie.init : Pcie := ⟨false, false, []⟩

end Sys2Proof.Machine
end

