-- ==== Sys2Proof/Machine/StateImaging.lean ====
section
/-!
DEFINITION. Machine/StateImaging.lean: the state of the cameras, the image pipelines and the lighting (R249 to R283)
beside their objects.
-/
namespace Sys2Proof.Machine

/-- A frame open, stored or in a pipeline (R252 to R256): its context, port and virtual channel, stamp, the instant its
watchdog counts from (the stamp, moved by every step of time since), the DRAM address and size of its ring slot, frame
number, lines stored, the flags judged so far, and whether it has ended. -/
structure CamFrame where
  ctx : Nat
  port : Nat
  vc : Nat
  stamp : Time
  since : Time
  base : Nat
  size : Nat
  fn : Nat
  lines : Nat
  short : Bool
  long : Bool
  timeout : Bool
  lineErr : Bool
  feLost : Bool
  ended : Bool
  deriving DecidableEq, Repr

/-- A frame in a pipeline with what its context held when it was taken (R257): parameters, the number of frames taken (this
one among them), defect list, states of the dark and the flat, whether it resets the temporal reference, and whether a
capture was under way. -/
structure Taken where
  frame : CamFrame
  ctx : Nat
  seq : Nat
  defects : List (Nat × Nat)
  dark : Nat
  flat : Nat
  reset : Bool
  capt : Bool
  deriving DecidableEq, Repr

/-- A reference capture under way (R262): kind (1 flat), frames to sum, scratch address, frames summed, consecutive
unusable frames, the NR_SIG it runs under once known, the old state of the reference, and the frames taken before it. -/
structure Capture where
  flat : Bool
  frames : Nat
  scratch : Nat
  used : Nat
  unusable : Nat
  sig : Option Nat
  old : Nat
  before : Nat
  deriving DecidableEq, Repr

/-- What a context keeps beside its objects: frames taken since it was enabled, frames dropped since its record, the
latest frame start, whether the timed-out run has been posted, timeouts without a frame counted, whether the next frame
resets the temporal reference, the on-die defect list, a capture, and how far the context's acquisition is (R267): 0 none, 1
a frame is awaited since a pulse, 2 that frame has started. -/
structure IplCtx where
  taken : Nat
  drops : Nat
  lastStart : Option Time
  timedOut : Bool
  missed : Nat
  resetDue : Bool
  defects : List (Nat × Nat)
  capture : Option Capture
  acq : Nat
  deriving DecidableEq, Repr

/-- A camera port: free ring slots, oldest first; the end of the trigger pulse; a software pulse asked for. -/
structure CamPort where
  free : List Nat
  pulseEnd : Time
  pulseDue : Bool
  deriving DecidableEq, Repr

/-- Cameras and pipelines: frames in arrival order, the frame in each pipeline, contexts and ports. -/
structure Imaging where
  frames : List CamFrame
  cur : List (Option Taken)
  ctxs : List IplCtx
  ports : List CamPort
  darkIds : Nat
  flatIds : Nat
  deriving DecidableEq, Repr

/-- A fade (R273): start, target, steps done and steps in all, and the elapsed ticks at which it was latched or stepped
last. -/
structure Fade where
  b0 : Nat
  b1 : Nat
  k : Nat
  total : Nat
  at_ : Nat
  deriving DecidableEq, Repr

/-- An on-die sink beside its objects (R270 to R278): its fade, the present level, what it conducts (0 off), since when and
until when (none: until further notice), the mode in force, T_on in ns of a pulsed period (0 otherwise), the end of the 4 µs of
a check under way, whether that check is a diagnostic pulse, and the elapsed ticks of the latest analogue check. -/
structure Sink where
  fade : Option Fade
  level : Nat
  current : Nat
  since : Time
  onEnd : Option Time
  strobe : Bool
  pulse : Nat
  check : Option Time
  diag : Bool
  checkedAt : Option Nat
  deriving DecidableEq, Repr

/-- A Shingle wire chain (R279 to R283): the snapshot, the number of drivers of the latest frame, an update waiting, a start
that waits for the frame being sent, and whether one is being sent. -/
structure Shw where
  words : List Nat
  drivers : Nat
  updateDue : Bool
  waiting : Bool
  sending : Bool
  deriving DecidableEq, Repr

/-- Lighting: sinks, the global fade and level, the chains, and the lamps last seen to hold less than half their current
(the pins' own state, R276). -/
structure Lighting where
  sinks : List Sink
  gFade : Option Fade
  gLevel : Nat
  chains : List Shw
  openLamps : Nat
  deriving DecidableEq, Repr

def IplCtx.init : IplCtx := ⟨0, 0, none, false, 0, true, [], none, 0⟩
def CamPort.init : CamPort := ⟨[], 0, false⟩
def Imaging.init : Imaging :=
  ⟨[], [none, none], List.replicate 32 IplCtx.init, List.replicate 8 CamPort.init, 0, 0⟩
def Sink.init : Sink := ⟨none, 0, 0, 0, none, false, 0, none, false, none⟩
def Shw.init : Shw := ⟨[], 1, false, false, false⟩
def Lighting.init : Lighting := ⟨List.replicate 16 Sink.init, none, 0x8000, [Shw.init, Shw.init], 0⟩

end Sys2Proof.Machine
end

