-- ==== Sys2Proof/Machine/StateLog.lean ====
section
/-!
DEFINITION. Machine/StateLog.lean: the state of the logbook (R410 to R419).
-/
namespace Sys2Proof.Machine

/-- An extreme entry (R416): value, instant and bed position; `seen` once the item has occurred in the layer. -/
structure Extreme where
  value : Int
  at_ : Time
  x : Int
  y : Int
  seen : Bool
  deriving DecidableEq, Repr

/-- An item in the queue of a tap (R15, R415): its channel; its kind, 0 reflex sample, 1 rung dwell, 2 following error,
3 breakwater wait, 4 lag; its bin; its value, instant and bed position. -/
structure Tapped where
  ch : Nat
  kind : Nat
  bin : Nat
  value : Int
  at_ : Time
  x : Int
  y : Int
  deriving DecidableEq, Repr

/-- A record being written, or the last one sealed (R411, R413). -/
structure LogRec where
  addr : Nat
  kind : Nat
  flags : Nat
  seq : Nat
  layer : Nat
  code : Nat
  inst : Nat
  repeat_ : Nat
  pending : Nat
  first : Time
  last : Time
  payload : Bytes
  sealed : Bool
  deriving DecidableEq, Repr

/-- An event offered to the logbook (R414). -/
structure Offered where
  code : Nat
  inst : Nat
  at_ : Time
  data : Bytes
  deriving DecidableEq, Repr

/-- A record waiting to be written: a summary of the ended layer (R415), a ROLE or a START record. -/
structure DueRec where
  kind : Nat
  flags : Nat
  layer : Nat
  inst : Nat
  at_ : Time
  payload : Bytes
  deriving DecidableEq, Repr

/-- The logbook beside its objects: the double-banked accumulators (histogram bins keyed by bank, channel, histogram and
bin; extremes by bank, channel and item), the latest record, the intake FIFO, the records due, a clear that waits, and
the kept copies of LAYER records. -/
structure LogBook where
  taps : List Tapped
  bank : Nat
  hist : Kv Nat
  extr : Kv Extreme
  rec_ : Option LogRec
  fifo : List Offered
  due : List DueRec
  clearing : Bool
  lostSeen : Nat
  full : Bool
  layers : List Bytes
  tideAt : Time
  batchBank : Option Nat
  deriving DecidableEq, Repr

def Extreme.none_ : Extreme := ⟨0, 0, 0, 0, false⟩

def LogBook.init : LogBook :=
  ⟨[], 0, [], [], none, [], [], false, 0, false, [], 0, none⟩

end Sys2Proof.Machine
end

