-- ==== Sys2Proof/Machine/StateMemory.lean ====
section
/-!
DEFINITION. Machine/StateMemory.lean: the state of the DRAM controller beside its objects (R355 to R373). The contents of
DRAM stand in the state's `dram`.
-/
namespace Sys2Proof.Machine

/-- The DRAM controller: writes accepted and not yet issued, per subchannel, as burst addresses, oldest first (R367,
R368); refreshes postponed and rolling activate counts by subchannel and bank (R363); the doubled refresh rate (R355);
the activate counters and queued neighbour refreshes (R364, R365); the patrol scrub's address and the ends of pass still to come
before RECOVERY ends (R371); the latest calibration slice and the subchannels it has
passed (R362); the RFM threshold and ceiling in activates (R355); the geometry, x4 devices and two ranks (R358); and that
training has failed, after which only a device reset brings another attempt (R360). -/
structure Drc where
  wq : List (List Nat)
  postponed : Kv Nat
  raa : Kv Nat
  doubled : List Nat
  counters : List (List (Nat × Nat))
  neighbours : List (Nat × Nat × Nat)
  scrubAt : Nat
  recoverLeft : Option Nat
  sliceAt : Option Nat
  slicePass : List Nat
  raaimt : Nat
  raammt : Nat
  x4 : Bool
  dual : Bool
  trainFailed : Bool
  deriving DecidableEq, Repr

def Drc.init : Drc :=
  ⟨[[], [], [], []], [], [], [], [[], [], [], []], [], 0, none, none, [], 0, 0, false, false, false⟩

end Sys2Proof.Machine
end

