-- ==== Sys2Proof/Machine/StateTime.lean ====
section
/-!
DEFINITION. Machine/StateTime.lean: the state of machine time's servo and of network timing (R333 to R353) beside the TIM
objects. Rates are held exactly, in units of 2⁻²⁴ ppb; offsets in units of 2⁻¹⁶ ns.
-/
namespace Sys2Proof.Machine

/-- A linear ramp of RATE (R340): values at its ends, start and length in elapsed ticks. -/
structure Ramp where
  from_ : Int
  upto : Int
  start : Nat
  len : Nat
  deriving DecidableEq, Repr

/-- An entry of the transmit time-stamp queue (R351). -/
structure TxStamp where
  id : Nat
  port : Nat
  msgType : Nat
  domain : Nat
  seq : Nat
  at_ : Time
  deriving DecidableEq, Repr

/-- The servo and PTP: the integrator, the rate ramp and the breakpoints of RATE (elapsed tick, value), oldest first;
whether the acquisition has seen a measurement; the θ of a step that is due; the runs of R341 and R342; the elapsed ticks
of the latest measurement and of the latest step; the latest accepted PPS edge; clock identities already reported; the
transmit queue and its next identifier; two-step residences by port identity and sequence; the plant master (clock
identity, UTC offset) and its rank; by port (ETH0, ETH1) the path delay, the latest Sync difference and the delay request
under way; the plant's Sync interval in ticks; θ as the latest machine-domain Sync gave it under LINK; sequence numbers
sent; and the elapsed tick at which PPS_OUT rose, while it is high. -/
structure Tim where
  integ : Int
  ramp : Ramp
  rateLog : List (Nat × Int)
  measured : Bool
  stepDue : Option Int
  goodRun : Nat
  badRun : Nat
  largePosted : Bool
  measAt : Nat
  stepAt : Option Nat
  ppsLast : Option Time
  foreign : List Nat
  txq : List TxStamp
  txqId : Nat
  twoStep : List (Nat × Nat × Nat)
  master : Option (Nat × Nat)
  masterRank : List Nat
  pathDelay : Int × Int
  syncDiff : Int × Int
  delayOut : List (Nat × Nat × Time)
  syncInt : Nat
  linkTheta : Option Int
  syncSeq : Nat
  announceSeq : Nat
  delaySeq : Nat
  ppsAt : Option Nat
  deriving DecidableEq, Repr

def Tim.init : Tim :=
  { integ := 0, ramp := ⟨0, 0, 0, 0⟩, rateLog := [], measured := false, stepDue := none, goodRun := 0, badRun := 0,
    largePosted := false, measAt := 0, stepAt := none, ppsLast := none, foreign := [], txq := [], txqId := 0,
    twoStep := [], master := none, masterRank := [], pathDelay := (0, 0), syncDiff := (0, 0), delayOut := [],
    syncInt := 2000000, linkTheta := none, syncSeq := 0, announceSeq := 0, delaySeq := 0, ppsAt := none }

end Sys2Proof.Machine
end

