-- ==== Sys2Proof/Machine/StateTwin.lean ====
section
/-!
DEFINITION. Machine/StateTwin.lean: the state of twin pairs and cascades (R312 to R332), beside TWN_STATE and CSC_STATE.
-/
namespace Sys2Proof.Machine

/-- What the latest heartbeat frame of the partner said (R332). -/
structure PartnerHb where
  unit : Nat
  role : Nat
  elig : Bool
  preferred : Bool
  mode : Nat
  epoch : Nat
  deriving DecidableEq, Repr

/-- A forwarded command waiting for its admission tick (R316). -/
structure FwdCmd where
  tick : Nat
  master : Nat
  mailbox : Nat
  slot : Bytes
  deriving DecidableEq, Repr

/-- A forwarded input waiting for its admission tick (R315): kind and content as TWN_INPUT carries them. -/
structure FwdInput where
  tick : Nat
  kind : Nat
  data : Bytes
  deriving DecidableEq, Repr

/-- The pair (R312 to R327): last heartbeats by path (elapsed ticks), the partner's words, forwarded work, digests by tick
index, the resynchronisation under way, an exchange of roles (boundary, epoch, agreed), the intervals measured, and the
TIME_SRC write that a new active unit owes its nodes. On the active unit `partnerOut` says that it holds its standby
ineligible until the next resynchronisation (R319), `syncSent` that it has sent the snapshot in this Slack. -/
structure Twin where
  hbLink : Option Nat
  hbPin : Option Nat
  partner : Option PartnerHb
  pairFail : Bool
  since : Nat
  withheld : Option Nat
  cmds : List FwdCmd
  inputs : List FwdInput
  ownDec : List (Nat × Nat)
  partDec : List (Nat × Nat)
  ownState : List (Nat × Nat)
  partState : List (Nat × Nat)
  blocks : List (Nat × Bytes)
  total : Nat
  boundary : Option Nat
  exchange : Option (Nat × Nat × Bool)
  eligSince : Option Nat
  dualSince : Option Nat
  resyncDue : Bool
  timeSrcDue : Bool
  partnerOut : Bool
  syncSent : Bool
  deriving DecidableEq, Repr

/-- A member's latest CSC_READY (R330). -/
structure CscReady where
  layer : Nat
  tide : Bool
  ended : Bool
  held : Bool
  deriving DecidableEq, Repr

/-- The cascade (R328 to R331): hops to a member and when it was last heard, by link port, readiness, the announced
boundary (kind, tick index, layer), a HOLD received, and the SEQ series of the link streams. -/
structure Casc where
  hops : Kv Nat
  heard : Kv Nat
  ready : List (Nat × CscReady)
  announced : Option (Nat × Nat × Nat)
  lostPosted : List Nat
  holdLatched : Option Nat
  leadLost : Bool
  tx : Kv Nat
  rx : Kv Nat
  deriving DecidableEq, Repr

def Twin.init : Twin :=
  { hbLink := none, hbPin := none, partner := none, pairFail := false, since := 0, withheld := none,
    cmds := [], inputs := [], ownDec := [], partDec := [], ownState := [], partState := [],
    blocks := [], total := 0, boundary := none, exchange := none, eligSince := none, dualSince := none,
    resyncDue := false, timeSrcDue := false, partnerOut := false, syncSent := false }

def Casc.init : Casc :=
  { hops := [], heard := [], ready := [], announced := none, lostPosted := [], holdLatched := none, leadLost := false, tx := [], rx := [] }

end Sys2Proof.Machine
end

