-- ==== Sys2Proof/Machine/State.lean ====
section
/-!
DEFINITION. Machine/State.lean: the state of the block. `Core` holds everything but the contents of DRAM and the queue of
commands: the register file (every field of every object, by key; one that is not listed holds its reset value), machine
time, and what each unit keeps beside its registers. `State` adds the DRAM and the commands that wait.
-/
namespace Sys2Proof.Machine

/-- What the block emits during one command, in order. -/
inductive Output where
  /-- a bulk frame on a lane of a port: what stands between SOF and EOF, check word included (R163) -/
  | bulk (port lane : Nat) (bytes : Bytes)
  /-- a surge word's 32-bit payload on a lane of a head port (R115) -/
  | surge (port lane payload : Nat)
  /-- a bell (R174), and the symbols it left late -/
  | bell (port late : Nat)
  /-- a link management set on a lane of a port, or with 0xFF on each (R182), sent so often: its nine data symbols -/
  | lmSet (port lane copies : Nat) (bytes : Bytes)
  /-- what a lane of a port carries from now on (R183, R185) -/
  | fill (port lane : Nat) (fill : Fill)
  /-- four NEAP on each data lane of a port (R161, R190) -/
  | neap (port : Nat)
  /-- electrical idle on every data lane of a port: for so many ns, or with 0 until further notice -/
  | idle (port ns : Nat)
  /-- the forwarded clock of a port: 1.0 or 2.0 GHz (R158), or stopped -/
  | portClock (port : Nat) (fast : Bool)
  | clockStop (port : Nat)
  /-- an edge on an LG pair -/
  | lg (chan : Nat) (level : Bool) (at_ : Time)
  /-- the fine delay line of a channel's LG output is set for its next edge, in taps (R374) -/
  | lgLine (chan : Nat) (taps : Int)
  /-- an MSI-X message (R226) -/
  | msix (vector : Nat)
  /-- data returned on a bus read -/
  | busData (data : Bytes)
  | busUR
  | busPoisoned (data : Bytes)
  /-- a UDP payload from the management service to an address and port (R228) -/
  | datagram (ip port : Nat) (data : Bytes)
  /-- a trigger pulse on CTRIG (R266), its length in units of 8 ns; with 0 the level stays -/
  | ctrig (port : Nat) (level : Bool) (width : Nat)
  /-- a sink's drive (R270, R274): current in µA, on-time in ns; on-time 0 stands for until further notice -/
  | sink (n current onNs : Nat)
  /-- a Shingle wire frame (R280) -/
  | shingle (chain : Nat) (data : Bytes)
  /-- a change of MDIR at a profile tick boundary (R284, R285) -/
  | mdir (axis : Nat) (high : Bool)
  /-- the steps of a bed axis in one profile tick (R285, R288): how many, the start of each pulse after the boundary and its
  high time, in units of 8 ns -/
  | steps (axis : Nat) (m : Int) (starts : List Nat) (width : Nat)
  /-- a compare output (R307, R309): 0 low, 1 high, 2 a pulse; whether it is inverted, and PULSE_W in units of 8 ns -/
  | cmpo (unit act : Nat) (inverted : Bool) (width : Nat)
  /-- EMU_A, EMU_B and EMU_Z at each count that an emulation output passes (R310) -/
  | emu (output : Nat) (levels : List (Bool × Bool × Bool))
  /-- the outputs PPS_OUT and TWHB_O -/
  | pps (high : Bool)
  | twhb (width : Nat)
  /-- a PTP message (R347, R348): port, messageType, domain, sequenceId and content -/
  | ptp (port msgType domain seq : Nat) (data : Bytes)
  /-- an ARP or ICMP answer (R227) -/
  | ethReply (kind : Nat) (data : Bytes)
  deriving DecidableEq, Repr

/-- A bulk frame on a lane of a port, by its header fields (R163). -/
def Output.frame (port lane ftype flags node seq tag aux : Nat) (payload : Bytes) : Output :=
  .bulk port lane (frameBytes ftype flags node seq tag aux payload)

/-- A link management set by its type and parameters (R182). -/
def Output.lm (port lane type p0 p1 p2 p3 : Nat) (copies : Nat := 1) : Output :=
  .lmSet port lane copies (lmBytes type p0 p1 p2 p3)

/-- Electrical idle on a port until further notice. -/
def Output.portIdle (port : Nat) : Output := .idle port 0

/-- What a lane of a port makes of an output (R161, R165): bells go on lane 0. -/
def Lane.take (p i : Nat) (l : Lane) (o : Output) : Lane :=
  match o with
  | .bulk q j b => if q = p ∧ j = i then l.send (frameSyms b) else l
  | .surge q j w => if q = p ∧ j = i then l.send (surgeSyms w) else l
  | .bell q _ => if q = p ∧ i = 0 then l.send [.ctl .bell] else l
  | .lmSet q j n b => if q = p ∧ (j = i ∨ j = 0xFF) then l.send (List.replicate n (lmSyms b)).flatten else l
  | .fill q j f => if q = p ∧ j = i then l.begin f else l
  | .neap q => if q = p then l.send (List.replicate 4 (.ctl .neap)) else l
  | .idle q ns => if q = p ∧ ns = 0 then l.begin .off else l
  | _ => l

/-- Everything the block holds but DRAM and the command queue. `regs` are the registers in force and `bootRegs` the values of
fields that a boot takes (R8); `now` is machine time and `ticks` counts elapsed ticks; `fresh` numbers the free values drawn;
`events` are posted and not yet in the ring, `out` is what the present command has emitted, `wq` the DRAM writes it has
accepted; `escHold` and `escSafe` are escalations raised (R241); `tickW` and `slackW` are writes that wait for a tick
boundary or the Slack (R8); `psets` and `charts` are parameter sets and chart nodes (R41, R71); then one part for each unit
of the block, `surgeOrder` being the nanosecond in which the latest SAMPLE was accepted (R118) and `resWrite` placing residue entries (R152). `planeDue` holds at a control tick
boundary whose commands and tide mark come before its data plane (R218, R220), until the pilot has done its part. -/
structure Core where
  regs : Kv Nat
  bootRegs : Kv Nat
  now : Time
  ticks : Nat
  fresh : Nat
  events : List Ev
  out : List Output
  wq : List (Nat × Bytes)
  escHold : List Nat
  escSafe : List Nat
  tickW : List (Field × Nat × Nat)
  slackW : List (Field × Nat × Nat)
  psets : Kv Nat
  charts : Kv Nat
  pilot : Pilot
  ports : List Port
  seq : List SeqCh
  layer : Layer
  bwk : Bwk
  losses : List Loss
  surgeOrder : Nat
  resWrite : Nat
  log : LogBook
  twin : Twin
  casc : Casc
  drc : Drc
  img : Imaging
  lum : Lighting
  mot : Axes
  tim : Tim
  hbr : Harbour
  rst : RstSt
  bst : Bst
  pcie : Pcie
  planeDue : Bool
  deriving DecidableEq, Repr

/-- Why a step could stop with a fault. No rule of the spec stops the block, so the model never raises one. -/
inductive Fault where
  /-- Raised by nothing: the type needs a name to be written down. Safe, as no step answers with it. -/
  | never
  deriving DecidableEq, Repr

/-- Why a command could be refused. -/
inductive Refusal where
  /-- Raised by an arm of the dispatch whose row has no meaning yet, with the row's mnemonic; no arm is left. Safe. -/
  | notModelled (mnemonic : String)
  deriving DecidableEq, Repr

/-- The state of the block: what it holds, the contents of its DRAM in canonical form, the commands that wait, first in
first out, and the transmitters of the data lanes: lane i of port p is number 2 × p + i (R157, R160). -/
structure State where
  core : Core
  dram : Mem
  pending : List Instr
  wire : List Lane
  deriving DecidableEq, Repr

/-- The core right after reset: AON is released and every other domain held, in BOOT (R432, R230), every register at its
Reset value, the straps of a device alone (TW_PREF high), safety levels not yet reported. -/
def Core.reset : Core :=
  { regs := [(TWN_STATE.PREFERRED.key 0, 1)], bootRegs := [], now := 0, ticks := 0, fresh := 0, events := [], out := [],
    wq := [], escHold := [], escSafe := [], tickW := [], slackW := [], psets := [], charts := [], pilot := Pilot.init,
    ports := List.replicate 21 Port.init, seq := List.replicate 64 SeqCh.init, layer := Layer.init, bwk := Bwk.init,
    losses := [], surgeOrder := 0, resWrite := 0, log := LogBook.init, twin := Twin.init, casc := Casc.init,
    drc := Drc.init, img := Imaging.init, lum := Lighting.init, mot := Axes.init, tim := Tim.init, hbr := Harbour.init,
    rst := RstSt.init, bst := Bst.init, pcie := Pcie.init, planeDue := false }

/-- The block right after reset: DRAM lists nothing, no command waits, and every data lane is in electrical idle. -/
def State.reset : State := { core := Core.reset, dram := [], pending := [], wire := List.replicate 42 Lane.init }

end Sys2Proof.Machine
end

