-- ==== Sys2Proof/Machine/Ops.lean ====
section
/-!
DEFINITION. Machine/Ops.lean: the named operations every meaning is built from: the register file, DRAM access, events
and escalations, modes, frames, and the lifting of a meaning over the core to a step.
-/
namespace Sys2Proof.Machine

/-! ### The register file -/

/-- The value of a field of an instance. -/
def Core.rd (c : Core) (f : Field) (i : Nat := 0) : Nat := Kv.get (f.resetVal i) c.regs (f.key i)

/-- Put a value into a field of an instance; only the field's bits are kept. -/
def Core.wr (c : Core) (f : Field) (v : Nat) (i : Nat := 0) : Core :=
  { c with regs := Kv.put (f.resetVal i) c.regs (f.key i) (v % 2 ^ f.width) }

/-- The two's-complement value of a signed field. -/
def Core.rdI (c : Core) (f : Field) (i : Nat := 0) : Int := toSigned f.width (c.rd f i)

/-- Put a two's-complement value, saturating at the field's ends. -/
def Core.wrI (c : Core) (f : Field) (v : Int) (i : Nat := 0) : Core :=
  c.wr f (ofSigned f.width (satSigned f.width v)) i

/-- Count `n` in a saturating field. -/
def Core.inc (c : Core) (f : Field) (i : Nat := 0) (n : Nat := 1) : Core :=
  c.wr f (satNat f.width (c.rd f i + n)) i

/-- Keep the larger value in a saturating field. -/
def Core.keepMax (c : Core) (f : Field) (v : Nat) (i : Nat := 0) : Core :=
  c.wr f (satNat f.width (max (c.rd f i) v)) i

def Core.flag (c : Core) (f : Field) (i : Nat := 0) : Bool := c.rd f i != 0
def Core.setFlag (c : Core) (f : Field) (b : Bool) (i : Nat := 0) : Core := c.wr f (b2n b) i

/-- The image of an object (R211): every field in its place; write-only fields read as zero (R9). -/
def Core.image (c : Core) (d : ObjDesc) (i : Nat) : Nat :=
  d.fields.foldl (fun a f => if f.access = .wo then a else a + (c.rd f i) * 2 ^ f.lsb) 0

/-- The bytes of an object's value. -/
def Core.imageBytes (c : Core) (d : ObjDesc) (i : Nat) : Bytes := leBytes d.size (c.image d i)

/-- A field of an object image. -/
def imgField (v : Nat) (f : Field) : Nat := bits v f.lsb f.width
def imgFieldI (v : Nat) (f : Field) : Int := toSigned f.width (imgField v f)

/-- The bits of an object image that no field of its table covers are zero (R4). -/
def reservedZero (d : ObjDesc) (v : Nat) : Bool :=
  v == d.fields.foldl (fun a f => a + imgField v f * 2 ^ f.lsb) 0

def findObj (id : Nat) : Option ObjDesc := objTable.find? (fun d => d.id == id)

/-! ### Reset domains (R420) -/

/-- Domain `d` is held in reset. -/
def Core.held (c : Core) (d : Nat) : Bool := bitOf (c.rd RST_STATE.IN_RESET) d

def domAON : Nat := 0
def domHBR : Nat := 1
def domPLT : Nat := 2
def domMEM : Nat := 3
def domFAB : Nat := 4
def domTIM : Nat := 5
def domCAM : Nat := 6
def domMOT : Nat := 7
def domLUM : Nat := 8
def domEXP : Nat := 9

/-- Do something unless a domain is held in reset: a domain in reset ignores its inputs (R420). -/
def Core.unlessHeld (c : Core) (d : Nat) (f : Core → Core) : Core := if c.held d then c else f c

/-! ### Machine time (R7, R18, R334) -/

/-- One nanosecond in units of 2⁻¹⁶ ns. -/
def nsU : Nat := 65536
def tickU : Nat := 500 * nsU
def usU : Nat := 1000 * nsU
def secU : Nat := 1000000000 * nsU

def timeSec (t : Time) : Nat := t / secU
def timeNs (t : Time) : Nat := t % secU / nsU
def timeFrac (t : Time) : Nat := t % nsU
def mkTime (sec ns frac : Nat) : Time := sec * secU + ns * nsU + frac

/-- The tick index of an instant (R163). -/
def tickIndex (t : Time) : Nat := (t / tickU) % 2 ^ 32

/-- The next instant after `t` that is a whole multiple of `p`. -/
def nextMultiple (t p : Nat) : Nat := (t / p + 1) * p

def ticksPerUs : Nat := 2
def ticksPerMs : Nat := 2000

/-! ### Outputs, events and escalations -/

def Core.emit (c : Core) (o : Output) : Core := { c with out := c.out ++ [o] }

/-- Post an event; the pilot writes it into the ring at the first control tick boundary after the present instant (R223). -/
def Core.post (c : Core) (code inst : Nat) (data : Bytes := []) (at_ : Option Time := none) : Core :=
  { c with events := c.events ++ [⟨code, inst, at_, data, c.ticks⟩] }

/-- Raise a HOLD escalation at end (R241), acted on at the next tick boundary. -/
def Core.raiseHold (c : Core) (src : Nat) : Core := { c with escHold := c.escHold ++ [src] }
/-- Raise a SAFE escalation (R241). -/
def Core.raiseSafe (c : Core) (src : Nat) : Core := { c with escSafe := c.escSafe ++ [src] }

/-- Draw the next free value's index. -/
def Core.drawFresh (c : Core) : Nat × Core := (c.fresh, { c with fresh := c.fresh + 1 })

/-! ### Event codes (R472) -/
def evSetApplied : Nat := 0x0101
def evTokenLost : Nat := 0x0102
def evEvqOverflow : Nat := 0x0103
def evQueueDiscarded : Nat := 0x0104
def evModeChanged : Nat := 0x0105
def evLayerAborted : Nat := 0x0106
def evSlackLong : Nat := 0x0107
def evHbrRestart : Nat := 0x0201
def evLayerDone : Nat := 0x1001
def evSyncTimeout : Nat := 0x1002
def evTileBad : Nat := 0x1003
def evLayerDiscarded : Nat := 0x1004
def evFeedbackLost : Nat := 0x1201
def evBwkWaitLong : Nat := 0x1401
def evBwkExtent : Nat := 0x1402
def evChannelLost : Nat := 0x1501
def evAdoptionDone : Nat := 0x1502
def evPortDown : Nat := 0x2001
def evPortUp : Nat := 0x2002
def evChainEnumerated : Nat := 0x2003
def evNodeLost : Nat := 0x2004
def evNodeEvent : Nat := 0x2005
def evNodeCfgLate : Nat := 0x2006
def evIplRefStale : Nat := 0x3101
def evIplTimeout : Nat := 0x3102
def evIplRefCaptured : Nat := 0x3103
def evLumOpen : Nat := 0x3201
def evLumShort : Nat := 0x3202
def evLumChain : Nat := 0x3203
def evAxisFault : Nat := 0x4001
def evRecoatFail : Nat := 0x4002
def evPfiInputFault : Nat := 0x4101
def evCmpMissed : Nat := 0x4102
def evTwnTakeover : Nat := 0x5001
def evTwnPathAlarm : Nat := 0x5002
def evTwnDiverged : Nat := 0x5003
def evTwnResynced : Nat := 0x5004
def evTwnNoTakeover : Nat := 0x5005
def evTwnTakeback : Nat := 0x5006
def evTwnPairFail : Nat := 0x5007
def evCscMemberLost : Nat := 0x5101
def evCscFormed : Nat := 0x5102
def evCscLeadLost : Nat := 0x5103
def evTimLocked : Nat := 0x6001
def evTimHoldover : Nat := 0x6002
def evTimStepped : Nat := 0x6003
def evTimOffsetLarge : Nat := 0x6004
def evTimForeignGm : Nat := 0x6005
def evDrcUncorr : Nat := 0x7001
def evDrcTrainFail : Nat := 0x7002
def evDrcInitDone : Nat := 0x7003
def evCalDone : Nat := 0x8001
def evCalExpired : Nat := 0x8002
def evCalRecordFail : Nat := 0x8003
def evTrimFallback : Nat := 0x8004
def evThmWarn : Nat := 0x8101
def evThmFault : Nat := 0x8102
def evThmClear : Nat := 0x8103
def evConAuthFail : Nat := 0x8201
def evConExhausted : Nat := 0x8202
def evConLow : Nat := 0x8203
def evUpdFallback : Nat := 0x8301
def evRecFull : Nat := 0x9001
def evRstClkLost : Nat := 0xA001
def evBootDone : Nat := 0xA002
def evBstDegraded : Nat := 0xA101
def evSafetyTrip : Nat := 0xB001
def evSafetyDiscrepancy : Nat := 0xB002

/-! ### Modes (R230) -/

/-- The twelve modes. -/
inductive Mode where
  | dormant | boot | bringup | standby | armed | expose | slack | hold | calibrate | service | safe | shutdownTest
  deriving DecidableEq, Repr

def Mode.code : Mode → Nat
  | .dormant => 0 | .boot => 1 | .bringup => 2 | .standby => 3 | .armed => 4 | .expose => 5
  | .slack => 6 | .hold => 7 | .calibrate => 8 | .service => 9 | .safe => 10 | .shutdownTest => 11

def Mode.ofCode : Nat → Mode
  | 0 => .dormant | 1 => .boot | 2 => .bringup | 3 => .standby | 4 => .armed | 5 => .expose
  | 6 => .slack | 7 => .hold | 8 => .calibrate | 9 => .service | 10 => .safe | _ => .shutdownTest

def Core.mode (c : Core) : Mode := Mode.ofCode (c.rd PLT_MODE.MODE)

/-- The cameras (CAM) or the lighting (LUM) do not run: their domain is held, the device is still in BOOT, where they idle, or
the shutdown test runs (R231). -/
def Core.stopped (c : Core) (d : Nat) : Bool := c.held d || c.mode == .boot || c.mode == .shutdownTest
def Core.unlessStopped (c : Core) (d : Nat) (f : Core → Core) : Core := if c.stopped d then c else f c

/-- The gate drivers are enabled (R231). -/
def Mode.gateEnabled : Mode → Bool
  | .armed | .expose | .slack | .hold => true
  | _ => false

/-- The unit ID reported in responses and events: that of the pair's unit, or 0 outside a pair (R201, R224). -/
def Core.unitId (c : Core) : Nat := if c.flag TWN_CONFIG.TWIN_EN then c.rd TWN_STATE.UNIT else 0

/-- The cascade index of the device (R20). -/
def Core.cascId (c : Core) : Nat := c.rd CSC_STATE.CASC_ID

/-- Global channel g (R21). -/
def Core.globalCh (c : Core) (ch : Nat) : Nat := 64 * c.cascId + ch

/-- LAYER_ACTIVE (R55). -/
def Core.layerActive (c : Core) : Bool := c.flag SEQ_LAYER_STATE.LAYER_ACTIVE

/-- Change mode (R230, R248), at the present tick boundary: PLT_MODE records the change, MODE_CHANGED is posted and
INT_STATUS MODE is set; vector 9 is raised with it (R226). -/
def Core.enterMode (c : Core) (m : Mode) : Core :=
  let old := c.rd PLT_MODE.MODE
  let c := c.wr PLT_MODE.PREV_MODE old
  let c := c.wr PLT_MODE.MODE m.code
  let c := c.wr PLT_MODE.ENTRY_SEC (timeSec c.now)
  let c := c.wr PLT_MODE.ENTRY_NS (timeNs c.now)
  let c := if m = Mode.hold then c else (c.wr PLT_MODE.PHASE 0).wr PLT_MODE.HOLD_CAUSE 0
  let c := { c with pilot := { c.pilot with modeSince := c.ticks,
                                            freeNumber := c.pilot.freeNumber || decide (m = Mode.standby) } }
  c.post evModeChanged 0
    ([BitVec.ofNat 8 old, BitVec.ofNat 8 m.code, BitVec.ofNat 8 (c.rd PLT_MODE.PHASE),
      BitVec.ofNat 8 (c.rd PLT_MODE.HOLD_CAUSE)] ++ leBytes 2 (c.rd PLT_MODE.ESC_SOURCE)) (some c.now)

/-! ### DRAM -/

/-- The subchannel of a DRAM address (R358). -/
def subchannel (a : Nat) : Nat := a / 64 % 4

/-- The burst addresses that `n` bytes at `a` touch. -/
def burstsOf (a n : Nat) : List Nat :=
  if n = 0 then [] else (List.range ((a + n - 1) / 64 - a / 64 + 1)).map (fun i => 64 * (a / 64 + i))

/-- A write enters its subchannel's write queue; at 48 entries the oldest are issued until 16 are left (R367). -/
def wqPush (q : List (List Nat)) (b : Nat) : List (List Nat) :=
  modAt [] q (subchannel b) (fun l =>
    let l := l ++ [b]
    if 48 ≤ l.length then l.drop (l.length - 16) else l)

/-- Accept a DRAM write: it is applied, with the others of the command, when the command ends; its bursts enter the write
queues. -/
def Core.dramWrite (c : Core) (a : Nat) (bs : Bytes) : Core :=
  { c with wq := c.wq ++ [(a, bs)], drc := { c.drc with wq := (burstsOf a bs.length).foldl wqPush c.drc.wq } }

/-- A read compared with the write queues (R368): a match issues that write and every older one to the same burst, and is
counted in RAW_DRAINS. -/
def Core.dramHazard (c : Core) (a n : Nat) : Core :=
  (burstsOf a n).foldl (fun c b =>
    if (c.drc.wq.getD (subchannel b) []).contains b then
      let c := c.inc DRC_STAT.RAW_DRAINS (subchannel b)
      { c with drc := { c.drc with wq := modAt [] c.drc.wq (subchannel b) (fun l => l.filter (fun x => x != b)) } }
    else c) c

/-- Read DRAM under the writes accepted so far. -/
def Core.dramRead (c : Core) (m : Mem) (a n : Nat) : Bytes := readBytesUnder m c.wq a n

/-- The host part in bytes: the installed DRAM of R43 (R357). -/
def Core.hostBytes (c : Core) : Nat := c.rd DRC_STATE.HOST_MIB * 1048576

/-- The logbook region: its base and size in bytes (R410). -/
def Core.logBase (c : Core) : Nat := c.rd REC_STATE.REC_BASE
def Core.logSize (c : Core) : Nat := c.rd REC_CONFIG.REC_SIZE * 1048576

/-- `n` bytes at `a` lie within installed DRAM and clear of the logbook region (R43). -/
def Core.dramOk (c : Core) (a n : Nat) : Bool :=
  decide (a + n ≤ c.hostBytes) &&
  (decide (a + n ≤ c.logBase) || decide (c.logBase + c.logSize ≤ a))

/-- Two stretches of DRAM share a byte. -/
def overlaps (a n b k : Nat) : Bool := decide (0 < n) && decide (0 < k) && decide (a < b + k) && decide (b < a + n)

/-! ### Logbook taps (R15, R416) -/

/-- Histograms of a channel, in the order of R412: 0 reflex samples, 1 rung dwell, 2 following error, 3 breakwater
wait. -/
def histKey (bank ch hist bin : Nat) : Nat := ((bank * 64 + ch) * 4 + hist) * 64 + bin

/-- One entry of a histogram of the present layer; bins hold 40 bits (R416). -/
def Core.addHist (c : Core) (ch hist bin : Nat) : Core :=
  let k := histKey c.log.bank ch hist bin
  { c with log := { c.log with hist := Kv.put 0 c.log.hist k (satNat 40 (Kv.get 0 c.log.hist k + 1)) } }

def extrKey (bank ch item : Nat) : Nat := (bank * 64 + ch) * 5 + item

/-- One occurrence of an extreme; where two tie the first is kept (R416). Item 1 keeps the least, the others the
greatest. -/
def Core.addExtreme (c : Core) (ch item : Nat) (v : Int) (t : Time) (x y : Int) : Core :=
  let k := extrKey c.log.bank ch item
  let e := Kv.get Extreme.none_ c.log.extr k
  let better := !e.seen || (if item = 1 then decide (v < e.value) else decide (e.value < v))
  if better then
    { c with log := { c.log with extr := Kv.put Extreme.none_ c.log.extr k ⟨v, t, x, y, true⟩ } }
  else c

/-- An item leaves a tap's queue for the accumulators of the present bank (R415, R416). -/
def Core.accumulate (c : Core) (i : Tapped) : Core :=
  let c := if i.kind < 4 then c.addHist i.ch i.kind i.bin else c
  let ext := fun (c : Core) (item : Nat) => c.addExtreme i.ch item i.value i.at_ i.x i.y
  match i.kind with
  | 0 => ext (ext c 0) 1
  | 2 => ext c 2
  | 3 => ext c 4
  | 4 => ext c 3
  | _ => c

/-- The accumulators take what the taps' queues hold. The spec does not say how fast; the model lets them take all of it at
each tick boundary, at a tide mark before the banks change, and before a layer's batch (DESIGN CHOICE, log 24). -/
def Core.drainTaps (c : Core) : Core :=
  let l := c.log.taps
  l.foldl Core.accumulate { c with log := { c.log with taps := [] } }

/-- An item of a tap: each channel's tap of each kind has a queue of 256, and a full queue drops the item and counts it (R15,
R415, R417). -/
def Core.tap (c : Core) (i : Tapped) : Core :=
  if 256 ≤ c.log.taps.countP (fun j => j.ch == i.ch && j.kind == i.kind) then
    (c.inc REC_STAT.LOST_TAP).inc REC_STAT.REC_LOST
  else { c with log := { c.log with taps := c.log.taps ++ [i] } }

/-! ### Channels, ports -/

def Core.ch (c : Core) (i : Nat) : SeqCh := c.seq.getD i SeqCh.init
def Core.setCh (c : Core) (i : Nat) (s : SeqCh) : Core := { c with seq := setAt SeqCh.init c.seq i s }
def Core.modCh (c : Core) (i : Nat) (f : SeqCh → SeqCh) : Core := c.setCh i (f (c.ch i))
def Core.port (c : Core) (p : Nat) : Port := c.ports.getD p Port.init
def Core.setPort (c : Core) (p : Nat) (s : Port) : Core := { c with ports := setAt Port.init c.ports p s }

/-- Do something for each of the first `n` indexes in turn. -/
def Core.forEach (c : Core) (n : Nat) (f : Core → Nat → Core) : Core := (List.range n).foldl f c

def portUp : Nat := 3
/-- The port is UP (R183). -/
def Core.isUp (c : Core) (p : Nat) : Bool := c.rd STR_PORT_STATE.STATE p == portUp

/-- The node address of the head node of port `p` (R20). -/
def Core.headAddr (c : Core) (p : Nat) : Nat := c.cascId * 4096 + p

/-- The lane of a channel's surge words and whether a frame stream uses it (R19, R165). -/
def surgeLane (ch : Nat) : Nat := ch % 4 / 2

/-- The frame flag UNIT (R163). -/
def Core.unitFlag (c : Core) : Nat := c.unitId * 32

/-- The unit is muted (R320): it sends nothing on head, aux and cascade link ports but IDLE and LM sets. -/
def Core.muted (c : Core) : Bool := c.flag TWN_STATE.MUTED

/-- Emit something on a head, aux or cascade link port unless the unit is muted. -/
def Core.emitUnmuted (c : Core) (o : Output) : Core := if c.muted then c else c.emit o

/-- Send a tick-stream frame on lane 0 of a head port (R165, R178, R181): RESYNC stays owed while nothing is sent. -/
def Core.sendTick (c : Core) (p ftype flags tag : Nat) (payload : Bytes) : Core :=
  let q := c.port p
  let fl := flags + c.unitFlag + (if q.resyncTick then 64 else 0)
  let c := c.emitUnmuted (.frame p 0 ftype fl (c.headAddr p) q.txTick tag 0 payload)
  c.setPort p { q with txTick := (q.txTick + 1) % 65536, resyncTick := q.resyncTick && c.muted }

/-- Send a control-stream frame: lane 1 of a head port, lane 0 of an aux port (R165); each node has a series of its own
(R178), and its first frame since the port came UP has RESYNC set (R181). -/
def Core.sendCtl (c : Core) (p ftype flags node tag : Nat) (payload : Bytes) : Core :=
  let q := c.port p
  let fl := flags + c.unitFlag + (if q.sentTo.contains node then 0 else 64)
  let seq := Kv.get 0 q.txCtl node
  let c := c.emitUnmuted (.frame p (if p < 16 then 1 else 0) ftype fl node seq tag 0 payload)
  c.setPort p { q with
    txCtl := Kv.put 0 q.txCtl node ((seq + 1) % 65536),
    sentTo := if q.sentTo.contains node || c.muted then q.sentTo else q.sentTo ++ [node] }

/-- A control-stream frame that the other unit of the pair alone sends takes its place in the SEQ series here too (R317). -/
def Core.skipCtl (c : Core) (p node : Nat) : Core :=
  let q := c.port p
  c.setPort p { q with txCtl := Kv.put 0 q.txCtl node ((Kv.get 0 q.txCtl node + 1) % 65536) }

/-- Send a CFG_WR or CFG_RD and keep it for its answer (R193). -/
def Core.sendCfg (c : Core) (p node : Nat) (read now : Bool) (tag : Nat) (tideLayer : Bool) (payload : Bytes) : Core :=
  let seq := Kv.get 0 (c.port p).txCtl node
  let c := c.sendCtl p (if read then 0x04 else 0x03) (if now then 128 else 0) node tag payload
  let q := c.port p
  c.setPort p { q with sent := q.sent ++ [⟨seq, node, read, tag, now, payload, c.ticks, 0, tideLayer⟩] }

/-- The payload of a CFG_WR of consecutive node registers (R193). -/
def cfgPayload (addr : Nat) (vals : List Nat) : Bytes :=
  leBytes 2 addr ++ leBytes 2 vals.length ++ vals.flatMap (leBytes 4)

/-- The first whole microsecond whose bell a port has not sent yet (R174, R175). -/
def Core.nextBell (c : Core) (p : Nat) : Time :=
  let t := nextMultiple c.now usU
  if (c.port p).bellAt = some t then t + usU else t

/-- Send TIME_SET on a port: the instant of the first bell after it (R175). -/
def Core.sendTimeSet (c : Core) (p node : Nat) : Core :=
  let t := c.nextBell p
  c.sendCtl p 0x02 0 node 0 (leBytes 8 (timeSec t) ++ leBytes 4 (timeNs t) ++ zeros 4)

/-! ### Roles in a pair (R313, R325) -/

/-- The roles of TWN_STATE (R313). -/
def roleForming : Nat := 1
def roleActive : Nat := 2
def roleStandby : Nat := 3

def Core.inPair (c : Core) : Bool := c.flag TWN_CONFIG.TWIN_EN
def Core.role (c : Core) : Nat := c.rd TWN_STATE.ROLE
/-- The device is the standby unit of its pair. -/
def Core.isStandby (c : Core) : Bool := c.inPair && c.role == roleStandby
/-- The device performs the actions of R325: it stands alone or is the active unit. -/
def Core.actsActive (c : Core) : Bool := !c.inPair || c.role == roleActive

/-! ### Link frames (R163, R178, R328, R332) -/

def lp0 : Nat := 18
def lp1 : Nat := 19
def lp2 : Nat := 20

/-- The SEQ series of a link stream: stream 0 and 1 border lanes, 2 link stream, 3 and 4 the lanes of LP2, by far
CASC_ID (R178). -/
def linkKey (stream far : Nat) : Nat := stream * 16 + far

/-- Elapsed ticks without a heartbeat after which a path or a member is lost: 151 µs (R323, R329). -/
def hbLimit : Nat := 302

/-- The key of what CSC_HB taught about a member over a cascade link port. -/
def hopKey (port far : Nat) : Nat := port * 16 + far

/-- A member was heard over a port within the limit; `heard` keeps the elapsed tick plus 1. -/
def Core.heardOn (c : Core) (port far : Nat) : Bool :=
  let t := Kv.get 0 c.casc.heard (hopKey port far)
  t != 0 && decide (c.ticks < t - 1 + hbLimit)

/-- Hops to a member over a port, as learned from CSC_HB. -/
def Core.hopsOn (c : Core) (port far : Nat) : Nat :=
  if c.heardOn port far then Kv.get 0xFF c.casc.hops (hopKey port far) else 0xFF

/-- The port towards a member: the fewer hops, ties to LP1 (R328). -/
def Core.linkPort (c : Core) (far : Nat) : Nat := if c.hopsOn lp0 far < c.hopsOn lp1 far then lp0 else lp1

/-- The cascade link port that a unit of a pair has itself: LP0 on unit 0, LP1 on unit 1 (R328). -/
def Core.ownLink (c : Core) : Nat := if c.unitId = 0 then lp0 else lp1

/-- The frame flag RESYNC of a stream's frame out of a link port: set in the first one since the port came UP (R181). -/
def Core.linkFlag (c : Core) (p k : Nat) : Nat := if (c.port p).sentTo.contains k then 0 else 64

/-- A frame of a stream has left by a link port. -/
def Core.linkSent (c : Core) (p k : Nat) : Core :=
  let q := c.port p
  if q.sentTo.contains k then c else c.setPort p { q with sentTo := q.sentTo ++ [k] }

/-- Send a frame of stream `k` out of a cascade link port that is UP; a unit of a pair reaches the partner's port over lane
1 of LP2 (R328). -/
def Core.emitLink (c : Core) (port lane ftype k node seq tag aux : Nat) (payload : Bytes) : Core :=
  let partner := c.inPair && port != c.ownLink
  let out := if partner then lp2 else port
  if !c.isUp out then c
  else
    let fl := c.unitFlag + c.linkFlag out k
    if partner then (c.emit (.frame lp2 1 ftype fl node seq tag aux payload)).linkSent out k
    else if c.muted then c
    else (c.emit (.frame port lane ftype fl node seq tag aux payload)).linkSent out k

/-- The next SEQ of a link stream to a member. -/
def Core.nextLinkSeq (c : Core) (k : Nat) : Nat × Core :=
  let seq := Kv.get 0 c.casc.tx k
  (seq, { c with casc := { c.casc with tx := Kv.put 0 c.casc.tx k ((seq + 1) % 65536) } })

/-- Send a cascade link frame to a member (R163, R328); only the active unit of a pair originates it. -/
def Core.sendLink (c : Core) (stream lane ftype dest tag : Nat) (payload : Bytes) : Core :=
  let k := linkKey stream dest
  let (seq, c) := c.nextLinkSeq k
  if !c.actsActive then c
  else c.emitLink (c.linkPort dest) lane ftype k (dest * 4096) seq tag (c.cascId * 4096) payload

/-- Send a twin frame on a lane of LP2 while it is UP (R332); a muted unit still sends there. -/
def Core.sendTwin (c : Core) (lane ftype tag : Nat) (payload : Bytes) : Core :=
  let k := linkKey (3 + lane) 0
  let (seq, c) := c.nextLinkSeq k
  if !c.isUp lp2 then c
  else
    let fl := c.unitFlag + c.linkFlag lp2 k
    (c.emit (.frame lp2 lane ftype fl (c.cascId * 4096) seq tag (c.cascId * 4096) payload)).linkSent lp2 k

/-- The first tick boundary at least 4 µs on, as a tick index (R315). -/
def Core.admitTick (c : Core) : Nat := tickIndex ((c.now + 4 * usU + tickU - 1) / tickU * tickU)

/-- The payload of TWN_INPUT (R332). -/
def twinInputBytes (kind : Nat) (data : Bytes) : Bytes := leBytes 1 kind ++ [0#8] ++ leBytes 2 data.length ++ data

/-- An input that reached this unit alone is forwarded, and waits here too for its admission tick (R315). -/
def Core.twinForward (c : Core) (kind : Nat) (data : Bytes) : Core :=
  let t := c.admitTick
  let c := { c with twin := { c.twin with
    inputs := c.twin.inputs ++ [FwdInput.mk t kind data] } }
  c.sendTwin 0 0x52 t (twinInputBytes kind data)

/-- The device is the lead of its cascade (R329). -/
def Core.isLead (c : Core) : Bool := c.cascId == 0

/-- The device belongs to a cascade: MEMBERS is not 0x0001 alone (R329). -/
def Core.inCascade (c : Core) : Bool := c.rd CSC_CONFIG.MEMBERS != 1

/-- The members other than this device. -/
def Core.otherMembers (c : Core) : List Nat :=
  (List.range 16).filter (fun i => bitOf (c.rd CSC_CONFIG.MEMBERS) i && i != c.cascId)

def ptDown : Nat := 0
def ptTraining : Nat := 1
def ptEqualising : Nat := 2
def ptUp : Nat := 3
def ptNeap : Nat := 4
def ptFailed : Nat := 5

def Core.ptState (c : Core) (p : Nat) : Nat := c.rd STR_PORT_STATE.STATE p
def Core.setPt (c : Core) (p st : Nat) : Core := c.wr STR_PORT_STATE.STATE st p
def Core.inTraining (c : Core) (p : Nat) : Bool := c.ptState p == ptTraining || c.ptState p == ptEqualising

/-- Send a link management set on a lane of a port, or with 0xFF on each (R182): twice during training, where a set acts
only when two copies in a row agree; else once. -/
def Core.sendLmOn (c : Core) (p lane type p0 p1 p2 p3 : Nat) : Core :=
  c.emit (.lm p lane type p0 p1 p2 p3 (if c.inTraining p then 2 else 1))

/-- Send a link management set on every lane of a port. -/
def Core.sendLm (c : Core) (p type p0 p1 p2 p3 : Nat) : Core := c.sendLmOn p 0xFF type p0 p1 p2 p3

/-! ### From a meaning over the core to a step -/

/-- A command begins: nothing of it has been emitted and no write accepted. -/
def Core.begin (c : Core) : Core := { c with
  out := [], wq := [] }

/-- The transmitters of the data lanes after a command that leaves the core `c` (R160): a tick that has passed is filled, at
the rate that was in force, then the lanes take what the command emitted. A port of a domain in reset is idle (R420). -/
def State.wireAfter (s : State) (c : Core) : List Lane :=
  if c.held domFAB then List.replicate 42 Lane.init
  else
    (List.range 42).map (fun i =>
      let l := { s.wire.getD i Lane.init with sent := [] }
      let l := if s.core.ticks < c.ticks then l.tick (tickSymbols (s.core.flag STR_PORT_STATE.RATE (i / 2))) else l
      c.out.foldl (Lane.take (i / 2) (i % 2)) l)

/-- A command ends: the DRAM writes it accepted are applied, oldest first, and the data lanes carry what it emitted. -/
def State.finish (s : State) (c : Core) : State :=
  { s with
    core := { c with wq := [] }, dram := Mem.applyAll s.dram c.wq, wire := s.wireAfter c }

/-- Run a meaning over the core and the contents of DRAM; the queue of commands stays as it is. -/
def State.run (s : State) (f : Core → Mem → Core) : Host.Outcome State Fault Refusal :=
  .next (s.finish (f s.core.begin s.dram))

end Sys2Proof.Machine
end

