-- ==== Sys2Proof/Machine/Exposure.lean ====
section
/-!
DEFINITION. Machine/Exposure.lean: what the exposure path reads from the committed set in force: limits, parameter sets,
chart geometry and nodes, the tile environment, and the head-count mapping of a channel (R59, R70 to R73, R473).
-/
namespace Sys2Proof.Machine

/-- Parameter set `n` of a channel (R41). -/
def Core.pset (c : Core) (ch n : Nat) : Nat := Kv.get 0 c.psets (ch * 256 + n)

def psZ (w : Nat) : Int := toSigned 16 (psGet PS.Z_OFFSET w)
def psSky (w : Nat) : Bool := psGet PS.SKYWRITE w != 0
def psRfx (w : Nat) : Bool := psGet PS.RFX_EN w != 0
def psTrim (w : Nat) : Bool := psGet PS.TRIM_EN w != 0
def psWord (w : Nat) : Bool := psGet PS.GATE_WORD w != 0

/-- The mark limits of a channel (R59). -/
def Core.markLim (c : Core) (ch : Nat) : Limits :=
  ⟨F64.ofNat (c.rd SEQ_DYN.MARK_ACC ch), F64.ofNat (1000 * c.rd SEQ_DYN.MARK_JERK ch)⟩
/-- The jump limits of a channel (R59). -/
def Core.jumpLim (c : Core) (ch : Nat) : Limits :=
  ⟨F64.ofNat (c.rd SEQ_DYN.JUMP_ACC ch), F64.ofNat (1000 * c.rd SEQ_DYN.JUMP_JERK ch)⟩

/-- A chart geometry from an image of CHT_GEOM (R70). -/
def geomOfImage (v : Nat) : Geom :=
  { x0 := imgFieldI v CHT_GEOM.X0, y0 := imgFieldI v CHT_GEOM.Y0, pitch := imgField v CHT_GEOM.PITCH,
    margin := imgField v CHT_GEOM.MARGIN, xc := imgFieldI v CHT_GEOM.XC, yc := imgFieldI v CHT_GEOM.YC,
    a11 := imgFieldI v CHT_GEOM.A11, a12 := imgFieldI v CHT_GEOM.A12, a21 := imgFieldI v CHT_GEOM.A21,
    a22 := imgFieldI v CHT_GEOM.A22, z0 := imgFieldI v CHT_GEOM.Z0 }

/-- The chart geometry in force on a channel. -/
def Core.geom (c : Core) (ch : Nat) : Geom := geomOfImage (c.image Obj.CHT_GEOM ch)

/-- The store key of node (i, j) of a bank of a channel (R71, R75). -/
def nodeKey (bank ch i j : Nat) : Nat := (bank * 64 + ch) * 16641 + 129 * j + i

/-- Node (i, j) of a bank. -/
def Core.node (c : Core) (bank ch i j : Nat) : Nat := Kv.get 0 c.charts (nodeKey bank ch i j)

/-- Head counts of a bed point on a channel, clamped, with the axes that were clamped (R72, R73). A channel with no chart
has 0 head counts on every axis (R473). -/
def Core.mapHead (c : Core) (ch : Nat) (x y z : Int) : (Int × Int × Int) × (Bool × Bool × Bool) :=
  let g := c.geom ch
  if g.pitch = 0 then ((0, 0, 0), (false, false, false))
  else
    let h := headCounts g (fun i j => c.node (c.rd CHT_BANK.CURRENT ch) ch i j) x y z
    ((clampHead h.1, clampHead h.2.1, clampHead h.2.2),
     (!headInRange h.1, !headInRange h.2.1, !headInRange h.2.2))

/-- What the planner takes for a chain of a channel. -/
def Core.chainEnv (c : Core) (ch : Nat) : ChainEnv :=
  let g := c.geom ch
  ⟨c.markLim ch, c.rd SEQ_DYN.CORNER_TOL ch, g.x0, g.y0, g.pitch, g.margin⟩

/-- What a tile of a channel is judged against at use (R51). -/
def Core.tileEnv (c : Core) (ch layer : Nat) (prev : Option Nat) : TileEnv :=
  let g := c.geom ch
  { channel := ch, layer := layer, prevSeq := prev, pset := c.pset ch,
    x0 := g.x0, y0 := g.y0, pitch := g.pitch, maxLen := c.rd BWK_MAXLEN.MAXLEN,
    borderEn := c.flag BWK_CASCADE.BORDER_EN,
    regXLo := c.rdI BWK_CASCADE.REG_X_LO, regXHi := c.rdI BWK_CASCADE.REG_X_HI,
    regYLo := c.rdI BWK_CASCADE.REG_Y_LO, regYHi := c.rdI BWK_CASCADE.REG_Y_HI }

/-- The margin by which a stop steps back (R59, R82), in metres. -/
def Core.reentryM (c : Core) (ch : Nat) : F64 := metres (c.rd SEQ_DYN.REENTRY ch : Nat)

/-- A whole number of ticks in seconds. -/
def ticksSec (n : Nat) : F64 := F64.ofRatio (n : Int) 2000000

/-- An instant relative to the present boundary, in nanoseconds (R92). -/
def Core.rel (c : Core) (t : Time) : F64 := F64.ofScaled ((t : Int) - (c.now : Int)) (-16)

/-- The channel is out of service (R155). -/
def Core.failed (c : Core) (ch : Nat) : Bool := c.rd ADP_STATE.STATE ch != 0

/-- The channel is armed for the layer in progress and not failed. -/
def Core.live (c : Core) (ch : Nat) : Bool := c.layerActive && (c.ch ch).armed && !c.failed ch

/-- The rest point of a channel that has not moved since the release of EXP: (XC, YC) of its chart (R473). -/
def Core.restPoint (c : Core) (ch : Nat) : F64 × F64 :=
  let s := c.ch ch
  if s.moved then (s.posX, s.posY)
  else
    let g := c.geom ch
    (metres g.xc, metres g.yc)

end Sys2Proof.Machine
end

