-- ==== Sys2Proof/Machine/Breakwater.lean ====
section
/-!
DEFINITION. Machine/Breakwater.lean: reservations, rounds, releases, and the borders of a cascade (R125 to R142).
-/
namespace Sys2Proof.Machine

/-! ### Geometry (R126, R127, R137) -/

/-- The zone of a box (R126). -/
def Core.zoneOf (c : Core) (b : Box) : Box :=
  let ko : Int := (c.rd BWK_GEOM.KEEPOUT : Nat)
  let sl : Int := (c.rd BWK_GEOM.SHADOW_LEN : Nat)
  let sw : Int := (c.rd BWK_GEOM.SHADOW_WIDE : Nat)
  match c.rd BWK_GEOM.FLOW with
  | 0 => ⟨b.xlo - ko, b.xhi + ko + sl, b.ylo - ko - sw, b.yhi + ko + sw⟩
  | 1 => ⟨b.xlo - ko - sl, b.xhi + ko, b.ylo - ko - sw, b.yhi + ko + sw⟩
  | 2 => ⟨b.xlo - ko - sw, b.xhi + ko + sw, b.ylo - ko, b.yhi + ko + sl⟩
  | _ => ⟨b.xlo - ko - sw, b.xhi + ko + sw, b.ylo - ko - sl, b.yhi + ko⟩

/-- Two rectangles meet (R127). -/
def Box.meets (u v : Box) : Bool :=
  decide (u.xlo < v.xhi) && decide (v.xlo < u.xhi) && decide (u.ylo < v.yhi) && decide (v.ylo < u.yhi)

/-- Two reservations conflict (R127): global channel, box and zone of each. -/
def conflicts (g₁ : Nat) (b₁ z₁ : Box) (g₂ : Nat) (b₂ z₂ : Box) : Bool :=
  g₁ != g₂ && (b₁.meets z₂ || b₂.meets z₁)

/-- The zone lies wholly within the core of the device's region, so the reservation is local (R137). -/
def Core.isLocal (c : Core) (z : Box) : Bool :=
  !c.flag BWK_CASCADE.BORDER_EN ||
  (let w : Int := (c.rd BWK_CASCADE.BORDER_W : Nat)
   let sh := c.rd BWK_CASCADE.SHARED
   (!bitOf sh 0 || decide (c.rdI BWK_CASCADE.REG_X_LO + w ≤ z.xlo)) &&
   (!bitOf sh 1 || decide (z.xhi ≤ c.rdI BWK_CASCADE.REG_X_HI - w)) &&
   (!bitOf sh 2 || decide (c.rdI BWK_CASCADE.REG_Y_LO + w ≤ z.ylo)) &&
   (!bitOf sh 3 || decide (z.yhi ≤ c.rdI BWK_CASCADE.REG_Y_HI - w)))

/-- LINGER in time units. -/
def Core.linger (c : Core) : Nat := c.rd BWK_GEOM.LINGER * usU

/-! ### Reservations -/

def Core.setBwk (c : Core) (b : Bwk) : Core := { c with bwk := b }

/-- HELD_NOW of a channel: reservations held or lingering (object 0x1405); with none left STATE is HELD no more. -/
def Core.heldNow (c : Core) (ch : Nat) : Core :=
  let g := c.globalCh ch
  let n := (c.bwk.table.filter (fun r => r.g == g && !r.pending)).length
  let c := c.wr BWK_STATE.HELD_NOW (satNat 8 n) ch
  if n = 0 ∧ c.rd BWK_STATE.STATE ch = 3 then c.wr BWK_STATE.STATE 0 ch else c

/-- Fix the release instant of the reservations of a channel that satisfy a test and have none yet (R130). -/
def Core.fixRelease (c : Core) (ch : Nat) (p : Resv → Bool) (t : Time) : Core :=
  let g := c.globalCh ch
  c.setBwk { c.bwk with table := c.bwk.table.map (fun r =>
    if r.g = g ∧ p r ∧ r.release = none then { r with release := some t } else r) }

/-- The gate-off edge of a chain is placed at an instant: its reservation is released LINGER later (R130). -/
def Core.offPlacedAt (c : Core) (ch id : Nat) (t : Time) : Core :=
  c.fixRelease ch (fun r => r.id == id && !r.pending) (t + c.linger)

/-- Bring the release instant of the reservations of a channel that satisfy a test forward to an instant, where it is not
earlier already. -/
def Core.releaseBy (c : Core) (ch : Nat) (p : Resv → Bool) (t : Time) : Core :=
  let g := c.globalCh ch
  c.setBwk { c.bwk with table := c.bwk.table.map (fun r =>
    if r.g = g ∧ p r then { r with release := some (match r.release with | some u => min u t | none => t) } else r) }

/-- An immediate gate-off latched at the present boundary (R130): it ends the chain before an off edge placed for later. -/
def Core.releaseHeld (c : Core) (ch : Nat) : Core :=
  c.releaseBy ch (fun r => !r.pending) (c.now + c.linger)

/-- A failed channel's border reservations, pending or held, are released at once (R140). -/
def Core.releaseBorder (c : Core) (ch : Nat) : Core :=
  c.releaseBy ch (fun r => r.border) c.now

/-- Send a border release for an entry, with the present boundary as origin (R140): it enters the lead's own list, or
waits to leave with the others of that origin tick. -/
def Core.borderRelease (c : Core) (reqId g : Nat) : Core :=
  c.setBwk { c.bwk with rels := c.bwk.rels ++ [⟨tickIndex c.now, reqId, g⟩] }

/-- Release every reservation whose release tick is the present boundary (R130). -/
def Core.releaseDue (c : Core) : Core :=
  let due (r : Resv) : Bool := match r.release with | some t => decide (t ≤ c.now) | none => false
  let gone := c.bwk.table.filter due
  if gone.isEmpty then c
  else
    let c := c.setBwk { c.bwk with table := c.bwk.table.filter (fun r => !due r) }
    let c := gone.foldl (fun c r => if r.border then c.borderRelease r.reqId r.g else c) c
    gone.foldl (fun c r => c.heldNow (r.g % 64)) c

/-- At entry into SLACK every reservation still held is discarded (R130). -/
def Core.discardReservations (c : Core) : Core :=
  let gone := c.bwk.table
  let c := c.setBwk { c.bwk with table := [] }
  let c := gone.foldl (fun c r => if r.border then c.borderRelease r.reqId r.g else c) c
  gone.foldl (fun c r => c.heldNow (r.g % 64)) c

/-! ### Rounds (R128 to R136) -/

/-- A request as a round takes it. -/
structure Presented where
  ch : Nat
  g : Nat
  capped : Bool
  planSeq : Nat
  box : Box
  zone : Box
  deriving DecidableEq, Repr

/-- The order of a round (R129): capped first, then the lower TILE_PLAN_SEQ, then the lower g. -/
def Presented.before (p q : Presented) : Bool :=
  if p.capped = q.capped then
    if p.planSeq = q.planSeq then decide (p.g < q.g) else decide (p.planSeq < q.planSeq)
  else p.capped

/-- Insert into an ordered list; equals keep their order. -/
def insertOrd {α : Type} (lt : α → α → Bool) (a : α) : List α → List α
  | [] => [a]
  | b :: l => if lt a b then a :: b :: l else b :: insertOrd lt a l

def sortOrd {α : Type} (lt : α → α → Bool) : List α → List α
  | [] => []
  | a :: l => insertOrd lt a (sortOrd lt l)

/-- The plan sequence number of the tile executing on a channel (R129). -/
def Core.planSeq (c : Core) (ch : Nat) : Nat :=
  match (c.ch ch).exec with
  | some t => (tileHdr t.bytes).planSeq
  | none => 0

/-- A channel presents a request at the present boundary (R128): it rests where the motion is to start, waits for a grant,
is not pending at the lead, and runs. The request of a suspended tile is not its own until the tile is back (R136). -/
def Core.presents (c : Core) (ch : Nat) : Bool :=
  let s := c.ch ch
  c.live ch && s.req.isSome && !s.granted && !s.pendingBorder && s.halt == .none && s.atRest && s.intr == .nothing

/-- The requests of a round, in order. -/
def Core.roundList (c : Core) : List Presented :=
  sortOrd Presented.before ((List.range 64).filterMap (fun ch =>
    if c.presents ch then
      match (c.ch ch).req with
      | some q => some ⟨ch, c.globalCh ch, c.flag BWK_STATE.CAPPED ch, c.planSeq ch, q.box, c.zoneOf q.box⟩
      | none => none
    else none))

/-- What an observer reads of the refusal: kind and blocker (object 0x1405). -/
def Core.refusalRegs (c : Core) (ch kind blocker : Nat) : Core :=
  let c := c.wr BWK_STATE.BLOCKER_KIND kind ch
  c.wr BWK_STATE.BLOCKER blocker ch

/-- The wait count of a request reaches WAIT_CAP: the request is capped from its next round on (R132). -/
def Core.capRequest (c : Core) (ch : Nat) : Core :=
  match (c.ch ch).req with
  | some q =>
    if c.rd BWK_WAIT.WAIT_CAP ≤ q.wait ∧ c.rd BWK_STATE.CAPPED ch = 0 then
      (c.setFlag BWK_STATE.CAPPED true ch).inc BWK_STAT.CAPPED ch
    else c
  | none => c

/-- The tile index that events show: 0xFFFF_FFFF for an adoption tile. -/
def Core.tileIndexOf (c : Core) (ch : Nat) : Nat := c.rd SEQ_TILE_POS.TILE_INDEX ch

/-- BWK_WAIT_LONG, once per request (R134). -/
def Core.waitLong (c : Core) (ch : Nat) : Core :=
  match (c.ch ch).req with
  | some q =>
    let alarm := c.rd BWK_WAIT.WAIT_ALARM
    if alarm ≠ 0 ∧ alarm ≤ q.wait ∧ !q.alarmed then
      let c := c.modCh ch (fun s => { s with req := some { q with alarmed := true } })
      c.post evBwkWaitLong ch
        (leBytes 4 q.wait ++ leBytes 4 (c.tileIndexOf ch) ++ leBytes 1 (c.rd SEQ_TILE_POS.RECORD_INDEX ch) ++
         leBytes 1 (c.rd BWK_STATE.BLOCKER_KIND ch) ++ leBytes 2 (c.rd BWK_STATE.BLOCKER ch)) (some c.now)
    else c
  | none => c

/-- A refusal (R128, R132): the wait count rises; a cap or an alarm reached by it takes effect. -/
def Core.refuse (c : Core) (ch kind blocker : Nat) : Core :=
  match (c.ch ch).req with
  | some q =>
    let c := c.modCh ch (fun s => { s with req := some { q with wait := q.wait + 1, sinceFresh := q.sinceFresh + 1 } })
    let c := c.inc BWK_STAT.REFUSALS ch
    let c := c.wr BWK_STATE.STATE 1 ch
    let c := c.wr BWK_STATE.WAIT_NOW (q.wait + 1) ch
    let c := c.refusalRegs ch kind blocker
    let c := if kind = 5 then c.inc BWK_STAT.TABLE_FULL ch else c
    (c.capRequest ch).waitLong ch
  | none => c

/-- The wait of a request has ended, or there is none (R132): what BWK_STATE shows of it. -/
def Core.clearWait (c : Core) (ch : Nat) : Core :=
  ((c.wr BWK_STATE.WAIT_NOW 0 ch).setFlag BWK_STATE.CAPPED false ch).wr BWK_STATE.YIELD_RUN 0 ch

/-- The grant of a request takes hold at the next boundary (R128), and its wait count ends (R132), and with it a suspension
that it outlived; the taps of R142. -/
def Core.grantRegs (c : Core) (ch : Nat) : Core :=
  match (c.ch ch).req with
  | some q =>
    let c := c.modCh ch (fun s => { s with req := some ⟨q.box, 0, 0, false, 0⟩, granted := true, pendingBorder := false })
    let c := c.inc BWK_STAT.GRANTS ch
    let c := c.keepMax BWK_STAT.WAIT_MAX q.wait ch
    let c := c.wr BWK_STATE.STATE 3 ch
    let c := c.clearWait ch
    let c := c.tap ⟨ch, 3, min 63 (q.wait >>> 7), q.wait, c.now, q.box.xlo, q.box.ylo⟩
    c.heldNow ch
  | none => c

/-- Grant a request locally (R129): held if local, else pending at the lead (R138). -/
def Core.grant (c : Core) (p : Presented) : Core :=
  let id := (c.ch p.ch).gat.nextId
  if c.isLocal p.zone then
    let c := c.setBwk { c.bwk with table := c.bwk.table ++ [⟨p.g, id, p.box, p.zone, none, false, false, 0, 0⟩] }
    c.grantRegs p.ch
  else
    let rid := c.bwk.nextReq
    let o := tickIndex c.now
    let q : BorderReq := ⟨o, rid, p.g, p.planSeq, p.capped, p.box, p.zone⟩
    let c := c.setBwk { c.bwk with
      table := c.bwk.table ++ [⟨p.g, id, p.box, p.zone, none, true, true, rid, o⟩],
      sendQ := c.bwk.sendQ ++ [q], nextReq := (rid + 1) % 65536 }
    let c := c.modCh p.ch (fun s => { s with pendingBorder := true })
    let c := c.inc BWK_STAT.BORDER_REQS p.ch
    c.wr BWK_STATE.STATE 2 p.ch

/-- What stands in the way of a request: kind and blocker. `old` is the number of entries held before the round. -/
def blockerOf (table : List Resv) (old : Nat) (fences : List Presented) (p : Presented) : Option (Nat × Nat) :=
  match findIdx (fun r => conflicts p.g p.box p.zone r.g r.box r.zone) table 0 with
  | some (i, r) => some (if i < old then 1 else 2, r.g)
  | none =>
    match fences.find? (fun f => conflicts p.g p.box p.zone f.g f.box f.zone) with
    | some f => some (3, f.g)
    | none => if 1024 ≤ table.length then some (5, 0xFFFF) else none

/-- One round over its ordered requests (R129, R132). -/
def bwkRoundGo (old : Nat) : List Presented → List Presented → Core → Core
  | [], _, c => c
  | p :: ps, fences, c =>
    match blockerOf c.bwk.table old fences p with
    | some (kind, b) => bwkRoundGo old ps (if p.capped then fences ++ [p] else fences) (c.refuse p.ch kind b)
    | none => bwkRoundGo old ps fences (c.grant p)

/-- The local round of the present boundary: releases first (R129, R130). -/
def Core.bwkRound (c : Core) : Core :=
  let c := c.releaseDue
  bwkRoundGo c.bwk.table.length c.roundList [] c

/-! ### Borders (R137 to R140, R196) -/

def boxBytes (b : Box) : Bytes :=
  leBytes 4 (ofSigned 32 b.xlo) ++ leBytes 4 (ofSigned 32 b.xhi) ++ leBytes 4 (ofSigned 32 b.ylo) ++
  leBytes 4 (ofSigned 32 b.yhi)

def boxOfBytes (bs : Bytes) (o : Nat) : Box :=
  ⟨fieldLEs bs o 4, fieldLEs bs (o + 4) 4, fieldLEs bs (o + 8) 4, fieldLEs bs (o + 12) 4⟩

/-- A BORDER_REQ entry (R196). -/
def borderReqBytes (q : BorderReq) : Bytes :=
  leBytes 2 q.reqId ++ leBytes 2 q.g ++ leBytes 4 q.planSeq ++ leBytes 4 (b2n q.capped) ++
  boxBytes q.box ++ boxBytes q.zone

def borderReqOf (origin : Nat) (bs : Bytes) : BorderReq :=
  ⟨origin, fieldLE bs 0 2, fieldLE bs 2 2, fieldLE bs 4 4, bitOf (fieldLE bs 8 1) 0, boxOfBytes bs 12,
   boxOfBytes bs 28⟩

/-- The entries of a frame of `n`-byte entries. -/
def entries (n : Nat) (bs : Bytes) : List Bytes :=
  (List.range (bs.length / n)).map (fun i => slice bs (n * i) n)

/-- Every second entry, starting with the first (R196: the lanes alternate). -/
def everySecond {α : Type} : List α → List α
  | [] => []
  | [a] => [a]
  | a :: _ :: l => a :: everySecond l

/-- Cut a list into pieces of at most `n + 1`; `fuel` bounds the pieces. -/
def piecesOf {α : Type} (n : Nat) : Nat → List α → List (List α)
  | 0, _ => []
  | _, [] => []
  | fuel + 1, l => l.take (n + 1) :: piecesOf n fuel (l.drop (n + 1))

/-- Send entries of one origin tick to a member: alternately lane 0 and lane 1, in frames of at most `most` entries. -/
def Core.sendBorder (c : Core) (ftype dest tag most : Nat) (es : List Bytes) : Core :=
  let lane (c : Core) (k : Nat) (es : List Bytes) : Core :=
    (piecesOf (most - 1) es.length es).foldl (fun c p => c.sendLink k k ftype dest tag p.flatten) c
  let c := lane c 0 (everySecond es)
  lane c 1 (everySecond (es.drop 1))

/-- At T_{k+1} the border requests of T_k start on the link port, or enter the lead's own list (R138). -/
def Core.borderSend (c : Core) : Core :=
  let q := c.bwk.sendQ
  if q.isEmpty then c
  else
    let c := c.setBwk { c.bwk with sendQ := [] }
    if c.isLead then c.setBwk { c.bwk with reqs := c.bwk.reqs ++ q }
    else c.sendBorder 0x41 0 ((q.head?.map BorderReq.origin).getD 0) 23 (q.map borderReqBytes)

/-- A member sends the border releases of one origin tick to the lead (R140, R196). -/
def Core.borderSendRel (c : Core) : Core :=
  match c.bwk.rels with
  | [] => c
  | r :: _ =>
    if c.isLead then c
    else
      let q := c.bwk.rels.filter (fun x => x.origin == r.origin)
      let c := c.setBwk { c.bwk with rels := c.bwk.rels.filter (fun x => x.origin != r.origin) }
      c.sendBorder 0x43 0 r.origin 256 (q.map (fun x => leBytes 2 x.reqId ++ leBytes 2 x.g))

/-- The order of a border round. -/
def BorderReq.before (p q : BorderReq) : Bool :=
  if p.capped = q.capped then
    if p.planSeq = q.planSeq then decide (p.g < q.g) else decide (p.planSeq < q.planSeq)
  else p.capped

/-- Decide one border request against the border table and the standing fences: granted, or refused with TABLE_FULL. -/
def decideBorder (b : Bwk) (now : Nat) (q : BorderReq) : Bwk × Bool × Bool :=
  let b := { b with fences := b.fences.filter (fun f => f.g != q.g) }
  let blocked := b.leadTable.any (fun r => conflicts q.g q.box q.zone r.g r.box r.zone) ||
    b.fences.any (fun f => conflicts q.g q.box q.zone f.g f.box f.zone)
  let full := decide (2048 ≤ b.leadTable.length)
  if blocked || full then
    ({ b with fences := if q.capped then b.fences ++ [⟨q.g, q.box, q.zone, now⟩] else b.fences }, false,
     full && !blocked)
  else ({ b with leadTable := b.leadTable ++ [q] }, true, false)

/-- Border fences lapse after 16 ticks (R140). -/
def Core.fenceExpiry (c : Core) : Core :=
  c.setBwk { c.bwk with fences := c.bwk.fences.filter (fun f => decide (c.ticks < f.since + 16)) }

/-- Apply the border releases whose origin tick is four ticks back: the entry goes, and a release of g ends its fences
(R140). -/
def Core.borderReleases (c : Core) : Core :=
  let o := (tickIndex c.now + 2 ^ 32 - 4) % 2 ^ 32
  let due := c.bwk.rels.filter (fun r => !seqNewer 32 r.origin o)
  c.setBwk { c.bwk with
    rels := c.bwk.rels.filter (fun r => seqNewer 32 r.origin o),
    leadTable := c.bwk.leadTable.filter (fun q => !due.any (fun r => r.reqId == q.reqId && r.g == q.g)),
    fences := c.bwk.fences.filter (fun f => !due.any (fun r => r.g == f.g)) }

/-- The answers of a border round go out at T_{k+5}: (member, origin, request, granted). -/
def Core.queueAnswer (c : Core) (q : BorderReq) (granted : Bool) : Core :=
  c.setBwk { c.bwk with ansQ := c.bwk.ansQ ++ [(q.g / 64, q.origin, q.reqId, b2n granted)] }

/-- The border round of the lead device at the present boundary (R138): the requests of origin tick T_{k−4}. -/
def Core.borderRound (c : Core) : Core :=
  if !c.isLead then c
  else
    let c := c.borderReleases
    let o := (tickIndex c.now + 2 ^ 32 - 4) % 2 ^ 32
    let now := sortOrd BorderReq.before (c.bwk.reqs.filter (fun q => q.origin == o))
    let c := c.setBwk { c.bwk with reqs := c.bwk.reqs.filter (fun q => q.origin != o) }
    now.foldl (fun c q =>
      let d := decideBorder c.bwk c.ticks q
      let c := c.setBwk d.1
      let c := if d.2.2 then c.inc BWK_STAT.TABLE_FULL (q.g % 64) else c
      c.queueAnswer q d.2.1) c

/-- One lane's share of the answers of an origin tick and direction: a frame, or more, for each member (R196). DESIGN CHOICE
(assumption log 49): the frames of a lane go in order of the member's CASC_ID. -/
def Core.answersOn (c : Core) (lane : Nat) (es : List (Nat × Nat × Nat × Nat)) : Core :=
  c.forEach 16 (fun c m =>
    let mine := es.filter (fun a => a.1 == m)
    (piecesOf 255 mine.length mine).foldl (fun c f =>
      c.sendLink lane lane 0x42 m ((f.head?.map (fun a => a.2.1)).getD 0)
        (f.flatMap (fun a => leBytes 2 a.2.2.1 ++ leBytes 2 a.2.2.2))) c)

/-- The answers of the preceding boundary's border round start on the link ports (R138); the lead's own are kept. Those that
leave in one direction are dealt to the two lanes in turn (R196). -/
def Core.borderAnswers (c : Core) : Core :=
  let q := c.bwk.ansQ
  if q.isEmpty then c
  else
    let c := c.setBwk { c.bwk with ansQ := [] }
    let own := q.filter (fun a => a.1 == c.cascId)
    let c := c.setBwk { c.bwk with answers := c.bwk.answers ++ own.map (fun a => (a.2.1, a.2.2.1, a.2.2.2 == 1)) }
    let out := q.filter (fun a => a.1 != c.cascId)
    [lp0, lp1].foldl (fun c p =>
      let es := out.filter (fun a => c.linkPort a.1 == p)
      (c.answersOn 0 (everySecond es)).answersOn 1 (everySecond (es.drop 1))) c

/-- The lead device receives a BORDER_REQ frame (R138, R139): a request whose round has passed is discarded and
counted. -/
def Core.borderReqRx (c : Core) (tag : Nat) (payload : Bytes) : Core :=
  if !c.isLead then c
  else
  let c := c.setBwk { c.bwk with
    reqs := c.bwk.reqs ++ ((entries 44 payload).map (borderReqOf tag)).filter (fun _ =>
      !seqNewer 32 (tickIndex c.now) ((tag + 3) % 2 ^ 32)) }
  if seqNewer 32 (tickIndex c.now) ((tag + 3) % 2 ^ 32) then
    (entries 44 payload).foldl (fun c e => c.inc BWK_STAT.BORDER_LATE (fieldLE e 2 2 % 64)) c
  else c

/-- A BORDER_ANS frame is received for an origin tick (R138): one that can no longer be latched eight ticks after it is
discarded (R139). -/
def Core.borderAnsRx (c : Core) (tag : Nat) (payload : Bytes) : Core :=
  if !seqNewer 32 ((tag + 8) % 2 ^ 32) (tickIndex c.now) then c
  else c.setBwk { c.bwk with
    answers := c.bwk.answers ++ (entries 4 payload).map (fun e => (tag, fieldLE e 0 2, fieldLE e 2 1 == 1)) }

/-- The lead device receives a BORDER_REL frame (R140). -/
def Core.borderRelRx (c : Core) (tag : Nat) (payload : Bytes) : Core :=
  if !c.isLead then c
  else
  c.setBwk { c.bwk with
    rels := c.bwk.rels ++ (entries 4 payload).map (fun e => ⟨tag, fieldLE e 0 2, fieldLE e 2 2⟩) }

/-- The answer to one pending border reservation is latched at T_{k+8} (R138, R139): a grant holds it, or releases it at
once when the channel no longer waits for it; a refusal or a missing answer frees it. -/
def Core.latchAnswer (c : Core) (r : Resv) : Core :=
  let ch := r.g % 64
  let its (a : Nat × Nat × Bool) : Bool := a.1 == r.origin && a.2.1 == r.reqId
  let ans := c.bwk.answers.find? its
  let c := c.setBwk { c.bwk with answers := c.bwk.answers.filter (fun a => !its a) }
  let drop (c : Core) : Core := c.setBwk { c.bwk with
    table := c.bwk.table.filter (fun q => !(q.pending && q.reqId == r.reqId)) }
  let c := c.modCh ch (fun s => { s with pendingBorder := false })
  match ans with
  | some (_, _, true) =>
    if c.live ch && (c.ch ch).halt == .none && (c.ch ch).req.isSome && r.release.isNone then
      let c := c.setBwk { c.bwk with table := c.bwk.table.map (fun q =>
        if q.pending ∧ q.reqId = r.reqId then { q with pending := false } else q) }
      c.grantRegs ch
    else (drop c).borderRelease r.reqId r.g
  | some (_, _, false) =>
    let c := drop c
    let c := c.inc BWK_STAT.BORDER_REFUSED ch
    if c.live ch then c.refuse ch 4 0xFFFF else c
  | none =>
    let c := drop c
    let c := c.inc BWK_STAT.BORDER_LATE ch
    let c := c.borderRelease r.reqId r.g
    if c.live ch then c.refuse ch 4 0xFFFF else c

/-- Every pending border reservation presented eight ticks ago is decided (R138); answers that nothing waits for any more go
with it. -/
def Core.borderLatch (c : Core) : Core :=
  let o := (tickIndex c.now + 2 ^ 32 - 8) % 2 ^ 32
  let c := (c.bwk.table.filter (fun r => r.pending && !seqNewer 32 r.origin o)).foldl (fun c r => c.latchAnswer r) c
  c.setBwk { c.bwk with answers := c.bwk.answers.filter (fun a => seqNewer 32 a.1 o) }

end Sys2Proof.Machine
end

