-- ==== Sys2Proof/Machine/ReflexLoop.lean ====
section
/-!
DEFINITION. Machine/ReflexLoop.lean: the reflex loop (R105 to R124): surge words, the transmit slot, the hysteretic law,
the integrator, starvation.
-/
namespace Sys2Proof.Machine

/-- A field of the bank in use (R113): bank 0 or bank 1. -/
def bankField (b : Nat) (f : Field) : Field := if b = 0 then f else { f with obj := 0x1302 }

/-- The factor RS[r] of a bank. -/
def Core.rs (c : Core) (ch b r : Nat) : Nat :=
  c.rd (bankField b ([RFX_BANK0.RS0, RFX_BANK0.RS1, RFX_BANK0.RS2, RFX_BANK0.RS3,
    RFX_BANK0.RS4, RFX_BANK0.RS5, RFX_BANK0.RS6, RFX_BANK0.RS7].getD r RFX_BANK0.RS7)) ch

/-- The sample period T_s (R106), in units of 2⁻¹⁶ ns. -/
def Core.samplePeriod (c : Core) (ch : Nat) : Nat := 100 * nsU * c.rd RFX_CONFIG.SAMPLE_DIV ch

/-- The bank that governs a sampling instant (R114). -/
def Core.bankAt (c : Core) (ch : Nat) (t : Time) : Nat :=
  if (c.ch ch).rfx.selFrom ≤ t then c.rd RFX_SELECT.SEL ch else (c.ch ch).rfx.prevSel

/-- The factor F of a rung under a base (R110): (B × RS[r]) >> 15. -/
def factorOf (base rs : Nat) : Nat := (base * rs) >>> 15

/-- The 32-bit payload of a surge word, with its parity (R115). -/
def surgePayload (k type seq value rung arm : Nat) : Nat :=
  let v := k % 4 + (type % 4) * 4 + (seq % 64) * 16 + (value % 65536) * 1024 + (rung % 8) * 2 ^ 26 + (arm % 2) * 2 ^ 29
  v + (oddOnes v 31) * 2 ^ 31

/-- The instant, in whole nanoseconds, at which a word emitted now is emitted: the present boundary, or the acceptance of a
SAMPLE within the tick (R118). -/
def Core.emitInstant (c : Core) : Nat := max c.surgeOrder (c.now / nsU)

/-- Emit a word into the channel's transmit slot (R116, R118). DESIGN CHOICE (assumption log 15): the first word since the
release of EXP takes number 0. -/
def Core.emitWord (c : Core) (ch type value rung arm : Nat) (cause : Option Time) : Core :=
  let seq := if (c.ch ch).rfx.emitted then (c.rd RFX_STATE.SEQ_OUT ch + 1) % 64 else 0
  let isOff := type == 2
  let c := (c.wr RFX_STATE.SEQ_OUT seq ch).modCh ch (fun s => { s with rfx := { s.rfx with emitted := true } })
  let c := if isOff then c else c.wr RFX_STATE.FACTOR value ch
  let w : SlotWord := ⟨surgePayload (ch % 4) type seq value rung arm, c.emitInstant, isOff, cause⟩
  match (c.ch ch).rfx.slot with
  | none => c.modCh ch (fun s => { s with rfx := { s.rfx with slot := some w } })
  | some old =>
    let c := c.inc RFX_STAT.SUPERSEDED ch
    if old.isOff && !isOff then c
    else c.modCh ch (fun s => { s with rfx := { s.rfx with slot := some w } })

/-- A FACTOR word (R116). -/
def Core.emitFactor (c : Core) (ch value rung arm : Nat) (cause : Option Time) : Core :=
  c.emitWord ch 1 value rung arm cause

/-- An OFF word (R97, R116). -/
def Core.emitOff (c : Core) (ch : Nat) : Core := c.emitWord ch 2 0 0 0 none

/-- Close the stay on a rung: its accepted samples go to the dwell histogram (R124). -/
def Core.closeRung (c : Core) (ch : Nat) : Core :=
  let c := c.tap ⟨ch, 1, min 63 ((c.ch ch).rfx.onRung >>> 2), 0, c.now, 0, 0⟩
  c.modCh ch (fun s => { s with rfx := { s.rfx with onRung := 0 } })

/-- Start an active period at the placed instant of a gate-on edge (R105). -/
def Core.rfxStart (c : Core) (ch : Nat) (t : Time) : Core :=
  if (c.ch ch).rfx.dead then c
  else
    let b := c.bankAt ch t
    let c := c.setFlag RFX_STATE.ACTIVE true ch
    let c := c.setFlag RFX_STATE.STARVING false ch
    let c := c.wr RFX_STATE.RUNG (c.rd (bankField b RFX_BANK0.START_RUNG) ch) ch
    let c := c.wr RFX_STATE.INTEG 0 ch
    let base := max (c.rd RFX_STATE.BASE ch) (c.rd (bankField b RFX_BANK0.BASE_MIN) ch)
    let c := c.wr RFX_STATE.BASE base ch
    let blank := c.rd (bankField b RFX_BANK0.BLANK) ch
    c.modCh ch (fun s => { s with rfx := { s.rfx with cnt := 0, last := 0, hold := 0, blank := blank,
                                                      onRung := 0, from_ := some t, to_ := none,
                                                      lastInst := none, decidedBank := b } })

/-- End the active period at an instant (R105). -/
def Core.rfxEnd (c : Core) (ch : Nat) (t : Time) : Core :=
  if c.flag RFX_STATE.ACTIVE ch then
    let c := c.closeRung ch
    let c := c.setFlag RFX_STATE.ACTIVE false ch
    let c := c.setFlag RFX_STATE.STARVING false ch
    c.modCh ch (fun s => { s with rfx := { s.rfx with to_ := some t } })
  else c

/-- The ARM word of a gated chain or DWELL (R116); B is first raised to the BASE_MIN of the bank in use (R111). -/
def Core.armWord (c : Core) (ch : Nat) (rfx : Bool) (t : Time) : Core :=
  if rfx && !(c.ch ch).rfx.dead then
    let b := c.bankAt ch t
    let base := max (c.rd RFX_STATE.BASE ch) (c.rd (bankField b RFX_BANK0.BASE_MIN) ch)
    let c := c.wr RFX_STATE.BASE base ch
    let r := c.rd (bankField b RFX_BANK0.START_RUNG) ch
    c.emitFactor ch (factorOf base (c.rs ch b r)) r 1 none
  else c.emitFactor ch 0x8000 0 1 none

/-- The integrator (R111): the new core and whether B changed. -/
def Core.integrate (c : Core) (ch b r : Nat) : Core × Bool :=
  let thr := c.rd (bankField b RFX_BANK0.INT_THRESH) ch
  let n := c.rd (bankField b RFX_BANK0.RUNG_COUNT) ch
  if thr = 0 ∨ r = 0 ∨ r + 1 = n then (c, false)
  else
    let i := c.rdI RFX_STATE.INTEG ch + ((r : Int) - (c.rd (bankField b RFX_BANK0.TARGET_RUNG) ch : Nat))
    let base := c.rd RFX_STATE.BASE ch
    let step := c.rd (bankField b RFX_BANK0.BASE_STEP) ch
    let bmin := c.rd (bankField b RFX_BANK0.BASE_MIN) ch
    let put (c : Core) (i : Int) (nb : Nat) : Core × Bool :=
      let c := c.wrI RFX_STATE.INTEG i ch
      if nb = base then (c.inc RFX_STAT.BASE_SAT ch, false)
      else ((c.wr RFX_STATE.BASE nb ch).inc RFX_STAT.BASE_STEPS ch, true)
    if (thr : Int) ≤ i then put c (i - thr) (min 0x8000 (base + step))
    else if i ≤ -(thr : Int) then put c (i + thr) (max bmin (base - step))
    else (c.wrI RFX_STATE.INTEG i ch, false)

/-- The first sample decided under a bank that came into use within the period (R114). A clamp of the rung is a rung change
(R124). -/
def Core.bankSwap (c : Core) (ch b : Nat) (cause : Option Time) : Core :=
  let r0 := c.rd RFX_STATE.RUNG ch
  let f0 := c.rd RFX_STATE.FACTOR ch
  let n := c.rd (bankField b RFX_BANK0.RUNG_COUNT) ch
  let r := min r0 (n - 1)
  let c := if r = r0 then c else (c.closeRung ch).inc RFX_STAT.CHANGES ch
  let c := c.wr RFX_STATE.RUNG r ch
  let c := c.wr RFX_STATE.INTEG 0 ch
  let base := max (c.rd RFX_STATE.BASE ch) (c.rd (bankField b RFX_BANK0.BASE_MIN) ch)
  let c := c.wr RFX_STATE.BASE base ch
  let c := c.modCh ch (fun s => { s with rfx := { s.rfx with cnt := 0, last := 0, hold := 0, decidedBank := b } })
  let f := factorOf base (c.rs ch b r)
  if f = f0 then c else c.emitFactor ch f r 0 cause

/-- The hysteretic law on one accepted sample of an active period (R110, R124). -/
def Core.rfxLaw (c : Core) (ch : Nat) (s : Nat) (inst : Time) (cause : Option Time) : Core :=
  let b := c.bankAt ch inst
  let spot := (c.ch ch).lastSpot
  let c := c.tap ⟨ch, 0, s >>> 10, s, inst, spot.1, spot.2⟩
  let c := c.modCh ch (fun q => { q with rfx := { q.rfx with onRung := q.rfx.onRung + 1 } })
  let c := if (c.ch ch).rfx.decidedBank = b then c else c.bankSwap ch b cause
  let x := (c.ch ch).rfx
  if 0 < x.blank then c.modCh ch (fun q => { q with rfx := { q.rfx with blank := x.blank - 1 } })
  else
    let lo := c.rd (bankField b RFX_BANK0.LOW) ch
    let hi := c.rd (bankField b RFX_BANK0.HIGH) ch
    let dir : Int := if hi < s then -1 else if s < lo then 1 else 0
    let cnt := if dir = 0 then 0 else if dir = x.last then min (x.cnt + 1) 255 else 1
    let r := c.rd RFX_STATE.RUNG ch
    let n := c.rd (bankField b RFX_BANK0.RUNG_COUNT) ch
    let r' := (r : Int) + dir
    let step := decide (x.hold = 0) && decide (dir ≠ 0) &&
      decide (c.rd (bankField b RFX_BANK0.CONFIRM) ch ≤ cnt) && decide (0 ≤ r') && decide (r' ≤ (n : Int) - 1)
    let c := if step then
        let c := c.closeRung ch
        let c := c.wr RFX_STATE.RUNG r'.toNat ch
        c.inc RFX_STAT.CHANGES ch
      else c
    let hold := if 0 < x.hold then x.hold - 1
      else if step then c.rd (bankField b RFX_BANK0.DWELL_MIN) ch else 0
    let c := c.modCh ch (fun q => { q with rfx := { q.rfx with cnt := if step then 0 else cnt, last := dir, hold := hold } })
    let rNow := c.rd RFX_STATE.RUNG ch
    let (c, stepped) := c.integrate ch b rNow
    if step || stepped then
      c.emitFactor ch (factorOf (c.rd RFX_STATE.BASE ch) (c.rs ch b rNow)) rNow 0 cause
    else c

/-- The channel is starving at the present boundary (R122). -/
def Core.starving (c : Core) (ch : Nat) : Bool :=
  c.flag RFX_STATE.ACTIVE ch &&
  (match (c.ch ch).rfx.lastInst, (c.ch ch).rfx.from_ with
   | some t, _ => decide (t + c.rd RFX_CONFIG.STARVE ch * c.samplePeriod ch < c.now)
   | none, some t => decide (t + c.rd RFX_CONFIG.STARVE ch * c.samplePeriod ch ≤ c.now)
   | none, none => false)

/-- The first tick boundary of a starved period (R123). -/
def Core.starve (c : Core) (ch : Nat) : Core :=
  if c.starving ch && !c.flag RFX_STATE.STARVING ch then
    let c := c.setFlag RFX_STATE.STARVING true ch
    let c := c.inc RFX_STAT.STARVED ch
    let r := c.rd RFX_STATE.RUNG ch
    if c.flag RFX_CONFIG.STARVE_ACT ch && r != 0 then
      let b := c.bankAt ch c.now
      let c := c.closeRung ch
      let c := c.wr RFX_STATE.RUNG 0 ch
      let c := c.inc RFX_STAT.CHANGES ch
      c.emitFactor ch (factorOf (c.rd RFX_STATE.BASE ch) (c.rs ch b 0)) 0 0 none
    else c
  else c

/-- The bound on pin-to-pin latency of a port, in units of 250 ps (R119, R120). -/
def Core.latBound (c : Core) (port : Nat) : Nat := if c.flag STR_PORT_STATE.RATE port then 144 else 256

/-- 250 ps in units of 2⁻¹⁶ ns. -/
def quarterNs : Nat := 16384

/-- The waiting word that wins a lane (R118): the one emitted first; of two of one nanosecond, that of the lower k. -/
def Core.laneWinner (c : Core) (port lane : Nat) : Option Nat :=
  let a := 4 * port + 2 * lane
  match (c.ch a).rfx.slot, (c.ch (a + 1)).rfx.slot with
  | some x, some y => if x.order ≤ y.order then some a else some (a + 1)
  | some _, none => some a
  | none, some _ => some (a + 1)
  | none, none => none

/-- Transmit the word that wins a lane of a head port that is UP; `at_` is the instant of its first bit (R118, R121). -/
def Core.surgeTx (c : Core) (port lane : Nat) (at_ : Time) : Core :=
  if !c.isUp port then c
  else
    match c.laneWinner port lane with
    | none => c
    | some ch =>
      match (c.ch ch).rfx.slot with
      | none => c
      | some w =>
        let c := c.emitUnmuted (.surge port lane w.payload)
        let c := c.inc RFX_STAT.WORDS ch
        let c := match w.cause with
          | some t0 =>
            let lat := ceilDiv (at_ - t0) quarterNs
            let c := c.keepMax RFX_LATENCY.LAT_MAX lat ch
            if c.latBound port < lat then c.inc RFX_LATENCY.OVER_BOUND ch else c
          | none => c
        c.modCh ch (fun s => { s with rfx := { s.rfx with slot := none } })

end Sys2Proof.Machine
end

