-- ==== Sys2Proof/Machine/Gating.lean ====
section
/-!
DEFINITION. Machine/Gating.lean: position-locked gating and power (R84 to R104): projection of samples, lag, prediction,
placement of edges, gate words, power words, the trim loop, exposure confirmation and missing feedback.
-/
namespace Sys2Proof.Machine

def Core.modFb (c : Core) (ch : Nat) (f : Feedback → Feedback) : Core := c.modCh ch (fun s => { s with fb := f s.fb })
def Core.modGat (c : Core) (ch : Nat) (f : Gating → Gating) : Core := c.modCh ch (fun s => { s with gat := f s.gat })

/-! ### The commanded trace and projection (R87 to R89) -/

/-- Append an entry; the trace keeps the most recent 2,048 (R87). A match index whose entry drops out moves to the oldest
one kept (DESIGN CHOICE, assumption log 49: R88 does not say). -/
def Feedback.append (f : Feedback) (e : TraceEnt) : Feedback :=
  let t := f.trace ++ [e]
  if 2048 < t.length then
    { f with trace := t.drop 1, traceBase := f.traceBase + 1, matchIx := max f.matchIx (f.traceBase + 1) }
  else { f with trace := t }

/-- The entry with an absolute index. -/
def Feedback.ent (f : Feedback) (i : Nat) : Option TraceEnt := f.trace[i - f.traceBase]?

/-- The best chord found so far: index, λ and error. -/
structure Best where
  j : Nat
  lam : F64
  e : F64
  deriving DecidableEq, Repr

/-- One chord of R88. -/
def chordStep (f : Feedback) (px py : F64) (best : Option Best) (j : Nat) : Option Best :=
  match f.ent j, f.ent (j + 1) with
  | some a, some b =>
    let dx := F64.ofInt (b.hx - a.hx)
    let dy := F64.ofInt (b.hy - a.hy)
    if dx.isZero && dy.isZero then best
    else
      let ax := F64.ofInt a.hx
      let ay := F64.ofInt a.hy
      let dd := (dx.mul dx).add (dy.mul dy)
      let dp := ((px.sub ax).mul dx).add ((py.sub ay).mul dy)
      let lam := F64.clamp F64.zero F64.one (dp.div dd)
      let e := F64.hypot (px.sub (ax.add (lam.mul dx))) (py.sub (ay.add (lam.mul dy)))
      match best with
      | none => some ⟨j, lam, e⟩
      | some b0 => if e.lt b0.e then some ⟨j, lam, e⟩ else some b0
  | _, _ => best

/-- Projection of a measured point (R88): the match index, σ_meas and fe. The loop takes j = m to m + 15. -/
def project (f : Feedback) (mx my : Int) : Nat × F64 × F64 :=
  let px := F64.ofInt mx
  let py := F64.ofInt my
  let m := f.matchIx
  match (List.range 16).foldl (fun b i => chordStep f px py b (m + i)) none with
  | none =>
    match f.ent m with
    | some h => (m, h.sigma, F64.hypot (px.sub (F64.ofInt h.hx)) (py.sub (F64.ofInt h.hy)))
    | none => (m, F64.zero, F64.zero)
  | some b =>
    match f.ent b.j, f.ent (b.j + 1) with
    | some h, some h1 => (b.j, h.sigma.add (b.lam.mul (h1.sigma.sub h.sigma)), b.e)
    | _, _ => (b.j, F64.zero, b.e)

/-- t_c(σ) of R89 over a trace, in nanoseconds from a reference instant: the first pair with σ_j ≤ σ ≤ σ_{j+1} and
σ_{j+1} > σ_j. -/
def traceTime (rel : Time → F64) : List TraceEnt → F64 → Option F64
  | a :: b :: l, σ =>
    if a.sigma.le σ && σ.le b.sigma && a.sigma.lt b.sigma then
      let ta := rel a.at_
      let tb := rel b.at_
      some (ta.add (((tb.sub ta).mul (σ.sub a.sigma)).div (b.sigma.sub a.sigma)))
    else traceTime rel (b :: l) σ
  | _, _ => none

/-- The instant at which the trace leaves σ: that of the last entry at σ before it increases (R92, rest gate-on). -/
def traceLeaves (rel : Time → F64) : List TraceEnt → F64 → Option F64
  | a :: b :: l, σ =>
    if a.sigma.le σ && σ.lt b.sigma then some (rel a.at_) else traceLeaves rel (b :: l) σ
  | _, _ => none

/-- The commanded arc at an instant, held at the trace's ends. -/
def traceSigma (rel : Time → F64) : List TraceEnt → F64 → F64
  | [], _ => F64.zero
  | [a], _ => a.sigma
  | a :: b :: l, t =>
    let ta := rel a.at_
    let tb := rel b.at_
    if t.le ta then a.sigma
    else if t.lt tb then a.sigma.add (((b.sigma.sub a.sigma).mul (t.sub ta)).div (tb.sub ta))
    else traceSigma rel (b :: l) t

/-! ### Prediction (R92) -/

/-- FALLBACK (R104). -/
def Core.fallback (c : Core) (ch : Nat) : Bool := c.flag GAT_STATE.MODE ch

/-- The lag by which method B shifts the commanded trace (R92): that of the last on-time sample, or the one frozen in
FALLBACK. -/
def Core.lagOf (c : Core) (ch : Nat) : F64 := if c.fallback ch then (c.ch ch).fb.frozen else (c.ch ch).fb.lag

/-- A least-squares line through samples: mean time, mean arc and speed in grains per nanosecond. -/
def fitLine (rel : Time → F64) (l : List Samp) : F64 × F64 × F64 :=
  let n := F64.ofNat l.length
  let sum (f : Samp → F64) : F64 := l.foldl (fun a s => a.add (f s)) F64.zero
  let tm := (sum (fun s => rel s.at_)).div n
  let sm := (sum (fun s => s.sigma)).div n
  let num := sum (fun s => ((rel s.at_).sub tm).mul (s.sigma.sub sm))
  let den := sum (fun s => ((rel s.at_).sub tm).mul ((rel s.at_).sub tm))
  (tm, sm, num.div den)

/-- 500,000,000: grains per nanosecond to µm/s (a grain is 0.5 µm). -/
def grainNsToUms : F64 := F64.ofNat 500000000

/-- The samples method A fits: the most recent on-time, VALID samples stamped at or after T_{k−8}, at most four. -/
def Core.fitSamples (c : Core) (ch : Nat) : List Samp :=
  let l := (c.ch ch).fb.recent.filter (fun s => decide (c.now ≤ s.at_ + 8 * tickU))
  l.drop (l.length - 4)

/-- Method A's line, where it applies: measured mode, 2 samples, and a fitted speed above VMIN. -/
def Core.methodA (c : Core) (ch : Nat) : Option (F64 × F64 × F64) :=
  let l := c.fitSamples ch
  if c.fallback ch || decide (l.length < 2) then none
  else
    let r := fitLine c.rel l
    if (F64.ofNat (c.rd GAT_CONFIG.VMIN ch)).lt (r.2.2.mul grainNsToUms) then some r else none

/-- The predicted instant of an event's crossing, in nanoseconds from the present boundary. -/
def Core.predict (c : Core) (ch : Nat) (e : GateEv) : Option F64 :=
  match e.fixed with
  | some t => some (c.rel t)
  | none =>
    let fb := (c.ch ch).fb
    let b : Option F64 :=
      (if !e.moving && e.on then traceLeaves c.rel fb.trace e.sigma else traceTime c.rel fb.trace e.sigma).map
        (fun t => t.add (c.lagOf ch))
    if e.moving then
      match c.methodA ch with
      | some (tm, sm, v) => some (tm.add ((e.sigma.sub sm).div v))
      | none => b
    else b

/-- The arc predicted at an instant (nanoseconds from the present boundary) for the power schedule (R98). -/
def Core.sigmaAt (c : Core) (ch : Nat) (t : F64) : F64 :=
  match c.methodA ch with
  | some (tm, sm, v) => sm.add (v.mul (t.sub tm))
  | none => traceSigma c.rel (c.ch ch).fb.trace (t.sub (c.lagOf ch))

/-! ### Placement (R91, R93, R95, R96) -/

/-- The output grid (R93): 250 ps on the LG pair, 4 ns on gate words, in units of 2⁻¹⁶ ns. -/
def gridU (word : Bool) : Nat := if word then 4 * nsU else nsU / 4

/-- The grid point of a window nearest a time in nanoseconds after the window's start; ties to the earlier one. -/
def gridIndex (word : Bool) (x : F64) : Int :=
  let g := if word then F64.ofNat 4 else F64.ofRatio 1 4
  ((x.div g).sub (F64.ofRatio 1 2)).ceil

/-- The start of the window decided at the present boundary (R91). -/
def Core.winStart (c : Core) (word : Bool) : Time := c.now + (if word then 2 * tickU else tickU)

/-- Place an edge at an instant. A chain's on edge emits its ARM word (R116) and begins its confirmation (R101); an off
edge fixes the release of its reservation (R130). -/
def Core.placeEdge (c : Core) (ch : Nat) (e : GateEv) (t w : Time) (late : Bool) : Core :=
  let c := if late then c.inc GAT_STAT.LATE_EDGES ch else c
  let edge : Edge := ⟨e.id, t, e.on, e.word, e.rfx, e.moving, e.sigma⟩
  let c := c.modGat ch (fun g => { g with
    pend := g.pend.drop 1, placed := g.placed ++ [edge], winEdge := some w,
    scheds := if e.on then g.scheds else g.scheds.map (fun s => if s.id = e.id then { s with offPlaced := true } else s) })
  if e.on then
    match e.fixed with
    | some _ => c
    | none =>
      let c := c.armWord ch e.rfx t
      let base := (((c.ch ch).gat.scheds.find? (fun s => s.id == e.id)).map Sched.reBase).getD F64.zero
      let c := c.modGat ch (fun g => { g with conf :=
        { Confirm.init with id := e.id, sigmaS := e.sigma, reBase := base, arc := base, base := base, onAt := t } })
      c.wr GAT_STATE.CONF_ARC (satNat 32 base.floor.toNat) ch
  else c.offPlacedAt ch e.id t

/-- Decide the pending events of one window in arc order (R92, R93), at most `fuel` of them. -/
def Core.placeGo (ch : Nat) : Nat → Core → Core
  | 0, c => c
  | fuel + 1, c =>
    match (c.ch ch).gat.pend with
    | [] => c
    | e :: _ =>
      match c.predict ch e with
      | none => c
      | some te =>
        let ws := c.winStart e.word
        let n := gridIndex e.word (te.sub (c.rel ws))
        let t : Int := (ws : Int) + n * (gridU e.word : Int)
        if (ws : Int) + tickU ≤ t then c
        else
          match (c.ch ch).gat.winEdge with
          | some w =>
            if ws ≤ w then Core.placeGo ch fuel (c.placeEdge ch e (w + tickU) (w + tickU) true)
            else Core.placeGo ch fuel (c.placeEdge ch e (max (ws : Int) t).toNat ws (decide (t < ws)))
          | none => Core.placeGo ch fuel (c.placeEdge ch e (max (ws : Int) t).toNat ws (decide (t < ws)))

/-- Gating of a channel at the present boundary (R91). A schedule whose off edge an earlier boundary placed is over (R98). -/
def Core.placeEdges (c : Core) (ch : Nat) : Core :=
  let c := c.modGat ch (fun g => { g with scheds := g.scheds.filter (fun s => !s.offPlaced) })
  Core.placeGo ch (c.ch ch).gat.pend.length c

/-- SAF forces every LG pair low: a safety input has been acted on and SAFE not yet cleared (R243 step 2). -/
def Core.safForced (c : Core) : Bool := c.rd SAF_STATUS.CAUSE % 8 != 0

/-- LG pairs held low whatever gating schedules: by SAF, by the mode (R231), and in a twin pair (R314). -/
def Core.lgHeld (c : Core) : Bool := c.safForced || !c.mode.gateEnabled || c.inPair

/-- The setting of a channel's fine delay line for an edge (R374): the edge stands m × 250 ps after its window's start, and the
coarse count takes the whole multiples of 4 ns; SCALE and OFFSET are the channel's GATE results. -/
def Core.lgTaps (c : Core) (ch : Nat) (at_ : Time) : Int :=
  let m := at_ % tickU / (nsU / 4)
  let v := Kv.get 0 c.hbr.cal.gate ch
  toSigned 8 (bits v 12 8) + ((m % 16 * bits v 0 12 + 128) / 256 : Nat)

/-- An edge takes place (R95, R105): the level driven, the LG pair, and the reflex loop's active period. -/
def Core.driveEdge (c : Core) (ch : Nat) (e : Edge) : Core :=
  let c := c.setFlag GAT_STATE.GATE e.on ch
  let c := if e.word || (e.on && c.lgHeld) || e.on == (c.ch ch).gat.lgHigh then c
    else (c.emit (.lgLine ch (c.lgTaps ch e.at_))).emit (.lg ch e.on e.at_)
  let c := c.modGat ch (fun g =>
    let log := g.edgeLog ++ [e]
    { g with placed := g.placed.filter (fun x => x != e), edgeLog := log.drop (log.length - 16),
             lgHigh := if e.word then g.lgHigh else e.on && !c.lgHeld })
  if e.on then (if e.rfx then c.rfxStart ch e.at_ else c) else c.rfxEnd ch e.at_

/-- Drive every edge of a channel whose instant is not after `t`. -/
def Core.driveUpTo (c : Core) (ch : Nat) (t : Time) : Core :=
  ((c.ch ch).gat.placed.filter (fun e => decide (e.at_ ≤ t))).foldl (fun c e => c.driveEdge ch e) c

/-- The gate word of the frame built at the present boundary (R96): EDGE_OFFSET and GATE_LEVEL; 0x7F in LG mode and for
a channel that is not armed (R169). -/
def Core.gateWord (c : Core) (ch : Nat) : Core × Nat :=
  let ws := c.now + 2 * tickU
  let g := (c.ch ch).gat
  match g.placed.find? (fun e => e.word && decide (ws ≤ e.at_) && decide (e.at_ < ws + tickU)) with
  | some e =>
    (c.modGat ch (fun g => { g with wordLevel := e.on }),
     (e.at_ - ws) / (4 * nsU) + 128 * b2n e.on)
  | none => (c, 127 + 128 * b2n g.wordLevel)

/-! ### Immediate gate-off (R97) -/

/-- Force the gate low at the present boundary, overriding every scheduled edge; end the active period; send an OFF word;
start the release of the channel's reservations (R97, R105, R130). -/
def Core.gateOffNow (c : Core) (ch : Nat) : Core :=
  let g := (c.ch ch).gat
  let c := if g.lgHigh then c.emit (.lg ch false c.now) else c
  let wasOn := c.flag GAT_STATE.GATE ch
  let c := c.setFlag GAT_STATE.GATE false ch
  let off : List Edge := if wasOn then [⟨0, c.now, false, true, false, false, F64.zero⟩] else []
  let c := c.modGat ch (fun g => { g with pend := [], placed := [], scheds := [], edgeLog := g.edgeLog ++ off,
                                          lgHigh := false, wordLevel := false })
  let c := c.rfxEnd ch c.now
  let c := c.emitOff ch
  c.releaseHeld ch

/-- The gate drivers are disabled from the present boundary (R231): every LG pair goes low, and what gating had scheduled is
dropped. -/
def Core.disableGates (c : Core) : Core :=
  c.forEach 64 (fun c ch =>
    let g := (c.ch ch).gat
    if g.pend.isEmpty && g.placed.isEmpty && !c.flag GAT_STATE.GATE ch then c
    else
      let c := if g.lgHigh then c.emit (.lg ch false c.now) else c
      let off : List Edge := if c.flag GAT_STATE.GATE ch then [⟨0, c.now, false, true, false, false, F64.zero⟩] else []
      let c := (c.setFlag GAT_STATE.GATE false ch).modGat ch (fun g => { g with
        pend := [], placed := [], scheds := [], edgeLog := g.edgeLog ++ off, lgHigh := false, wordLevel := false })
      c.rfxEnd ch c.now)

/-- The off edges owed by a layer that ends its gating at a tide mark with the gate still on: at the start of the first
window (R91). -/
def Core.tideOff (c : Core) (ch : Nat) : List Edge :=
  let g := (c.ch ch).gat
  let owed (w : Bool) : Bool :=
    ((if w then g.wordLevel else g.lgHigh) && !g.placed.any (fun e => e.word == w && !e.on)) ||
    g.placed.any (fun e => e.word == w && e.on)
  ([false, true].filter owed).map (fun w => ⟨0, c.winStart w, false, w, false, false, F64.zero⟩)

/-! ### Power along the arc (R98) -/

/-- The scale of one MARK_LINE at `g` grains of its length `len` (R98). -/
def scaleAt (power : Nat) (r : Option Ramps) (len g : Int) : Int :=
  match r with
  | none => power
  | some r =>
    if g < r.lin then r.start + (((power : Int) - r.start) * g) / (r.lin : Int)
    else if len - r.lout ≤ g then
      (power : Int) + (((r.stop : Int) - power) * (g - (len - r.lout))) / (max 1 r.lout : Int)
    else power

/-- The power word of a scale under a set and a trim factor (R98). -/
def powerOf (ps : Nat) (scale : Int) (k : Nat) : Nat :=
  min (psGet PS.POWER_CEIL ps) ((((psGet PS.POWER ps * scale.toNat) >>> 15) * k) >>> 15)

/-- The mark of a schedule at an arc in grains on the original chain: the last that starts at or before it. -/
def markAt : List SchedMark → F64 → Option SchedMark → Option SchedMark
  | [], _, m => m
  | a :: l, s, m => if (toGrains a.start).le s || m.isNone then markAt l s (some a) else m

/-- The power word of the frame built at the present boundary: the schedule of the chain whose off edge has not been placed
before it, or of a DWELL during its own ticks. Before a mark's k is latched, in the run-in, K_NOW scales a set with
PS_TRIM_EN (DESIGN CHOICE, assumption log 49: R98 and R100 name no other k). -/
def Core.framePower (c : Core) (ch : Nat) : Nat :=
  match (c.ch ch).gat.scheds with
  | [] => 0
  | sc :: _ =>
    let t := F64.ofInt 1250
    let s := F64.clamp F64.zero sc.len ((c.sigmaAt ch t).sub sc.sigmaS)
    let s := if sc.dwell.isSome then F64.zero else sc.reBase.add s
    match markAt sc.marks s none, (match sc.dwell with | some t1 => decide (c.now + 2 * tickU < t1) | none => true) with
    | none, _ | _, false => 0
    | some m, true =>
      let g := (s.sub (toGrains m.start)).floor
      let len := (toGrains m.len).floor
      powerOf m.ps (scaleAt m.power m.ramps len g)
        (m.k.getD (if psTrim m.ps then c.rd GAT_TRIM_STATE.K_NOW ch else 0x8000))

/-! ### Trim loop (R99, R100) -/

/-- One feature record (R99). -/
def Core.trimUse (c : Core) (ch f : Nat) : Core :=
  let e : Int := (c.rd GAT_TRIM.TARGET ch : Int) - f
  let k : Int := (c.rd GAT_TRIM_STATE.K_NOW ch : Int) + (c.rdI GAT_TRIM.GAIN ch * e) / 65536
  let k := clampInt (c.rd GAT_TRIM.TRIM_MIN ch : Nat) (c.rd GAT_TRIM.TRIM_MAX ch : Nat) k
  (c.wr GAT_TRIM_STATE.K_NOW k.toNat ch).inc GAT_TRIM_STATE.UPDATES ch

/-- The feature records latched at the present boundary, in order of frame-start stamp (R99). -/
def Core.trimLatch (c : Core) (ch : Nat) : Core :=
  let l := sortOrd (fun (a b : Time × Nat) => decide (a.1 < b.1)) (c.ch ch).gat.feats
  if l.isEmpty then c
  else
    let c := c.modGat ch (fun g => { g with feats := [] })
    l.foldl (fun c r =>
      if c.now ≤ r.1 + c.rd GAT_TRIM.MAXAGE ch * 1000 * usU then c.trimUse ch r.2 else c) c

/-- Latch k for the marks of a schedule whose start the commanded trace has reached (R100): `s` in grains on the original
chain. -/
def Core.trimReach (c : Core) (ch id : Nat) (s : F64) : Core :=
  let know := c.rd GAT_TRIM_STATE.K_NOW ch
  let kOf (m : SchedMark) : Nat := if psTrim m.ps then know else 0x8000
  let due (m : SchedMark) : Bool := m.k.isNone && (toGrains m.start).le s
  let sc := ((c.ch ch).gat.scheds.find? (fun q => q.id == id)).map Sched.marks
  match sc with
  | none => c
  | some ms =>
    match ms.find? due with
    | none => c
    | some _ =>
      let kk := (ms.filter due).foldl (fun _ m => kOf m) know
      let c := c.wr GAT_TRIM_STATE.K_APPLIED kk ch
      c.modGat ch (fun g => { g with scheds := g.scheds.map (fun q =>
        if q.id = id then { q with marks := q.marks.map (fun m => if due m then { m with k := some (kOf m) } else m) }
        else q) })

/-! ### Samples: following error, confirmation, missing feedback (R86 to R90, R101 to R104) -/

/-- The driven level at an instant, from the edges driven (R102). -/
def levelAt (log : List Edge) (t : Time) : Bool :=
  log.foldl (fun b e => if e.at_ ≤ t then e.on else b)
    (match log with | e :: _ => !e.on | [] => false)

/-- A driven edge falls between two sample instants. -/
def edgeBetween (log : List Edge) (a b : Time) : Bool := log.any (fun e => decide (a < e.at_) && decide (e.at_ ≤ b))

/-- Where the head node applies the spot at the present boundary before its frame is built, in grains (R87). -/
def Core.spotNow (c : Core) (ch : Nat) : Int × Int := (c.ch ch).ahead.head?.getD (c.ch ch).lastSpot

/-- The arc interpolated between two projected samples at an instant (R94). -/
def Core.interp (c : Core) (a b : Samp) (t : Time) : F64 :=
  let ta := c.rel a.at_
  let tb := c.rel b.at_
  if a.at_ = b.at_ then b.sigma
  else a.sigma.add (((b.sigma.sub a.sigma).mul ((c.rel t).sub ta)).div (tb.sub ta))

/-- Put CONF_ARC (R101, R82): never below the arc the chain started from. -/
def Core.putConf (c : Core) (ch : Nat) (cf : Confirm) : Core :=
  let c := c.modGat ch (fun g => { g with conf := cf })
  c.wr GAT_STATE.CONF_ARC (satNat 32 cf.arc.floor.toNat) ch

/-- The confirmed arc of a measured arc. -/
def Confirm.arcOf (cf : Confirm) (σ : F64) : F64 := cf.reBase.add (F64.max F64.zero (σ.sub cf.sigmaS))

/-- A sample advances the confirmation (R101). `p` is its projection when VALID. Once a sample since the gate-on was seen has
lacked GATE_SEEN without reporting the off edge, no later EDGE_STAMP moves CONF_ARC (DESIGN CHOICE, assumption log 49). -/
def Core.confirm (c : Core) (ch : Nat) (r : RawSample) (p : Option Samp) : Core :=
  let cf := (c.ch ch).gat.conf
  let last := (c.ch ch).fb.lastSamp
  if cf.id = 0 ∨ r.stamp < cf.onAt ∨ cf.done then c
  else
    match cf.pendingOff, p, last with
    | some te, some q, some l => c.putConf ch { cf with arc := cf.arcOf (c.interp l q te), done := true, pendingOff := none }
    | some _, _, _ => c
    | none, _, _ =>
      if r.seen then
        match p with
        | some q =>
          c.putConf ch { cf with seenOn := true, arc := if cf.unbroken then cf.arcOf q.sigma else cf.arc }
        | none => c.putConf ch { cf with seenOn := true }
      else if cf.seenOn then
        match r.edge, p, last with
        | some te, some q, some l =>
          if cf.unbroken then c.putConf ch { cf with arc := cf.arcOf (c.interp l q te), done := true } else c
        | some te, none, _ => if cf.unbroken then c.putConf ch { cf with pendingOff := some te } else c
        | _, _, _ => c.putConf ch { cf with unbroken := false }
      else c

/-- RESID_MAX (R94): each moving LG edge between two projected samples. -/
def Core.residual (c : Core) (ch : Nat) (a b : Samp) : Core :=
  ((c.ch ch).gat.edgeLog.filter (fun e => e.moving && !e.word && decide (a.at_ ≤ e.at_) && decide (e.at_ < b.at_))).foldl
    (fun c e =>
      let d := ((c.interp a b e.at_).sub e.sigma).abs
      c.keepMax GAT_STAT.RESID_MAX (d.mul (F64.ofNat 256)).floor.toNat ch) c

/-- A sample's following error enters the logbook (R90, R416). -/
def Core.feTap (c : Core) (ch : Nat) (fe : F64) : Core :=
  let lim := F64.ofNat (c.rd GAT_CONFIG.FE_CROSS_MAX ch)
  let bin := (((F64.ofNat 64).mul fe).div lim).floor.toNat
  let sp := c.spotNow ch
  c.tap ⟨ch, 2, min 63 bin, fe.floor, c.now, sp.1, sp.2⟩

/-- A tick of a lit DWELL is done (R82): the sample measured at its end saw the gate on, with no change later than its
start. -/
def Core.dwellTick (c : Core) (ch : Nat) (r : RawSample) : Core :=
  match (c.ch ch).fb.dwellFrom with
  | none => c
  | some (a, b) =>
    let tEnd := (r.stamp + tickU / 2) / tickU * tickU
    let ok := r.seen && (match r.edge with | some te => decide (te + tickU ≤ tEnd) | none => true)
    if a < tEnd ∧ tEnd ≤ b ∧ ok then c.modFb ch (fun f => { f with dwellDone := f.dwellDone + 1 }) else c

/-- A projected sample is kept for interpolation (R94, R101) where none with a later stamp is: late samples may come out of
order. A moving edge between it and the one before it gives a residual. -/
def Core.keepProjected (c : Core) (ch : Nat) (q : Samp) : Core :=
  match (c.ch ch).fb.lastSamp with
  | none => c.modFb ch (fun f => { f with lastSamp := some q })
  | some a => if q.at_ < a.at_ then c else (c.residual ch a q).modFb ch (fun f => { f with lastSamp := some q })

/-- LAG_NOW (object 0x1202): the latest lag, or the frozen one. The lag is rounded down to whole nanoseconds (DESIGN CHOICE,
assumption log 49: no rule says how). -/
def Core.showLag (c : Core) (ch : Nat) : Core := c.wrI GAT_STATE.LAG_NOW (c.lagOf ch).floor ch

/-- One sample is latched (R86 to R90, R94, R101, R103). -/
def Core.latchSample (c : Core) (ch : Nat) (r : RawSample) : Core :=
  let c := c.setFlag GAT_STATE.GATE_SEEN r.seen ch
  let c := c.dwellTick ch r
  if !r.valid then c.confirm ch r none
  else
    let f := (c.ch ch).fb
    let (j, σ, fe) := project f r.mx r.my
    let q : Samp := ⟨r.stamp, σ, r.seen⟩
    let c := c.feTap ch fe
    let c := (c.confirm ch r (some q)).keepProjected ch q
    if !r.onTime then c
    else
      let lag := match traceTime c.rel f.trace σ with
        | some tc => (c.rel r.stamp).sub tc
        | none => f.lag
      let beyond := (F64.ofNat (c.rd GAT_CONFIG.FE_CROSS_MAX ch)).lt fe ||
        (F64.ofNat (1000 * c.rd GAT_CONFIG.LAG_MAX ch)).lt lag
      let c := c.modFb ch (fun f =>
        let rec_ := f.recent ++ [q]
        { f with matchIx := max f.matchIx j, lag := lag, recent := rec_.drop (rec_.length - 4),
                 feRun := if beyond then f.feRun + 1 else 0 })
      let sp := c.spotNow ch
      let c := c.tap ⟨ch, 4, 0, satSigned 32 lag.floor, c.now, sp.1, sp.2⟩
      (c.wr GAT_STATE.FE_NOW (satNat 24 fe.floor.toNat) ch).showLag ch

/-- The gate level a sample saw against the level driven (R102): the run of disagreements. -/
def Core.seenRun (c : Core) (ch : Nat) (r : RawSample) : Core :=
  let g := (c.ch ch).gat
  let f := (c.ch ch).fb
  let bad := r.seen != levelAt g.edgeLog r.stamp && !edgeBetween g.edgeLog f.lastStamp r.stamp
  c.modFb ch (fun f => { f with mismatchRun := if bad then f.mismatchRun + 1 else 0, lastStamp := r.stamp })

/-- The head node of a channel serves it, as its latest TICK_UP said (R170). -/
def Core.served (c : Core) (ch : Nat) : Bool :=
  match (c.port (ch / 4)).nodeStatus with
  | some (ns, _) => bitOf ns (ch % 4)
  | none => false

/-- The samples waiting at the present boundary are latched, and a missing one is counted (R103). None is missing of a
channel that its head node does not serve, for it sends none, or that is out of service (DEDUCED, assumption log 16). -/
def Core.latchSamples (c : Core) (ch : Nat) : Core :=
  let l := (c.ch ch).fb.latched
  let c := c.modFb ch (fun f => { f with latched := [] })
  let c := l.foldl (fun c r =>
    let c := if r.onTime then c.seenRun ch r else c
    c.latchSample ch r) c
  if l.any (fun r => r.onTime && r.valid && decide (c.now ≤ r.stamp + tickU + tickU / 2)) then
    let c := c.wr GAT_STATE.MISS_RUN 0 ch
    c.modFb ch (fun f => { f with goodRun := f.goodRun + 1 })
  else if c.served ch && !c.failed ch then
    let c := c.wr GAT_STATE.MISS_RUN (min 15 (c.rd GAT_STATE.MISS_RUN ch + 1)) ch
    let c := c.inc GAT_STAT.MISSED ch
    c.modFb ch (fun f => { f with goodRun := 0 })
  else c

/-- The third consecutive missing sample (R104): FALLBACK, the hold at end, and FEEDBACK_LOST. -/
def Core.feedbackLost (c : Core) (ch : Nat) : Core :=
  if decide (3 ≤ c.rd GAT_STATE.MISS_RUN ch) && !c.fallback ch && !c.failed ch then
    let c := c.modFb ch (fun f => { f with frozen := f.lag })
    let c := c.setFlag GAT_STATE.MODE true ch
    let c := c.inc GAT_STAT.FALLBACKS ch
    (c.post evFeedbackLost ch [] (some c.now)).raiseHold evFeedbackLost
  else c

/-- A GATE result takes force at the channel's first vector start after its run (R374). -/
def Core.gateVectorStart (c : Core) (ch : Nat) : Core :=
  let s := c.hbr.cal
  match Kv.find s.gateNext ch with
  | some v =>
    let s := { s with
      gate := Kv.put 0 s.gate ch v, gateNext := Kv.erase ch s.gateNext }
    { c with hbr := { c.hbr with cal := s } }
  | none => c

/-- At a vector start: the channel returns to MEASURED after 4 consecutive good samples (R104), and GATE results take
force. The motion of a record is a vector: of a JUMP, a DWELL or a chain, and not of a JUMP or move that the device makes
itself (DESIGN CHOICE, assumption log 49: no rule defines the term). -/
def Core.vectorStart (c : Core) (ch : Nat) : Core :=
  let c := c.gateVectorStart ch
  if c.fallback ch && decide (4 ≤ (c.ch ch).fb.goodRun) then (c.setFlag GAT_STATE.MODE false ch).showLag ch else c

end Sys2Proof.Machine
end

