-- ==== Sys2Proof/Machine/Samples.lean ====
section
/-!
DEFINITION. Machine/Samples.lean: photodiode samples received on the surge lanes (R107 to R109).
-/
namespace Sys2Proof.Machine

/-- The sampling instant of a SEQ accepted at an instant (R107): the largest n with n mod 64 = SEQ and n × T_s no later
than it. -/
def sampleInstant (accept ts seq : Nat) : Time :=
  let n := if ts = 0 then 0 else accept / ts
  (n - (n + 64 - seq % 64) % 64) * ts

/-- A SAMPLE word is malformed (R108): a code, parity or reserved-bit error, another TYPE, or a channel that is not on
the lane (the last is a DESIGN CHOICE, assumption log 49: no rule says what becomes of such a word). -/
def sampleBad (lane word : Nat) (codeError : Bool) : Bool :=
  codeError || oddOnes word 32 == 1 || bits word 2 2 != 0 || bits word 27 4 != 0 ||
  (bits word 0 2) / 2 != lane

/-- A received SAMPLE word (R108): `start` is the instant of its first bit, `accept` its acceptance instant. A malformed
one is a malformed surge word of its port too, and its code errors are the port's (R197; DEDUCED, assumption log 24).
Edges placed up to the acceptance take place before the sample is judged, so that its fate depends on instants alone (R109). -/
def Core.sample (c : Core) (port lane word : Nat) (codeError : Bool) (start accept : Time) : Core :=
  let ch := 4 * port + bits word 0 2
  if sampleBad lane word codeError then
    let c := if codeError then c.inc STR_PORT_STAT.CODE_ERR port else c
    (c.inc RFX_STAT.BADWORDS ch).inc STR_PORT_STAT.SURGE_BAD port
  else
    let seq := bits word 4 6
    let value := bits word 10 16
    let x := (c.ch ch).rfx
    let prev := c.rd RFX_STATE.SEQ_IN ch
    let d := (seq + 64 - prev) % 64
    if !x.firstWord && (d == 0 || decide (32 ≤ d)) then c.inc RFX_STAT.STALE ch
    else
      let gap := !x.firstWord && decide (2 ≤ d)
      let c := if gap then c.inc RFX_STAT.GAPS ch (d - 1) else c
      let c := { c.driveUpTo ch accept with
        surgeOrder := accept / nsU }
      let inst := sampleInstant accept (c.samplePeriod ch) seq
      let wasStarving := c.flag RFX_STATE.STARVING ch
      let c := c.setFlag RFX_STATE.STARVING false ch
      let c := c.wr RFX_STATE.SEQ_IN seq ch
      let c := c.wr RFX_STATE.LAST_SAMPLE value ch
      let c := c.wr RFX_STATE.BANK (c.bankAt ch inst) ch
      let c := c.modCh ch (fun q => { q with rfx :=
        { q.rfx with firstWord := false,
                     cnt := if gap || wasStarving then 0 else q.rfx.cnt,
                     last := if gap || wasStarving then 0 else q.rfx.last } })
      let inPeriod := c.flag RFX_STATE.ACTIVE ch && (match (c.ch ch).rfx.from_ with
        | some f => decide (f ≤ inst) | none => false)
      if inPeriod then
        let c := c.modCh ch (fun q => { q with rfx := { q.rfx with lastInst := some inst } })
        c.rfxLaw ch value inst (some start)
      else c

/-- A SAMPLE word arrives on a head port (R108): accepted `off` after the present boundary, its first bit `lead` earlier. -/
def Core.rxSample (c : Core) (p lane word : Nat) (codeError : Bool) (lead off : Nat) : Core :=
  if c.held domEXP || !c.isUp p then c else c.sample p lane word codeError (c.now + off - lead) (c.now + off)

end Sys2Proof.Machine
end

