-- ==== Sys2Proof/Config.lean ====
section
/-!
DEFINITION. Config.lean: what an implementation fixes and the values the spec leaves open. A free value is an opaque
constant with no body: nothing in Lean evaluates it. Each is applied to the operands it depends on, or to the plain
counter `fresh` of the state (assumption log 10).
-/
namespace Sys2Proof.Config

/-- The die identity ID_DIE (R463: Reset "fixed", no number given). -/
opaque dieId : BitVec 64

/-- A 32-byte challenge the harbour draws (R405); the spec gives no number. -/
opaque nonce : Nat → BitVec 256

/-- A draw of the neighbour-refresh LFSR of a subchannel (R364): the spec gives its probability, not its polynomial. -/
opaque lfsrDraw : Nat → BitVec 64

/-- What a read of storage that the spec calls without defined value returns. -/
opaque undefByte : Nat → BitVec 8

/-- The TRIM_ID of RST_CONFIG GAP (R389, R424): the spec names the trim field and not its identifier. -/
opaque gapTrimId : Nat

/-- Whether a TRIM_ID names a shadow word (R389): the spec lists no identifiers. -/
opaque trimKnown : Nat → Bool

/-- The event code or opcode by which SLACK_LONG names the kind of item still running (R236): 0 life write-back,
1 calibration, 3 open-lamp diagnosis, 4 the recoat sequence; the spec names the field and not the codes. -/
opaque slackCode : Nat → BitVec 16

/-- PENDING_LAYER of a chart bank committed by the set with a SET_ID that carries no manifest (R76): the field names a
layer, and such a set has none. -/
opaque pendingNone : Nat → BitVec 32

/-- A position in steps that R290 or R297 gives as a sum or a quotient outside 32 bits; the spec states none there. -/
opaque axisOverflow : Nat → BitVec 32

/-- DETAIL of CONFLICT_LOST where neither command is executed (R201, R207): the spec gives the winner's ID, and there is no
winner. -/
opaque noWinner : Nat → BitVec 32

/-- The bytes of a snapshot, whose layout R321 does not give, by the elapsed tick at which it is taken: a free value. -/
opaque snapshot : Nat → List (BitVec 8)

/-- A word of a Shingle wire frame beyond the latest snapshot (R282), where DRIVERS has grown since or nothing has been
snapshotted; the spec does not say what is sent there. -/
opaque lampWord : Nat → BitVec 16

end Sys2Proof.Config
end

