-- ==== Sys2Proof/Machine/Force.lean ====
section
/-!
DEFINITION. Machine/Force.lean: how the objects of a set take force (R42, R46, R75, R211, R220), and what a queued layer's
manifest says (R44).
-/
namespace Sys2Proof.Machine

/-- Put every field of an object image into force; write-only fields hold nothing (R9). -/
def Core.wrImage (c : Core) (d : ObjDesc) (i : Nat) (v : Nat) : Core :=
  d.fields.foldl (fun c f => if f.access = .rw then c.wr f (imgField v f) i else c) c

/-- Put parameter sets into force, from `first` on, 16 bytes each (R41, R42). -/
def Core.putSets (c : Core) (ch first : Nat) (data : Bytes) : Core :=
  (List.range (data.length / 16)).foldl (fun c n =>
    { c with psets := Kv.put 0 c.psets (ch * 256 + first + n) (fieldLE data (16 * n) 16) }) c

/-- The bank that holds a committed chart becomes current (R75). -/
def Core.swapBank (c : Core) (ch : Nat) : Core :=
  let c := c.wr CHT_BANK.CURRENT (1 - c.rd CHT_BANK.CURRENT ch) ch
  let c := c.wr CHT_BANK.INACTIVE_STATE 0 ch
  c.wr CHT_BANK.PENDING_LAYER 0 ch

/-- Object IDs that take force in a way of their own. -/
def idManifest : Nat := 0x1001
def idPset : Nat := 0x1010
def idPsetBlock : Nat := 0x1011
def idChtGeom : Nat := 0x1101
def idChtNodes : Nat := 0x1102
def idAdpPolicy : Nat := 0x1502

/-- One object of a set takes force. -/
def Core.applyObj (c : Core) (o : SetObj) : Core :=
  let v := leNat o.image
  if o.obj = idPset then c.putSets o.inst (imgField v SEQ_PSET.PSW_FIRST) o.data
  else if o.obj = idPsetBlock then c.putSets o.inst (imgField v SEQ_PSET_BLOCK.BLK_FIRST) o.data
  else if o.obj = idManifest ∨ o.obj = idChtNodes then c
  else
    let c := if o.obj = idAdpPolicy then { c with resWrite := 0 } else c
    match findObj o.obj with
    | some d => c.wrImage d o.inst v
    | none => c

/-- The channels whose chart a set changes. -/
def chartChans (os : List SetObj) : List Nat :=
  (List.range 64).filter (fun ch => os.any (fun o => (o.obj == idChtGeom || o.obj == idChtNodes) && o.inst == ch))

/-- Every object of a set takes force together (R220). -/
def Core.applyObjs (c : Core) (os : List SetObj) : Core :=
  let c := os.foldl (fun c o => c.applyObj o) c
  (chartChans os).foldl (fun c ch => c.swapBank ch) c

/-! ### Manifests (R44) -/

def manLayer (b : Bytes) : Nat := fieldLE b 4 4
def manMask (b : Bytes) : Nat := fieldLE b 8 8
def manTimeout (b : Bytes) : Nat := fieldLE b 16 4
def manAddr (b : Bytes) (ch : Nat) : Nat := fieldLE b (64 + 16 * ch) 8
def manCount (b : Bytes) (ch : Nat) : Nat := fieldLE b (72 + 16 * ch) 4
/-- Addresses and counts of all 64 lists. -/
def manLists (b : Bytes) : List (Nat × Nat) := (List.range 64).map (fun ch => (manAddr b ch, manCount b ch))

/-- The manifests of the committed layers waiting, first to take effect first (R47). -/
def Core.queuedManifests (c : Core) : List Bytes := c.pilot.queue.filterMap CommSet.manifest

/-- The device as it will stand at the tide mark of the first queued layer: every set up to and with it in force. -/
def Core.atNextLayer (c : Core) : Core :=
  let rec go : List CommSet → Core → Core
    | [], c => c
    | s :: l, c =>
      let c := c.applyObjs s.objs
      if s.manifest.isSome then c else go l c
  go c.pilot.queue c

/-- The lists a channel's ring is filled from, in order: the layer in progress, then the queued ones (R52). -/
def Core.fetchPlan (c : Core) (ch : Nat) : List (Nat × Nat × Nat) :=
  let s := c.ch ch
  (if c.layerActive && s.armed && !c.failed ch then [(c.rd SEQ_LAYER_STATE.LAYER_NOW, s.listAddr, s.listCount)] else []) ++
  (c.queuedManifests.filter (fun m => bitOf (manMask m) ch && !c.failed ch)).map
    (fun m => (manLayer m, manAddr m ch, manCount m ch))

end Sys2Proof.Machine
end

