-- ==== Sys2Proof/Machine/Sequencer.lean ====
section
/-!
DEFINITION. Machine/Sequencer.lean: the sequencers (R36, R39, R59 to R69, R73, R77 to R83, R128, R135, R136, R473 to
R475): tiles, records, motions, halts, yields and setpoints.
-/
namespace Sys2Proof.Machine

/-! ### What a chain needs -/

/-- The set of a chain (R37: one set for all its marks). -/
def Core.chainSet (c : Core) (ch : Nat) (k : Chain) : Nat :=
  match k.marks with
  | m :: _ => c.pset ch m.pset
  | [] => 0

/-- The chain left to run from a re-entry arc in metres (R83): its start point in whole grains, and the marks from the
segment that holds it. A point that rounds onto a segment's end belongs to the next one, so that the first segment is never of
length zero; past the last segment there is none (assumption log 49). -/
def reentryGo : List Mark → F64 → F64 → F64 → F64 → (Int × Int) × List Mark
  | [], _, _, _, _ => ((0, 0), [])
  | m :: ms, x, y, s0, sre =>
    let x1 := metres m.x
    let y1 := metres m.y
    let len := F64.hypot (x1.sub x) (y1.sub y)
    if sre.lt (s0.add len) || ms.isEmpty then
      let d := sre.sub s0
      let p : Int × Int := (nearestGrain (x.add (d.mul ((x1.sub x).div len))), nearestGrain (y.add (d.mul ((y1.sub y).div len))))
      (p, if p = (m.x, m.y) ∧ !ms.isEmpty then ms else m :: ms)
    else reentryGo ms x1 y1 (s0.add len) sre

/-- The start point and marks of a chain as it is to run, with the arc (metres) of its start on the original chain. -/
def runForm (k : Chain) (re : Option (F64 × F64)) : (Int × Int) × List Mark × F64 :=
  match re with
  | none => ((k.sx, k.sy), k.marks, F64.zero)
  | some (_, sre) =>
    if sre.isZero then ((k.sx, k.sy), k.marks, F64.zero)
    else
      let r := reentryGo k.marks (metres k.sx) (metres k.sy) F64.zero sre
      (r.1, r.2, sre)

/-- The plan of a chain as it is to run (R64, R83). -/
def Core.planOf (c : Core) (ch : Nat) (k : Chain) (re : Option (F64 × F64)) : ChainPlan :=
  let f := runForm k re
  let sky := psSky (c.chainSet ch k)
  let first := f.2.1.head?
  let last := f.2.1.getLast?
  let noSky (m : Option Mark) : Bool := match m with | some m => m.noSky | none => true
  let runIn := if re.isSome then !noSky first else sky && !noSky first && !k.afterDwell
  let runOut := sky && !noSky last && !k.beforeDwell
  planChain (c.chainEnv ch) f.1.1 f.1.2
    (f.2.1.map (fun m => (m.ix, m.x, m.y, markSpeed (c.pset ch m.pset) m.speed))) runIn runOut

/-- The point at which a chain's motion starts: the run-in start, or S (R64). -/
def ChainPlan.start (p : ChainPlan) : F64 × F64 := pathPos p.track.pieces p.inLen.neg

/-- The box of a chain as it is to run (R125). -/
def runBox (k : Chain) (re : Option (F64 × F64)) : Box :=
  let f := runForm k re
  boxOf (f.1 :: f.2.1.map (fun m => (m.x, m.y)))

/-- The power schedule of a chain on its original arc (R98). -/
def Core.schedMarks (c : Core) (ch : Nat) : List Mark → F64 → F64 → F64 → List SchedMark
  | [], _, _, _ => []
  | m :: ms, x, y, s =>
    let x1 := metres m.x
    let y1 := metres m.y
    let len := F64.hypot (x1.sub x) (y1.sub y)
    ⟨m.ix, s, len, c.pset ch m.pset, m.power, m.ramps, none⟩ :: c.schedMarks ch ms x1 y1 (s.add len)

/-! ### Positions -/

/-- The plan time of `n` ticks. -/
def tickTime (n : Nat) : F64 := ticksSec n

/-- A motion of `n` ticks has ended. -/
def Track.endedAt (k : Track) (n : Nat) : Bool := k.total.le (tickTime n)

/-- The plan time of `n` ticks, at most the end of a motion. -/
def Track.timeAt (k : Track) (n : Nat) : F64 := if k.endedAt n then k.total else tickTime n

/-- σ_S: the trace arc at a chain's start point S (R87), from that at the start of its motion. -/
def ChainPlan.sigmaS (p : ChainPlan) (σ0 : F64) : F64 := σ0.add (toGrains p.inLen)

/-- The bed position in metres and the trace arc in grains of a channel, `d` ticks on from the latest step of its motion. -/
def Core.posAfter (c : Core) (ch d : Nat) : F64 × F64 × F64 :=
  let s := c.ch ch
  match s.stopTrack with
  | some (k, n, base) =>
    let st := k.state (k.timeAt (n + d))
    let p := pathPos k.pieces st.1
    (p.1, p.2, base.add (toGrains st.1))
  | none =>
    match s.motion with
    | .jump k n σ0 _ _ tx ty =>
      if k.endedAt (n + d) then (tx, ty, σ0.add (toGrains (k.state k.total).1))
      else
        let st := k.state (tickTime (n + d))
        let p := pathPos k.pieces st.1
        (p.1, p.2, σ0.add (toGrains st.1))
    | .chain p n σ0 _ _ =>
      let st := p.track.state (p.track.timeAt (n + d))
      let q := pathPos p.track.pieces st.1
      (q.1, q.2, (p.sigmaS σ0).add (toGrains st.1))
    | _ =>
      let r := c.restPoint ch
      (r.1, r.2, s.sigma)

/-- The position and trace arc for the frame being built, once the motion has been stepped. -/
def Core.posSigma (c : Core) (ch : Nat) : F64 × F64 × F64 := c.posAfter ch 0

/-- The position and trace arc of the present boundary before the motion has been stepped there. -/
def Core.posNow (c : Core) (ch : Nat) : F64 × F64 × F64 := c.posAfter ch 1

/-- Sample the setpoint for the frame being built, map it, append to the trace (R79, R87); report clamps (R73). -/
def Core.setpoint (c : Core) (ch : Nat) : Core :=
  let (x, y, σ) := c.posSigma ch
  let gx := nearestGrain x
  let gy := nearestGrain y
  let (h, sat) := c.mapHead ch gx gy (c.ch ch).zOff
  let put (c : Core) (ax : Nat) (v : Int) (s : Bool) : Core :=
    let c := c.wrI SEQ_AXIS_SETPOINT.SETPOINT v (3 * ch + ax)
    if s then c.inc SEQ_AXIS_SETPOINT.SAT_COUNT (3 * ch + ax) else c
  let c := put c 0 h.1 sat.1
  let c := put c 1 h.2.1 sat.2.1
  let c := put c 2 h.2.2 sat.2.2
  c.modCh ch (fun s =>
    let l := s.ahead ++ [(gx, gy)]
    { s with
    lastSpot := if 2 < l.length then l.head?.getD (gx, gy) else if s.ahead.isEmpty then (gx, gy) else s.lastSpot,
    ahead := l.drop (l.length - 2),
    fb := s.fb.append ⟨c.now + 2 * tickU, h.1, h.2.1, σ⟩ })

/-! ### Status -/

def Core.seqState (c : Core) (ch st : Nat) : Core := c.wr SEQ_MOTION.STATE st ch

/-- The record executing (object 0x1003). -/
def Core.recordAt (c : Core) (ch ix : Nat) : Core := c.wr SEQ_TILE_POS.RECORD_INDEX ix ch

/-- The device's position report data of the present record: tile index and record. -/
def Core.recPos (c : Core) (ch : Nat) : Bytes :=
  leBytes 4 (c.rd SEQ_TILE_POS.TILE_INDEX ch) ++ leBytes 1 (c.rd SEQ_TILE_POS.RECORD_INDEX ch)

/-! ### Starting motions -/

/-- Begin a laser-off straight motion (R62, R69, R475). -/
def Core.startJump (c : Core) (ch : Nat) (tx ty : F64) (v : F64) (tenTicks isRec : Bool) : Core :=
  let r := c.restPoint ch
  let k := planJump (c.jumpLim ch) r.1 r.2 tx ty v
  c.modCh ch (fun s => { s with motion := .jump k 0 s.sigma tenTicks isRec tx ty, moved := true, prevLit := false,
                                gapTick := false, chainRest := none, posX := r.1, posY := r.2 })

/-- The jump speed of a set at scale 0x8000 (R474). -/
def setJumpSpeed (ps : Nat) : F64 := speedMS (jumpSpeed ps 0x8000)

/-- Begin a granted chain (R64, R84, R98): its schedule, its gate events, its motion. A bounded run-in or run-out counts in
EDGE_CLIP (R78) when its chain starts (DESIGN CHOICE, assumption log 49: R78 names no instant). -/
def Core.startChain (c : Core) (ch : Nat) (k : Chain) : Core :=
  let c := c.vectorStart ch
  let re := (c.ch ch).reentry
  let p := c.planOf ch k re
  let ps := c.chainSet ch k
  let base := (runForm k re).2.2
  let id := (c.ch ch).gat.nextId
  let σ0 := (c.ch ch).sigma
  let σS := p.sigmaS σ0
  let len := toGrains p.len
  let sc : Sched := ⟨id, σS, toGrains base, len,
    c.schedMarks ch k.marks (metres k.sx) (metres k.sy) F64.zero, none, false⟩
  let on : GateEv := ⟨id, true, σS, !p.inLen.isZero, none, psRfx ps, psWord ps⟩
  let off : GateEv := ⟨id, false, σS.add len, !p.outLen.isZero, none, psRfx ps, psWord ps⟩
  let c := if p.clips = 0 then c else c.inc SEQ_MOTION_STAT.EDGE_CLIP ch p.clips
  let r := c.restPoint ch
  c.modCh ch (fun s => { s with
    motion := .chain p 0 σ0 base id, moved := true, zOff := psZ ps, req := none, granted := false,
    prevLit := false, gapTick := false, chainRest := none, posX := r.1, posY := r.2,
    gat := { s.gat with nextId := id + 1, pend := s.gat.pend ++ [on, off], scheds := s.gat.scheds ++ [sc] } })

/-- Begin a DWELL (R63, R84, R100, R116). -/
def Core.startDwell (c : Core) (ch ix ticks : Nat) (laser : Bool) (pset power : Nat) : Core :=
  let c := c.vectorStart ch
  if !laser then
    c.modCh ch (fun s => { s with motion := .dwell 0 ticks false, prevLit := false, gapTick := false, chainRest := none })
  else
    let ps := c.pset ch pset
    let id := (c.ch ch).gat.nextId
    let t0 := c.now + 2 * tickU
    let t1 := t0 + ticks * tickU
    let k := if psTrim ps then c.rd GAT_TRIM_STATE.K_NOW ch else 0x8000
    let c := c.wr GAT_TRIM_STATE.K_APPLIED k ch
    let sc : Sched := ⟨id, (c.ch ch).sigma, F64.zero, F64.zero,
      [⟨ix, F64.zero, F64.zero, ps, power, none, some k⟩], some t1, false⟩
    let on : GateEv := ⟨id, true, (c.ch ch).sigma, false, some t0, psRfx ps, psWord ps⟩
    let off : GateEv := ⟨id, false, (c.ch ch).sigma, false, some t1, psRfx ps, psWord ps⟩
    let c := c.armWord ch (psRfx ps) t0
    let r := c.restPoint ch
    c.modCh ch (fun s => { s with
      motion := .dwell 0 ticks true, zOff := psZ ps, req := none, granted := false, gapTick := false, chainRest := none,
      lit := s.exec.map (fun t => ⟨.dwell ix ticks true pset power, t, r.1, r.2⟩), owed := false,
      fb := { s.fb with dwellFrom := some (t0, t1), dwellDone := 0 },
      gat := { s.gat with nextId := id + 1, pend := s.gat.pend ++ [on, off], scheds := s.gat.scheds ++ [sc] } })

/-! ### Requests (R128, R141) -/

/-- A box breaks B_EXTENT or B_REGION at use. -/
def Core.extentBad (c : Core) (b : Box) : Bool :=
  boxTooBig (c.rd BWK_MAXLEN.MAXLEN) b ||
  (c.flag BWK_CASCADE.BORDER_EN &&
    (decide (b.xlo < c.rdI BWK_CASCADE.REG_X_LO) || decide (c.rdI BWK_CASCADE.REG_X_HI < b.xhi) ||
     decide (b.ylo < c.rdI BWK_CASCADE.REG_Y_LO) || decide (c.rdI BWK_CASCADE.REG_Y_HI < b.yhi)))

/-- A chain met at use that breaks B_EXTENT or B_REGION is not requested (R141). -/
def Core.extentFault (c : Core) (ch : Nat) : Core :=
  if (c.ch ch).extentFault then c
  else
    let c := c.modCh ch (fun s => { s with extentFault := true })
    (c.post evBwkExtent ch (c.recPos ch) (some c.now)).raiseHold evBwkExtent

/-- Present a request at the present boundary (R128); a kept request keeps its wait count. -/
def Core.present (c : Core) (ch : Nat) (b : Box) : Core :=
  match (c.ch ch).req with
  | some _ => c
  | none =>
    if c.extentBad b then c.extentFault ch
    else
      let c := (c.wr BWK_STATE.WAIT_NOW 0 ch).setFlag BWK_STATE.CAPPED false ch
      c.modCh ch (fun s => { s with req := some ⟨b, 0, 0, false, 0⟩, granted := false })

/-! ### Tile boundaries -/

/-- The channel's own list has been moved into the buffer to its end (R44). -/
def SeqCh.listDone (s : SeqCh) : Bool := decide (s.listCount ≤ s.moveNext)

/-- The idle half holds a checked tile that may start now: of the layer in progress, or an adoption tile. -/
def Core.idleReady (c : Core) (ch : Nat) : Option BufTile :=
  match (c.ch ch).idle with
  | some t => if t.ck = .passed ∧ (t.adopt.isSome ∨ t.layer = c.rd SEQ_LAYER_STATE.LAYER_NOW) then some t else none
  | none => none

/-- Nothing of the layer is left for the channel (R23, R151). -/
def Core.finished (c : Core) (ch : Nat) : Bool :=
  let s := c.ch ch
  s.items.isEmpty && s.exec.isNone && s.susp.isNone && s.adoptQ.isEmpty && s.listDone &&
  (match s.idle with
   | some t => !(t.adopt.isSome || t.layer == c.rd SEQ_LAYER_STATE.LAYER_NOW)
   | none => true)

/-- An adoption tile has ended on its adopter (R153): TILES_DONE of its loss counts. -/
def Core.adoptEnded (c : Core) (t : BufTile) : Core :=
  match t.adopt with
  | none => c
  | some a =>
    let c := c.inc ADP_REPORT.TILES_DONE a.loss
    { c with losses := c.losses.map (fun l => if l.chan = a.loss then { l with out := l.out - 1 } else l) }

/-- The set of the record at the head of a list (R474): of a chain its first mark's. -/
def headPset : List Item → Nat
  | .chain k :: _ => (k.marks.head?.map Mark.pset).getD 0
  | .dwell _ _ _ p _ :: _ => p
  | _ => 0

/-- What BWK_STATE shows of a request kept through a yield, back in its channel (R132, R136): its wait count, and CAPPED where
the count has reached the cap. -/
def Core.showKept (c : Core) (ch : Nat) (q : Req) : Core :=
  let c := (c.wr BWK_STATE.STATE 0 ch).wr BWK_STATE.WAIT_NOW q.wait ch
  c.setFlag BWK_STATE.CAPPED (decide (c.rd BWK_WAIT.WAIT_CAP ≤ q.wait)) ch

/-- The tile executing has ended (R136, R151): its half of the buffer is free. A suspended tile comes back with its request,
which is presented again once a JUMP has brought the spot to the start of its motion. -/
def Core.endTile (c : Core) (ch : Nat) : Core :=
  let c := match (c.ch ch).exec with
    | some t => c.adoptEnded t
    | none => c
  let c := c.modCh ch (fun s => { s with exec := none, items := [] })
  match (c.ch ch).susp with
  | none => c
  | some q =>
    let c := (c.wr SEQ_TILE_POS.TILE_INDEX q.tile.index ch).showKept ch q.req
    c.modCh ch (fun s => { s with
      exec := some q.tile, items := q.items, susp := none, reentry := q.reentry,
      req := some { q.req with sinceFresh := 0 }, granted := false, intr := .back q.x q.y (headPset q.items) F64.zero })

/-- Start a checked tile (R51, R151). -/
def Core.beginTile (c : Core) (ch : Nat) (t : BufTile) : Core :=
  let c := c.wr SEQ_TILE_POS.TILE_INDEX (if t.adopt.isSome then 0xFFFFFFFF else t.index) ch
  let c := c.recordAt ch 0
  c.modCh ch (fun s => { s with exec := some t, idle := none, items := tileItems t.bytes, underrunSeen := false,
                                ended := false, extentFault := false })

/-- The next tile is missing or not yet checked (R51). -/
def Core.waitTile (c : Core) (ch : Nat) : Core :=
  let s := c.ch ch
  let c := c.seqState ch 3
  if s.idle.isNone && s.ring.isEmpty && !s.underrunSeen && !s.listDone then
    (c.inc SEQ_TILE_POS.SEQ_UNDERRUN ch).modCh ch (fun s => { s with underrunSeen := true })
  else c

/-! ### The next record -/

/-- The focus offset of a laser-off motion: that of the MARK_LINE it leads to, or its own set's (R73). -/
def Core.jumpZ (c : Core) (ch : Nat) (next : Option Item) (own : Nat) : Int :=
  match next with
  | some (.chain k) => psZ (c.chainSet ch k)
  | _ => psZ own

/-- The chain that the next motion of a list is, where only SYNCs come before it (R62, R475). -/
def leadsTo : List Item → Option Chain
  | .chain k :: _ => some k
  | .barrier _ _ :: l => leadsTo l
  | .layerTime _ _ :: l => leadsTo l
  | _ => none

/-- A device-made motion to a point (R83, R136, R475), under a set. -/
def Core.deviceMove (c : Core) (ch : Nat) (tx ty : F64) (ps : Nat) (tenTicks : Bool) : Core :=
  let z := match leadsTo (c.ch ch).items with
    | some k => psZ (c.chainSet ch k)
    | none => psZ ps
  let c := c.modCh ch (fun s => { s with zOff := z, intr := if s.intr = .again then .nothing else s.intr })
  (c.startJump ch tx ty (setJumpSpeed ps) tenTicks false).seqState ch 1

/-- The move that the resting channel needs before the records at hand (R475): to the start of the chain they lead to, where
the spot rests elsewhere; with the set it takes (R474). A granted chain starts from where it was granted. -/
def Core.connects (c : Core) (ch : Nat) : Option (F64 × F64 × Nat) :=
  let s := c.ch ch
  match leadsTo s.items with
  | none => none
  | some k =>
    let st := (c.planOf ch k s.reentry).start
    if c.restPoint ch = st ∨ s.granted then none else some (st.1, st.2, c.chainSet ch k)

/-- Present the request of a gated record, or start it once granted; the gap tick of R61 comes first. -/
def Core.gated (c : Core) (ch : Nat) (gap : Bool) (b : Box) (start : Core → Core) : Core :=
  let s := c.ch ch
  if s.granted then (start c).seqState ch 1
  else if gap && s.prevLit && !s.gapTick then
    (c.modCh ch (fun s => { s with gapTick := true })).seqState ch 1
  else (c.present ch b).seqState ch 1

/-- Take up the next item at a boundary at which the spot rests and nothing halts it. `fuel` bounds the records that
take no tick. -/
def Core.nextItem (ch : Nat) : Nat → Core → Core
  | 0, c => c
  | fuel + 1, c =>
    let s := c.ch ch
    match s.items with
    | [] =>
      match s.exec with
      | some _ => Core.nextItem ch fuel (c.endTile ch)
      | none =>
        match c.idleReady ch with
        | some t => Core.nextItem ch fuel (c.beginTile ch t)
        | none =>
          if c.finished ch then
            (c.seqState ch 0).modCh ch (fun s => { s with ended := true })
          else c.waitTile ch
    | it :: rest =>
      let c := c.recordAt ch it.ix
      match s.intr, s.owed, c.connects ch with
      | .back x y ps _, false, _ => c.deviceMove ch x y (c.pset ch ps) true
      | i, _, some (x, y, ps) => c.deviceMove ch x y ps (i == .again)
      | _, _, none =>
        match it with
        | .endTile _ => Core.nextItem ch fuel (c.endTile ch)
        | .barrier _ id =>
          let here := (ch, id)
          let c := { c with layer := { c.layer with
            arrived := if c.layer.arrived.contains here then c.layer.arrived else c.layer.arrived ++ [here] } }
          (c.seqState ch 2).modCh ch (fun s => { s with intr := .nothing })
        | .layerTime _ t =>
          if t ≤ c.layer.elapsed then
            Core.nextItem ch fuel (c.modCh ch (fun s => { s with items := rest }))
          else c.seqState ch 2
        | .jump _ x y pset speed =>
          let c := c.vectorStart ch
          let tgt : F64 × F64 := match leadsTo rest with
            | some k => (c.planOf ch k none).start
            | none => (metres x, metres y)
          let c := c.modCh ch (fun s => { s with zOff := c.jumpZ ch rest.head? (c.pset ch pset), intr := .nothing })
          (c.startJump ch tgt.1 tgt.2 (speedMS (jumpSpeed (c.pset ch pset) speed)) true true).seqState ch 1
        | .dwell ix n laser pset power =>
          let c := if s.owed then c else c.modCh ch (fun s => { s with intr := .nothing })
          if !laser then (c.startDwell ch ix n false pset power).seqState ch 1
          else if n = 0 then
            Core.nextItem ch fuel (c.modCh ch (fun s => { s with items := rest, req := none, owed := false }))
          else
            let r := c.restPoint ch
            c.gated ch true (Box.point (nearestGrain r.1) (nearestGrain r.2))
              (fun c => c.startDwell ch ix n true pset power)
        | .chain k =>
          let p := c.planOf ch k s.reentry
          let c := c.modCh ch (fun s => { s with intr := .nothing })
          c.gated ch (p.inLen.isZero) (runBox k s.reentry) (fun c => c.startChain ch k)

/-! ### Ends of motions -/

/-- The item at the head of a channel's list is done. -/
def Core.popItem (c : Core) (ch : Nat) : Core :=
  c.modCh ch (fun s => { s with items := s.items.drop 1, reentry := none })

/-- A motion has ended: the spot rests where it ends. -/
def Core.restAt (c : Core) (ch : Nat) (x y σ : F64) : Core :=
  c.modCh ch (fun s => { s with motion := .rest, stopTrack := none, posX := x, posY := y, sigma := σ, moved := true })

/-- Where the spot rests after the chain at the head of a list (R61, R64): the end of its run-out, or its end point E. -/
def ChainPlan.restEnd (p : ChainPlan) (items : List Item) : F64 × F64 :=
  match items, p.outLen.isZero with
  | .chain k :: _, true =>
    match k.marks.getLast? with
    | some m => (metres m.x, metres m.y)
    | none => p.track.posAt p.track.total
  | _, _ => p.track.posAt p.track.total

/-- One tick of a motion; at its end the spot rests and its record is done (R61, R62). -/
def Core.advance (c : Core) (ch : Nat) : Core :=
  let s := c.ch ch
  match s.motion with
  | .rest => c
  | .jump k n σ0 ten isRec tx ty =>
    if k.endedAt (n + 1) && (!ten || decide (10 ≤ n + 1)) then
      let c := c.restAt ch tx ty (σ0.add (toGrains (k.state k.total).1))
      if isRec then c.popItem ch else c.modCh ch (fun s => { s with intr := .nothing })
    else c.modCh ch (fun s => { s with motion := .jump k (n + 1) σ0 ten isRec tx ty })
  | .chain p n σ0 b id =>
    if p.track.endedAt (n + 1) then
      let e := p.restEnd s.items
      let c := c.restAt ch e.1 e.2 ((p.sigmaS σ0).add (toGrains (p.track.state p.track.total).1))
      let c := c.modCh ch (fun s => { s with prevLit := p.outLen.isZero, chainRest := some (headPset s.items) })
      c.popItem ch
    else
      let c := c.modCh ch (fun s => { s with motion := .chain p (n + 1) σ0 b id })
      let s1 := (p.track.state (tickTime (n + 1))).1
      let ix := (p.arcs.foldl (fun (a : Nat × Bool) r => if !a.2 || r.2.1.le s1 then (r.1, true) else a) (0, false)).1
      c.recordAt ch ix
  | .dwell n total laser =>
    if total ≤ n + 1 then
      let c := c.modCh ch (fun s => { s with motion := .rest, prevLit := laser })
      c.popItem ch
    else c.modCh ch (fun s => { s with motion := .dwell (n + 1) total laser })

/-- k is latched for the marks whose start the commanded trace has reached (R100). -/
def Core.reachMarks (c : Core) (ch : Nat) : Core :=
  match (c.ch ch).motion with
  | .chain p n _ b id =>
    let s := (p.track.state (tickTime n)).1
    if s.lt F64.zero then c else c.trimReach ch id (toGrains (b.add s))
  | _ => c

/-! ### Stop in path (R81, R82) -/

/-- What is left of a DWELL with LASER_ON whose ticks a stop latched at an instant falls in, though the frames of its last
ticks have been built (R82): the DWELL with the ticks that are not done. -/
def Core.dwellLeft (c : Core) (ch : Nat) (at_ : Time) : Option LitDwell :=
  let s := c.ch ch
  match s.lit, s.fb.dwellFrom with
  | some d, some (_, t1) =>
    match d.item with
    | .dwell ix n l ps pw => if at_ < t1 then some { d with item := .dwell ix (n - s.fb.dwellDone) l ps pw } else none
    | _ => none
  | _, _ => none

/-- What is left of such a DWELL goes before everything else. -/
def Core.oweDwell (c : Core) (ch : Nat) : Core :=
  match c.dwellLeft ch (c.now - tickU) with
  | some d => c.modCh ch (fun s => { s with
      items := d.item :: s.items, owed := true, ended := false, req := none, fb := { s.fb with dwellFrom := none } })
  | none => c

/-- The stop replaces the motion: from this boundary the arc follows the time-optimal stop, and what it interrupted is
recorded (R81 to R83). A DWELL without LASER_ON goes on at the resume with the ticks left to it (DESIGN CHOICE, assumption log
49: R83 names only a DWELL with LASER_ON). After a chain's completion, at rest too, a JUMP back to its hold point is owed. -/
def Core.beginStop (c : Core) (ch : Nat) : Core :=
  let s := c.ch ch
  match s.motion with
  | .rest =>
    let c := c.oweDwell ch
    match s.chainRest, s.intr, s.ended with
    | some ps, .nothing, false =>
      let r := c.restPoint ch
      c.modCh ch (fun s => { s with intr := .back r.1 r.2 ps F64.zero })
    | _, _, _ => c
  | .jump k n σ0 _ isRec _ _ =>
    let st := planStop (c.jumpLim ch) k (tickTime (n + 1))
    let c := (c.seqState ch 4).modCh ch (fun s => { s with
      motion := .rest, stopTrack := some (st, 0, σ0),
      intr := match isRec, s.intr with
        | true, _ => .nothing
        | false, .back x y ps _ => .back x y ps F64.zero
        | false, _ => .again })
    c.oweDwell ch
  | .chain p n σ0 re id =>
    let c := c.seqState ch 4
    let st := planStop (c.jumpLim ch) p.track (tickTime (n + 1))
    let base := p.sigmaS σ0
    let arc := (p.track.state (tickTime n)).1
    if p.len.le arc then
      let e := p.track.posAt p.track.total
      let ps := headPset s.items
      let c := c.popItem ch
      let back := Interrupted.back e.1 e.2 ps (toGrains (re.add p.len))
      c.modCh ch (fun s => { s with motion := .rest, stopTrack := some (st, 0, base), intr := back })
    else
      c.modCh ch (fun s => { s with motion := .rest, stopTrack := some (st, 0, base), intr := .again, cut := some id })
  | .dwell n total laser =>
    let left := if laser then total - s.fb.dwellDone else total - (n + 1)
    let items := match s.items with
      | .dwell ix _ l ps pw :: r => .dwell ix left l ps pw :: r
      | l => l
    (c.seqState ch 4).modCh ch (fun s => { s with motion := .rest, items := items, fb := { s.fb with dwellFrom := none } })

/-- The spot has come to rest after a stop: s_off and s_re are taken (R82), and SEQ_MOTION shows them. Both are the
chain's length after a stop in its run-out (DEDUCED from the row for a failure there, R155; assumption log 25). -/
def Core.settleStop (c : Core) (ch : Nat) : Core :=
  let s := c.ch ch
  let put (c : Core) (a b : F64) : Core :=
    let at_ : Nat × Nat := match s.owed, s.lit with
      | true, some d => (d.item.ix, d.tile.index)
      | _, _ => (c.rd SEQ_TILE_POS.RECORD_INDEX ch, c.rd SEQ_TILE_POS.TILE_INDEX ch)
    let c := c.wr SEQ_MOTION.INT_RECORD at_.1 ch
    let c := c.wr SEQ_MOTION.INT_TILE at_.2 ch
    let c := c.wr SEQ_MOTION.INT_ARC (satNat 32 a.floor.toNat) ch
    c.wr SEQ_MOTION.RE_ARC (satNat 32 b.floor.toNat) ch
  match s.cut with
  | some id =>
    let old := match s.reentry with | some (a, _) => a | none => F64.zero
    let conf := if s.gat.conf.id = id then s.gat.conf.arc.mul grainM else F64.zero
    let off := F64.max old conf
    let re := F64.max F64.zero (off.sub (c.reentryM ch))
    let c := put c (toGrains off) (toGrains re)
    (c.modCh ch (fun s => { s with cut := none, reentry := some (off, re) })).seqState ch 6
  | none =>
    let a := match s.intr with | .back _ _ _ a => a | _ => F64.zero
    (put c a a).seqState ch 6

/-- One tick of a stop. -/
def Core.advanceStop (c : Core) (ch : Nat) : Core :=
  match (c.ch ch).stopTrack with
  | none => c
  | some (k, n, base) =>
    if k.endedAt (n + 1) then
      let st := k.state k.total
      let p := pathPos k.pieces st.1
      c.restAt ch p.1 p.2 (base.add (toGrains st.1))
    else c.modCh ch (fun s => { s with stopTrack := some (k, n + 1, base) })

/-- A halted channel at rest: its request is withdrawn, its state shown (R80, R83). -/
def Core.restHalted (c : Core) (ch : Nat) : Core :=
  let s := c.ch ch
  match s.halt with
  | .none => c
  | .atEnd =>
    if s.ended then c
    else
      let c := if s.req.isSome && !s.pendingBorder then c.wr BWK_STATE.STATE 0 ch else c
      c.seqState ch 5
  | .inPath =>
    if s.ended then c
    else
      let c := if s.pendingBorder then c else c.wr BWK_STATE.STATE 0 ch
      let c := c.modCh ch (fun s => { s with granted := false })
      if c.rd SEQ_MOTION.STATE ch = 6 then c else c.settleStop ch

/-- Latch a hold at end on a channel at the present boundary (R80). -/
def Core.haltAtEnd (c : Core) (ch : Nat) : Core :=
  if !c.live ch || (c.ch ch).halt != .none then c
  else c.modCh ch (fun s => { s with halt := .atEnd })

/-- Latch a stop in path on a channel at the present boundary (R81, R97): the gate goes off at once, the stop begins at
the next boundary. -/
def Core.haltInPath (c : Core) (ch : Nat) : Core :=
  if !c.live ch || (c.ch ch).halt == .inPath then c
  else
    let c := c.gateOffNow ch
    let c := c.inc SEQ_MOTION_STAT.STOPS ch
    c.modCh ch (fun s => { s with halt := .inPath, haltAt := c.ticks + 1 })

/-- Release a channel from a halt at the resume boundary (R83, R238). -/
def Core.unhalt (c : Core) (ch : Nat) : Core :=
  let c := c.modCh ch (fun s => { s with
    halt := .none, granted := if s.halt == .inPath then false else s.granted,
    req := s.req.map (fun q => { q with sinceFresh := 0 }) })
  if (c.ch ch).ended then c else c.seqState ch 1

/-! ### Yields (R135, R136) -/

/-- A channel yields when its request has waited long enough and a checked REORDERABLE tile of its own list is idle. -/
def Core.yieldDue (c : Core) (ch : Nat) : Core :=
  let s := c.ch ch
  let after := c.rd BWK_WAIT.YIELD_AFTER
  match s.req, s.idle, s.exec with
  | some q, some t, some e =>
    if after ≠ 0 ∧ after ≤ q.sinceFresh ∧ !s.granted ∧ !s.pendingBorder ∧ s.halt = .none ∧ s.susp.isNone ∧
       s.atRest ∧ c.live ch ∧ t.ck = .passed ∧ t.adopt.isNone ∧ t.layer = c.rd SEQ_LAYER_STATE.LAYER_NOW ∧
       (tileHdr t.bytes).reorderable ∧ q.ran < c.rd BWK_WAIT.YIELD_MAX then
      let r := c.restPoint ch
      let c := c.inc BWK_STAT.YIELDS ch
      let c := c.wr BWK_STATE.YIELD_RUN (q.ran + 1) ch
      let c := c.wr BWK_STATE.STATE 4 ch
      let susp : Suspended := ⟨e, s.items, { q with ran := q.ran + 1 }, r.1, r.2, s.reentry⟩
      let c := c.modCh ch (fun s => { s with susp := some susp, exec := none, items := [], req := none,
                                             reentry := none, idle := none })
      c.beginTile ch t
    else c
  | _, _, _ => c

/-! ### The sequencer's part of a tick -/

/-- Motion of one channel up to the present boundary, and the next record where the spot rests. -/
def Core.seqStep (c : Core) (ch : Nat) : Core :=
  let s := c.ch ch
  let c := if s.halt == .inPath && decide (s.haltAt ≤ c.ticks) && (s.motion != .rest || s.haltAt == c.ticks) then c.beginStop ch
    else if s.stopTrack.isSome then c.advanceStop ch
    else c.advance ch
  let s := c.ch ch
  let c := if s.atRest then
      match s.halt with
      | .none => if c.mode = .expose then Core.nextItem ch 600 c else c
      | .atEnd =>
        if s.granted then
          match s.items with
          | .chain k :: _ => (c.startChain ch k).seqState ch 1
          | .dwell ix n true ps pw :: _ => (c.startDwell ch ix n true ps pw).seqState ch 1
          | _ => c
        else c.restHalted ch
      | .inPath => if s.haltAt ≤ c.ticks then c.restHalted ch else c
    else c
  c.reachMarks ch

/-- Channels armed for the layer that have not arrived at a barrier (R39, R40). -/
def Core.notArrived (c : Core) (id : Nat) : List Nat :=
  (List.range 64).filter (fun k => bitOf c.layer.mask k && !c.failed k && !(c.ch k).ended &&
    !c.layer.arrived.contains (k, id))

/-- The barrier a channel waits at. -/
def SeqCh.barrier? (s : SeqCh) : Option Nat :=
  match s.items with
  | .barrier _ id :: _ => some id
  | _ => none

/-- Release every channel waiting at a barrier at which all have arrived, at one boundary (R39). -/
def Core.releaseBarriers : Nat → Core → Core
  | 0, c => c
  | fuel + 1, c =>
    let go := (List.range 64).filter (fun k => c.live k && (c.ch k).atRest && (c.ch k).halt == .none &&
      (match (c.ch k).barrier? with
       | some id => c.layer.arrived.contains (k, id) && (c.notArrived id).isEmpty
       | none => false))
    if go.isEmpty then c
    else
      let ids := go.filterMap (fun k => (c.ch k).barrier?)
      let c := go.foldl (fun c k =>
        (c.modCh k (fun s => { s with items := s.items.drop 1, syncWait := 0, syncPosted := false }))) c
      let c := { c with layer := { c.layer with
        arrived := c.layer.arrived.filter (fun a => !(go.contains a.1 && ids.contains a.2)) } }
      let c := go.foldl (fun c k => if c.mode = .expose then Core.nextItem k 600 c else c) c
      Core.releaseBarriers fuel c

/-- A barrier has waited longer than SYNC_TIMEOUT, counted in EXPOSE only (R40). -/
def Core.syncTimeout (c : Core) (ch : Nat) : Core :=
  let s := c.ch ch
  match s.barrier? with
  | some id =>
    if c.live ch ∧ c.layer.syncTimeout * ticksPerUs < s.syncWait ∧ !s.syncPosted then
      let mask := (c.notArrived id).foldl (fun a k => a + 2 ^ k) 0
      let c := c.forEach 64 (fun c k =>
        if (c.ch k).barrier? = some id then c.modCh k (fun s => { s with syncPosted := true }) else c)
      (c.post evSyncTimeout 0 (leBytes 4 id ++ zeros 4 ++ leBytes 8 mask) (some c.now)).raiseHold evSyncTimeout
    else c
  | none => c

/-- A tick spent waiting at a barrier in EXPOSE. -/
def Core.syncCount (c : Core) (ch : Nat) : Core :=
  if c.live ch && (c.ch ch).atRest && (c.ch ch).barrier?.isSome && c.mode = .expose && (c.ch ch).halt == .none then
    c.modCh ch (fun s => { s with syncWait := s.syncWait + 1 })
  else c

end Sys2Proof.Machine
end

