-- ==== Sys2Proof/Machine/ChannelLoss.lean ====
section
/-!
DEFINITION. Machine/ChannelLoss.lean: losing a channel and adopting its work (R143 to R156).
-/
namespace Sys2Proof.Machine

/-! ### Remaining work as units (R146) -/

/-- A whole number of grains of a length in metres, rounded down. -/
def grainsDown (x : F64) : Nat := (toGrains x).floor.toNat

/-- The origins of a chain's marks in a tile of the channel's own list: each covers its whole record. -/
def markOrigins (chan tile : Nat) : List Mark → F64 → F64 → List Origin
  | [], _, _ => []
  | m :: ms, x, y =>
    let x1 := metres m.x
    let y1 := metres m.y
    ⟨m.ix, chan, tile, m.ix, 0, grainsDown (F64.hypot (x1.sub x) (y1.sub y))⟩ :: markOrigins chan tile ms x1 y1

/-- The origins of a unit's records in a tile: given with an adoption tile, else those of the own tile. -/
def originsOf (t : BufTile) (chan : Nat) (it : Item) : List Origin :=
  match t.adopt with
  | some a => a.origins
  | none =>
    match it with
    | .chain k => markOrigins chan t.index k.marks (metres k.sx) (metres k.sy)
    | .dwell ix n _ _ _ => [⟨ix, chan, t.index, ix, 0, n⟩]
    | _ => []

/-- The point an item leaves the spot at, as the records fix it. -/
def Item.endPoint (it : Item) (p : Int × Int) : Int × Int :=
  match it with
  | .jump _ x y _ _ => (x, y)
  | .chain k => match k.marks.getLast? with | some m => (m.x, m.y) | none => (k.sx, k.sy)
  | _ => p

/-- The units among a tile's items (R146); JUMPs, DWELLs without LASER_ON and SYNCs are dropped. -/
def unitsOfItems (t : BufTile) (chan : Nat) : List Item → Int × Int → List AUnit
  | [], _ => []
  | it :: l, p =>
    let rest := unitsOfItems t chan l (it.endPoint p)
    let mk (x y : Int) : AUnit :=
      let o := originsOf t chan it
      ⟨(o.head?.map Origin.srcChan).getD chan, (o.head?.map Origin.srcTile).getD t.index, (tileHdr t.bytes).planSeq,
       it, x, y, o⟩
    match it with
    | .chain k => mk k.sx k.sy :: rest
    | .dwell _ n laser _ _ => if laser && n != 0 then mk p.1 p.2 :: rest else rest
    | _ => rest

/-- The units of a whole tile. -/
def unitsOfTile (t : BufTile) (chan : Nat) : List AUnit := unitsOfItems t chan (tileItems t.bytes) (0, 0)

/-- A profile cut by `cut` grains of its mark, which is `len` grains long and leaves `left` (R150): the mark's power and
ramps as rewritten. What is left of the ramp-in is rounded down, and where the rounded re-entry point leaves less room beside
the ramp-out it is no longer than that room (DEDUCED from "always fits its MARK_LINE", assumption log 49). -/
def cutProfile (power : Nat) (r : Option Ramps) (len : Nat) (cut : F64) (left : Nat) : Nat × Option Ramps :=
  match r with
  | none => (power, none)
  | some q =>
    let d := cut.floor.toNat
    let sc := (scaleAt power (some q) len d).toNat
    if len - q.lout ≤ d ∧ q.lout ≠ 0 then
      let lo := min q.lout left
      (max 1 sc, if lo = 0 then none else some ⟨0, lo, 0, q.stop⟩)
    else
      let li := min ((F64.ofNat q.lin).sub cut).floor.toNat (left - q.lout)
      if li = 0 ∧ q.lout = 0 then (power, none)
      else (power, some ⟨li, q.lout, if li = 0 then 0 else sc, q.stop⟩)

/-- The arc in metres at which the segment of a chain that holds `sre` starts, and its length. -/
def segAtGo : List Mark → F64 → F64 → F64 → F64 → F64 × F64
  | [], _, _, s0, _ => (s0, F64.zero)
  | m :: ms, x, y, s0, sre =>
    let x1 := metres m.x
    let y1 := metres m.y
    let len := F64.hypot (x1.sub x) (y1.sub y)
    if sre.lt (s0.add len) || ms.isEmpty then (s0, len) else segAtGo ms x1 y1 (s0.add len) sre

/-- A unit cut at a re-entry arc (R145, R150). -/
def cutUnit (u : AUnit) (sre : F64) : AUnit :=
  match u.item with
  | .chain k =>
    if sre.isZero then u
    else
      let f := runForm k (some (sre, sre))
      match f.2.1 with
      | [] => u
      | m :: ms =>
        let sg := segAtGo k.marks (metres k.sx) (metres k.sy) F64.zero sre
        let d := grainsDown (sre.sub sg.1)
        let left := grainsDown (F64.hypot ((metres m.x).sub (metres f.1.1)) ((metres m.y).sub (metres f.1.2)))
        let cp := cutProfile m.power m.ramps (grainsDown sg.2) (toGrains (sre.sub sg.1)) left
        let m' : Mark := { m with power := cp.1, ramps := cp.2 }
        { u with item := .chain { k with ix := m.ix, sx := f.1.1, sy := f.1.2, marks := m' :: ms, afterDwell := false },
                 x := f.1.1, y := f.1.2,
                 origins := u.origins.map (fun o => if o.ix = m.ix then { o with from_ := o.from_ + d } else o) }
  | _ => u

/-- The tiles of a list from an index on: index and address (R44). -/
def listTail (addr first count : Nat) : List (Nat × Nat) :=
  (List.range (count - first)).map (fun i => (first + i, addr + 4096 * (first + i)))

/-- Plan order of units (R146): TILE_PLAN_SEQ, then source channel, then tile index; within a tile, as they come. -/
def AUnit.before (a b : AUnit) : Bool :=
  if a.planSeq = b.planSeq then
    if a.srcChan = b.srcChan then decide (a.srcTile < b.srcTile) else decide (a.srcChan < b.srcChan)
  else decide (a.planSeq < b.planSeq)

/-- Put a unit behind every unit that is not after it: the order is stable. -/
def insertUnit (a : AUnit) : List AUnit → List AUnit
  | [] => [a]
  | b :: l => if a.before b then a :: b :: l else b :: insertUnit a l

def sortUnits (l : List AUnit) : List AUnit := l.foldl (fun acc a => insertUnit a acc) []

/-! ### Declaration (R143 to R146) -/

/-- A tile with work left in a channel: the items left, the re-entry of the first, and the point from which they go. -/
structure HeldTile where
  tile : BufTile
  items : List Item
  reentry : Option F64
  x : F64
  y : F64
  deriving DecidableEq, Repr

/-- A whole tile not begun. -/
def HeldTile.whole (t : BufTile) : HeldTile := ⟨t, tileItems t.bytes, none, F64.zero, F64.zero⟩

/-- An own tile in the idle half whose check has not passed waits for a re-read; its bytes are not to be trusted, nor are
those of a ring tile with a poisoned word: their vectors are read from DRAM (DESIGN CHOICE, assumption log 49: R51 and R146 do
not say which copy gives them). -/
def BufTile.unsound (t : BufTile) : Bool := t.adopt.isNone && t.ck != .passed

/-- The tiles of a channel that have begun or wait in its buffer, with what is left of each: first a DWELL with LASER_ON whose
last ticks a failure at the present boundary still falls in. -/
def Core.heldTiles (c : Core) (ch : Nat) : List HeldTile :=
  let s := c.ch ch
  let now := c.rd SEQ_LAYER_STATE.LAYER_NOW
  let lit := match s.motion, c.dwellLeft ch c.now with
    | .dwell _ _ true, _ => []
    | _, some d => [⟨d.tile, [d.item], none, d.x, d.y⟩]
    | _, none => []
  let r := c.restPoint ch
  let ex := match s.exec with | some t => [⟨t, s.items, s.reentry.map Prod.snd, r.1, r.2⟩] | none => []
  let su := match s.susp with | some q => [⟨q.tile, q.items, q.reentry.map Prod.snd, q.x, q.y⟩] | none => []
  let id := match s.idle with
    | some t => if t.unsound || (t.adopt.isNone && t.layer != now) then [] else [HeldTile.whole t]
    | none => []
  let aq := s.adoptQ.map (fun q => HeldTile.whole ⟨now, 0xFFFFFFFF, q.bytes, false, .waiting, some q.info⟩)
  let rg := (s.ring.filter (fun r => r.layer == now && !r.poisoned)).map
    (fun r => HeldTile.whole ⟨r.layer, r.index, r.bytes, false, .waiting, none⟩)
  lit ++ ex ++ su ++ id ++ aq ++ rg

/-- The remaining work of a channel that is in the device (R146). -/
def Core.unitsHeld (c : Core) (ch : Nat) : List AUnit :=
  (c.heldTiles ch).flatMap (fun q =>
    let us := unitsOfItems q.tile ch q.items (nearestGrain q.x, nearestGrain q.y)
    match q.reentry, q.items, us with
    | some sre, .chain _ :: _, u :: rest => cutUnit u sre :: rest
    | _, _, _ => us)

/-- The tiles of a channel's list whose vectors are read from DRAM: index and address (R44, R146). -/
def Core.unreadTiles (c : Core) (ch : Nat) : List (Nat × Nat) :=
  let s := c.ch ch
  let now := c.rd SEQ_LAYER_STATE.LAYER_NOW
  let ring := s.ring.filter (fun r => r.layer == now)
  let bad := (match s.idle with | some t => if t.unsound && t.layer == now then [t.index] else [] | none => []) ++
    (ring.filter RingTile.poisoned).map RingTile.index
  bad.map (fun i => (i, s.listAddr + 4096 * i)) ++ listTail s.listAddr (s.moveNext + ring.length) s.listCount

/-- Own tiles of a channel not yet begun (R148). -/
def Core.notBegun (c : Core) (ch : Nat) : Nat :=
  let s := c.ch ch
  s.listCount - s.moveNext +
  (match s.idle with
   | some t => if t.adopt.isNone ∧ t.layer = c.rd SEQ_LAYER_STATE.LAYER_NOW then 1 else 0
   | none => 0)

/-- Adoption tiles of a channel still queued (R148). -/
def Core.adoptWaiting (c : Core) (ch : Nat) : Nat :=
  let s := c.ch ch
  s.adoptQ.length + (match s.idle with | some t => b2n t.adopt.isSome | none => 0)

/-- The adoption tiles a failing channel holds pass on: their losses no longer wait for them (R153). -/
def Core.passOn (c : Core) (ch : Nat) : Core :=
  (c.heldTiles ch).foldl (fun c q =>
    match q.tile.adopt with
    | some a => { c with losses := c.losses.map (fun l => if l.chan = a.loss then { l with out := l.out - 1 } else l) }
    | none => c) c

/-- Clear ADP_REPORT and ADP_RESIDUE of a channel. -/
def Core.clearReport (c : Core) (ch : Nat) : Core :=
  let c := Obj.ADP_REPORT.fields.foldl (fun c f => c.wr f 0 ch) c
  Obj.ADP_RESIDUE.fields.foldl (fun c f => c.wr f 0 ch) c

/-- A new loss enters the list; an earlier loss of the same channel is overwritten. -/
def Core.addLoss (c : Core) (ch cause : Nat) (units : List AUnit) (unread : List (Nat × Nat)) : Core :=
  let l : Loss :=
    { chan := ch, layer := c.rd SEQ_LAYER_STATE.LAYER_NOW, failTime := c.now, cause := cause, tick := c.ticks, begun := false,
      planned := false,
      units := units, unread := unread,
      nOwn := (List.range 64).map c.notBegun, nAdopt := (List.range 64).map c.adoptWaiting,
      cands := (List.range 64).filter (fun a => a != ch && c.live a && (c.ch a).susp.isNone), out := 0 }
  let c := c.wr ADP_REPORT.CAUSE cause ch
  let c := c.wr ADP_REPORT.LAYER l.layer ch
  let c := c.wr ADP_REPORT.FAIL_SEC (timeSec c.now) ch
  let c := c.wr ADP_REPORT.FAIL_NS (timeNs c.now) ch
  let c := c.wr ADP_STATE.STATE 1 ch
  let c := { c with losses := c.losses.filter (fun (x : Loss) => x.chan != ch) ++ [l] }
  c.post evChannelLost ch
    (leBytes 2 (c.globalCh ch) ++ leBytes 1 cause ++ zeros 1 ++ leBytes 4 l.layer) (some c.now)

/-- The arc, in grains, that the latest chain is predicted to have exposed past what is confirmed, with its gate still on at the
present boundary (R145). A lit DWELL that has started since has no arc. -/
def Core.unconfirmed (c : Core) (ch : Nat) : F64 :=
  let g := (c.ch ch).gat
  if c.flag GAT_STATE.GATE ch && g.conf.id + 1 == g.nextId then
    F64.max F64.zero ((g.conf.arcOf (c.sigmaAt ch F64.zero)).sub g.conf.arc)
  else F64.zero

/-- The arcs a failure divides exposure at (R145): s_off, s_re and UNCONF_LEN in grains, and whether a chain is
interrupted. -/
def Core.divide (c : Core) (ch : Nat) : F64 × F64 × F64 × Bool :=
  let s := c.ch ch
  let conf := s.gat.conf
  let old := match s.reentry with | some (a, _) => a | none => F64.zero
  let un := c.unconfirmed ch
  let cutAt (id : Nat) : F64 × F64 × F64 × Bool :=
    let off := F64.max old (if conf.id = id then conf.arc.mul grainM else F64.zero)
    let re := F64.max F64.zero (off.sub (c.reentryM ch))
    (toGrains off, toGrains re, un, true)
  match s.motion, s.cut with
  | .chain p n _ b id, _ =>
    if p.len.le (p.track.state (p.track.timeAt (n + 1))).1 then
      let l := toGrains (b.add p.len)
      (l, l, un, true)
    else cutAt id
  | _, some id => cutAt id
  | _, none =>
    match s.reentry, s.items with
    | some (a, r), .chain _ :: _ => (toGrains a, toGrains r, un, true)
    | _, _ => (F64.zero, F64.zero, un, false)

/-- The chain in progress has reached its run-out: it is done (R145). -/
def Core.chainDone (c : Core) (ch : Nat) : Bool :=
  match (c.ch ch).motion with
  | .chain p n _ _ _ => p.len.le (p.track.state (p.track.timeAt (n + 1))).1
  | _ => false

/-- RESIDENT of a channel (object 0x7103). -/
def Core.resident (c : Core) (ch : Nat) : Core := c.wr VST_STATE.RESIDENT (satNat 9 (c.ch ch).ring.length) ch

/-- A channel that fails gives up every tile prefetched for it: those in its ring, and the one that waits in its buffer (R51,
R52, R155). -/
def Core.giveUpTiles (c : Core) (ch : Nat) : Core :=
  (c.modCh ch (fun s => { s with ring := [], fetchAt := none, idle := none })).resident ch

/-- Whatever a channel had under way is dropped, and the spot stays at its present position. -/
def SeqCh.dropWork (s : SeqCh) (p : F64 × F64 × F64) : SeqCh :=
  { s with
    motion := .rest, stopTrack := none, posX := p.1, posY := p.2.1, sigma := p.2.2, moved := true,
    exec := none, susp := none, adoptQ := [], items := [], req := none, granted := false, reentry := none, cut := none,
    intr := .nothing, chainRest := none, owed := false, lit := none, prevLit := false, gapTick := false,
    fb := { s.fb with dwellFrom := none },
    moveNext := s.listCount, ended := true }

/-- What a failure makes of the sequencer: it stops at once at its present position and gives up its tiles (R144). -/
def Core.stopFailed (c : Core) (ch : Nat) : Core :=
  let p := c.posNow ch
  let c := c.modCh ch (fun s => let s := s.dropWork p
    { s with rfx := { s.rfx with dead := true } })
  let c := (c.giveUpTiles ch).seqState ch 0
  let c := (c.wr BWK_STATE.STATE 0 ch).clearWait ch
  c.wr ADP_STATE.QUEUED 0 ch

/-- Another condition latched at the boundary of the declaration has a lower code: CAUSE, and the CHANNEL_LOST that waits to be
posted, take it (R143, R153). -/
def Core.lowerCause (c : Core) (ch cause : Nat) : Core :=
  let c := { c with
    losses := c.losses.map (fun (l : Loss) => if l.chan = ch then { l with cause := cause } else l) }
  let c := { c with
    events := c.events.map (fun (e : Ev) => if e.code = evChannelLost ∧ e.inst = ch ∧ e.tick = c.ticks then
      { e with data := e.data.take 2 ++ leBytes 1 cause ++ e.data.drop 3 } else e) }
  c.wr ADP_REPORT.CAUSE cause ch

/-- Declare a channel failed at the present boundary (R143 to R146). Of several conditions at one boundary, the lowest
code is kept. -/
def Core.declareFailed (c : Core) (ch cause : Nat) : Core :=
  if c.failed ch then
    if c.losses.any (fun l => l.chan == ch && l.tick == c.ticks && decide (cause < l.cause)) then c.lowerCause ch cause
    else c
  else if !c.live ch then
    if cause = 4 then
      let c := c.clearReport ch
      let c := c.wr ADP_REPORT.INT_TILE 0xFFFFFFFF ch
      (c.addLoss ch cause [] []).giveUpTiles ch
    else c
  else
    let d := c.divide ch
    let done := c.chainDone ch
    let left := (c.ch ch).fb.dwellDone
    let c := match (c.ch ch).motion with
      | .dwell _ total true => c.modCh ch (fun s => { s with items := match s.items with
          | .dwell ix _ l ps pw :: r => .dwell ix (total - left) l ps pw :: r
          | l => l })
      | .chain _ _ _ _ _ => if done then c.popItem ch
          else c.modCh ch (fun s => { s with reentry := some (d.1.mul grainM, d.2.1.mul grainM) })
      | _ => match (c.ch ch).cut with
        | some _ => c.modCh ch (fun s => { s with reentry := some (d.1.mul grainM, d.2.1.mul grainM) })
        | none => c
    let units := c.unitsHeld ch
    let s := c.ch ch
    let unread := c.unreadTiles ch
    let intTile := if d.2.2.2 then c.rd SEQ_TILE_POS.TILE_INDEX ch else 0xFFFFFFFF
    let intRec := if d.2.2.2 then c.rd SEQ_TILE_POS.RECORD_INDEX ch else 0
    let intRec := match d.2.2.2, s.items with
      | true, .chain k :: _ => if done then intRec else (k.marks.head?.map Mark.ix).getD intRec
      | _, _ => intRec
    let c := c.clearReport ch
    let c := c.passOn ch
    let c := c.gateOffNow ch
    let c := c.releaseBorder ch
    let c := c.addLoss ch cause units unread
    let c := c.stopFailed ch
    let c := c.wr ADP_REPORT.INT_TILE intTile ch
    let c := c.wr ADP_REPORT.INT_RECORD intRec ch
    let c := c.wr ADP_REPORT.CONF_ARC (satNat 32 d.1.floor.toNat) ch
    let c := c.wr ADP_REPORT.RE_ARC (satNat 32 d.2.1.floor.toNat) ch
    c.wr ADP_REPORT.UNCONF_LEN (satNat 32 d.2.2.1.ceil.toNat) ch

/-- At its layer's tide mark a failed channel's whole list becomes remaining work, with CAUSE 5 (R155). -/
def Core.carryLoss (c : Core) (ch : Nat) (unread : List (Nat × Nat)) : Core :=
  let c := (c.clearReport ch).addLoss ch 5 [] unread
  c.wr ADP_REPORT.INT_TILE 0xFFFFFFFF ch

/-- Following error (R90): FE_TICKS consecutive samples beyond a limit. -/
def Core.followingError (c : Core) (ch : Nat) : Core :=
  if c.live ch && decide (c.rd GAT_CONFIG.FE_TICKS ch ≤ (c.ch ch).fb.feRun) && (c.ch ch).fb.feRun != 0 then
    c.declareFailed ch 3
  else c

/-- Gate-level mismatch on two consecutive samples (R102). -/
def Core.gateMismatch (c : Core) (ch : Nat) : Core :=
  if c.live ch && decide (2 ≤ (c.ch ch).fb.mismatchRun) then
    (c.inc GAT_STAT.MISMATCH ch).declareFailed ch 2
  else c

/-- The fourth consecutive missing tick acknowledgement declares every armed channel of the node failed (R143, R172). -/
def Core.ackLost (c : Core) (port : Nat) : Core :=
  if 4 ≤ (c.port port).missRun then c.forEach 4 (fun c k => if c.live (4 * port + k) then c.declareFailed (4 * port + k) 1 else c)
  else c

/-! ### Choosing the adopter (R147, R148) -/

/-- The records of a unit, without its JUMP (R150). -/
def recsOfMarks : List Mark → List VRec
  | [] => []
  | m :: ms =>
    let prof : List VRec := match m.ramps with
      | some r => [⟨opProfile, 0, 0, r.lin, r.lout, r.start, r.stop⟩]
      | none => []
    prof ++ [⟨opMark, (if ms.isEmpty then 0 else 2) + (if m.noSky then 4 else 0), m.pset, m.x, m.y, m.power, m.speed⟩] ++
      recsOfMarks ms

def AUnit.recs (u : AUnit) : List VRec :=
  match u.item with
  | .chain k => recsOfMarks k.marks
  | .dwell _ n _ ps pw => [⟨opDwell, 1, ps, n, 0, pw, 0⟩]
  | _ => []

/-- The original record indexes of a unit's records, in order; a profile has none. -/
def AUnit.recIx (u : AUnit) : List (Option Nat) :=
  match u.item with
  | .chain k => k.marks.flatMap (fun m => (if m.ramps.isSome then [none] else []) ++ [some m.ix])
  | .dwell ix _ _ _ _ => [some ix]
  | _ => []

/-- The set a unit's JUMP names (R474). "The first record of the unit" is taken as its first MARK_LINE or DWELL, also where a
POWER_PROFILE, whose VR_PSET is 0 (R33), stands before it (DESIGN CHOICE, assumption log 49). -/
def AUnit.pset (u : AUnit) : Nat :=
  match u.item with
  | .chain k => (k.marks.head?.map Mark.pset).getD 0
  | .dwell _ _ _ ps _ => ps
  | _ => 0

/-- Channel `a` is a candidate for a unit of a loss (R147). -/
def Core.candidate (c : Core) (l : Loss) (u : AUnit) (a : Nat) : Bool :=
  let e := c.tileEnv a l.layer none
  let rs := startPoints u.recs (some (u.x, u.y))
  let inRegion := !e.borderEn || (e.inRegion u.x u.y && u.recs.all (fun r => !r.isMark || e.inRegion r.a r.b))
  bitOf (c.rd ADP_CONFIG.ADOPT_MASK l.chan) a && c.flag ADP_CONFIG.ADOPT_EN l.chan &&
  l.cands.contains a && !c.failed a && inRegion &&
  e.covers u.x u.y &&
  (rs.all (fun q =>
    !badPset e q.1 && !badMaxLen e q.1 q.2 && !badSpeed e q.1 &&
    (q.1.op == opProfile || !badRate e q.1 q.2) && (!q.1.isMark || e.covers q.1.a q.1.b))) &&
  (firstBad (fun r _ n => badPower e r n) rs 0).isNone

/-- The candidate with the least R_a + A_a; ties to the lower channel (R148). -/
def pickLeast (load : Nat → Nat) : List Nat → Option Nat
  | [] => none
  | a :: l =>
    match pickLeast load l with
    | some b => if load a ≤ load b then some a else some b
    | none => some a

/-- An adoption tile being built (R150). -/
structure Building where
  adopter : Nat
  srcChan : Nat
  srcTile : Nat
  planSeq : Nat
  recs : List VRec
  origins : List Origin
  deriving DecidableEq, Repr

/-- The 16 bytes of a record (R32). -/
def vrecBytes (r : VRec) : Bytes :=
  leBytes 1 r.op ++ leBytes 1 r.flags ++ leBytes 2 r.pset ++ leBytes 4 (ofSigned 32 r.a) ++
  leBytes 4 (ofSigned 32 r.b) ++ leBytes 2 r.power ++ leBytes 2 r.speed

/-- The bytes of an adoption tile (R28 to R32, R150). -/
def Building.bytes (b : Building) (layer : Nat) : Bytes :=
  let rs := b.recs ++ [⟨opEnd, 0, 0, 0, 0, 0, 0⟩]
  let head := leBytes 1 0xA5 ++ leBytes 1 1 ++ leBytes 1 b.adopter ++ leBytes 1 2 ++ leBytes 4 b.planSeq ++
    leBytes 4 layer ++ leBytes 2 rs.length ++ zeros 2
  let body := padTo 4080 (head ++ rs.flatMap vrecBytes)
  body ++ leBytes 4 (crc32c body) ++ zeros 12

/-- A unit's records with its JUMP. -/
def AUnit.withJump (u : AUnit) : List VRec := ⟨opJump, 0, u.pset, u.x, u.y, 0, 0x8000⟩ :: u.recs

/-- The origins of a unit's records placed from record `n` on. -/
def AUnit.placed (u : AUnit) (n : Nat) : List Origin :=
  ((u.recIx.zip (List.range u.recIx.length)).filterMap (fun q =>
    match q.1 with
    | some ix => (u.origins.find? (fun o => o.ix == ix)).map (fun o => { o with ix := n + 1 + q.2 })
    | none => none))

/-- Planning in progress: tiles built, open and closed, and units that found no candidate. -/
structure Planning where
  tiles : List Building
  residue : List AUnit
  adopted : Nat
  deriving DecidableEq, Repr

/-- Assign one unit (R148, R150). -/
def Core.assign (c : Core) (l : Loss) (p : Planning) (u : AUnit) : Planning :=
  let cands := (List.range 64).filter (c.candidate l u)
  let load (a : Nat) : Nat :=
    l.nOwn.getD a 0 + l.nAdopt.getD a 0 + (p.tiles.filter (fun b => b.adopter == a)).length
  match pickLeast load cands with
  | none => { p with residue := p.residue ++ [u] }
  | some a =>
    let rs := u.withJump
    let fresh : Building := ⟨a, u.srcChan, u.srcTile, u.planSeq, rs, u.placed 0⟩
    let same (b : Building) : Bool :=
      b.adopter == a && b.srcChan == u.srcChan && b.srcTile == u.srcTile && b.planSeq == u.planSeq
    match (p.tiles.reverse.find? same) with
    | some b =>
      if b.recs.length + rs.length ≤ 253 then
        let b' := { b with recs := b.recs ++ rs, origins := b.origins ++ u.placed b.recs.length }
        { p with tiles := p.tiles.map (fun x => if x = b then b' else x), adopted := p.adopted + 1 }
      else { p with tiles := p.tiles ++ [fresh], adopted := p.adopted + 1 }
    | none => { p with tiles := p.tiles ++ [fresh], adopted := p.adopted + 1 }

/-! ### Residue (R152) -/

/-- The residue entries of a unit: tile, record, source, kind, from, to. -/
def AUnit.entries (u : AUnit) : List Bytes :=
  let kind := match u.item with | .dwell _ _ _ _ _ => 1 | _ => 0
  let upto_ (o : Origin) : Nat := match u.item with | .dwell _ n _ _ _ => n | _ => o.upto
  let ixs := u.recIx.filterMap id
  (ixs.filterMap (fun ix => u.origins.find? (fun o => o.ix == ix))).map (fun o =>
    leBytes 4 o.srcTile ++ leBytes 1 o.srcRec ++ leBytes 1 o.srcChan ++ leBytes 1 kind ++ zeros 1 ++
    leBytes 4 (if kind = 1 then 0 else o.from_) ++ leBytes 4 (upto_ o))

/-- Write one entry of a loss to the residue area, or count it (R152). -/
def Core.residueEntry (c : Core) (ch : Nat) (e : Bytes) : Core :=
  let c := if c.rd ADP_RESIDUE.RES_COUNT ch = 0 then c.wr ADP_RESIDUE.RES_FIRST c.resWrite ch else c
  let c := c.inc ADP_RESIDUE.RES_COUNT ch
  if c.resWrite < c.rd ADP_POLICY.RES_SIZE then
    let c := c.dramWrite (c.rd ADP_POLICY.RES_ADDR + 16 * c.resWrite) e
    { c with resWrite := c.resWrite + 1 }
  else c.inc ADP_RESIDUE.RES_OVERFLOW ch

/-! ### Planning and completion (R150, R151, R153) -/

/-- The tile at an address as a tile of a channel's list. -/
def Core.tileFromDram (c : Core) (m : Mem) (layer : Nat) (q : Nat × Nat) : BufTile :=
  ⟨layer, q.1, c.dramRead m q.2 4096, false, .waiting, none⟩

/-- Plan a loss whole: every unit assigned or listed (R153). -/
def Core.planLoss (c : Core) (m : Mem) (l : Loss) : Core :=
  let more := l.unread.flatMap (fun q => unitsOfTile (c.tileFromDram m l.layer q) l.chan)
  let units := sortUnits (l.units ++ more)
  let p := units.foldl (c.assign l) ⟨[], [], 0⟩
  let c := p.tiles.foldl (fun c b =>
    let t : AdoptTile := ⟨b.bytes l.layer, ⟨l.chan, b.origins⟩⟩
    let c := c.modCh b.adopter (fun s => { s with adoptQ := s.adoptQ ++ [t], ended := false })
    let c := c.wr ADP_STATE.QUEUED (satNat 16 (c.ch b.adopter).adoptQ.length) b.adopter
    c.wr ADP_REPORT.ADOPTERS (c.rd ADP_REPORT.ADOPTERS l.chan ||| 2 ^ b.adopter) l.chan) c
  let c := (p.residue.flatMap AUnit.entries).foldl (fun c e => c.residueEntry l.chan e) c
  let c := c.wr ADP_REPORT.CHAINS_ADOPTED p.adopted l.chan
  let c := c.wr ADP_REPORT.CHAINS_RESIDUE p.residue.length l.chan
  let c := c.wr ADP_REPORT.TILES_BUILT p.tiles.length l.chan
  let c := c.wr ADP_STATE.STATE 2 l.chan
  { c with losses := c.losses.map (fun x =>
      if x.chan = l.chan then { x with planned := true, units := [], unread := [], out := p.tiles.length } else x) }

/-- The loss that the pilot plans next: losses are planned in the order declared, lowest channel first at one boundary, each
from the first control tick boundary after its declaration on (R150). -/
def Core.nextLoss (c : Core) : Option Loss :=
  match c.losses.find? (fun l => !l.planned) with
  | some l => if l.begun then some l else none
  | none => none

/-- The pilot completes the planning of one loss. -/
def Core.planFirst (c : Core) (m : Mem) : Core :=
  match c.nextLoss with
  | some l => c.planLoss m l
  | none => c

/-- A control tick boundary: losses declared before it may be planned (R150). -/
def Core.planBegin (c : Core) : Core :=
  { c with
    losses := c.losses.map (fun (l : Loss) => if l.tick < c.ticks then { l with begun := true } else l) }

/-- Adoption of a loss completes (R153). -/
def Core.adoptionDone (c : Core) (ch : Nat) : Core :=
  match c.losses.find? (fun l => l.chan == ch) with
  | some l =>
    if l.planned ∧ l.out = 0 ∧ c.rd ADP_STATE.STATE ch = 2 then
      let c := c.wr ADP_STATE.STATE 3 ch
      let c := c.setFlag ADP_REPORT.DONE true ch
      c.post evAdoptionDone ch
        (leBytes 2 (c.globalCh ch) ++ zeros 2 ++ leBytes 4 (c.rd ADP_REPORT.CHAINS_ADOPTED ch) ++
         leBytes 4 (c.rd ADP_REPORT.CHAINS_RESIDUE ch) ++ leBytes 4 (c.rd ADP_RESIDUE.RES_COUNT ch))
    else c
  | none => c

/-- Losses for which no adoption tile is built complete in the control tick, planning and adoption (R153): nothing remains, or
everything goes to the residue. `fuel` bounds them. -/
def Core.planEmpty (m : Mem) : Nat → Core → Core
  | 0, c => c
  | fuel + 1, c =>
    match c.nextLoss with
    | none => c
    | some l =>
      let d := c.planLoss m l
      if d.losses.any (fun x => x.chan == l.chan && x.out == 0) then Core.planEmpty m fuel (d.adoptionDone l.chan) else c

/-- Return a failed channel to service (R156). -/
def Core.restore (c : Core) (ch : Nat) : Core :=
  let c := c.clearReport ch
  let c := (c.wr ADP_STATE.STATE 0 ch).modCh ch (fun s => { s with restored := true })
  { c with losses := c.losses.filter (fun l => l.chan != ch) }

end Sys2Proof.Machine
end

