-- ==== Sys2Proof/Machine/Fabric.lean ====
section
/-!
DEFINITION. Machine/Fabric.lean: the Strand ports (R157 to R197): reception of frames and link management sets, bring-up,
Neap, node configuration, enumeration, tick frames and bells.
-/
namespace Sys2Proof.Machine

def Core.modPort (c : Core) (p : Nat) (f : Port → Port) : Core := c.setPort p (f (c.port p))

/-- Ports of R22: 0 to 15 head, 16 and 17 aux, 18 to 20 link. -/
def isHead (p : Nat) : Bool := decide (p < 16)
def isAux (p : Nat) : Bool := p == 16 || p == 17
/-- Data lanes of a port (R157). -/
def laneCount (p : Nat) : Nat := if isAux p then 1 else 2
def lanesOf (p : Nat) : List Nat := List.range (laneCount p)

/-- The address of the first chain position of an aux port (R192). -/
def Core.chainBase (c : Core) (p : Nat) : Nat := c.cascId * 4096 + (if p = 16 then 0x010 else 0x090)
/-- The first relay-extended address (R192). -/
def Core.extBase (c : Core) : Nat := c.cascId * 4096 + 0x110
/-- The node that a port's own control frames go to. -/
def Core.firstNode (c : Core) (p : Nat) : Nat := if isAux p then c.chainBase p else c.headAddr p

/-! ### Reception of frames (R164, R166, R179) -/

/-- The payload length that R164 gives an upstream or link frame. -/
def frameLenOk (ftype : Nat) (b : Bytes) : Bool :=
  let n := b.length
  if ftype = 0x81 then n == 52
  else if ftype = 0x83 then n == 4
  else if ftype = 0x84 then decide (4 ≤ n) && n == 4 + 4 * fieldLE b 2 2 && decide (1 ≤ fieldLE b 2 2) &&
    decide (fieldLE b 2 2 ≤ 64)
  else if ftype = 0x85 then n == 8
  else if ftype = 0x86 then decide (4 ≤ n) && decide (n ≤ 260) && n == 4 + fieldLE b 2 2
  else if ftype = 0x87 then decide (4 ≤ n) && decide (n ≤ 512)
  else if ftype = 0x88 then n == 16
  else if ftype = 0x41 then n % 44 == 0 && decide (44 ≤ n) && decide (n ≤ 44 * 23)
  else if ftype = 0x42 ∨ ftype = 0x43 then n % 4 == 0 && decide (4 ≤ n) && decide (n ≤ 1024)
  else if ftype = 0x50 ∨ ftype = 0x53 ∨ ftype = 0x54 ∨ ftype = 0x56 ∨ ftype = 0x59 ∨ ftype = 0x5A then n == 8
  else if ftype = 0x51 then n == 260
  else if ftype = 0x52 then decide (4 ≤ n) && n == 4 + fieldLE b 2 2
  else if ftype = 0x55 then decide (8 ≤ n) && decide (n ≤ 4104)
  else if ftype = 0x58 ∨ ftype = 0x5B then n == 4
  else true

/-- A TICK_UP's reserved fields are zero and its stamps within ±50 ns (R86, R170). -/
def tickUpOk (b : Bytes) : Bool :=
  decide (fieldLE b 0 1 < 64) && fieldLE b 2 2 == 0 &&
  (List.range 4).all (fun k => decide (fieldLE b (15 + 12 * k) 1 < 16))

/-- Reserved bits of a border request's entry, 44 bytes each (R196). -/
def borderReqOk (b : Bytes) : Bool :=
  (List.range (b.length / 44)).all (fun i => decide (fieldLE b (44 * i + 8) 1 < 2) && allZero (slice b (44 * i + 9) 3))

/-- A TWN_INPUT's kind, length and reserved fields (R332). -/
def twinInputOk (b : Bytes) : Bool :=
  let n := b.length - 4
  fieldLE b 1 1 == 0 &&
  (match fieldLE b 0 1 with
   | 0 => n == 64
   | 1 => n == 4 && decide (fieldLE b 6 1 < 2) && fieldLE b 7 1 == 0
   | 2 => n == 4 && allZero (slice b 5 3)
   | 3 => n == 24 && (fieldLE b 4 1 == 1 || fieldLE b 4 1 == 2) && fieldLE b 6 2 == 0 && allZero (slice b 24 4)
   | _ => false)

/-- The reserved fields and reserved values of a frame's payload, which R166 makes a receiver discard it for (R4). -/
def frameBodyOk (ftype : Nat) (b : Bytes) : Bool :=
  match ftype with
  | 0x81 => tickUpOk b
  | 0x85 => decide (fieldLE b 5 1 < 2) && fieldLE b 6 2 == 0
  | 0x86 => fieldLE b 1 1 / 4 % 4 == 0 && decide (fieldLE b 0 1 < 4) && decide (fieldLE b 1 1 / 16 < 5)
  | 0x41 => borderReqOk b
  | 0x42 => (List.range (b.length / 4)).all (fun i => decide (fieldLE b (4 * i + 2) 2 < 2))
  | 0x50 => decide (fieldLE b 0 1 < 2) && decide (fieldLE b 1 1 < 4) && decide (fieldLE b 2 1 < 4) && fieldLE b 6 2 == 0
  | 0x51 => fieldLE b 2 2 == 0
  | 0x52 => twinInputOk b
  | 0x53 => fieldLE b 4 4 == 0
  | 0x54 => fieldLE b 4 4 == 0
  | 0x56 => decide (fieldLE b 0 1 < 4) && fieldLE b 1 1 == 0 && fieldLE b 4 4 == 0
  | 0x58 => decide (fieldLE b 1 1 < 2) && fieldLE b 2 2 == 0
  | 0x59 => decide (fieldLE b 4 1 < 8) && allZero (slice b 5 3)
  | 0x5A => decide (fieldLE b 0 1 < 4) && allZero (slice b 1 3)
  | 0x5B => decide (fieldLE b 2 1 < 2) && fieldLE b 3 1 == 0
  | _ => true

/-- A frame type may arrive on a port (R164, R332). A pair hands border frames on over LP2 (R328), so they arrive there
too. -/
def frameOnPort (ftype p : Nat) : Bool :=
  if ftype = 0x81 then isHead p
  else if ftype = 0x85 ∨ ftype = 0x87 then isAux p
  else if ftype = 0x83 ∨ ftype = 0x84 ∨ ftype = 0x86 ∨ ftype = 0x88 then isHead p || isAux p
  else if ftype = 0x41 ∨ ftype = 0x42 ∨ ftype = 0x43 then p == 18 || p == 19 || p == 20
  else if 0x50 ≤ ftype ∧ ftype ≤ 0x56 then p == 20
  else if 0x58 ≤ ftype ∧ ftype ≤ 0x5B then p == 18 || p == 19 || p == 20
  else false

/-- Reserved header fields are zero (R163). -/
def hdrOk (p : Nat) (h : FrameHdr) : Bool :=
  decide (h.flags.toNat % 32 = 0) && !bitOf h.flags.toNat 7 &&
  (if p < 18 then h.aux.toNat == 0 else decide (h.aux.toNat % 4096 = 0) && decide (h.node.toNat % 4096 = 0))

/-- The check word of a received frame is that of its header and payload (R163). -/
def checkOk (ftype : Nat) (h : FrameHdr) (b : Bytes) : Bool :=
  crc32c (hdrBytes ftype h.flags.toNat h.node.toNat h.seq.toNat h.tag.toNat h.aux.toNat ++ b) == h.check.toNat

/-- A frame passes every test of R166 on a port. -/
def frameGood (p ftype : Nat) (h : FrameHdr) (b : Bytes) : Bool :=
  checkOk ftype h b && frameOnPort ftype p && frameLenOk ftype b && hdrOk p h && frameBodyOk ftype b

/-- The frame type, header and payload of what stood between SOF and EOF (R163); none where it is shorter than a header and
a check word. -/
def parseFrame (b : Bytes) : Option (Nat × FrameHdr × Bytes) :=
  if b.length < 16 then none
  else
    some (fieldLE b 0 1,
      { flags := BitVec.ofNat 8 (fieldLE b 1 1), node := BitVec.ofNat 16 (fieldLE b 2 2),
        seq := BitVec.ofNat 16 (fieldLE b 4 2), tag := BitVec.ofNat 32 (fieldLE b 6 4),
        aux := BitVec.ofNat 16 (fieldLE b 10 2), check := BitVec.ofNat 32 (fieldLE b (b.length - 4) 4) },
      slice b 12 (b.length - 16))

/-- R179 against LAST + 1: newer (or the first, or RESYNC), the same, or stale. -/
def seqJudge (last : Nat) (resync : Bool) (seq : Nat) : Nat :=
  if last = 0 ∨ resync then 0
  else if seqNewer 16 seq (last - 1) then 0
  else if seqSame 16 seq (last - 1) then 1 else 2

/-- Judge a good frame of a series and act on an accepted one; `get` and `put` reach LAST + 1. -/
def Core.judged (c : Core) (p : Nat) (h : FrameHdr) (last : Nat) (put : Core → Core) (act : Core → Core) : Core :=
  let j := seqJudge last (bitOf h.flags.toNat 6) h.seq.toNat
  if j = 0 then act (put c)
  else if j = 1 then c.inc STR_PORT_STAT.DUP p
  else c.inc STR_PORT_STAT.STALE p

/-- Border and cascade frames travel between members; the others of a link port between the units of a pair (R332). -/
def isCascade (ftype : Nat) : Bool := decide (ftype < 0x50) || decide (0x58 ≤ ftype)

/-- A received link frame sent on; a CSC_HB counts the hop (R332). -/
def linkFrame (port lane ftype : Nat) (h : FrameHdr) (payload : Bytes) : Output :=
  let body := if ftype = 0x58 then leBytes 1 (fieldLE payload 0 1 + 1) ++ payload.drop 1 else payload
  .frame port lane ftype h.flags.toNat h.node.toNat h.seq.toNat h.tag.toNat h.aux.toNat body

/-- A frame for another member is forwarded out of the other cascade link port on the same lane (R196); in a pair that is
the partner's port, reached over lane 1 of LP2, or this unit's own (R328). -/
def Core.passLink (c : Core) (p lane ftype : Nat) (h : FrameHdr) (payload : Bytes) : Core :=
  let out := if p = 20 then c.ownLink else if c.inPair then 20 else 37 - p
  if !c.isUp out then c
  else if out = 20 then c.emit (linkFrame 20 1 ftype h payload)
  else c.emitUnmuted (linkFrame out lane ftype h payload)

def Core.setLinkRx (c : Core) (k seq : Nat) : Core := { c with casc := { c.casc with rx := Kv.put 0 c.casc.rx k (seq + 1) } }

/-- A frame arrives on a port that is UP. One that R166 discards is counted; the others are judged by their series. -/
def Core.rxFrame (c : Core) (p lane ftype : Nat) (h : FrameHdr) (payload : Bytes)
    (act : Core → Core) : Core :=
  c.unlessHeld domFAB (fun c =>
    if !c.isUp p then c
    else if !frameGood p ftype h payload then c.inc STR_PORT_STAT.FRAME_BAD p
    else if p < 18 then
      if ftype = 0x81 then
        c.judged p h (match (c.port p).rxTick with | some n => n + 1 | none => 0)
          (fun c => c.modPort p (fun q => { q with rxTick := some h.seq.toNat })) act
      else
        c.judged p h (Kv.get 0 (c.port p).rxCtl h.node.toNat)
          (fun c => c.modPort p (fun q => { q with rxCtl := Kv.put 0 q.rxCtl h.node.toNat (h.seq.toNat + 1) })) act
    else
      let src := h.aux.toNat / 4096
      let dest := h.node.toNat / 4096
      if !isCascade ftype then
        let k := linkKey (3 + lane) 0
        c.judged p h (Kv.get 0 c.casc.rx k) (fun c => c.setLinkRx k h.seq.toNat) act
      else if dest ≠ c.cascId then c.passLink p lane ftype h payload
      else if p = 20 then act c
      else
        let k := linkKey (if ftype < 0x50 then lane else 2) src
        c.judged p h (Kv.get 0 c.casc.rx k) (fun c => c.setLinkRx k h.seq.toNat)
          (fun c => act (if c.inPair then c.emit (linkFrame 20 1 ftype h payload) else c)))

/-- A frame arrives whose code-groups, from the one after SOF, are not those of a good frame (R166): `pos` is the running
disparity before them. Code errors are counted; a frame ended by ERR is counted in FRAME_ABORT; one with a code error, a
malformed surge word or a forbidden symbol in it, or whose bytes fail a test of R166, in FRAME_BAD. Code-groups that do
make a good frame are discarded by no rule: it arrives by the row of its type. -/
def Core.frameDiscarded (c : Core) (p : Nat) (pos : Bool) (groups : List (BitVec 10)) : Core :=
  c.unlessHeld domFAB (fun c =>
    let ss := decodeGroups pos groups
    let errs := codeErrors (isHead p) ss
    let (e, badSurge) := assembleFrame (isHead p) 0 [] ss
    let c := c.inc STR_PORT_STAT.CODE_ERR p errs
    let c := if badSurge then c.inc STR_PORT_STAT.SURGE_BAD p else c
    match e with
    | .aborted => c.inc STR_PORT_STAT.FRAME_ABORT p
    | .broken => c.inc STR_PORT_STAT.FRAME_BAD p
    | .whole b =>
      match parseFrame b with
      | some (ftype, h, payload) =>
        if errs = 0 ∧ frameGood p ftype h payload then c else c.inc STR_PORT_STAT.FRAME_BAD p
      | none => c.inc STR_PORT_STAT.FRAME_BAD p)

/-! ### Bring-up (R183 to R188) -/

/-- Presets of R184: pre-cursor and post-cursor. -/
def txPreset (n : Nat) : Nat × Nat :=
  [(0, 0), (0, 3), (0, 6), (0, 9), (2, 0), (2, 4), (3, 8), (4, 12)].getD n (0, 0)

def Core.setTaps (c : Core) (p lane : Nat) (t : Nat × Nat) : Core :=
  if lane = 0 then (c.wr STR_PORT_STATE.TX_PRE0 t.1 p).wr STR_PORT_STATE.TX_POST0 t.2 p
  else (c.wr STR_PORT_STATE.TX_PRE1 t.1 p).wr STR_PORT_STATE.TX_POST1 t.2 p

def Core.taps (c : Core) (p lane : Nat) : Nat × Nat :=
  if lane = 0 then (c.rd STR_PORT_STATE.TX_PRE0 p, c.rd STR_PORT_STATE.TX_POST0 p)
  else (c.rd STR_PORT_STATE.TX_PRE1 p, c.rd STR_PORT_STATE.TX_POST1 p)

def Core.setAllTaps (c : Core) (p : Nat) (t : Nat × Nat) : Core := (c.setTaps p 0 t).setTaps p 1 t

/-- The rates this side offers (R182). -/
def Core.ownRates (c : Core) (p : Nat) : Nat := if c.flag STR_PORT_CFG.RATE_MAX p then 3 else 1

/-- The TS1 or TS2 of a lane (R182): the controller's. -/
def Core.tsBytes (c : Core) (p lane type : Nat) : Bytes := lmBytes type lane (c.ownRates p) 0 1

/-- What the lanes of a port carry from now on. -/
def Core.setFill (c : Core) (p : Nat) (f : Nat → Fill) : Core :=
  (lanesOf p).foldl (fun c l => c.emit (.fill p l (f l))) c

/-- Eight TS2 go out on each lane, then IDLE (R183 step 3). -/
def Core.sendTs2 (c : Core) (p : Nat) : Core :=
  (lanesOf p).foldl (fun c l => (c.emit (.fill p l .idle)).emit (.lmSet p l 8 (c.tsBytes p l 0x02))) c

/-- Steps 1 to 3 begin, at the rate in use: the clock runs and each lane carries TS1 and 16 IDLE, repeated. -/
def Core.trainPhase (c : Core) (p : Nat) : Core :=
  let c := c.modPort p (fun q => { q with ts1 := [0, 0], ts2 := [0, 0], lastLm := [] })
  (c.emit (.portClock p (c.flag STR_PORT_STATE.RATE p))).setFill p (fun l => .train (c.tsBytes p l 0x01))

/-- The link streams of a port begin anew with its training (R179): those of LP0 and LP1, or those of LP2. -/
def Core.forgetLink (c : Core) (p : Nat) : Core :=
  if p < 18 then c
  else { c with casc := { c.casc with rx := c.casc.rx.filter (fun e => (p == 20) != decide (e.1 < linkKey 3 0)) } }

/-- A port starts bring-up at step 1 of R183; a port not enabled is held down, and one that the self-test failed is held
FAILED (R443). -/
def Core.startTraining (c : Core) (p : Nat) : Core :=
  let c := c.modPort p (fun q =>
    { q with
      rateSent := false, eqOwn := 0, eqFar := 0, eqGaveUp := false, eqSeen := [0, 0], eqAsked := [0, 0], eqTry := [0, 0],
      echoes := 0, echoSum := 0, linkUpSent := false, since := c.ticks, neapStep := 0, rxTick := none, rxCtl := [],
      farRates := 0 })
  let c := c.forgetLink p
  let c := (c.wr STR_PORT_STATE.RATE 0 p).wr STR_PORT_STATE.FALLBACK 0 p
  if !c.flag STR_PORT_CFG.ENABLE p then (c.setPt p ptDown).emit (.portIdle p)
  else if bitOf c.bst.portsHeld p then (c.setPt p ptFailed).emit (.portIdle p)
  else ((c.setAllTaps p (txPreset 0)).setPt p ptTraining).trainPhase p

/-- A port retrains from step 1 (R188). -/
def Core.retrain (c : Core) (p : Nat) : Core :=
  let c := if c.isUp p then c.post evPortDown p [] (some c.now) else c
  (c.inc STR_PORT_STAT.RETRAINS p).startTraining p

/-- Step 6: the lanes carry IDLE, and the first echo request goes out (R187). DESIGN CHOICE (assumption log 49): echoes are
exchanged on lane 0, one request at a time. -/
def Core.startEchoes (c : Core) (p : Nat) : Core :=
  let c := c.modPort p (fun q => { q with echoes := 0, echoSum := 0 })
  (c.setFill p (fun _ => .idle)).sendLmOn p 0 0x07 0 0 0 0

/-- R186: both sides return to 4.0 Gb/s with preset 0. -/
def Core.fallBack (c : Core) (p : Nat) : Core :=
  let c := ((c.wr STR_PORT_STATE.RATE 0 p).wr STR_PORT_STATE.FALLBACK 1 p).setAllTaps p (txPreset 0)
  let c := (c.setPt p ptTraining).emit (.portClock p false)
  c.startEchoes p

/-- The receiver of a lane makes its first request (R185). -/
def Core.eqAsk (c : Core) (p lane : Nat) : Core :=
  (c.modPort p (fun q => { q with eqAsked := q.eqAsked.set lane 1, eqTry := q.eqTry.set lane 0 })).sendLmOn p lane 0x04
    lane 0 0 1

/-- Step 5 begins (R185): each lane carries TS1 and PRBS-15 blocks. With STORED_EQ the taps last in use are tried first, over
32 blocks (R188); else the lane starts from the preset of TX_PRESET, and its receiver makes its first request. -/
def Core.startEq (c : Core) (p : Nat) : Core :=
  let c := (c.setPt p ptEqualising).setFill p (fun l => .blocks (c.tsBytes p l 0x01))
  let taps := (c.port p).storedTaps
  let stored := c.flag STR_PORT_CFG.STORED_EQ p && !taps.isEmpty
  (lanesOf p).foldl (fun c l =>
    if stored then (c.setTaps p l (taps.getD l (0, 0))).modPort p (fun q => { q with eqTry := q.eqTry.set l 32 })
    else (c.setTaps p l (txPreset (c.rd STR_PORT_CFG.TX_PRESET p))).eqAsk p l) c

/-- The link runs at the trained rate (R183 steps 3 to 6). -/
def Core.trained (c : Core) (p : Nat) : Core :=
  if c.flag STR_PORT_STATE.RATE p then c.startEq p
  else if bitOf (c.port p).farRates 1 && c.flag STR_PORT_CFG.RATE_MAX p then
    (c.modPort p (fun q => { q with rateSent := true })).sendLm p 0x03 1 0 0 0
  else c.startEchoes p

/-- R182: during training a set acts only when it agrees with the one before it on its lane. -/
def lmCode (type p0 p1 p2 p3 : Nat) : Nat := ((((type * 256 + p0) * 256 + p1) * 256 + p2) * 256 + p3) + 1

/-- A good LM set arrives on a lane; `act` acts on it where R182 lets it act. -/
def Core.rxLm (c : Core) (p lane type p0 p1 p2 p3 : Nat) (act : Core → Core) : Core :=
  c.unlessHeld domFAB (fun c =>
    if c.ptState p = ptDown ∨ c.ptState p = ptFailed ∨ laneCount p ≤ lane then c
    else if c.inTraining p then
      let k := lmCode type p0 p1 p2 p3
      let same := Kv.get 0 (c.port p).lastLm lane == k
      let c := c.modPort p (fun q => { q with lastLm := Kv.put 0 q.lastLm lane k })
      if same then act c else c
    else act c)

/-- An LM set arrives with a bad check word (R182): it is ignored and counted, and breaks a run of training sets; where stored
taps are tried, the lane's receiver goes over to requests (R188). One whose check word is good is no such set, and arrives
by the row of its type. -/
def Core.lmBad (c : Core) (p lane : Nat) (set : Bytes) : Core :=
  c.unlessHeld domFAB (fun c =>
    if fieldLE set 5 4 = crc32c (set.take 5) then c
    else
      let trying := c.ptState p == ptEqualising && (c.port p).eqTry.getD lane 0 != 0
      let c := c.inc STR_PORT_STAT.LM_BAD p
      let c := c.modPort p (fun q =>
        { q with lastLm := Kv.put 0 q.lastLm lane 0, ts1 := q.ts1.set lane 0, ts2 := q.ts2.set lane 0 })
      if trying then c.eqAsk p lane else c)

/-- Every lane has counted 8. -/
def eightEach (p : Nat) (l : List Nat) : Bool := (lanesOf p).all (fun i => decide (8 ≤ l.getD i 0))

/-- A run of equal training sets on a lane (R182, R183). -/
def runOn (same : Bool) (l : List Nat) (lane : Nat) : List Nat :=
  l.set lane (if same then l.getD lane 0 + 1 else 1)

/-- A TS2 set is received (R183 step 3): after 8 sent and 8 received the link runs at the trained rate. -/
def Core.rxTs2 (c : Core) (p lane p0 p1 p2 p3 : Nat) : Core :=
  c.unlessHeld domFAB (fun c =>
    if !(c.ptState p == ptTraining) || decide (laneCount p ≤ lane) || !eightEach p (c.port p).ts1 then c
    else
      let k := lmCode 2 p0 p1 p2 p3
      let had := eightEach p (c.port p).ts2
      let c := c.modPort p (fun q =>
        { q with
          ts2 := runOn (Kv.get 0 q.lastLm lane == k) q.ts2 lane, lastLm := Kv.put 0 q.lastLm lane k, farRates := p1 })
      if eightEach p (c.port p).ts2 && !had then c.trained p else c)

/-- RATE is exchanged (R183 step 4): electrical idle, clocks at 2.0 GHz, steps 1 to 3 again. -/
def Core.rxRate (c : Core) (p lane p0 : Nat) : Core :=
  c.rxLm p lane 0x03 p0 0 0 0 (fun c =>
    let q := c.port p
    if c.ptState p = ptTraining ∧ q.rateSent ∧ p0 = 1 ∧ !c.flag STR_PORT_STATE.RATE p then
      let c := c.modPort p (fun q => { q with rateSent := false })
      ((c.emit (.idle p 1000)).wr STR_PORT_STATE.RATE 1 p).trainPhase p
    else c)

/-- A tap action of EQ_REQ: 0 hold, 1 increase, 2 decrease; none where it would leave the range. -/
def tapAct (act v hi : Nat) : Option Nat :=
  if act = 1 then (if v < hi then some (v + 1) else none)
  else if act = 2 then (if 0 < v then some (v - 1) else none)
  else some v

/-- EQ_REQ is received (R185): the taps change, or are at a limit, and EQ_ACK reports them. A repeated copy of a request
already answered changes nothing more and is answered the same. -/
def Core.rxEqReq (c : Core) (p lane p0 p1 p2 p3 : Nat) : Core :=
  c.rxLm p lane 0x04 p0 p1 p2 p3 (fun c =>
    let now := c.taps p lane
    let ans (c : Core) (r : Nat) : Core :=
      let t := c.taps p lane
      (c.modPort p (fun q => { q with eqAnswer := q.eqAnswer.set lane r })).sendLmOn p lane 0x05 lane r t.1 t.2
    if c.ptState p ≠ ptEqualising then ans c 2
    else if (c.port p).eqSeen.getD lane 0 = p3 + 1 then ans c ((c.port p).eqAnswer.getD lane 0)
    else
      let c := c.modPort p (fun q => { q with eqSeen := q.eqSeen.set lane (p3 + 1) })
      if bitOf p1 7 then ans (c.setTaps p lane (txPreset (p2 % 8))) 0
      else
        match tapAct (p1 % 4) now.1 6, tapAct (p1 / 4 % 4) now.2 12 with
        | some a, some b => ans (c.setTaps p lane (a, b)) 0
        | _, _ => ans c 1)

/-- Equalisation of every lane has ended on both sides (R183 step 6, R186). -/
def Core.eqEnded (c : Core) (p : Nat) : Core :=
  let q := c.port p
  if c.ptState p ≠ ptEqualising then c
  else if q.eqGaveUp then c.fallBack p
  else if q.eqOwn = 2 ^ laneCount p - 1 ∧ q.eqFar = 2 ^ laneCount p - 1 then
    let c := c.modPort p (fun q => { q with storedTaps := [c.taps p 0, c.taps p 1] })
    c.startEchoes p
  else c

def orBit (m i : Nat) : Nat := if bitOf m i then m else m + 2 ^ i

/-- The device's own receiver of a lane ends equalisation (R185): EQ_DONE says done or gave up. -/
def Core.eqFinish (c : Core) (p lane : Nat) (gave : Bool) : Core :=
  let c := c.sendLmOn p lane 0x06 lane (b2n gave) 0 0
  let c := c.modPort p (fun q =>
    { q with eqOwn := orBit q.eqOwn lane, eqGaveUp := q.eqGaveUp || gave, eqTry := q.eqTry.set lane 0 })
  c.eqEnded p

/-- A block's TS1 arrives on a lane that tries its stored taps (R188): after 32 good ones no requests follow. DEDUCED
(assumption log 50): a block counts by its TS1, and an LM set with a bad check word is the error that ends the trial. -/
def Core.eqBlock (c : Core) (p lane : Nat) : Core :=
  match (c.port p).eqTry.getD lane 0 with
  | 0 => c
  | 1 => c.eqFinish p lane false
  | n + 2 => c.modPort p (fun q => { q with eqTry := q.eqTry.set lane (n + 1) })

/-- A TS1 set is received (R183 steps 2 and 3): after 8 in a row on every lane TS2 is sent. In equalisation it heads a
block. -/
def Core.rxTs1 (c : Core) (p lane p0 p1 p2 p3 : Nat) : Core :=
  c.unlessHeld domFAB (fun c =>
    if c.ptState p = ptEqualising then c.eqBlock p lane
    else if !(c.ptState p == ptTraining) || decide (laneCount p ≤ lane) then c
    else
      let k := lmCode 1 p0 p1 p2 p3
      let q := c.port p
      let had := eightEach p q.ts1
      let c := c.modPort p (fun q =>
        { q with
          ts1 := runOn (Kv.get 0 q.lastLm lane == k) q.ts1 lane, lastLm := Kv.put 0 q.lastLm lane k, farRates := p1 })
      let c := c.wr STR_PORT_STATE.FAR_KIND (p2 % 4) p
      if eightEach p (c.port p).ts1 && !had then c.sendTs2 p else c)

/-- EQ_ACK is received (R185). The judgement of the device's own receiver is its own method, an input here: 0 the setting
is kept and EQ_DONE is sent, 1 it gave up, 2 a further request with the given actions. -/
def Core.rxEqAck (c : Core) (p lane p1 p2 p3 verdict actions : Nat) : Core :=
  c.rxLm p lane 0x05 lane p1 p2 p3 (fun c =>
    if c.ptState p ≠ ptEqualising ∨ bitOf (c.port p).eqOwn lane then c
    else
      let asked := (c.port p).eqAsked.getD lane 0
      if verdict = 2 ∧ asked < 64 then
        let c := c.modPort p (fun q => { q with eqAsked := q.eqAsked.set lane (asked + 1) })
        c.sendLmOn p lane 0x04 lane (actions % 16) 0 (asked + 1)
      else c.eqFinish p lane (verdict == 1))

/-- EQ_DONE is received: the far receiver of a lane is done or gave up (R185, R186). -/
def Core.rxEqDone (c : Core) (p lane p0 p1 : Nat) : Core :=
  c.rxLm p lane 0x06 p0 p1 0 0 (fun c =>
    if c.ptState p ≠ ptEqualising then c
    else
      let c := c.modPort p (fun q => { q with eqFar := orBit q.eqFar lane, eqGaveUp := q.eqGaveUp || p1 == 1 })
      c.eqEnded p)

/-- Step 5 has passed 2.5 ms (R186). -/
def Core.eqTimeout (c : Core) (p : Nat) : Core :=
  c.unlessHeld domFAB (fun c =>
    if c.ptState p = ptEqualising ∧ (c.port p).since + 5000 ≤ c.ticks then c.fallBack p else c)

/-- An echo request is answered with its turnaround, in 1/16 ns (R187). -/
def Core.rxEchoReq (c : Core) (p lane p0 p1 turnaround : Nat) : Core :=
  c.rxLm p lane 0x07 p0 p1 0 0 (fun c =>
    c.sendLmOn p lane 0x08 p0 p1 (turnaround % 256) (turnaround / 256 % 256))

/-- The TIMPHY correction of a port, in 1/256 ns: transmit plus receive (R187, R386 part 8). -/
def Core.timphy (c : Core) (p : Nat) : Int :=
  let b := c.hbr.cal.parts.getD 8 []
  fieldLEs b (4 * p) 2 + fieldLEs b (4 * p + 2) 2

/-- LINK_UP is exchanged (R183 step 7). -/
def Core.sendLinkUp (c : Core) (p : Nat) : Core :=
  (c.modPort p (fun q => { q with linkUpSent := true })).sendLm p 0x09 (c.rd STR_PORT_STATE.RATE p) 0 0 0

/-- An echo response is received `rtt` (1/256 ns) after its request: after 64 of them LINK_DELAY is set (R187). -/
def Core.rxEchoRsp (c : Core) (p lane p0 p1 p2 p3 rtt : Nat) : Core :=
  c.rxLm p lane 0x08 p0 p1 p2 p3 (fun c =>
    let q := c.port p
    if !c.inTraining p || q.linkUpSent || p0 + 256 * p1 != q.echoes then c
    else
      let sum := q.echoSum + ((rtt : Int) - 16 * ((p2 + 256 * p3 : Nat) : Int))
      let n := q.echoes + 1
      let c := c.modPort p (fun q => { q with echoes := n, echoSum := sum })
      if n < 64 then c.sendLmOn p 0 0x07 (n % 256) (n / 256) 0 0
      else
        let d := sum / 128 + c.timphy p
        (c.wr STR_PORT_STATE.LINK_DELAY (ofSigned 32 d) p).sendLinkUp p)

/-- ENUM goes out on an aux port (R192). -/
def Core.sendEnum (c : Core) (p : Nat) : Core :=
  c.sendCtl p 0x05 0 (c.chainBase p) 0
    (leBytes 2 (c.chainBase p) ++ leBytes 2 c.extBase ++ leBytes 4 0)

/-- A head port comes UP: the next SAMPLE word of each of its channels is accepted whatever its SEQ (R108). -/
def Core.firstWords (c : Core) (p : Nat) : Core :=
  if isHead p then
    c.forEach 4 (fun c k => c.modCh (4 * p + k) (fun s => { s with rfx := { s.rfx with firstWord := true } }))
  else c

/-- The port becomes UP (R183 step 7): its node is addressed, given its link delay and the time; an aux chain is
numbered. -/
def Core.goUp (c : Core) (p : Nat) : Core :=
  let c := (c.setPt p ptUp).firstWords p
  let c := c.modPort p (fun q =>
    { q with
      resyncTick := true, sentTo := [], sent := [], neapStep := 0, missRun := 0, ackGot := false,
      storedTaps := if c.flag STR_PORT_STATE.RATE p then [c.taps p 0, c.taps p 1] else q.storedTaps })
  let c := c.post evPortUp p
    [BitVec.ofNat 8 (c.rd STR_PORT_STATE.RATE p), BitVec.ofNat 8 (c.rd STR_PORT_STATE.FALLBACK p)] (some c.now)
  if isHead p || isAux p then
    let n := c.firstNode p
    let c := c.sendCfg p n false true 0 false (cfgPayload 0x0002 [n, c.rd STR_PORT_STATE.LINK_DELAY p])
    let c := c.sendTimeSet p n
    if isAux p then c.sendEnum p else c
  else c

/-- LINK_UP is received once this side has measured its delay. -/
def Core.rxLinkUp (c : Core) (p lane p0 : Nat) : Core :=
  c.rxLm p lane 0x09 p0 0 0 0 (fun c =>
    if c.inTraining p && (c.port p).linkUpSent then c.goUp p else c)

/-- A port has not come UP within 5 ms (R188). -/
def Core.trainTimeout (c : Core) (p : Nat) : Core :=
  c.unlessHeld domFAB (fun c =>
    if c.inTraining p && decide ((c.port p).since + 10000 ≤ c.ticks) then
      let c := (c.setPt p ptFailed).emit (.portIdle p)
      let c := c.modPort p (fun q => { q with failedAt := c.ticks })
      c.post evPortDown p [] (some c.now)
    else c)

/-- A FAILED port tries again 100 ms later (R188). -/
def Core.portRetry (c : Core) (p : Nat) : Core :=
  c.unlessHeld domFAB (fun c =>
    if c.ptState p = ptFailed ∧ (c.port p).failedAt + 200000 ≤ c.ticks then c.startTraining p else c)

/-- A receiver has lost alignment on a lane (R162): no IDLE for 4 µs, 16 code or disparity errors within 1 µs, or no
forwarded clock for 100 ns. -/
def alignmentLost (noIdleNs errors noClockNs : Nat) : Bool :=
  decide (4000 ≤ noIdleNs) || decide (16 ≤ errors) || decide (100 ≤ noClockNs)

/-- Loss of alignment, or RETRAIN from either side, retrains a port that is UP, training or leaving Neap (R162, R188). -/
def Core.linkLost (c : Core) (p : Nat) : Core :=
  c.unlessHeld domFAB (fun c =>
    if c.isUp p || c.inTraining p || (c.port p).neapStep == 3 then c.retrain p else c)

/-- Host software writes RETRAIN (R188): a port held down or FAILED starts too. -/
def Core.hostRetrain (c : Core) (p : Nat) : Core := c.unlessHeld domFAB (fun c => c.retrain p)

def Core.clearPortStats (c : Core) (p : Nat) : Core :=
  Obj.STR_PORT_STAT.fields.foldl (fun c f => c.wr f 0 p) c

/-! ### Neap (R189, R190) -/

/-- A channel of the port is armed for a layer in progress (R189). -/
def Core.portArmed (c : Core) (p : Nat) : Bool :=
  isHead p && c.layerActive && (List.range 4).any (fun k => (c.ch (4 * p + k)).armed)

def Core.neapAllowed (c : Core) (p : Nat) : Bool :=
  c.flag STR_PORT_CFG.NEAP_EN p && !c.portArmed p && p != 20 && c.isUp p &&
  (match c.mode with | .armed | .expose | .slack | .hold => false | _ => true)

/-- Neap entry: NEAP_REQ on each lane (R190 step 1). -/
def Core.neapEnter (c : Core) (p : Nat) : Core :=
  c.unlessHeld domFAB (fun c =>
    if c.neapAllowed p then (c.modPort p (fun q => { q with neapStep := 1, neapAcks := 0 })).sendLm p 0x0A 0 0 0 0
    else c)

/-- NEAP_REQ from the far end is refused (R189). -/
def Core.rxNeapReq (c : Core) (p lane : Nat) : Core :=
  c.rxLm p lane 0x0A 0 0 0 0 (fun c => if c.isUp p then c.sendLmOn p lane 0x0B 1 0 0 0 else c)

/-- NEAP_ACK: once the node has accepted on every lane the device sends four NEAP on each, goes to electrical idle and stops
its clock; a refusal leaves the port UP (R190). -/
def Core.rxNeapAck (c : Core) (p lane p0 : Nat) : Core :=
  c.rxLm p lane 0x0B p0 0 0 0 (fun c =>
    if (c.port p).neapStep ≠ 1 ∨ !c.isUp p then c
    else if p0 ≠ 0 then c.modPort p (fun q => { q with neapStep := 0 })
    else
      let acks := orBit (c.port p).neapAcks lane
      let c := c.modPort p (fun q => { q with neapAcks := acks })
      if acks ≠ 2 ^ laneCount p - 1 then c
      else
        let c := (c.modPort p (fun q => { q with neapStep := 2 })).setPt p ptNeap
        ((c.emit (.neap p)).emit (.portIdle p)).emit (.clockStop p))

/-- Neap exit begins: clock and IDLE (R190). -/
def Core.neapExit (c : Core) (p : Nat) : Core :=
  c.unlessHeld domFAB (fun c =>
    if c.ptState p = ptNeap ∧ (c.port p).neapStep ≠ 3 then
      let c := c.modPort p (fun q => { q with neapStep := 3, since := c.ticks })
      (c.emit (.portClock p (c.flag STR_PORT_STATE.RATE p))).setFill p (fun _ => .idle)
    else c)

/-- WAKE: this side has aligned too and sends 8 WAKE on each lane; the port is UP again and TIME_SET is sent (R190). -/
def Core.rxWake (c : Core) (p lane : Nat) : Core :=
  c.rxLm p lane 0x0C 0 0 0 0 (fun c =>
    if (c.port p).neapStep = 3 ∧ c.ptState p = ptNeap then
      let c := (c.emit (.lm p 0xFF 0x0C 0 0 0 0 8)).setPt p ptUp
      let c := (c.firstWords p).modPort p (fun q =>
        { q with neapStep := 0, resyncTick := true, sentTo := [], missRun := 0, ackGot := false })
      let c := c.inc STR_PORT_STAT.NEAP_EXITS p
      if p < 18 then c.sendTimeSet p (c.firstNode p) else c
    else c)

/-- Alignment has not been regained within 20 µs of Neap exit (R190). -/
def Core.neapTimeout (c : Core) (p : Nat) : Core :=
  c.unlessHeld domFAB (fun c =>
    if (c.port p).neapStep = 3 ∧ c.ptState p = ptNeap ∧ (c.port p).since + 40 ≤ c.ticks then c.retrain p else c)

/-- Every head port leaves Neap (R189, R233). -/
def Core.headsOutOfNeap (c : Core) : Core := c.forEach 16 (fun c p => c.neapExit p)

/-! ### Node configuration (R191 to R195) -/

def dropSent (seq node : Nat) (l : List CfgOut) : List CfgOut := l.filter (fun o => !(o.seq == seq && o.node == node))

/-- The node serves a channel armed for the layer in progress (R193). -/
def Core.nodeArmed (c : Core) (p : Nat) : Bool := isHead p && (List.range 4).any (fun k => c.live (4 * p + k))

/-- CFG_WR_RSP (R193): a LATE answer is counted and posted, and holds the layer whose tide mark it was for. -/
def Core.cfgWrRsp (c : Core) (p : Nat) (h : FrameHdr) (b : Bytes) : Core :=
  match (c.port p).sent.find? (fun o => o.seq == h.tag.toNat && o.node == h.node.toNat && !o.read) with
  | none => c
  | some o =>
    let c := c.modPort p (fun q => { q with sent := dropSent o.seq o.node q.sent })
    if fieldLE b 0 2 = 3 then
      let c := c.inc STR_PORT_STAT.CFG_LATE p
      let c := c.post evNodeCfgLate p (leBytes 2 o.node ++ leBytes 2 0 ++ leBytes 4 o.tag)
      if o.tideLayer && c.nodeArmed p then c.raiseHold evNodeCfgLate else c
    else c

/-- The nodes that DOWN_RTT of a node gives a LINK_DELAY (R177): the next one on its chain, or the next extended address, and
behind a relay the first of its extended range. DESIGN CHOICE (assumption log 49): a relay's one DOWN_RTT serves its chain
neighbour and that first node alike, and consecutive extended addresses are taken for neighbours. -/
def Core.belowNode (c : Core) (p node : Nat) : List Nat :=
  let chainEnd := c.chainBase p + c.rd STR_CHAIN.CHAIN_NODES p
  let extEnd := c.extBase + c.rd STR_CHAIN.EXT_NODES p
  (if (c.chainBase p ≤ node ∧ node + 1 < chainEnd) ∨ (c.extBase ≤ node ∧ node + 1 < extEnd) then [node + 1] else []) ++
    (match Kv.get 0 (c.port p).ranges node with | 0 => [] | base => [base])

/-- CFG_RD_RSP (R193): the range of a relay is kept, and a DOWN_RTT gives the nodes below their LINK_DELAY (R177, R194). -/
def Core.cfgRdRsp (c : Core) (p : Nat) (h : FrameHdr) (b : Bytes) : Core :=
  match (c.port p).sent.find? (fun o => o.seq == h.tag.toNat && o.node == h.node.toNat && o.read) with
  | none => c
  | some o =>
    let c := c.modPort p (fun q => { q with sent := dropSent o.seq o.node q.sent })
    if !isAux p || fieldLE b 0 2 != 0 then c
    else if fieldLE o.payload 0 2 = 0x30 then
      c.modPort p (fun q =>
        { q with ranges := Kv.put 0 q.ranges o.node (if fieldLE b 8 2 = 0 then 0 else fieldLE b 4 2) })
    else if fieldLE o.payload 0 2 = 7 then
      (c.belowNode p o.node).foldl (fun c n => c.sendCfg p n false true 0 false (cfgPayload 0x0003 [fieldLE b 4 4 / 2])) c
    else c

/-- Requests unanswered for 50 µs are sent again, at most 3 times; then the node is lost (R193). -/
def Core.cfgRetransmit (c : Core) (p : Nat) : Core :=
  c.unlessHeld domFAB (fun c =>
    if !c.isUp p then c
    else
      ((c.port p).sent.filter (fun o => decide (o.sentAt + 100 ≤ c.ticks))).foldl (fun c o =>
        if o.retries < 3 then
          let c := c.emitUnmuted (.frame p (if p < 16 then 1 else 0) (if o.read then 0x04 else 0x03)
            ((if o.now then 128 else 0) + c.unitFlag) o.node o.seq o.tag 0 o.payload)
          c.modPort p (fun q => { q with sent := q.sent.map (fun x =>
            if x.seq = o.seq ∧ x.node = o.node then { x with retries := x.retries + 1, sentAt := c.ticks } else x) })
        else
          let c := c.modPort p (fun q =>
            { q with
              sent := dropSent o.seq o.node q.sent,
              absent := if isAux p && !q.absent.contains o.node then q.absent ++ [o.node] else q.absent })
          c.post evNodeLost 0 (leBytes 2 o.node)) c)

/-- ENUM_RSP (R192): the chain is numbered. The device then reads each chain node's RANGE_BASE and RANGE_SIZE and every
node's DOWN_RTT, from which it writes LINK_DELAY (R177, R194). -/
def Core.enumRsp (c : Core) (p : Nat) (b : Bytes) : Core :=
  let nodes := fieldLE b 0 2 - c.chainBase p
  let ext := fieldLE b 2 2 - c.extBase
  let over_ := fieldLE b 5 1 % 2
  let c := c.wr STR_CHAIN.CHAIN_NODES (satNat 8 nodes) p
  let c := c.wr STR_CHAIN.EXT_NODES (satNat 12 ext) p
  let c := c.wr STR_CHAIN.OVERFLOW over_ p
  let c := c.modPort p (fun q => { q with absent := [], ranges := [] })
  let c := c.post evChainEnumerated p
    (leBytes 1 nodes ++ leBytes 1 0 ++ leBytes 2 ext ++ leBytes 1 over_)
  let read (c : Core) (n addr count : Nat) : Core := c.sendCfg p n true false 0 false (leBytes 2 addr ++ leBytes 2 count)
  let c := (List.range nodes).foldl (fun c i => read c (c.chainBase p + i) 0x30 2) c
  let c := (List.range nodes).foldl (fun c i => read c (c.chainBase p + i) 7 1) c
  (List.range ext).foldl (fun c i => read c (c.extBase + i) 7 1) c

/-- A cassette is to be authenticated (R405). -/
def Core.wantAuth (c : Core) (k : Nat) : Core :=
  { c with hbr := { c.hbr with cass := modAt Cass.init c.hbr.cass k (fun (x : Cass) => { x with authDue := true }) } }

/-- A window cassette's identity change is reported (R143, R405). -/
def Core.cassetteChanged (c : Core) (ch : Nat) : Core :=
  (if c.live ch then c.declareFailed ch 4 else c).wantAuth ch

/-- The node EVENT frame (R195): acknowledged, posted; a head node's CASSETTE_CHANGED is a report of R143. -/
def Core.nodeEvent (c : Core) (p : Nat) (h : FrameHdr) (b : Bytes) : Core :=
  let c := c.sendCtl p 0x08 0 h.node.toNat h.seq.toNat (zeros 4)
  let c := c.post evNodeEvent 0 (leBytes 2 h.node.toNat ++ b)
  if fieldLE b 0 2 = 1 ∧ isHead p then
    c.modPort p (fun q => { q with cassFaults := orBit q.cassFaults (fieldLE b 2 1 % 4) })
  else if fieldLE b 0 2 = 1 then
    c.forEach 4 (fun c r => if c.rd CON_BLADE.NODE r = h.node.toNat then c.wantAuth (64 + r) else c)
  else c

/-! ### The tick exchange (R169 to R172) -/

/-- The tick boundary that a 32-bit tick index names, nearest the present (R163). -/
def Core.tickAt (c : Core) (tag : Nat) : Time :=
  (((c.now / tickU : Nat) : Int) + toSigned 32 (tag + 2 ^ 32 - tickIndex c.now)).toNat * tickU

/-- An instant given in 1/256 ns from a boundary. -/
def offset256 (t : Time) (d : Int) : Time := ((t : Int) + d * 256).toNat

/-- One channel block of a TICK_UP (R170). -/
def rawSample (tn : Time) (late : Bool) (b : Bytes) (k : Nat) : RawSample :=
  let o := 4 + 12 * k
  let fl := fieldLE b (o + 11) 1
  { mx := fieldLEs b o 3, my := fieldLEs b (o + 3) 3, valid := bitOf fl 0, seen := bitOf fl 1,
    edge := if bitOf fl 2 then some (offset256 tn (fieldLEs b (o + 8) 3)) else none,
    stamp := offset256 tn (fieldLEs b (o + 6) 2), onTime := !late }

/-- A TICK_UP is received (R170 to R172, R86): it acknowledges the tick its TAG names, or, late, breaks a run of missing
acknowledgements; it brings the samples to be latched at the next
boundary, and may report source faults or a cassette change, which that boundary latches. -/
def Core.tickUp (c : Core) (p : Nat) (h : FrameHdr) (b : Bytes) : Core :=
  let tn := c.tickAt h.tag.toNat
  let late := decide (tn + tickU ≤ c.now)
  let due := c.tickAt h.tag.toNat == c.now / tickU * tickU
  let c := if late then c.inc STR_PORT_STAT.TICK_LATE p else c
  let ns := fieldLE b 0 1
  let ep := fieldLE b 1 1
  let changed := match (c.port p).nodeStatus with
    | some (n0, e0) => e0 != ep || (bitOf n0 4 && !bitOf ns 4)
    | none => false
  let flt := (List.range 4).foldl (fun m k => if bitOf (fieldLE b (15 + 12 * k) 1) 3 then orBit m k else m)
    (c.port p).srcFaults
  let c := c.modPort p (fun q =>
    { q with
      ackGot := q.ackGot || due, missRun := if late then 0 else q.missRun, nodeStatus := some (ns, ep),
      srcFaults := flt, cassFaults := if changed then 0xF else q.cassFaults })
  c.forEach 4 (fun c k =>
    if bitOf ns k then
      c.modCh (4 * p + k) (fun s => { s with fb := { s.fb with latched := s.fb.latched ++ [rawSample tn late b k] } })
    else c)

/-- Source faults reported since the last boundary declare their channels failed (R143, R170). -/
def Core.sourceFaults (c : Core) (p : Nat) : Core :=
  let q := c.port p
  if q.srcFaults = 0 then c
  else
    let c := c.modPort p (fun q => { q with srcFaults := 0 })
    c.forEach 4 (fun c k => if bitOf q.srcFaults k && c.live (4 * p + k) then c.declareFailed (4 * p + k) 2 else c)

/-- Cassettes that the node of a head port has reported changed or absent since the last boundary (R143, R170, R195). -/
def Core.cassetteFaults (c : Core) (p : Nat) : Core :=
  let q := c.port p
  if q.cassFaults = 0 then c
  else
    let c := c.modPort p (fun q => { q with cassFaults := 0 })
    c.forEach 4 (fun c k => if bitOf q.cassFaults k then c.cassetteChanged (4 * p + k) else c)

/-- The acknowledgement due at the present boundary (R172). -/
def Core.ackDue (c : Core) (p : Nat) : Core :=
  let due := c.isUp p || (List.range 4).any (fun k => c.live (4 * p + k))
  c.modPort p (fun q => { q with ackGot := false, missRun := if q.ackGot || !due then 0 else q.missRun + 1 })

/-! ### Bells and TIME_SET (R174, R175) -/

/-- The delay of a bell on lane 0 of a head port, in symbols: the word being sent and the words waiting (R120, R174). -/
def Core.bellDelay (c : Core) (p inTx : Nat) : Nat :=
  let w (k : Nat) : Nat := if (c.ch (4 * p + k)).rfx.slot.isSome then 6 else 0
  min 31 (inTx + w 0 + w 1)

/-- Bells at a whole microsecond (R174); link ports send them where BELL_TX is set and the rules of twins allow
(R325). They leave before the TICK_DN of the same instant, whose BELL_LATE tells their delay: the row comes before that
boundary's TICK, in the tick that ends with it. -/
def Core.bells (c : Core) (inTx : List Nat) : Core :=
  let t := c.now / tickU * tickU + tickU
  if c.held domFAB || c.held domTIM || c.muted || decide (t % usU ≠ 0) then c
  else
    c.forEach 21 (fun c p =>
      if !c.isUp p then c
      else if isHead p then
        let d := c.bellDelay p (inTx.getD p 0)
        (c.emit (.bell p d)).modPort p (fun q => { q with bellLate := d, bellAt := some t })
      else if isAux p || (c.flag STR_PORT_CFG.BELL_TX p && (p != lp2 || c.actsActive)) then
        (c.emit (.bell p 0)).modPort p (fun q => { q with bellAt := some t })
      else c)

/-- TIME_SET on every UP head and aux port (R175). -/
def Core.timeSetAll (c : Core) : Core :=
  if c.held domFAB || c.held domTIM then c
  else c.forEach 18 (fun c p => if c.isUp p then c.sendTimeSet p (c.firstNode p) else c)

end Sys2Proof.Machine
end

