-- ==== Sys2Proof/Machine/Time.lean ====
section
/-!
DEFINITION. Machine/Time.lean: machine time's sources, servo and steps, IEEE 1588 and the PPS pins (R333 to R353).
-/
namespace Sys2Proof.Machine

def Core.modTim (c : Core) (f : Tim → Tim) : Core := { c with tim := f c.tim }

/-! ### Roles and sources -/

def srcLink : Nat := 3

/-- The effective source (R336). -/
def Core.effSrcNow (c : Core) : Nat :=
  if c.isStandby || (c.inCascade && !c.isLead) then srcLink else c.rd TIM_CONFIG.SRC

def tsFree : Nat := 0
def tsAcquiring : Nat := 1
def tsStepWait : Nat := 2
def tsLocking : Nat := 3
def tsLocked : Nat := 4
def tsHoldover : Nat := 5

def Core.timState (c : Core) : Nat := c.rd TIM_STATE.STATE
def Core.setTimState (c : Core) (s : Nat) : Core := c.wr TIM_STATE.STATE s

/-! ### The rate (R339, R340) -/

/-- One ppb in the servo's units of 2⁻²⁴ ppb. -/
def ppbU : Int := 16777216
/-- The limit of ±100 ppm. -/
def rateMax : Int := 100000 * ppbU

/-- RATE in force at an elapsed tick. -/
def rampAt (r : Ramp) (t : Nat) : Int :=
  if r.start + r.len ≤ t then r.upto
  else r.from_ + (r.upto - r.from_) * ((t - r.start : Nat) : Int) / (r.len : Int)

def Core.rateNow (c : Core) : Int := rampAt c.tim.ramp c.ticks

/-- TIM_STATE RATE shows the rate in force, to the nearest ppb. -/
def Core.showRate (c : Core) : Core := c.wrI TIM_STATE.RATE (roundDiv c.rateNow 16777216)

/-- The length of a ramp in ticks: 1 ms, or 100 ppm per ms (R340). -/
def rampLen (d : Int) : Nat := if d.natAbs ≤ rateMax.natAbs then ticksPerMs else ceilDiv (d.natAbs * ticksPerMs) rateMax.natAbs

/-- Breakpoints that the last 10 s still need: the latest one before them, and those within. -/
def pruneLog (from_ : Nat) : List (Nat × Int) → List (Nat × Int)
  | a :: b :: l => if b.1 ≤ from_ then pruneLog from_ (b :: l) else a :: b :: l
  | l => l

/-- 10 s in ticks. -/
def tenSec : Nat := 20000000

/-- RATE holds at a value from the present tick on, any ramp under way ended. -/
def Core.holdRate (c : Core) (r : Int) : Core :=
  let c := c.modTim (fun t => { t with
    ramp := ⟨r, r, c.ticks, 0⟩,
    rateLog := pruneLog (c.ticks - tenSec) (t.rateLog.filter (fun e => decide (e.1 < c.ticks)) ++ [(c.ticks, c.rateNow), (c.ticks, r)]) })
  c.showRate

/-- RATE moves linearly from its present value to `r` (R340). -/
def Core.setRate (c : Core) (r : Int) : Core :=
  let v := c.rateNow
  let n := rampLen (r - v)
  let log := c.tim.rateLog.filter (fun e => decide (e.1 < c.ticks))
  let c := c.modTim (fun t => { t with
    ramp := ⟨v, r, c.ticks, n⟩,
    rateLog := pruneLog (c.ticks - tenSec) (log ++ [(c.ticks, v), (c.ticks + n, r)]) })
  c.showRate

/-- Twice the integral of the piecewise linear RATE from tick `a` to tick `b`; RATE was 0 before its first breakpoint. -/
def rateSum2 (a b : Nat) : List (Nat × Int) → Int
  | (t0, v0) :: (t1, v1) :: l =>
    let lo := max a t0
    let hi := min b t1
    let at_ (t : Nat) : Int := if t1 ≤ t0 then v1 else v0 + (v1 - v0) * ((t - t0 : Nat) : Int) / ((t1 - t0 : Nat) : Int)
    (if lo < hi then (at_ lo + at_ hi) * ((hi - lo : Nat) : Int) else 0) + rateSum2 a b ((t1, v1) :: l)
  | [(t0, v0)] => if max a t0 < b then 2 * v0 * ((b - max a t0 : Nat) : Int) else 0
  | [] => 0

/-- The mean of RATE over the preceding 10 s (R341). -/
def Core.meanRate (c : Core) : Int := rateSum2 (c.ticks - tenSec) c.ticks c.tim.rateLog / (2 * (tenSec : Int))

/-- One measurement runs the servo (R339); θ is in units of 2⁻¹⁶ ns. -/
def Core.servo (c : Core) (theta : Int) : Core :=
  let i := clampInt (-rateMax) rateMax (c.tim.integ + (c.rd TIM_CONFIG.KI : Int) * theta)
  let r := clampInt (-rateMax) rateMax (-((c.rd TIM_CONFIG.KP : Int) * theta + i))
  (c.modTim (fun t => { t with integ := i })).setRate r

/-! ### Steps (R342 to R345) -/

/-- 80 µs, of which every step is a multiple. -/
def stepU : Nat := 80 * usU

/-- The nearest multiple of 80 µs, ties toward zero. -/
def roundStep (d : Int) : Int :=
  let q := d.natAbs / stepU
  let q := if stepU < 2 * (d.natAbs % stepU) then q + 1 else q
  if d < 0 then -((q * stepU : Nat) : Int) else ((q * stepU : Nat) : Int)

/-- A step may be applied (R343). -/
def Core.stepAllowed (c : Core) : Bool :=
  (c.mode = .bringup || c.mode = .standby || c.mode = .service) && !c.layerActive

/-- An instant moved by a signed duration. -/
def shiftTime (t : Time) (d : Int) : Time := ((t : Int) + d).toNat

def nsBytes (d : Int) : Bytes := leBytes 8 (ofSigned 64 (roundDiv d nsU))

/-- What runs at a step completes in its own time (R344): the ends of pulses and checks, and the watchdogs of frames, move with
machine time. -/
def Imaging.stepped (x : Imaging) (d : Int) : Imaging := { x with
  frames := x.frames.map (fun f => { f with since := shiftTime f.since d }),
  ctxs := x.ctxs.map (fun k => { k with lastStart := k.lastStart.map (shiftTime · d) }),
  ports := x.ports.map (fun p => { p with pulseEnd := shiftTime p.pulseEnd d }) }

def Lighting.stepped (x : Lighting) (d : Int) : Lighting := { x with
  sinks := x.sinks.map (fun s => { s with
    since := shiftTime s.since d, onEnd := s.onEnd.map (shiftTime · d), check := s.check.map (shiftTime · d) }) }

def Axes.stepped (x : Axes) (d : Int) : Axes := { x with
  cmps := x.cmps.map (fun u => { u with pulseEnd := shiftTime u.pulseEnd d }) }

/-- Machine time steps by `d`, a multiple of 80 µs, at the present control tick boundary (R344). -/
def Core.stepTime (c : Core) (d : Int) : Core :=
  let c := { c with
    now := shiftTime c.now d, img := c.img.stepped d, lum := c.lum.stepped d, mot := c.mot.stepped d }
  let c := c.modTim (fun t => { t with
    stepDue := none, stepAt := some c.ticks, linkTheta := t.linkTheta.map (· + d),
    ppsLast := t.ppsLast.map (fun x => shiftTime x d) })
  let c := (c.inc TIM_STAT.STEPS).setFlag TIM_STATE.TIME_VALID true
  (c.post evTimStepped 0 (nsBytes d)).timeSetAll

/-- An acquisition begins (R342). -/
def Core.acquire (c : Core) : Core :=
  let c := c.modTim (fun t => { t with measured := false, stepDue := none, goodRun := 0, badRun := 0, measAt := c.ticks })
  if c.rd TIM_STATE.EFF_SRC = 0 then c.setTimState tsFree else c.setTimState tsAcquiring

/-- STEP_WAIT is entered: RATE holds and the servo does not run (R343). -/
def Core.stepWait (c : Core) : Core := if c.timState = tsStepWait then c else (c.setTimState tsStepWait).holdRate c.rateNow

/-- The step that a measurement made due is applied, or waits (R342, R343). -/
def Core.stepIfDue (c : Core) : Core :=
  match c.tim.stepDue with
  | none => c
  | some th =>
    if c.now % (10 * usU) ≠ 0 then c
    else if c.stepAllowed then
      let c := c.stepTime (roundStep (-th))
      (c.setFlag TIM_STATE.STEP_ARMED false).setTimState tsLocking
    else c.stepWait

/-- UTC_NOW (R347). -/
def Core.refreshUtc (c : Core) : Core :=
  c.wr TIM_STATE.UTC_NOW
    (match c.tim.master with
     | some (_, u) => if c.rd TIM_CONFIG.SRC = 2 then u else c.rd TIM_CONFIG.UTC_OFFSET
     | none => c.rd TIM_CONFIG.UTC_OFFSET)

/-- EFF_SRC follows SRC, the role and the membership (R336); a change by role or membership starts no acquisition
(R338). -/
def Core.refreshSrc (c : Core) : Core :=
  let old := c.rd TIM_STATE.EFF_SRC
  let e := c.effSrcNow
  let c := c.wr TIM_STATE.EFF_SRC e
  let c := if e = old then c else c.modTim (fun t => { t with measAt := c.ticks })
  if e = 0 then
    let c := if c.timState = tsFree then c else (c.setTimState tsFree).modTim (fun t => { t with stepDue := none })
    let f := c.rdI TIM_CONFIG.FREE_PPB * ppbU
    if c.tim.ramp.upto = f then c else c.setRate f
  else if c.timState = tsFree then c.setTimState tsLocking
  else c

/-- A write to SRC (R342): one that changes it begins an acquisition. -/
def Core.writeSrc (c : Core) (v : Nat) : Core :=
  c.unlessHeld domTIM (fun c =>
    if c.rd TIM_CONFIG.SRC = v then c
    else
      let c := (c.wr TIM_CONFIG.SRC v).refreshSrc
      (c.modTim (fun t => { t with master := none, masterRank := [] })).refreshUtc.acquire)

/-- TIM_RESTEP (R342). -/
def Core.restep (c : Core) : Core := (c.setFlag TIM_STATE.STEP_ARMED true).acquire

/-- TIM_SET (R345): the step, and the remainder in nanoseconds. -/
def Core.timSet (c : Core) (sec ns : Nat) : Core × Int :=
  let want := mkTime sec ns 0
  let c := c.stepTime (roundStep ((want : Int) - c.now))
  ((c.setFlag TIM_STATE.STEP_ARMED true).acquire, roundDiv ((want : Int) - c.now) nsU)

/-! ### Measurements (R339, R341 to R343) -/

/-- Entry into LOCKED (R335, R341, R342). -/
def Core.lock (c : Core) : Core :=
  let c := (c.setTimState tsLocked).modTim (fun t => { t with badRun := 0 })
  let c := (c.setFlag TIM_STATE.TIME_VALID true).setFlag TIM_STATE.OFFSET_ALARM false
  c.post evTimLocked 0 [BitVec.ofNat 8 (c.rd TIM_STATE.EFF_SRC)]

/-- The runs that lead into LOCKED and out of it (R341). -/
def Core.judgeLock (c : Core) (theta : Int) : Core :=
  let good := decide (theta.natAbs ≤ c.rd TIM_CONFIG.LOCK_THRESH * nsU)
  let c := c.modTim (fun t => { t with
    goodRun := if good then t.goodRun + 1 else 0, badRun := if good then 0 else t.badRun + 1 })
  if c.timState = tsLocked then
    if 4 ≤ c.tim.badRun then (c.setTimState tsLocking).modTim (fun t => { t with goodRun := 0 }) else c
  else if 16 ≤ c.tim.goodRun then c.lock
  else c

/-- A measurement whose offset is large while no step may follow (R342). -/
def Core.largeOffset (c : Core) (theta : Int) (large armed : Bool) : Core :=
  if !large then c.modTim (fun t => { t with largePosted := false })
  else if armed then c
  else
    let c := c.setFlag TIM_STATE.OFFSET_ALARM true
    if c.tim.largePosted then c
    else (c.modTim (fun t => { t with largePosted := true })).post evTimOffsetLarge 0 (nsBytes theta)

/-- The measurement is used by rate only (R339, R341). -/
def Core.byRate (c : Core) (theta : Int) : Core :=
  let c := if c.timState = tsLocked then c else c.setTimState tsLocking
  (c.servo theta).judgeLock theta

/-- A measurement of θ at an instant (R339 to R343). -/
def Core.measure (c : Core) (theta : Int) (at_ : Time) : Core :=
  if c.held domTIM || c.rd TIM_STATE.EFF_SRC == 0 then c
  else
    let c := c.modTim (fun t => { t with measAt := c.ticks })
    let inStep := match c.tim.stepAt with
      | some t => decide (c.ticks < t + 20)
      | none => false
    let coming := c.tim.stepDue.isSome && c.timState != tsStepWait
    if inStep || coming then c
    else
      let c := c.wrI TIM_STATE.OFFSET (roundDiv theta 4096)
      let c := (c.wr TIM_STATE.MEAS_SEC (timeSec at_)).wr TIM_STATE.MEAS_NS (timeNs at_)
      let first := !c.tim.measured
      let c := c.modTim (fun t => { t with measured := true })
      let large := decide (c.rd TIM_CONFIG.STEP_THRESH * usU < theta.natAbs)
      let armed := c.flag TIM_STATE.STEP_ARMED
      let linkStep := c.rd TIM_STATE.EFF_SRC == srcLink && c.stepAllowed
      let due := large && ((first && armed) || linkStep || c.timState == tsStepWait)
      if due then
        let c := c.modTim (fun t => { t with stepDue := some theta })
        if c.stepAllowed then c else c.stepWait
      else
        let c := if c.timState = tsHoldover then c.modTim (fun t => { t with goodRun := 0 }) else c
        let c := c.modTim (fun t => { t with stepDue := none })
        (c.largeOffset theta large armed).byRate theta

/-- The source is lost when three of its intervals pass without a measurement (R338, R341). -/
def Core.sourceInterval (c : Core) : Nat :=
  match c.rd TIM_STATE.EFF_SRC with
  | 1 => 1000 * ticksPerMs
  | 2 => c.tim.syncInt
  | _ => ticksPerMs

def Core.sourceLost (c : Core) : Core :=
  let st := c.timState
  if c.held domTIM || c.rd TIM_STATE.EFF_SRC == 0 || st == tsFree || st == tsHoldover
    || decide (c.ticks < c.tim.measAt + 3 * c.sourceInterval) then c
  else
    let r := c.meanRate
    let c := ((c.setTimState tsHoldover).holdRate r).modTim (fun t => { t with
      stepDue := none, goodRun := 0, badRun := 0, master := none, masterRank := [] })
    let c := (c.inc TIM_STAT.HOLDOVERS).refreshUtc
    c.post evTimHoldover 0 [BitVec.ofNat 8 (c.rd TIM_STATE.EFF_SRC)]

/-! ### Pins (R352, R353) -/

/-- A rising edge on PPS_IN, `off` units of 250 ps after the present boundary (R352). -/
def Core.ppsEdge (c : Core) (off : Nat) : Core :=
  c.unlessHeld domTIM (fun c =>
    let t := c.now + off * 16384
    let near := match c.tim.ppsLast with
      | some l => decide (t < l + secU / 2)
      | none => false
    if near then c
    else
      let c := c.modTim (fun s => { s with ppsLast := some t })
      if c.rd TIM_STATE.EFF_SRC ≠ 1 then c
      else
        let whole := (t + secU / 2) / secU * secU
        c.measure ((t : Int) - whole - c.rdI TIM_CONFIG.PPS_IN_DELAY * 256) t)

/-- PPS_OUT rises at a whole second (R353). -/
def Core.ppsRise (c : Core) : Core :=
  if c.held domTIM || !c.flag TIM_CONFIG.PPS_OUT_EN || !c.flag TIM_STATE.TIME_VALID || decide (c.now % secU ≠ 0)
    || c.tim.ppsAt == some c.ticks then c
  else (c.modTim (fun t => { t with ppsAt := some c.ticks })).emit (.pps true)

/-- PPS_OUT falls PPS_W ms after it rose, or when it is disabled (R353). -/
def Core.ppsFall (c : Core) : Core :=
  match c.tim.ppsAt with
  | none => c
  | some t =>
    if c.flag TIM_CONFIG.PPS_OUT_EN && decide (c.ticks < t + c.rd TIM_CONFIG.PPS_W * ticksPerMs) then c
    else (c.modTim (fun t => { t with ppsAt := none })).emit (.pps false)

/-! ### IEEE 1588 (R346 to R350) -/

/-- The PTP message types used. -/
def ptpSync : Nat := 0x0
def ptpDelayReq : Nat := 0x1
def ptpPdelayReq : Nat := 0x2
def ptpPdelayResp : Nat := 0x3
def ptpFollowUp : Nat := 0x8
def ptpDelayResp : Nat := 0x9
def ptpPdelayFollowUp : Nat := 0xA
def ptpAnnounce : Nat := 0xB

/-- Event messages carry time stamps (R351). -/
def ptpIsEvent (ty : Nat) : Bool := decide (ty < 4)

/-- The egress stamp of a port from the instant at its SGMII pin (R350). -/
def Core.egress (c : Core) (port : Nat) (t : Time) : Time :=
  t + (if port = 0 then c.rd TIM_PORT.ETH0_TX_LAT else c.rd TIM_PORT.ETH1_TX_LAT) * 4096
/-- The ingress stamp of a port (R350). -/
def Core.ingress (c : Core) (port : Nat) (t : Time) : Time :=
  t - (if port = 0 then c.rd TIM_PORT.ETH0_RX_LAT else c.rd TIM_PORT.ETH1_RX_LAT) * 4096

/-- An event message that the device transmits adds an entry to the queue (R351). -/
def Core.txqAdd (c : Core) (port ty dom seq : Nat) (at_ : Time) : Core :=
  if !c.flag TIM_CONFIG.LEGACY_TXQ || !ptpIsEvent ty then c
  else
    let id := c.tim.txqId
    let c := c.modTim (fun t => { t with txqId := (id + 1) % 65536 })
    if 256 ≤ c.tim.txq.length then c.inc TIM_STAT.TXQ_LOST
    else c.modTim (fun t => { t with txq := t.txq ++ [⟨id, port, ty, dom, seq, at_⟩] })

/-- With LEGACY_TXQ = 0 the queue is empty (R351). -/
def Core.txqOff (c : Core) : Core := if c.flag TIM_CONFIG.LEGACY_TXQ then c else c.modTim (fun t => { t with txq := [] })

/-- Transmit a PTP message at an instant (R350, R351). -/
def Core.ptpSend (c : Core) (port ty dom seq : Nat) (at_ : Time) (data : Bytes) : Core :=
  (c.emit (.ptp port ty dom seq data)).txqAdd port ty dom seq (c.egress port at_)

/-- A stamp as messages carry it here: seconds, nanoseconds, 2⁻¹⁶ ns. -/
def stampBytes (t : Time) : Bytes := leBytes 8 (timeSec t) ++ leBytes 4 (timeNs t) ++ leBytes 2 (timeFrac t)

/-- The device is grandmaster of the machine domain on ETH1 (R325, R347). -/
def Core.grandmaster (c : Core) : Bool :=
  !c.held domTIM && c.actsActive && c.rd TIM_STATE.EFF_SRC != srcLink &&
  !(c.mode = .dormant || c.mode = .boot || c.mode = .bringup || c.mode = .shutdownTest)

/-- Sync, and Follow_Up with TWO_STEP, `off` after the present boundary (R347). -/
def Core.ptpSyncTx (c : Core) (off : Nat) : Core :=
  if !c.grandmaster then c
  else
    let t := c.now + off
    let seq := c.tim.syncSeq
    let dom := c.rd TIM_PTP.MACH_DOM
    let c := c.modTim (fun s => { s with syncSeq := (seq + 1) % 65536 })
    let c := c.ptpSend 1 ptpSync dom seq t (if c.flag TIM_PTP.TWO_STEP then [] else stampBytes (c.egress 1 t))
    if c.flag TIM_PTP.TWO_STEP then c.ptpSend 1 ptpFollowUp dom seq t (stampBytes (c.egress 1 t)) else c

/-- clockClass (R347). -/
def Core.clockClass (c : Core) : Nat :=
  let e := c.rd TIM_STATE.EFF_SRC
  if (e = 1 ∨ e = 2) ∧ c.timState = tsLocked then 6 else if c.timState = tsHoldover then 7 else 248

def timeSource (e : Nat) : Nat := if e = 2 then 0x40 else if e = 1 then 0x90 else 0xA0

/-- Announce (R347): priorities, clockClass, timeSource and currentUtcOffset. -/
def Core.ptpAnnounceTx (c : Core) (off : Nat) : Core :=
  if !c.grandmaster then c
  else
    let seq := c.tim.announceSeq
    let c := c.modTim (fun s => { s with announceSeq := (seq + 1) % 65536 })
    c.ptpSend 1 ptpAnnounce (c.rd TIM_PTP.MACH_DOM) seq (c.now + off)
      ([BitVec.ofNat 8 (c.rd TIM_PTP.PRIO1), BitVec.ofNat 8 (c.rd TIM_PTP.PRIO2), BitVec.ofNat 8 c.clockClass,
        BitVec.ofNat 8 (timeSource (c.rd TIM_STATE.EFF_SRC))] ++ leBytes 2 (c.rd TIM_STATE.UTC_NOW))

/-- A Delay_Req or Pdelay_Req is answered: in the machine domain on ETH1 by the grandmaster under MACH_MECH (R347), and
peer-delay requests of the plant domain by a peer-to-peer transparent clock on either port (R348). -/
def Core.delayReq (c : Core) (port ty dom seq rx : Nat) : Core :=
  let p2p := ty == ptpPdelayReq
  let mach := port == 1 && dom == c.rd TIM_PTP.MACH_DOM && c.grandmaster && p2p == c.flag TIM_PTP.MACH_MECH
  let plant := dom == c.rd TIM_PTP.PLANT_DOM && p2p && c.flag TIM_PTP.PLANT_MECH && c.flag TIM_PTP.TC_EN &&
    !c.held domTIM && c.actsActive
  if !(mach || plant) || !(p2p || ty == ptpDelayReq) then c
  else
    let t := c.now + rx
    let s := c.ingress port t
    if p2p then
      let two := mach && c.flag TIM_PTP.TWO_STEP
      let c := c.ptpSend port ptpPdelayResp dom seq t (stampBytes s)
      if two then c.ptpSend port ptpPdelayFollowUp dom seq t (stampBytes (c.egress port t)) else c
    else c.ptpSend port ptpDelayResp dom seq t (stampBytes s)

/-- Announce from another clock in the machine domain (R347). -/
def Core.foreignAnnounce (c : Core) (port ident : Nat) : Core :=
  if port ≠ 1 ∨ !c.grandmaster then c
  else
    let c := c.inc TIM_STAT.FOREIGN_GM
    if c.tim.foreign.contains ident then c
    else (c.modTim (fun t => { t with foreign := t.foreign ++ [ident] })).post evTimForeignGm 0 (leBytes 8 ident)

def pick (p : Int × Int) (port : Nat) : Int := if port = 0 then p.1 else p.2
def putPort (p : Int × Int) (port : Nat) (v : Int) : Int × Int := if port = 0 then (v, p.2) else (p.1, v)

/-- A plant-domain message crosses the device as a transparent clock (R348): `inPort` its ingress, `rx` and `tx` its
instants at the pins, `ident` the low part that tells sourcePortIdentity, `corr` its correctionField. -/
def Core.tcForward (c : Core) (inPort ty dom ident seq : Nat) (twoStep : Bool) (corr : Int) (rx tx : Nat) : Core :=
  let peer := ty == ptpPdelayReq || ty == ptpPdelayResp || ty == ptpPdelayFollowUp
  if c.held domTIM || !c.flag TIM_PTP.TC_EN || !c.actsActive || dom != c.rd TIM_PTP.PLANT_DOM || peer then c
  else
    let out := 1 - inPort
    let resid := ((c.egress out (c.now + tx) : Nat) : Int) - c.ingress inPort (c.now + rx)
    let link := if c.flag TIM_PTP.PLANT_MECH then pick c.tim.pathDelay inPort else 0
    let hit := c.tim.twoStep.find? (fun e => e.1 == ident && e.2.1 == seq)
    let corr :=
      if ty = ptpDelayReq then corr + resid
      else if ty = ptpSync then (if twoStep then corr else corr + resid + link)
      else if ty = ptpFollowUp then corr + link + (match hit with | some e => (e.2.2 : Int) | none => 0)
      else corr
    let c := c.modTim (fun t => { t with
      twoStep :=
        if ty = ptpSync ∧ twoStep then t.twoStep.filter (fun e => e.1 != ident) ++ [(ident, seq, resid.toNat)]
        else if ty = ptpFollowUp then t.twoStep.filter (fun e => !(e.1 == ident && e.2.1 == seq))
        else t.twoStep })
    let c := c.inc TIM_STAT.TC_FWD
    let c := if ptpIsEvent ty then c.keepMax TIM_STAT.RESID_MAX (resid.toNat / nsU) else c
    c.ptpSend out ty dom seq (c.now + tx) (leBytes 8 (ofSigned 64 corr))

/-- The path from the source in a domain under its delay mechanism: θ of a Sync (R336, R349). -/
def Core.syncTheta (c : Core) (port : Nat) (origin : Time) (corr : Int) (rx : Nat) : Int :=
  ((c.ingress port (c.now + rx) : Nat) : Int) - origin - corr - pick c.tim.pathDelay port

def Core.noteSync (c : Core) (port : Nat) (origin : Time) (corr : Int) (rx : Nat) : Core :=
  c.modTim (fun t => { t with
    syncDiff := putPort t.syncDiff port (((c.ingress port (c.now + rx) : Nat) : Int) - origin - corr) })

/-- A plant-domain Sync on ETH0, its time complete (R349): `logInt` is its message interval. -/
def Core.plantSync (c : Core) (ident : Nat) (origin : Time) (corr logInt : Int) (rx : Nat) : Core :=
  c.unlessHeld domTIM (fun c =>
    let ours := match c.tim.master with
      | some (m, _) => m == ident
      | none => false
    if c.rd TIM_STATE.EFF_SRC ≠ 2 ∨ !ours then c
    else
      let n := if 0 ≤ logInt then 2000000 * 2 ^ logInt.toNat else 2000000 / 2 ^ (-logInt).toNat
      let c := (c.noteSync 0 origin corr rx).modTim (fun t => { t with syncInt := n })
      c.measure (c.syncTheta 0 origin corr rx) (c.now + rx))

/-- Rank order of best master selection: the smaller at the first difference. -/
def rankBetter : List Nat → List Nat → Bool
  | a :: l, b :: m => if a = b then rankBetter l m else decide (a < b)
  | _, _ => false

/-- A plant-domain Announce on ETH0 (R349): the better rank is followed; the master's own Announce brings its rank and UTC
offset up to date. -/
def Core.plantAnnounce (c : Core) (ident utc : Nat) (rank : List Nat) : Core :=
  if c.held domTIM || c.rd TIM_CONFIG.SRC != 2 then c
  else
    let take := match c.tim.master with
      | none => true
      | some (m, _) => m == ident || rankBetter rank c.tim.masterRank
    if take then (c.modTim (fun t => { t with master := some (ident, utc), masterRank := rank })).refreshUtc else c

/-- A machine-domain Sync on ETH1 under LINK: it sets the whole microseconds of θ (R337). -/
def Core.machSync (c : Core) (origin : Time) (corr : Int) (rx : Nat) : Core :=
  if c.held domTIM || c.rd TIM_STATE.EFF_SRC != srcLink then c
  else
    let th := c.syncTheta 1 origin corr rx
    (c.noteSync 1 origin corr rx).modTim (fun t => { t with linkTheta := some th })

/-- The link port toward the source (R337): LP2 of a twin standby, else the one with the fewer hops to the lead. -/
def Core.sourcePort (c : Core) : Nat := if c.isStandby then lp2 else c.linkPort 0

/-- The mean offset of the bells that came on the source port, each less the port's LINK_DELAY (R337). -/
def Core.bellMean (c : Core) (bells : List (Nat × Int)) : Option Int :=
  let l := (bells.filter (fun b => lp0 + b.1 == c.sourcePort)).map (fun b => b.2 - c.rdI STR_PORT_STATE.LINK_DELAY c.sourcePort * 256)
  if l.isEmpty then none else some (l.sum / (l.length : Int))

/-- At a whole millisecond the mean of the bell offsets settles the part of θ below one microsecond (R337). -/
def Core.linkMeasurement (c : Core) (bells : List (Nat × Int)) : Core :=
  if c.held domTIM || c.rd TIM_STATE.EFF_SRC != srcLink || decide (c.now % (1000 * usU) ≠ 0) then c
  else
    match c.tim.linkTheta, c.bellMean bells with
    | none, _ | _, none => c
    | some th, some mean => c.measure (roundDiv (th - mean) usU * usU + mean) c.now

/-- Delay_Req or Pdelay_Req as a slave, or Pdelay_Req of a peer-to-peer transparent clock (R347 to R349). -/
def Core.delayReqTx (c : Core) (port off : Nat) : Core :=
  if c.held domTIM then c
  else
    let link := c.rd TIM_STATE.EFF_SRC == srcLink && port == 1
    let slave := c.rd TIM_STATE.EFF_SRC == 2 && port == 0
    let tc := c.flag TIM_PTP.TC_EN && c.flag TIM_PTP.PLANT_MECH && c.actsActive
    if !(link || slave || tc) then c
    else
      let p2p := if link then c.flag TIM_PTP.MACH_MECH else c.flag TIM_PTP.PLANT_MECH
      let dom := if link then c.rd TIM_PTP.MACH_DOM else c.rd TIM_PTP.PLANT_DOM
      let seq := c.tim.delaySeq
      let t := c.now + off
      let c := c.modTim (fun s => { s with
        delaySeq := (seq + 1) % 65536,
        delayOut := s.delayOut.filter (fun e => e.1 != port) ++ [(port, seq, c.egress port t)] })
      c.ptpSend port (if p2p then ptpPdelayReq else ptpDelayReq) dom seq t []

/-- The answer to a delay request completes the path delay (R349): `t4` the answerer's receipt and `turn` its turnaround
under peer-to-peer, `corr` the corrections, `rx` this device's receipt. -/
def Core.delayResp (c : Core) (port seq : Nat) (t4 : Time) (turn : Nat) (corr : Int) (rx : Nat) : Core :=
  if c.held domTIM then c
  else
    match c.tim.delayOut.find? (fun e => e.1 == port && e.2.1 == seq) with
    | none => c
    | some (_, _, t3) =>
      let p2p := if c.rd TIM_STATE.EFF_SRC = srcLink ∧ port = 1 then c.flag TIM_PTP.MACH_MECH
        else c.flag TIM_PTP.PLANT_MECH
      let twice : Int :=
        if p2p then ((c.ingress port (c.now + rx) : Nat) : Int) - t3 - turn - corr
        else pick c.tim.syncDiff port + ((t4 : Int) - t3 - corr)
      c.modTim (fun t => { t with
        pathDelay := putPort t.pathDelay port (twice / 2),
        delayOut := t.delayOut.filter (fun e => e.1 != port) })

/-- A read of TIM_TXQ returns and removes the oldest entry (R351). -/
def Core.txqRead (c : Core) : Bytes × Core :=
  match c.tim.txq with
  | [] => (zeros 24, c)
  | e :: l =>
    (leBytes 24 (1 + e.port * 2 + e.msgType * 16 + e.domain * 256 + e.id * 2 ^ 16 + e.seq * 2 ^ 32
      + timeSec e.at_ % 2 ^ 64 * 2 ^ 64 + timeNs e.at_ * 2 ^ 128 + timeFrac e.at_ * 2 ^ 160),
     c.modTim (fun t => { t with txq := l }))

end Sys2Proof.Machine
end

