-- ==== Sys2Proof/Machine/Commands.lean ====
section
/-!
DEFINITION. Machine/Commands.lean: how a command completes (R199 to R206, R226), the control token (R209) and the staged
set's end (R213).
-/
namespace Sys2Proof.Machine

/-! ### Completion codes (R205, R471) -/

def stOk : Nat := 0x00
def stBadOpcode : Nat := 0x01
def stBadLength : Nat := 0x02
def stBadField : Nat := 0x03
def stBadObject : Nat := 0x04
def stBadInstance : Nat := 0x05
def stReadOnly : Nat := 0x06
def stStageOnly : Nat := 0x07
def stNotStageable : Nat := 0x08
def stNoSession : Nat := 0x09
def stBadEpoch : Nat := 0x0A
def stNoToken : Nat := 0x0B
def stTokenHeld : Nat := 0x0C
def stConflictLost : Nat := 0x0D
def stBadMode : Nat := 0x0E
def stSetFull : Nat := 0x0F
def stNotChecked : Nat := 0x10
def stCheckFailed : Nat := 0x11
def stDiscarded : Nat := 0x12
def stDeferred : Nat := 0x13
def stBusy : Nat := 0x15
def stLimit : Nat := 0x16
def stInternal : Nat := 0x17
def stCaptureFailed : Nat := 0x18
def stCalFailed : Nat := 0x19
def stSigFailed : Nat := 0x1A

/-- What a command answers: status, DETAIL and payload (R201). -/
structure Reply where
  status : Nat
  detail : Nat
  payload : Bytes
  deriving DecidableEq, Repr

/-- A command is done, or goes on as a long command (R208). -/
inductive Answer where
  | done (r : Reply)
  | wait (k : LongKind)
  deriving DecidableEq, Repr

def okReply (payload : Bytes := []) : Reply := ⟨stOk, 0, payload⟩
def errReply (st : Nat) (detail : Nat := 0) : Reply := ⟨st, detail, []⟩
def ok (payload : Bytes := []) : Answer := .done (okReply payload)
def err (st : Nat) (detail : Nat := 0) : Answer := .done (errReply st detail)

def Core.modPilot (c : Core) (f : Pilot → Pilot) : Core := { c with pilot := f c.pilot }

/-! ### Mailboxes (R198, R199) -/

def mbIx (master mailbox : Nat) : Nat := master * 8 + mailbox
def Core.mbox (c : Core) (master mailbox : Nat) : Mbox := c.pilot.mboxes.getD (mbIx master mailbox) Mbox.init
def Core.modMbox (c : Core) (master mailbox : Nat) (f : Mbox → Mbox) : Core :=
  c.modPilot (fun p => { p with mboxes := modAt Mbox.init p.mboxes (mbIx master mailbox) f })

/-- The PCIe host of this device or unit (R198). -/
def Core.localMaster (c : Core) : Nat := c.unitId

/-- The register that holds a master's epoch (R202). -/
def epochField : Nat → Field
  | 0 => PLT_TOKEN.EPOCH0
  | 1 => PLT_TOKEN.EPOCH1
  | _ => PLT_TOKEN.EPOCH2

def Core.epoch (c : Core) (master : Nat) : Nat := c.rd (epochField master)

/-- An MSI-X message of a vector, unless INT_MASK suppresses it; the MSI-X table's mask holds it back (R226). -/
def Core.msix (c : Core) (v : Nat) : Core :=
  if bitOf (c.rd BAR0.INT_MASK) v then c
  else if bitOf c.pilot.msixMasked v then c.modPilot (fun p => { p with msixHeld := orBit p.msixHeld v })
  else c.emit (.msix v)

/-- The response slot's bytes (R201). -/
def Core.responseBytes (c : Core) (cmd : Cmd) (r : Reply) : Bytes :=
  leBytes 2 cmd.op ++ leBytes 2 cmd.seq ++ leBytes 2 (c.epoch cmd.master) ++ leBytes 2 r.status ++
  leBytes 2 r.payload.length ++ leBytes 1 c.unitId ++ [0#8] ++ leBytes 4 r.detail ++ r.payload

/-- UDP payload: the prefix of R228 and its content. -/
def udpBytes (kind mailbox : Nat) (content : Bytes) : Bytes :=
  leBytes 2 0x5AC3 ++ [1#8, BitVec.ofNat 8 kind, BitVec.ofNat 8 mailbox] ++ zeros 3 ++ content

/-- The stored response of a mailbox is delivered: slot, MB_BUSY, MB_DONE, MSI-X, in that order (R199); master 2 gets a
datagram (R229). In a pair the unit that did not receive the command only keeps it (R316). -/
def Core.deliver (c : Core) (master mailbox : Nat) : Core :=
  let slot := (c.mbox master mailbox).respSlot
  if master = 2 then
    if c.actsActive && !c.held domHBR then
      let peer := (c.mbox 2 mailbox).peer
      c.emit (.datagram peer.1 peer.2 (udpBytes 1 mailbox (slot.take (16 + fieldLE slot 8 2))))
    else c
  else if master = c.localMaster then
    let c := c.wr BAR0.MB_BUSY (c.rd BAR0.MB_BUSY - (if bitOf (c.rd BAR0.MB_BUSY) mailbox then 2 ^ mailbox else 0))
    let c := c.wr BAR0.MB_DONE (orBit (c.rd BAR0.MB_DONE) mailbox)
    c.msix mailbox
  else c

/-- A command completes: its response is stored and delivered (R199, R203). -/
def Core.respond (c : Core) (cmd : Cmd) (r : Reply) : Core :=
  let bytes := padTo 256 (c.responseBytes cmd r)
  let c := c.modMbox cmd.master cmd.mailbox (fun m => { m with
    respSlot := bytes, busy := none, last := some (cmd.seq, cmd.op, cmd.epoch) })
  c.deliver cmd.master cmd.mailbox

/-- Long commands of a kind complete (R208). -/
def Core.completeLong (c : Core) (which : LongCmd → Bool) (r : Reply) : Core :=
  let hit := c.pilot.long.filter which
  let c := c.modPilot (fun p => { p with long := p.long.filter (fun l => !which l) })
  hit.foldl (fun c l => c.respond l.cmd r) c

def Core.anyLong (c : Core) (which : LongKind → Bool) : Bool := c.pilot.long.any (fun l => which l.kind)

def LongKind.isCal : LongKind → Bool
  | .cal .. => true
  | _ => false

/-! ### The staged set (R212, R213) -/

def sgEmpty : Nat := 0
def sgOpen : Nat := 1
def sgChecking : Nat := 2
def sgPassed : Nat := 3
def sgFailed : Nat := 4

/-- States of an inactive chart bank (R75). -/
def bankEmpty : Nat := 0
def bankStaged : Nat := 1
def bankCommitted : Nat := 2

/-- Inactive chart banks in a state become EMPTY. -/
def Core.emptyBanks (c : Core) (st : Nat) : Core :=
  c.forEach 64 (fun c ch =>
    if c.rd CHT_BANK.INACTIVE_STATE ch = st then
      (c.wr CHT_BANK.INACTIVE_STATE bankEmpty ch).wr CHT_BANK.PENDING_LAYER 0 ch
    else c)

/-- The staged set is emptied (R213): a running check ends with DISCARDED. -/
def Core.discardStaged (c : Core) : Core :=
  let c := c.emptyBanks bankStaged
  let c := c.modPilot (fun p => { p with staged := [], check := [] })
  let c := (c.wr PLT_STAGE.STATE sgEmpty).wr PLT_STAGE.OBJECTS 0
  c.completeLong (fun l => l.kind == .check || l.kind == .stageCopy) (errReply stDiscarded)

/-! ### The control token (R209) -/

def noHolder : Nat := 7
def Core.holder (c : Core) : Nat := c.rd PLT_TOKEN.HOLDER

/-- The token leaves its holder, for a new one or none: the staged set is discarded and TOKEN_LOST posted. -/
def Core.moveToken (c : Core) (next cause : Nat) : Core :=
  let old := c.holder
  let c := c.wr PLT_TOKEN.HOLDER next
  if old = noHolder ∨ old = next then c
  else (c.discardStaged).post evTokenLost old [BitVec.ofNat 8 cause]

/-- The token lapses: TOKEN_TIMEOUT has passed since the holder's latest admitted command. -/
def Core.tokenLapse (c : Core) : Core :=
  if c.holder = noHolder ∨ c.ticks < c.pilot.holderSince + c.rd PLT_TOKEN.TOKEN_TIMEOUT * ticksPerMs then c
  else c.moveToken noHolder 1

/-- A master's session ends or is replaced: it loses the token if it held it (R202, R209). -/
def Core.sessionGone (c : Core) (master : Nat) : Core := if c.holder = master then c.moveToken noHolder 3 else c

/-- The stored responses of a master are forgotten (R202). -/
def Core.forgetResponses (c : Core) (master : Nat) : Core :=
  c.forEach 8 (fun c k => c.modMbox master k (fun m => { m with last := none }))

/-- A session closes (R202). -/
def Core.closeSession (c : Core) (master : Nat) : Core := (c.sessionGone master).wr (epochField master) 0

/-! ### The mode that commands see (R207, R14) -/

/-- The mode a request leads to. -/
def ModeReq.next (ret m : Mode) : ModeReq → Mode
  | .safe => if m = .dormant ∨ m = .shutdownTest then m else .safe
  | .hold _ | .urgent => if m = .expose ∨ m = .slack then .hold else m
  | .arm => if m = .standby then .armed else m
  | .serviceEnter => if m = .standby then .service else m
  | .serviceExit => if m = .service then .standby else m
  | .calibrate => if m = .standby then .calibrate else m
  | .clear => if m = .safe then ret else m
  | .abort _ => if m = .hold ∨ m = .armed then .standby else m

/-- The mode as a command executed now sees it: commands are executed in order (R207), so it includes what those before it
have asked for. -/
def Core.cmdMode (c : Core) : Mode :=
  let ret := Mode.ofCode (c.rd PLT_MODE.RETURN)
  if c.pilot.modeReqs.contains .safe then ModeReq.next ret c.mode .safe
  else
    let m := c.pilot.modeReqs.foldl (fun m r => ModeReq.next ret m r) c.mode
    if m = .standby ∧ c.anyLong (fun k => match k with | .shutdown _ _ => true | _ => false) then .shutdownTest else m

/-- A command asks something of the mode controller. -/
def Core.ask (c : Core) (r : ModeReq) : Core := c.modPilot (fun p => { p with modeReqs := p.modeReqs ++ [r] })

end Sys2Proof.Machine
end

