-- ==== Sys2Proof/Machine/Logbook.lean ====
section
/-!
DEFINITION. Machine/Logbook.lean: the logbook (R410 to R419): records, repeats, layer summaries, the flash summary.
-/
namespace Sys2Proof.Machine

def Core.modLog (c : Core) (f : LogBook → LogBook) : Core := { c with log := f c.log }

/-- The placement of the region (R410), fixed when the host part is known. -/
def Core.placeLog (c : Core) : Core :=
  let size := c.logSize
  let auto := c.hostBytes - size
  let a := c.rd REC_CONFIG.REC_ADDR
  let bad := !c.flag REC_CONFIG.REC_AUTO && (decide (a % 1048576 ≠ 0) || decide (c.hostBytes < a + size))
  (c.wr REC_STATE.REC_BASE (if c.flag REC_CONFIG.REC_AUTO || bad then auto else a)).setFlag REC_STATE.CFG_BAD bad

/-! ### Records (R411) -/

/-- Bytes a record occupies. -/
def recSpan (payload : Bytes) : Nat := (64 + payload.length + 63) / 64 * 64

/-- The header's bytes with the given STATE; RH_CHK is taken with STATE 2. -/
def LogRec.header (r : LogRec) (state unit : Nat) (whole : Bool) : Bytes :=
  let front (st : Nat) : Bytes :=
    leBytes 2 0x4C47 ++ leBytes 1 r.kind ++ leBytes 1 st ++ leBytes 2 r.payload.length ++ leBytes 1 unit ++
    leBytes 1 r.flags ++ leBytes 4 r.seq ++ leBytes 4 r.layer ++ leBytes 2 r.code ++ leBytes 2 r.inst
  let first := leBytes 8 (timeSec r.first) ++ leBytes 4 (timeNs r.first)
  let chk := crc32c (front 2 ++ first ++ zeros 12 ++ r.payload)
  front state ++ leBytes 4 (if whole then r.repeat_ else 0) ++ first ++
  (if whole then leBytes 8 (timeSec r.last) ++ leBytes 4 (timeNs r.last) else zeros 12) ++ zeros 12 ++
  leBytes 4 (if whole then chk else 0)

/-- The writer can write: DRAM serves accesses. -/
def Core.logReady (c : Core) : Bool := c.flag DRC_STATE.TRAINED && !c.held domMEM

def Core.logWriting (c : Core) : Bool :=
  match c.log.rec_ with
  | some r => !r.sealed
  | none => false

/-- A record is lost (R414, R417). -/
def Core.logLost (c : Core) (f : Field) : Core := (c.inc f).inc REC_STAT.REC_LOST

/-- Reserve and fill a record (R413, R417): dropped where it does not fit. -/
def Core.logReserve (c : Core) (kind flags layer code inst : Nat) (first last : Time) (payload : Bytes) : Core :=
  let off := c.rd REC_STATE.SEAL_PTR
  if c.flag REC_STATE.FULL || decide (c.logSize < off + recSpan payload) then
    let c := (c.logLost REC_STAT.LOST_FULL).setFlag REC_STATE.FULL true
    if c.log.full then c
    else
      (c.modLog (fun l => { l with full := true })).post evRecFull 0 (leBytes 4 (c.rd REC_STATE.NEXT_SEQ - 1))
  else
    let lost := c.rd REC_STAT.REC_LOST
    let flags := flags + (if c.actsActive then 1 else 0) + (if c.log.lostSeen < lost then 2 else 0)
    let seq := c.rd REC_STATE.NEXT_SEQ
    let r : LogRec := { addr := c.logBase + off, kind := kind, flags := flags, seq := seq, layer := layer, code := code,
                        inst := inst, repeat_ := 1, pending := 0, first := first, last := last, payload := payload,
                        sealed := false }
    let c := c.modLog (fun l => { l with rec_ := some r, lostSeen := lost })
    let c := (c.wr REC_STATE.NEXT_SEQ (seq + 1)).setFlag REC_STATE.WRITING true
    let c := c.dramWrite r.addr (r.header 1 c.unitId false)
    if payload.isEmpty then c else c.dramWrite (r.addr + 64) payload

/-- An event matches the event that opened a record (R414). -/
def LogRec.matches_ (r : LogRec) (o : Offered) : Bool :=
  r.kind == 1 && r.code == o.code && r.inst == o.inst && r.payload == padTo 40 o.data

/-- One more occurrence of the last sealed record's event: one write of the header (R411, R414). -/
def Core.logRepeat (c : Core) (r : LogRec) (at_ : Time) : Core :=
  let r := { r with repeat_ := min (r.repeat_ + 1) (2 ^ 32 - 1), last := at_ }
  (c.modLog (fun l => { l with rec_ := some r })).dramWrite r.addr (r.header 2 c.unitId true)

/-- An event while no write is under way. -/
def Core.logEvent (c : Core) (o : Offered) : Core :=
  let fresh := c.logReserve 1 0 (c.rd SEQ_LAYER_STATE.LAYER_NOW) o.code o.inst o.at_ o.at_ (padTo 40 o.data)
  match c.log.rec_ with
  | some r => if r.matches_ o then c.logRepeat r o.at_ else fresh
  | none => fresh

/-- An event waits in the intake FIFO, or is dropped (R414). -/
def Core.logIntake (c : Core) (o : Offered) : Core :=
  if 64 ≤ c.log.fifo.length then c.logLost REC_STAT.LOST_INTAKE
  else
    let c := c.modLog (fun l => { l with fifo := l.fifo ++ [o] })
    c.keepMax REC_STATE.FIFO_HWM c.log.fifo.length

/-- An event is offered to the logbook (R414). -/
def Core.logOffer (c : Core) (o : Offered) : Core :=
  match c.log.rec_ with
  | some r =>
    if !r.sealed then
      if r.matches_ o then
        c.modLog (fun l => { l with rec_ := some { r with pending := r.pending + 1, last := o.at_ } })
      else c.logIntake o
    else if c.logReady then c.logEvent o else c.logIntake o
  | none => if c.logReady && c.log.due.isEmpty then c.logEvent o else c.logIntake o

/-- The kinds that go ahead of waiting events: ROLE and START. -/
def DueRec.urgent (d : DueRec) : Bool := d.kind == 6 || d.kind == 7

def Core.logDue (c : Core) (d : DueRec) : Core := c.logReserve d.kind d.flags d.layer 0 d.inst d.at_ d.at_ d.payload

/-- The region restarts (R418): START with cause 1. -/
def startPayload (c : Core) (cause : Nat) : Bytes :=
  leBytes 1 cause ++ zeros 3 ++ leBytes 4 (c.rd REC_STAT.REC_LOST) ++
  leBytes 4 (if cause = 0 then 0xFFFFFFFF else (c.rd REC_STATE.NEXT_SEQ + 2 ^ 32 - 1) % 2 ^ 32) ++
  leBytes 4 (c.rd HBR_STATE.BOOT_COUNT)

def Core.logRestart (c : Core) : Core :=
  let c := ((c.wr REC_STATE.SEAL_PTR 0).setFlag REC_STATE.FULL false).modLog
    (fun l => { l with clearing := false, full := false, rec_ := none })
  let seq := c.rd REC_STATE.NEXT_SEQ
  let c := c.logReserve 7 0 (c.rd SEQ_LAYER_STATE.LAYER_NOW) 0 0 c.now c.now (startPayload c 1)
  c.completeLong (fun l => l.kind == .recClear) (okReply (leBytes 4 seq))

/-- While no record is being written, the next waiting work starts; `fuel` bounds what takes no write of its own. -/
def logKick : Nat → Core → Core
  | 0, c => c
  | fuel + 1, c =>
    if c.logWriting || !c.logReady then c
    else
      match c.log.due, c.log.fifo with
      | d :: ds, f =>
        if d.urgent || f.isEmpty then
          logKick fuel ((c.modLog (fun l => { l with due := ds })).logDue d)
        else
          match f with
          | o :: os => logKick fuel ((c.modLog (fun l => { l with fifo := os })).logEvent o)
          | [] => c
      | [], o :: os => logKick fuel ((c.modLog (fun l => { l with fifo := os })).logEvent o)
      | [], [] => if c.log.clearing && c.log.batchBank.isNone then c.logRestart else c

/-- Every waiting entry may be a drop or a repeat, so the bound is the number waiting and one. -/
def Core.logGo (c : Core) : Core := logKick (c.log.due.length + c.log.fifo.length + 2) c

/-- A record to be written in a place of its own. -/
def Core.logAdd (c : Core) (d : DueRec) : Core :=
  (c.modLog (fun l => { l with due := if d.urgent then d :: l.due else l.due ++ [d] })).logGo

/-- A record is sealed (R413): pending repeats merged, SEAL_PTR advanced; the next work starts. -/
def Core.recordSeal (c : Core) : Core :=
  match c.log.rec_ with
  | none => c
  | some r =>
    if r.sealed || !c.logReady then c
    else
      let r := { r with repeat_ := min (r.repeat_ + r.pending) (2 ^ 32 - 1), pending := 0, sealed := true }
      let c := c.dramWrite r.addr (r.header 1 c.unitId true)
      let c := c.dramWrite (r.addr + 3) [2#8]
      let c := (c.wr REC_STATE.SEAL_PTR (r.addr - c.logBase + recSpan r.payload)).setFlag REC_STATE.WRITING false
      let c := (c.inc REC_STAT.RECORDS).modLog (fun l => { l with
        rec_ := some r,
        layers := if r.kind = 5 then
            (l.layers ++ [padTo 128 (r.header 2 c.unitId true ++ r.payload)]).drop (l.layers.length - 30)
          else l.layers })
      c.logGo

/-! ### Layer summaries (R412, R415, R416) -/

/-- The least shift that fits every bin in 16 bits. -/
def leastShift (bins : List Nat) : Nat :=
  ((List.range 25).find? (fun k => bins.all (fun b => decide (b >>> k ≤ 65535)))).getD 24

def Core.binsOf (c : Core) (bank ch hist : Nat) : List Nat :=
  (List.range 64).map (fun b => Kv.get 0 c.log.hist (histKey bank ch hist b))

/-- HIST_A or HIST_B: two histograms. -/
def Core.histPayload (c : Core) (bank ch h0 : Nat) : Bytes :=
  let a := c.binsOf bank ch h0
  let b := c.binsOf bank ch (h0 + 1)
  let ka := leastShift a
  let kb := leastShift b
  leBytes 1 ka ++ leBytes 1 kb ++ zeros 2 ++ a.flatMap (fun x => leBytes 2 (x >>> ka)) ++
  b.flatMap (fun x => leBytes 2 (x >>> kb))

def Core.extremeBytes (c : Core) (bank ch item : Nat) : Bytes :=
  let e := Kv.get Extreme.none_ c.log.extr (extrKey bank ch item)
  if e.seen then
    leBytes 4 (ofSigned 32 e.value) ++ leBytes 4 (timeSec e.at_) ++ leBytes 4 (timeNs e.at_) ++
    leBytes 4 (ofSigned 32 e.x) ++ leBytes 4 (ofSigned 32 e.y) ++ leBytes 1 item ++ zeros 3
  else zeros 20 ++ leBytes 1 item ++ zeros 3

def Core.chSummary (c : Core) (bank ch : Nat) : Bytes :=
  (List.range 5).flatMap (c.extremeBytes bank ch) ++ leBytes 24 (c.image Obj.RFX_STAT ch) ++
  leBytes 24 (c.image Obj.BWK_STAT ch) ++ leBytes 16 (c.image Obj.GAT_STAT ch)

/-- The mask of channels declared failed. -/
def Core.failedMask (c : Core) : Nat := (List.range 64).foldl (fun m ch => if c.failed ch then m + 2 ^ ch else m) 0

/-- The batch of an ended layer: LAYER, then three records for each channel of CHANNEL_MASK. -/
def Core.summaryBatch (c : Core) (aborted : Bool) : Core :=
  let c := c.drainTaps
  let bank := c.log.bank
  let layer := c.rd SEQ_LAYER_STATE.LAYER_NOW
  let mk (kind inst flags : Nat) (p : Bytes) : DueRec := ⟨kind, flags, layer, inst, c.now, p⟩
  let lay := mk 5 0 (if aborted then 4 else 0)
    (leBytes 4 (timeSec c.log.tideAt) ++ leBytes 4 (timeNs c.log.tideAt) ++ leBytes 4 (timeSec c.now) ++
     leBytes 4 (timeNs c.now) ++ leBytes 8 c.layer.mask ++ leBytes 8 c.failedMask)
  let chans := (List.range 64).filter (fun ch => bitOf c.layer.mask ch)
  let recs := chans.flatMap (fun ch =>
    [mk 2 ch 0 (c.histPayload bank ch 0), mk 3 ch 0 (c.histPayload bank ch 2), mk 4 ch 0 (c.chSummary bank ch)])
  (c.modLog (fun l => { l with due := l.due ++ lay :: recs, batchBank := some bank })).logGo

/-- Every record of the batch is written: the bank is cleared (R415). -/
def Core.batchDone (c : Core) : Core :=
  match c.log.batchBank with
  | none => c
  | some b =>
    if c.logWriting || c.log.due.any (fun d => !d.urgent) then c
    else
      (c.modLog (fun l => { l with
        batchBank := none,
        hist := Kv.dropWhere (fun k => k / 64 / 4 / 64 == b) l.hist,
        extr := Kv.dropWhere (fun k => k / 5 / 64 == b) l.extr })).logGo

/-- At a layer's tide mark the taps switch banks (R415). -/
def Core.logTide (c : Core) : Core := c.drainTaps.modLog (fun l => { l with bank := 1 - l.bank, tideAt := c.now })

/-- A change of ROLE writes a ROLE record (R418). -/
def Core.logRole (c : Core) (old : Nat) : Core :=
  c.logAdd ⟨6, 0, c.rd SEQ_LAYER_STATE.LAYER_NOW, 0, c.now,
    leBytes 1 old ++ leBytes 1 c.role ++ leBytes 2 (c.rd TWN_STATE.TAKEOVER_EPOCH) ++ zeros 4⟩

/-- The first record after each BOOT (R412). -/
def Core.logStart (c : Core) : Core := c.logAdd ⟨7, 0, c.rd SEQ_LAYER_STATE.LAYER_NOW, 0, c.now, startPayload c 0⟩

/-- The summary block of R419. -/
def Core.summaryBlock (c : Core) (gen : Nat) : Bytes :=
  let body := leBytes 2 0x5347 ++ leBytes 2 gen ++ leBytes 4 (c.rd HBR_STATE.BOOT_COUNT) ++
    leBytes 4 (c.rd REC_STATE.NEXT_SEQ) ++ leBytes 4 (c.rd REC_STAT.REC_LOST) ++ leBytes 1 (c.rd REC_STATE.FULL) ++
    leBytes 1 c.log.layers.length ++ zeros 46 ++ c.log.layers.flatMap (fun r => r)
  padTo 4092 body ++ leBytes 4 (crc32c (padTo 4092 body))

end Sys2Proof.Machine
end

