-- ==== Sys2Proof/Machine/VectorStore.lean ====
section
/-!
DEFINITION. Machine/VectorStore.lean: DRAM addresses, traffic and errors (R355 to R371), the vector store and the tile
check at use (R51 to R55, R372, R373).
-/
namespace Sys2Proof.Machine

/-! ### Address mapping (R358) -/

/-- Where a DRAM address lies. -/
structure DramPlace where
  sub : Nat
  burst : Nat
  bankGroup : Nat
  bank : Nat
  rank : Nat
  row : Nat
  deriving DecidableEq, Repr

/-- R358: `x4` devices give W = 7, x8 W = 6; the rank bit is absent with one rank. -/
def dramPlace (x4 twoRanks : Bool) (a : Nat) : DramPlace :=
  let w := if x4 then 7 else 6
  let hi := 13 + w
  let row := if twoRanks then a >>> (hi + 1) else a >>> hi
  { sub := bits a 6 2, burst := bits a 8 w, bankGroup := bits a (8 + w) 3 ^^^ row % 8, bank := bits a (11 + w) 2,
    rank := if twoRanks then bits a hi 1 else 0, row := row }

/-- An address in a row, from its fields in the layout of R358: the subchannel; the bank group, the bank and the rank; the
row. With one rank the rank bit is absent. -/
def rowAddress (x4 twoRanks : Bool) (sub bank row : Nat) : Nat :=
  let w := if x4 then 7 else 6
  if twoRanks then sub * 64 + bank * 2 ^ (8 + w) + row * 2 ^ (14 + w)
  else sub * 64 + bank % 32 * 2 ^ (8 + w) + row * 2 ^ (13 + w)

/-! ### Uncorrectable reads (R371) -/

def drcService : Nat := 0
def drcStart : Nat := 1
def drcTest : Nat := 2
def drcRecovery : Nat := 3

/-- Enter a phase; the activate counters are cleared at each entry into a counting phase (R365). -/
def Core.drcPhase (c : Core) (p : Nat) : Core :=
  let old := c.rd DRC_STATE.PHASE
  let c := c.wr DRC_STATE.PHASE p
  if p = old ∨ p = drcService then c else { c with drc := { c.drc with counters := [[], [], [], []] } }

/-- An uncorrectable read at an address by a class (R371): counted, logged, posted; RECOVERY. -/
def Core.uncorrectable (c : Core) (a cls : Nat) : Core :=
  let c := c.inc DRC_STAT.UE (subchannel a)
  let b := a / 64 * 64
  let c := c.wr DRC_UE_LOG.UE_ADDR b
  let c := c.wr DRC_UE_LOG.UE_CLASS cls
  let c := c.wr DRC_UE_LOG.UE_SEC (timeSec c.now)
  let c := c.wr DRC_UE_LOG.UE_NS (timeNs c.now)
  let c := if c.rd DRC_STATE.PHASE = drcTest then c else c.drcPhase drcRecovery
  let c := { c with drc := { c.drc with recoverLeft := some (if c.drc.scrubAt = 0 then 1 else 2) } }
  c.post evDrcUncorr (subchannel a) (leBytes 8 b ++ leBytes 1 cls)

/-- A corrected read is written back and counted (R370). -/
def Core.corrected (c : Core) (a : Nat) : Core := c.inc DRC_STAT.CE (subchannel a)

/-- A read by a class meets a burst in error, given by its address and whether the check bits corrected it: what the controller
does, and whether the burst is uncorrectable (R370, R371). -/
def Core.readErr (c : Core) (cls : Nat) (e : Option (Nat × Bool)) : Core × Bool :=
  match e with
  | none => (c, false)
  | some (a, true) => (c.corrected a, false)
  | some (a, false) => (c.uncorrectable a cls, true)

/-- The address of a burst that is named by its index in `n` bytes at `a`. -/
def burstIn (a n : Nat) (e : Option (Nat × Bool)) : Option (Nat × Bool) := e.map (fun x => (a + 64 * (x.1 % (n / 64 + 1)), x.2))

/-- Read a tile for the vector store: an uncorrectable burst, named by its index in the tile, poisons it (R371). -/
def Core.readTile (c : Core) (m : Mem) (a : Nat) (ue : Option (Nat × Bool)) : Core × Bytes × Bool :=
  let c := c.dramHazard a 4096
  let bs := c.dramRead m a 4096
  let r := c.readErr 0 (burstIn a 4095 ue)
  (r.1, bs, r.2)

/-! ### The rings (R52, R55, R373) -/

/-- The next tile a channel's ring wants: layer, address and index. -/
def nextWanted (plan : List (Nat × Nat × Nat)) (at_ : Option (Nat × Nat)) : Option (Nat × Nat × Nat) :=
  let first : List (Nat × Nat × Nat) → Option (Nat × Nat × Nat) := fun l =>
    (l.find? (fun q => q.2.2 != 0)).map (fun q => (q.1, q.2.1, 0))
  match at_ with
  | none => first plan
  | some (layer, n) =>
    match findIdx (fun (q : Nat × Nat × Nat) => q.1 == layer) plan 0 with
    | none => first plan
    | some (i, q) => if n < q.2.2 then some (layer, q.2.1 + 4096 * n, n) else first (plan.drop (i + 1))

/-- Channels whose ring has a free slot and a tile to fetch. -/
def Core.wantsFetch (c : Core) (ch : Nat) : Bool :=
  decide ((c.ch ch).ring.length < c.rd VST_CONFIG.VST_SLOTS) && (nextWanted (c.fetchPlan ch) (c.ch ch).fetchAt).isSome

/-- The channel the vector store fetches for next: fewest resident tiles, then the lowest number (R52). -/
def Core.fetchFor (c : Core) : Option Nat :=
  pickLeast (fun ch => (c.ch ch).ring.length) ((List.range 64).filter c.wantsFetch)

/-- The vector store is emptied: a reset of MEM keeps nothing of the rings (R420). A ring fills again from the first tile of the
layer in progress that has not moved into the buffer, else from the next layer's list (R52). -/
def Core.emptyRings (c : Core) : Core :=
  c.forEach 64 (fun c ch => (c.modCh ch (fun s => { s with
    ring := [],
    fetchAt := if c.layerActive && s.armed then some (c.rd SEQ_LAYER_STATE.LAYER_NOW, s.moveNext) else none })).resident ch)

/-- A fetch completes (R52, R373): one whole tile fills a free slot. `ns` is how long it took. -/
def Core.fetchTile (c : Core) (m : Mem) (ns : Nat) (ue : Option (Nat × Bool)) : Core :=
  if c.held domMEM || c.held domEXP then c
  else
  match c.fetchFor with
  | none => c
  | some ch =>
    match nextWanted (c.fetchPlan ch) (c.ch ch).fetchAt with
    | none => c
    | some (layer, a, i) =>
      let (c, bs, poisoned) := c.readTile m a ue
      let c := c.modCh ch (fun s => { s with ring := s.ring ++ [⟨layer, i, bs, poisoned⟩], fetchAt := some (layer, i + 1) })
      (c.keepMax VST_STATE.FETCH_MAX_NS ns ch).resident ch

/-- Discard every prefetched tile of a channel: the ring refills from the start of the next layer's list (R55). -/
def Core.flushRing (c : Core) (ch : Nat) : Core :=
  (c.modCh ch (fun s => { s with
    ring := [], fetchAt := none,
    idle := match s.idle with | some t => if t.adopt.isSome then some t else none | none => none })).resident ch

/-- Drop what was prefetched for layers that are no longer queued. -/
def Core.dropUnqueued (c : Core) : Core :=
  let keep := c.queuedManifests.map manLayer
  c.forEach 64 (fun c ch =>
    let ok (l : Nat) : Bool := (c.layerActive && l == c.rd SEQ_LAYER_STATE.LAYER_NOW) || keep.contains l
    (c.modCh ch (fun s =>
      let ring := s.ring.filter (fun r => ok r.layer)
      { s with
        ring := ring,
        idle := match s.idle with | some t => if t.adopt.isSome || ok t.layer then some t else none | none => none,
        fetchAt := match s.fetchAt with
          | some (l, n) => if ok l then some (l, n) else ring.getLast?.map (fun r => (r.layer, r.index + 1))
          | none => none })).resident ch)

/-! ### The check at use (R51, R53) -/

/-- The environment of the check of the idle half's tile: what is in force, or will be at its layer's tide mark. -/
def Core.useEnv (c : Core) (ch : Nat) (t : BufTile) : TileEnv :=
  let prev := if t.adopt.isSome ∨ t.index = 0 then none else (c.ch ch).prevSeq
  if c.layerActive then c.tileEnv ch t.layer prev else c.atNextLayer.tileEnv ch t.layer prev

/-- The tile in the idle half is checked: the first failing code, if any. -/
def Core.checkIdle (c : Core) (ch : Nat) (t : BufTile) : Option Nat :=
  (tileCheck (c.useEnv ch t) t.bytes t.poisoned).map Prod.fst

/-- Put a tile into the idle half with the result of its check; a passed own tile is the channel's previous one. -/
def Core.putIdle (c : Core) (ch : Nat) (t : BufTile) (ck : TileCk) : Core :=
  c.modCh ch (fun s => { s with
    idle := some { t with ck := ck },
    prevSeq := if ck = .passed ∧ t.adopt.isNone then some (tileHdr t.bytes).planSeq else s.prevSeq })

/-- Move the next tile into the idle half, the oldest adoption tile first (R51, R151), and check it. `corr` words were
corrected on the move; `dbl` says that one was delivered poisoned (R372). -/
def Core.moveAndCheck (c : Core) (ch corr : Nat) (dbl : Bool) : Core :=
  let s := c.ch ch
  let judge (c : Core) (t : BufTile) : Core :=
    c.putIdle ch t (match c.checkIdle ch t with | none => .passed | some _ => .failedOnce)
  if c.held domEXP || c.held domMEM || s.idle.isSome || s.susp.isSome then c
  else
    match s.adoptQ with
    | a :: q =>
      let c := c.modCh ch (fun s => { s with adoptQ := q })
      let c := c.wr ADP_STATE.QUEUED (satNat 16 q.length) ch
      judge c ⟨c.rd SEQ_LAYER_STATE.LAYER_NOW, 0xFFFFFFFF, a.bytes, false, .waiting, some a.info⟩
    | [] =>
      match s.ring with
      | [] => c
      | r :: q =>
        let now := c.layerActive && r.layer == c.rd SEQ_LAYER_STATE.LAYER_NOW && s.armed
        let next := !c.layerActive && (c.queuedManifests.head?.map manLayer == some r.layer)
        if now || next then
          let c := c.modCh ch (fun s => { s with ring := q, moveNext := if now then s.moveNext + 1 else s.moveNext })
          let c := c.inc VST_STATE.ECC_CORR ch corr
          judge (c.resident ch) ⟨r.layer, r.index, r.bytes, r.poisoned || dbl, .waiting, none⟩
        else c

/-- Where an own tile lies in DRAM. -/
def Core.tileAddr (c : Core) (ch : Nat) (t : BufTile) : Nat :=
  match (c.fetchPlan ch).find? (fun q => q.1 == t.layer) with
  | some q => q.2.1 + 4096 * t.index
  | none => 0

/-- Fetch the idle half's tile afresh: from DRAM, or from the reserve for an adoption tile (R51, R151). -/
def Core.refetch (c : Core) (m : Mem) (ch : Nat) (t : BufTile) (ue : Option (Nat × Bool)) : Core × BufTile :=
  match t.adopt with
  | some _ => (c, { t with poisoned := false })
  | none =>
    let r := c.readTile m (c.tileAddr ch t) ue
    (r.1, { t with bytes := r.2.1, poisoned := r.2.2 })

/-- TILE_BAD (R51, R225). -/
def Core.postTileBad (c : Core) (ch : Nat) (t : BufTile) (code : Nat) : Core :=
  c.post evTileBad ch
    (leBytes 4 t.layer ++ leBytes 4 (if t.adopt.isSome then 0xFFFFFFFF else t.index) ++
     leBytes 4 (tileHdr t.bytes).planSeq ++ leBytes 1 code)

/-- The re-read of a tile that failed its check (R51): a second failure posts TILE_BAD and, once the layer has started,
raises a HOLD escalation. The fresh fetch made at a resume is a re-read too and counts in VST_RETRY (DESIGN CHOICE, assumption
log 49: R51 does not say whether it does). -/
def Core.reread (c : Core) (m : Mem) (ch : Nat) (ue : Option (Nat × Bool)) : Core :=
  match (c.ch ch).idle with
  | none => c
  | some t =>
    if t.ck != .failedOnce || c.held domEXP || c.held domMEM then c
    else
      let c := c.inc VST_RETRY.VST_RETRY
      let r := c.refetch m ch t ue
      let c := r.1
      match c.checkIdle ch r.2 with
      | none => c.putIdle ch r.2 .passed
      | some code =>
        let c := c.putIdle ch r.2 .failedTwice
        let c := c.inc VST_RETRY.VST_BAD
        let c := c.postTileBad ch r.2 code
        if c.layerActive then c.raiseHold evTileBad else c

/-- A tile is the first of its channel's list in the layer that the queue exposes next. -/
def Core.nextFirst (c : Core) (ch : Nat) (t : BufTile) : Bool :=
  t.adopt.isNone && t.index == 0 &&
  (match c.queuedManifests.head? with
   | some m => t.layer == manLayer m && bitOf (manMask m) ch
   | none => false)

/-- Before a layer starts, a first tile that failed twice is fetched and checked again: no count, no event (R53). The layer
discarded, its tile waits no more. -/
def Core.recheckFirst (c : Core) (m : Mem) (ch : Nat) (ue : Option (Nat × Bool)) : Core :=
  match (c.ch ch).idle with
  | none => c
  | some t =>
    if c.layerActive || t.ck != .failedTwice || c.held domEXP || c.held domMEM || !c.nextFirst ch t then c
    else
      let r := c.refetch m ch t ue
      match r.1.checkIdle ch r.2 with
      | none => r.1.putIdle ch r.2 .passed
      | some _ => r.1.putIdle ch r.2 .failedTwice

/-- At a resume, a tile that failed twice is to be fetched afresh and checked once more (R51). -/
def Core.retryAfterHold (c : Core) (ch : Nat) : Core :=
  match (c.ch ch).idle with
  | some t => if t.ck = .failedTwice then c.putIdle ch t .failedOnce else c
  | none => c

/-- Every armed channel's ring holds VST_START_FILL tiles (or all it has), and its first tile has passed (R53). The first tile,
which has moved into the buffer to be checked, counts as one of them (DESIGN CHOICE, assumption log 49: R53 does not say). -/
def Core.ringsReady (c : Core) (man : Bytes) : Bool :=
  (List.range 64).all (fun ch =>
    !bitOf (manMask man) ch || c.failed ch ||
    (let s := c.ch ch
     let mine := (s.ring.filter (fun r => r.layer == manLayer man)).length
     let first := match s.idle with
       | some t => t.ck == .passed && t.layer == manLayer man && t.adopt.isNone && t.index == 0
       | none => false
     first && decide (min (c.rd VST_CONFIG.VST_START_FILL) (manCount man ch) ≤ mine + 1)))

end Sys2Proof.Machine
end

