-- ==== Sys2Proof/Machine/Dram.lean ====
section
/-!
DEFINITION. Machine/Dram.lean: the DRAM controller (R355 to R373): training, zeroing, refresh, row disturbance, scrubbing and
calibration slices.
-/
namespace Sys2Proof.Machine

def Core.modDrc (c : Core) (f : Drc → Drc) : Core := { c with drc := f c.drc }

/-- The calibration group DRAM, and the record part of a subchannel (R374, R386). -/
def grpDram : Nat := 3
def partOfSub (s : Nat) : Nat := 4 + s

/-- The stored training values of a subchannel may be loaded: a valid record of this configuration (R360, R386). -/
def Core.storedTraining (c : Core) (sub sig : Nat) : Bool :=
  bitOf c.hbr.cal.validParts (partOfSub sub) &&
  fieldLE (c.hbr.cal.parts.getD (partOfSub sub) []) 84 4 == sig

/-- Lowest set bit below `n`. -/
def lowBit (v n : Nat) : Nat := ((List.range n).find? (fun i => bitOf v i)).getD 0

def trainLane (r : TrainResult) (s : Nat) : LaneResult :=
  match s with
  | 0 => r.lane0
  | 1 => r.lane1
  | 2 => r.lane2
  | _ => r.lane3

/-- The configuration signature (R386): over DRC_CONFIG for memory-down, else over the SPD bytes read. -/
def Core.drcSignature (c : Core) (r : TrainResult) : Nat :=
  if c.flag DRC_CONFIG.MEMDOWN then crc32c (c.imageBytes Obj.DRC_CONFIG 0) else r.signature.toNat

/-- The pass windows of a subchannel's 40 lanes. -/
def windows (l : List (BitVec 8)) : List Nat := (List.range 40).map (fun n => (l.getD n 0#8).toNat)

/-- The narrowest window, and the first lane that has it. -/
def narrowest : List Nat → Nat × Nat
  | [] => (255, 0)
  | w :: l => let r := narrowest l; if w ≤ r.1 then (w, 0) else (r.1, r.2 + 1)

/-- Lanes that fail: a window is narrower than MIN_EYE; none where the stored values were verified (R359, R360). -/
def Core.failedLanes (c : Core) (l : LaneResult) (fast : Bool) : List Nat :=
  (List.range 40).filter (fun n => !fast &&
    (decide ((windows l.rd).getD n 0 < c.rd DRC_CONFIG.MIN_EYE) || decide ((windows l.wr).getD n 0 < c.rd DRC_CONFIG.MIN_EYE)))

/-- The lane results of a subchannel are reported. -/
def Core.laneRegs (c : Core) (s : Nat) (l : LaneResult) (failed : List Nat) : Core :=
  let rd := narrowest (windows l.rd)
  let wr := narrowest (windows l.wr)
  let c := (c.wr DRC_LANE.EYE_MIN_RD rd.1 s).wr DRC_LANE.EYE_MIN_WR wr.1 s
  let c := (c.wr DRC_LANE.WORST_RD rd.2 s).wr DRC_LANE.WORST_WR wr.2 s
  c.wr DRC_LANE.FAILED_LANES ((failed.map (2 ^ ·)).sum) s

/-- The memory fitted: x4 devices, two ranks, density (16, 24, 32 Gb); DRC_CONFIG describes memory-down, the SPD a module
(R356). -/
def Core.geometry (c : Core) (r : TrainResult) : Bool × Bool × Nat :=
  if c.flag DRC_CONFIG.MEMDOWN then (c.flag DRC_CONFIG.WIDTH, c.flag DRC_CONFIG.RANKS, c.rd DRC_CONFIG.DENSITY)
  else (r.x4, r.dual, r.density.val)

/-- Installed MiB: four subchannels of 32 data bits (R355). -/
def installedMib (g : Bool × Bool × Nat) : Nat := 4 * (if g.2.1 then 2 else 1) * (if g.1 then 8 else 4) * (2048 + 1024 * g.2.2)

/-- The configuration cannot be trained: modules that differ or lie outside R355, or more than 64 GiB (R356). -/
def Core.cfgBad (c : Core) (r : TrainResult) : Bool :=
  (!c.flag DRC_CONFIG.MEMDOWN && r.spdBad) || decide (65536 < installedMib (c.geometry r))

/-- Training has succeeded on every subchannel: the memory can be used, every byte zero (R357, R361). In BOOT and BRINGUP the
START record comes first of all records (R412). -/
def Core.dramTrained (c : Core) (r : TrainResult) (fast : Bool) : Core :=
  let g := c.geometry r
  let host := installedMib g - 512
  let c := (c.setFlag DRC_STATE.TRAINED true).setFlag DRC_STATE.FAST_TRAIN fast
  let c := c.wr DRC_STATE.RATE (min r.rate.toNat (c.rd DRC_CONFIG.RATE_MAX))
  let c := ((c.wr DRC_STATE.HOST_MIB host).wr BAR0.ID_HOST_MIB host).wr DRC_STATE.INIT_BLOCKS 0
  let md := c.flag DRC_CONFIG.MEMDOWN
  let c := c.modDrc (fun d => { d with
    wq := [[], [], [], []], x4 := g.1, dual := g.2.1,
    raaimt := 8 * (if md then c.rd DRC_CONFIG.RAAIMT else r.raaimt.toNat),
    raammt := 8 * (if md then c.rd DRC_CONFIG.RAAMMT else r.raammt.toNat) })
  let c := { c with rst := { c.rst with dramTrained := true, fastDram := fast } }
  let c := c.placeLog
  if c.mode == .boot || c.mode == .bringup then c.logStart else c.logGo

/-- Training or verification ends (R356, R359, R360); the flag says whether the memory was zeroed. -/
def Core.trainingDone (c : Core) (r : TrainResult) : Core × Bool :=
  let fail (c : Core) : Core := c.modDrc (fun d => { d with trainFailed := true })
  if c.held domMEM || c.flag DRC_STATE.TRAINED || c.drc.trainFailed then (c, false)
  else if c.cfgBad r then ((fail c).post evDrcTrainFail 0 [1#8, 0#8], false)
  else
    let sig := c.drcSignature r
    let fast (s : Nat) : Bool := c.storedTraining s sig && (trainLane r s).verified
    let failed (s : Nat) : List Nat := c.failedLanes (trainLane r s) (fast s)
    let c := c.forEach 4 (fun c s => c.laneRegs s (trainLane r s) (failed s))
    let bad := (List.range 4).filter (fun s => !(failed s).isEmpty)
    let due := !(List.range 4).all fast
    let c := if due then { c with hbr := { c.hbr with cal := { c.hbr.cal with due := orBit c.hbr.cal.due grpDram } } } else c
    if bad.isEmpty then (c.dramTrained r (!due), true)
    else
      (bad.foldl (fun c s => c.post evDrcTrainFail s [2#8, BitVec.ofNat 8 ((failed s).headD 0)]) (fail c), false)

/-- The phase the controller is in outside training and test (R365). -/
def Core.drcRest (c : Core) : Nat :=
  if !c.flag DRC_STATE.INIT_DONE then drcStart
  else if c.drc.recoverLeft.isSome then drcRecovery
  else
    match c.hbr.cal.run with
    | some r => if r.group = grpDram then drcRecovery else drcService
    | none => drcService

/-- Every block is zeroed (R361). -/
def Core.initDone (c : Core) : Core :=
  if c.held domMEM || !c.flag DRC_STATE.TRAINED || c.flag DRC_STATE.INIT_DONE then c
  else
    let blocks := (c.rd DRC_STATE.HOST_MIB + 512) * 16
    let c := (c.setFlag DRC_STATE.INIT_DONE true).wr DRC_STATE.INIT_BLOCKS blocks
    let c := if c.rd DRC_STATE.PHASE = drcTest then c else c.drcPhase c.drcRest
    c.post evDrcInitDone 0 (leBytes 4 blocks)

/-! ### Refresh and row disturbance (R363 to R365) -/

/-- A bank of a subchannel by one number: rank, bank group, bank. -/
def DramPlace.bankIx (p : DramPlace) : Nat := 32 * p.rank + 4 * p.bankGroup + p.bank

/-- The key of a bank of a subchannel. -/
def bankKey (sub bank : Nat) : Nat := sub * 64 + bank

/-- A same-bank refresh falls due: postponed while row hits wait, at most twice; a queued neighbour refresh of the bank
follows it (R363, R364). -/
def Core.refresh (c : Core) (sub bank : Nat) (hits : Bool) : Core :=
  c.unlessHeld domMEM (fun c =>
    let k := bankKey sub bank
    let n := Kv.get 0 c.drc.postponed k
    if hits ∧ n < 2 then c.modDrc (fun d => { d with postponed := Kv.put 0 d.postponed k (n + 1) })
    else c.modDrc (fun d => { d with
      postponed := Kv.put 0 d.postponed k 0,
      neighbours := d.neighbours.filter (fun q => !(q.1 == sub && q.2.1 == bank)) }))

/-- MR4 of a rank is polled: the rate is doubled while any device reports a raised need (R355). -/
def Core.mr4Poll (c : Core) (rank : Nat) (raised : Bool) : Core :=
  c.unlessHeld domMEM (fun c => c.modDrc (fun d => { d with
    doubled := (d.doubled.filter (fun r => r != rank)) ++ (if raised then [rank] else []) }))

/-- The entry with the least count, the first of equals. -/
def leastCounter : List (Nat × Nat) → Option (Nat × Nat)
  | [] => none
  | a :: l =>
    match leastCounter l with
    | none => some a
    | some b => if a.2 ≤ b.2 then some a else some b

/-- Count an activate of a row in a subchannel's table of 1,024 counters: the table and the row's new count (R365). -/
def countActivate (tab : List (Nat × Nat)) (row : Nat) : List (Nat × Nat) × Nat :=
  match tab.find? (fun e => e.1 == row) with
  | some e => (tab.map (fun x => if x.1 = row then (row, e.2 + 1) else x), e.2 + 1)
  | none =>
    if tab.length < 1024 then (tab ++ [(row, 1)], 1)
    else
      match leastCounter tab with
      | some m => (tab.map (fun x => if x.1 = m.1 then (row, m.2 + 1) else x), m.2 + 1)
      | none => ([(row, 1)], 1)

def Core.queueNeighbour (c : Core) (sub bank row : Nat) (cnt : Field) : Core :=
  (c.inc cnt sub).modDrc (fun d => { d with neighbours := d.neighbours ++ [(sub, bank, row)] })

/-- An activate of the row of an address: the probabilistic draw of R364, the counter of R365, refresh management (R363). -/
def Core.activate (c : Core) (a : Nat) : Core :=
  c.unlessHeld domMEM (fun c =>
    let p := dramPlace c.drc.x4 c.drc.dual a
    let sub := p.sub
    let bank := p.bankIx
    let row := p.row
    let (n, c) := c.drawFresh
    let draw := (Config.lfsrDraw n).toNat
    let c := if draw % 2 ^ c.rd DRC_CONFIG.PNR_LOG2 = 0 then c.queueNeighbour sub bank row DRC_STAT.RH_PROB else c
    let k := bankKey sub bank
    let raa := Kv.get 0 c.drc.raa k + 1
    let rfm := decide (c.drc.raaimt ≠ 0) && decide (c.drc.raaimt ≤ raa)
    let c := if rfm then c.inc DRC_STAT.RFM sub else c
    let c := c.modDrc (fun d => { d with raa := Kv.put 0 d.raa k (if rfm then raa - d.raaimt else raa) })
    if c.rd DRC_STATE.PHASE = drcService then c
    else
      let id := bank * 2 ^ 32 + row
      let t := countActivate (c.drc.counters.getD sub []) id
      let hit := decide (c.rd DRC_CONFIG.ACT_TH ≤ t.2)
      let tab := if hit then t.1.map (fun x => if x.1 = id then (id, 0) else x) else t.1
      let c := c.modDrc (fun d => { d with counters := setAt [] d.counters sub tab })
      if hit then c.queueNeighbour sub bank row DRC_STAT.RH_COUNT else c)

/-! ### Scrubbing (R370, R371) -/

/-- Bytes of the host part and the reserve. -/
def Core.dramBytes (c : Core) : Nat := (c.rd DRC_STATE.HOST_MIB + 512) * 1048576

/-- A full pass of the scrub has ended. -/
def Core.scrubPass (c : Core) : Core :=
  let c := c.inc DRC_STATE.SCRUB_PASS
  match c.drc.recoverLeft with
  | none => c
  | some n =>
    let c := c.modDrc (fun d => { d with recoverLeft := if n ≤ 1 then none else some (n - 1) })
    if n ≤ 1 ∧ c.rd DRC_STATE.PHASE = drcRecovery then c.drcPhase c.drcRest else c

/-- The patrol scrub reads the next burst: 1 corrected, 2 uncorrectable (R371). -/
def Core.patrolScrub (c : Core) (result : Nat) : Core :=
  if c.held domMEM || !c.flag DRC_STATE.TRAINED then c
  else
    let a := c.drc.scrubAt
    let c := (c.readErr 3 (if result = 0 then none else some (a, result == 1))).1
    let next := a + 64
    if next < c.dramBytes then c.modDrc (fun d => { d with scrubAt := next })
    else (c.modDrc (fun d => { d with scrubAt := 0 })).scrubPass

/-! ### Calibration slices (R362) -/

/-- A slice of a DRAM calibration run: slices start at least 80 µs apart and only while camera FIFOs are low; the last slice
of a subchannel applies its new centres when every lane passed. -/
def Core.calSlice (c : Core) (sub : Nat) (fifosLow last passed : Bool) : Core :=
  let running := match c.hbr.cal.run with
    | some r => r.group == grpDram
    | none => false
  let soon := match c.drc.sliceAt with
    | some t => decide (c.ticks < t + 160)
    | none => false
  if c.held domMEM || !running || soon || !fifosLow then c
  else c.modDrc (fun d => { d with
    sliceAt := some c.ticks,
    slicePass := if last && passed && !d.slicePass.contains sub then d.slicePass ++ [sub] else d.slicePass })

end Sys2Proof.Machine
end

