-- ==== Sys2Proof/Machine/Lighting.lean ====
section
/-!
DEFINITION. Machine/Lighting.lean: the on-die sinks, fades, short and open-lamp checks and the Shingle wire chains (R268 to
R283).
-/
namespace Sys2Proof.Machine

def Core.sink (c : Core) (n : Nat) : Sink := c.lum.sinks.getD n Sink.init
def Core.modSink (c : Core) (n : Nat) (f : Sink → Sink) : Core :=
  { c with lum := { c.lum with sinks := modAt Sink.init c.lum.sinks n f } }

/-! ### Curves (R271) -/

/-- The largest `k` below `hi` for which `f` holds, `f 0` taken as true; `fuel` bounds the bisection. -/
def bisect (f : Nat → Bool) : Nat → Nat → Nat → Nat
  | 0, lo, _ => lo
  | fuel + 1, lo, hi =>
    if hi ≤ lo + 1 then lo
    else
      let m := (lo + hi) / 2
      if f m then bisect f fuel m hi else bisect f fuel lo m

/-- An entry of the gamma table: the integer nearest 65,535 × (i/256)^(a/5), ties up. -/
def gammaEntry (a i : Nat) : Nat :=
  bisect (fun k => decide ((2 * k - 1) ^ 5 * 256 ^ a ≤ 131070 ^ 5 * i ^ a)) 18 0 65536

/-- An entry of the logarithmic table: the integer nearest 65,535 × (2^(n·i/256) − 1)/(2^n − 1), ties up. -/
def logEntry (n i : Nat) : Nat :=
  bisect (fun k => decide (((2 * k - 1) * (2 ^ n - 1) + 131070) ^ 256 ≤ 131070 ^ 256 * 2 ^ (n * i))) 18 0 65536

def curveEntry (curve p i : Nat) : Nat :=
  if curve = 1 then gammaEntry ([9, 11, 12, 14].getD p 9) i else logEntry (6 + 2 * p) i

/-- The curve of R271 at a 16-bit level. -/
def curveOf (curve p x : Nat) : Nat :=
  if curve = 0 then x
  else if x = 65535 then 65535
  else
    let i := x / 256
    let t0 := curveEntry curve p i
    let t1 := curveEntry curve p (i + 1)
    t0 + (t1 - t0) * (x % 256) / 256

/-! ### Fades (R273) -/

def Fade.level (f : Fade) : Nat :=
  if f.total ≤ f.k then f.b1
  else ((f.b0 : Int) + (((f.b1 : Int) - f.b0) * f.k).tdiv f.total).toNat

/-- One step of a fade: the level after it, and the fade while it still runs. -/
def Fade.step (f : Fade) (ticks : Nat) : Option Fade × Nat :=
  let f := { f with k := f.k + 1, at_ := ticks }
  (if f.total ≤ f.k then none else some f, f.level)

/-- A latched write of LEVEL starts a fade from the present level over FADE ms. -/
def Core.startFade (c : Core) (n : Nat) : Core :=
  c.modSink n (fun s => { s with fade := some ⟨s.level, c.rd LUM_SINK.LEVEL n, 0, 10 * c.rd LUM_SINK.FADE n, c.ticks⟩ })

/-- A latched write of GLOBAL starts a fade over GLOBAL_FADE ms. -/
def Core.startGlobalFade (c : Core) : Core :=
  { c with lum := { c.lum with
      gFade := some ⟨c.lum.gLevel, c.rd LUM_GLOBAL.GLOBAL, 0, 10 * c.rd LUM_GLOBAL.GLOBAL_FADE, c.ticks⟩ } }

/-- Every running fade advances one step, at a multiple of 100 µs after the tick at which it was latched. -/
def Core.fadeStep (c : Core) : Core :=
  if c.stopped domLUM || c.held domTIM || decide (c.now % (100 * usU) ≠ 0) then c
  else
    let c := c.forEach 16 (fun c n => c.modSink n (fun s =>
      match s.fade with
      | some f => if f.at_ = c.ticks then s else { s with fade := (f.step c.ticks).1, level := (f.step c.ticks).2 }
      | none => s))
    match c.lum.gFade with
    | some f =>
      if f.at_ = c.ticks then c
      else { c with lum := { c.lum with gFade := (f.step c.ticks).1, gLevel := (f.step c.ticks).2 } }
    | none => c

/-! ### Checks (R275 to R278) -/

/-- The sink is forced off by a short. -/
def Core.shorted (c : Core) (n : Nat) : Bool :=
  c.flag LUM_SINK_STATE.SHORT_LO n || c.flag LUM_SINK_STATE.SHORT_HI n

/-- Diagnostic items are Slack work of kind 3 (R235). -/
def kindDiag : Nat := 3

/-- Withdraw the queued diagnostic item of a sink. -/
def Core.dropDiag (c : Core) (n : Nat) : Core :=
  let c := c.wr LUM_SINK_STATE.DIAG_DUE 0 n
  { c with pilot := { c.pilot with
      slackWork := c.pilot.slackWork.filter (fun w => !(w.kind == kindDiag && w.ref == n)) } }

/-- The sink is on and cannot be checked (R277): its strobes, or the pulses of its present periods, last less than 4 µs. -/
def Core.unverified (c : Core) (n : Nat) : Bool :=
  let s := c.sink n
  if s.strobe then c.flag LUM_SINK.ENABLE n && !c.shorted n && decide (8 * c.rd LUM_SINK.STROBE_W n < 4000)
  else s.pulse != 0 && decide (s.pulse < 4000)

/-- OPEN_STATE as R277 gives it. -/
def Core.openState (c : Core) (n : Nat) : Core :=
  c.wr LUM_SINK_STATE.OPEN_STATE (if c.unverified n then 3 else c.rd LUM_SINK_STATE.LAST_RESULT n) n

/-- A check of a sink is recorded (R276, R278). -/
def Core.recordCheck (c : Core) (n : Nat) (diag : Bool) : Core :=
  let r := if bitOf c.lum.openLamps n then 2 else 1
  let since := c.rd LUM_SINK_STATE.SINCE_CHECK n
  let old := c.rd LUM_SINK_STATE.LAST_RESULT n
  let c := (c.wr LUM_SINK_STATE.LAST_RESULT r n).wr LUM_SINK_STATE.SINCE_CHECK 0 n
  let c := if r = 2 ∧ old ≠ 2 then c.post evLumOpen n (leBytes 4 since ++ leBytes 1 (b2n diag)) else c
  (if c.flag LUM_SINK_STATE.DIAG_DUE n then c.dropDiag n else c).openState n

/-- SINCE_CHECK reaches OPENCHK_MAXDEFER: a diagnostic item is queued (R278). -/
def Core.diagDue (c : Core) (n : Nat) : Core :=
  if c.rd LUM_GLOBAL.OPENCHK_MAXDEFER * 1000 ≤ c.rd LUM_SINK_STATE.SINCE_CHECK n ∧
      !c.flag LUM_SINK_STATE.DIAG_DUE n ∧ !c.stopped domLUM then
    let c := c.wr LUM_SINK_STATE.DIAG_DUE 1 n
    { c with pilot := { c.pilot with slackWork := c.pilot.slackWork ++ [⟨kindDiag, n, 0, false⟩] } }
  else c

/-- Once a millisecond, SINCE_CHECK of an unverified sink counts (R277). -/
def Core.countSince (c : Core) : Core :=
  if c.stopped domLUM || decide (c.now % (1000 * usU) ≠ 0) then c
  else c.forEach 16 (fun c n => if c.unverified n then (c.inc LUM_SINK_STATE.SINCE_CHECK n).diagDue n else c)

/-! ### Driving a sink (R270, R272, R274) -/

/-- An instant is a start of a period of `period` ns with phase `phase` ns (R18, R266, R270). -/
def periodStart (t : Time) (period phase : Nat) : Bool :=
  period != 0 && t % nsU == 0 && decide (phase ≤ timeNs t + period) && (timeNs t + period - phase) % period == 0

/-- E of R270, with the global level as its fade stands. -/
def Core.sinkE (c : Core) (n : Nat) : Nat :=
  (curveOf (c.rd LUM_SINK.CURVE n) (c.rd LUM_SINK.CURVE_P n) (c.sink n).level * c.lum.gLevel) >>> 15

/-- The sink conducts at an instant. -/
def Sink.conducts (s : Sink) (t : Time) : Bool :=
  s.current != 0 && (match s.onEnd with | some e => decide (t < e) | none => true)

/-- A check whose 4 µs have passed by an instant is judged (R276); that of a diagnostic pulse ends its item (R278). -/
def Core.lampDue (c : Core) (n : Nat) (t : Time) : Core :=
  let s := c.sink n
  match s.check with
  | none => c
  | some e =>
    if t < e then c
    else
      let c := (c.modSink n (fun s => { s with check := none, diag := false })).recordCheck n s.diag
      if s.diag then c.dropDiag n else c

/-- The checks that have ended are judged. -/
def Core.lampChecks (c : Core) : Core := if c.stopped domLUM then c else c.forEach 16 (fun c n => c.lampDue n c.now)

/-- Drive a sink from an instant on, for `on` ns or until further notice; a check that has not had its 4 µs is void. -/
def Core.driveSink (c : Core) (n current : Nat) (on : Option Nat) (at_ : Time) : Core :=
  let c := c.lampDue n at_
  (c.modSink n (fun s => { s with
    current := current,
    since := if s.conducts at_ then (if current = 0 then at_ else s.since)
      else if current ≠ 0 then at_
      else if s.current = 0 then s.since else s.onEnd.getD at_,
    onEnd := on.map (fun ns => at_ + ns * nsU),
    check := none, diag := false })).emit (.sink n current (on.getD 0))

/-- From an instant on, a conduction of 4 µs is a check (R276). -/
def Core.watchLamp (c : Core) (n : Nat) (diag : Bool) (at_ : Time) : Core :=
  c.modSink n (fun s => { s with check := some (at_ + 4 * usU), diag := diag })

/-- The way a steady sink drives over a period (R270, R272): its level, E and I_t are shown, and DRIVE. -/
def Core.sinkSteady (c : Core) (n : Nat) (at_ : Time) : Core :=
  let e := c.sinkE n
  let i := (e * c.rd LUM_SINK.IMAX n + 32767) / 65535
  let h := c.rd LUM_SINK.HYB_TH n
  let per := c.rd LUM_SINK.PERIOD n
  let off := e == 0 || !c.flag LUM_SINK.ENABLE n || c.shorted n || i == 0
  let ton := if off || decide (h ≤ i) then 0 else 8 * max 1 (per * i / (h * 8))
  let c := c.wr LUM_SINK_STATE.LEVEL_NOW (c.sink n).level n
  let c := c.wr LUM_SINK_STATE.E_NOW e n
  let c := c.wr LUM_SINK_STATE.I_NOW i n
  let c := c.wr LUM_SINK_STATE.DRIVE (b2n (ton != 0)) n
  let c := c.modSink n (fun s => { s with pulse := ton })
  if (c.sink n).diag then c
  else if off then c.driveSink n 0 none at_
  else if ton ≠ 0 then
    let c := c.driveSink n h (some ton) at_
    if 4000 ≤ ton then c.watchLamp n false at_ else c
  else
    let c := c.driveSink n i none at_
    let due := match (c.sink n).checkedAt with | some t => decide (t + ticksPerMs ≤ c.ticks) | none => true
    if due then (c.modSink n (fun s => { s with checkedAt := some c.ticks })).watchLamp n false at_ else c

/-- At the start of its period a sink takes the mode now written, once a running strobe has ended (R274). In MODE 0 it
recomputes its current (R270), unless a diagnostic pulse takes the place of the period's own (R278). -/
def Core.sinkPeriod (c : Core) (n : Nat) (at_ : Time) : Core :=
  if c.stopped domLUM || c.held domTIM || !periodStart at_ (c.rd LUM_SINK.PERIOD n) (c.rd LUM_SINK.PHASE n) then c
  else
    let c := c.lampDue n at_
    let s := c.sink n
    let c := if s.strobe && s.conducts at_ && !s.diag then c
      else
        let c := c.modSink n (fun s => { s with strobe := c.flag LUM_SINK.MODE n })
        if !(c.sink n).strobe then c.sinkSteady n at_
        else
          let c := (c.wr LUM_SINK_STATE.DRIVE 0 n).modSink n (fun s => { s with pulse := 0 })
          if (c.sink n).conducts at_ && !(c.sink n).diag then c.driveSink n 0 none at_ else c
    c.openState n

/-- A strobe of every strobe sink of a camera port at the start of a trigger pulse (R274). -/
def Core.strobe (c : Core) (port : Nat) (at_ : Time) : Core :=
  if c.stopped domLUM then c
  else
    c.forEach 16 (fun c n =>
      let s := c.sink n
      if s.strobe && c.rd LUM_SINK.STROBE_PORT n == port && c.flag LUM_SINK.ENABLE n && !c.shorted n && !s.conducts at_ then
        let w := 8 * c.rd LUM_SINK.STROBE_W n
        let c := c.driveSink n (c.rd LUM_SINK.STROBE_I n) (some w) at_
        let c := if 4000 ≤ w then c.watchLamp n false at_ else c
        c.openState n
      else c)

/-- The pins show which lamps hold less than half the commanded current (R276). -/
def Core.seeLamps (c : Core) (mask : Nat) : Core := { c with lum := { c.lum with openLamps := mask } }

/-- Sink `m` conducts while `n` is off for 4 µs that end within the present tick, or ended at most 1 µs ago (R275). -/
def Core.shortTested (c : Core) (m n : Nat) : Bool :=
  let s := c.sink m
  let q := c.sink n
  let limit := c.now + tickU
  let stop := match s.onEnd with | some e => min e limit | none => limit
  let off := if q.current = 0 then some q.since else q.onEnd
  s.current != 0 && decide (c.now ≤ stop + usU) &&
    (match off with | some o => decide (max s.since o + 4 * usU ≤ stop) | none => false)

/-- A short puts a sink off (R275). One found during a diagnostic pulse ends its item without a result; DIAG_DUE stays. -/
def Core.shortOff (c : Core) (n : Nat) : Core :=
  let c := if (c.sink n).diag then { c with pilot := { c.pilot with
      slackWork := c.pilot.slackWork.filter (fun w => !(w.kind == kindDiag && w.ref == n)) } } else c
  let c := c.modSink n (fun s => { s with check := if s.diag then none else s.check, diag := false, pulse := 0 })
  ((c.driveSink n 0 none c.now).wr LUM_SINK_STATE.DRIVE 0 n).openState n

/-- The pin of the neighbour of a conducting sink has stayed low for 4 µs (R275): both go off. -/
def Core.shortDetect (c : Core) (lower : Nat) : Core :=
  if c.stopped domLUM || decide (15 ≤ lower) || !(c.shortTested lower (lower + 1) || c.shortTested (lower + 1) lower) then c
  else
    let c := (c.wr LUM_SINK_STATE.SHORT_HI 1 lower).wr LUM_SINK_STATE.SHORT_LO 1 (lower + 1)
    let c := (c.shortOff lower).shortOff (lower + 1)
    c.post evLumShort lower (leBytes 1 lower ++ leBytes 1 (lower + 1))

/-- CLEAR_SHORT releases a sink and its shorted neighbours (R275). -/
def Core.clearShort (c : Core) (n : Nat) : Core :=
  let lo := c.flag LUM_SINK_STATE.SHORT_LO n
  let hi := c.flag LUM_SINK_STATE.SHORT_HI n
  let c := (c.wr LUM_SINK_STATE.SHORT_LO 0 n).wr LUM_SINK_STATE.SHORT_HI 0 n
  let c := if lo then (c.wr LUM_SINK_STATE.SHORT_HI 0 (n - 1)).openState (n - 1) else c
  let c := if hi then (c.wr LUM_SINK_STATE.SHORT_LO 0 (n + 1)).openState (n + 1) else c
  c.openState n

/-! ### Acquisition and the diagnostic window (R267, R278) -/

/-- A context is acquiring (R267): from a pulse on its port to the end of the frame that follows; in MODE 0, while a frame
arrives. -/
def Core.acquiring (c : Core) (k : Nat) : Bool :=
  let a := (c.img.ctxs.getD k IplCtx.init).acq
  if c.rd CAM_TRIG.MODE (c.rd IPL_CTX.PORT k) = 0 then a == 2 else a != 0

/-- A periodic trigger of a port falls within 4 µs of an instant. -/
def Core.triggerSoon (c : Core) (p : Nat) (at_ : Time) : Bool :=
  c.rd CAM_TRIG.MODE p == 1 && c.rd CAM_TRIG.PERIOD p != 0 &&
  (let per := c.rd CAM_TRIG.PERIOD p
   let r := (timeNs at_ + per - c.rd CAM_TRIG.PHASE p) % per
   decide ((if r = 0 then 0 else per - r) < 4000))

/-- A diagnostic pulse of a sink's group disturbs no context at an instant (R278). -/
def Core.diagWindow (c : Core) (n : Nat) (at_ : Time) : Bool :=
  (List.range 32).all (fun k =>
    !c.flag IPL_CTX.ENABLE k || !bitOf (c.rd IPL_CTX.LIGHT_GRP k) (c.rd LUM_SINK.GROUP n) ||
    (!c.acquiring k && !c.triggerSoon (c.rd IPL_CTX.PORT k) at_))

/-- The sink whose diagnostic item comes first: items run one at a time, in sink order. -/
def Core.firstDiag (c : Core) : Option Nat :=
  (List.range 16).find? (fun n => c.pilot.slackWork.any (fun w => w.kind == kindDiag && w.ref == n && w.arg == 0))

/-- The open lamps, with that of sink `n` judged by the current it holds at the end of a diagnostic pulse: OPEN below 50 % of
the HYB_TH commanded (R276, R278). -/
def Core.lampsAt (c : Core) (n heldUA others : Nat) : Nat :=
  setBits others n 1 (b2n (decide (2 * heldUA < c.rd LUM_SINK.HYB_TH n)))

/-- The diagnostic pulse (R278): HYB_TH for 4 µs at the first period start with a window, in the Slack; one at a time. -/
def Core.diagPulse (c : Core) (n : Nat) (at_ : Time) : Core :=
  let busy := (List.range 16).any (fun k => (c.sink k).diag) || ((c.sink n).strobe && (c.sink n).conducts at_)
  if c.mode = .slack ∧ c.firstDiag = some n ∧ !busy ∧ c.flag LUM_SINK.ENABLE n ∧ !c.shorted n ∧ !c.held domTIM ∧
      periodStart at_ (c.rd LUM_SINK.PERIOD n) (c.rd LUM_SINK.PHASE n) ∧ c.diagWindow n at_ then
    (c.driveSink n (c.rd LUM_SINK.HYB_TH n) (some 4000) at_).watchLamp n true at_
  else c

/-- A compare-triggered pulse on a port cuts off a diagnostic pulse that disturbs a context of that port (R278): the result is
discarded, and the item looks for its next window. -/
def Core.cutDiag (c : Core) (port : Nat) (at_ : Time) : Core :=
  c.forEach 16 (fun c n =>
    let hit := (List.range 32).any (fun k => c.flag IPL_CTX.ENABLE k && c.rd IPL_CTX.PORT k == port &&
      bitOf (c.rd IPL_CTX.LIGHT_GRP k) (c.rd LUM_SINK.GROUP n))
    if (c.sink n).diag && (c.sink n).conducts at_ && hit then c.driveSink n 0 none at_ else c)

/-- Items for which no window came, none running, end as NO_WINDOW and wait for the next Slack (R278). -/
def Core.diagNoWindow (c : Core) : Core :=
  (c.pilot.slackWork.filter (fun w => w.kind == kindDiag && w.arg == 0 && !(c.sink w.ref).diag)).foldl (fun c w =>
    let c := c.inc LUM_SINK_STATE.DIAG_DEFERS w.ref
    { c with pilot := { c.pilot with slackWork := c.pilot.slackWork.map (fun (x : SlackItem) =>
        if x.kind = kindDiag ∧ x.ref = w.ref then { x with arg := 1 } else x) } }) c

/-! ### Shingle wire chains (R279 to R283) -/

def Core.shw (c : Core) (k : Nat) : Shw := c.lum.chains.getD (k - 16) Shw.init
def Core.modShw (c : Core) (k : Nat) (f : Shw → Shw) : Core :=
  { c with lum := { c.lum with chains := modAt Shw.init c.lum.chains (k - 16) f } }

/-- The check word over a share's first 20 bytes (R280). -/
def shareWithChk (b : Bytes) : Bytes := padTo 20 b ++ leBytes 4 (crc32c (padTo 20 b))

/-- The share of driver `d` (R280, R282). -/
def driverShare (words : List Nat) (d : Nat) : Bytes :=
  let v := (List.range 12).foldl (fun a j => a + (words.getD (12 * d + j) 0 >>> 4) % 4096 * 2 ^ (12 * j)) 0
  shareWithChk (leBytes 18 v ++ leBytes 1 1 ++ leBytes 1 0)

def sentinel (frameNo drivers : Nat) : Bytes := shareWithChk (leBytes 2 frameNo ++ leBytes 2 drivers ++ zeros 16)

/-- The word of a snapshot that a frame sends: the spec does not say what a driver beyond the snapshot gets (log 49). -/
def Shw.word (s : Shw) (k i : Nat) : Nat :=
  match s.words[i]? with
  | some w => w
  | none => (Config.lampWord (4096 * k + i)).toNat

/-- A frame starts (R282): at a multiple of REFRESH ms, after an UPDATE, or when a start that waited can go. -/
def Core.shwStart (c : Core) (m : Mem) (k : Nat) : Core :=
  let s := c.shw k
  let due := s.updateDue || s.waiting || c.now % (c.rd LUM_SHW.REFRESH k * 1000 * usU) == 0
  if c.stopped domLUM || !c.flag LUM_SHW.ENABLE k || !due then c
  else if s.sending then c.modShw k (fun s => { s with waiting := true })
  else
    let n := c.rd LUM_SHW.DRIVERS k
    let addr := c.rd LUM_SHW.TABLE_ADDR k
    let c := if s.updateDue then
        let c := c.dramHazard addr (24 * n)
        let bs := c.dramRead m addr (24 * n)
        c.modShw k (fun s => { s with
          words := (List.range (12 * n)).map (fun i => fieldLE bs (2 * i) 2), updateDue := false })
      else c
    let no := (c.rd LUM_SHW_STATE.FRAME_NO k + 1) % 65536
    let c := (c.wr LUM_SHW_STATE.FRAME_NO no k).inc LUM_SHW_STATE.FRAMES k
    let words := (List.range (12 * n)).map ((c.shw k).word k)
    let c := c.modShw k (fun s => { s with sending := true, waiting := false, drivers := n })
    c.emit (.shingle (k - 16) ((List.range n).flatMap (driverShare words) ++ sentinel no n))

/-- A frame ends; the bits returned on the return wire are judged (R283). -/
def Core.shwDone (c : Core) (k : Nat) (returned : Bytes) : Core :=
  let s := c.shw k
  if c.stopped domLUM || !s.sending then c
  else
    let c := c.modShw k (fun s => { s with sending := false })
    if !c.flag LUM_SHW.RTN_EN k then c
    else
      let no := c.rd LUM_SHW_STATE.FRAME_NO k
      let shares := returned.length / 24
      let good := returned.length % 24 == 0 && shares != 0 &&
        returned.drop (24 * (shares - 1)) == sentinel no s.drivers
      let st := if !good then 3 else if shares = 1 then 1 else 2
      let seen := if good then s.drivers - (shares - 1) else 0
      let old := c.rd LUM_SHW_STATE.RTN_STATE k
      let c := (c.wr LUM_SHW_STATE.RTN_STATE st k).wr LUM_SHW_STATE.DRIVERS_SEEN seen k
      let c := if st ≠ 1 then c.inc LUM_SHW_STATE.RTN_ERR k else c
      if st ≠ old then c.post evLumChain k (leBytes 1 st ++ leBytes 1 seen) else c

/-- UPDATE asks for a new snapshot (R282). -/
def Core.shwUpdate (c : Core) (k : Nat) : Core := c.modShw k (fun s => { s with updateDue := true })

end Sys2Proof.Machine
end

