-- ==== Sys2Proof/Machine/Imaging.lean ====
section
/-!
DEFINITION. Machine/Imaging.lean: camera ports, staging rings, the image pipelines, reference captures, feature records and
camera triggers (R249 to R267).
-/
namespace Sys2Proof.Machine

def Core.ictx (c : Core) (k : Nat) : IplCtx := c.img.ctxs.getD k IplCtx.init
def Core.modIctx (c : Core) (k : Nat) (f : IplCtx → IplCtx) : Core :=
  { c with img := { c.img with ctxs := modAt IplCtx.init c.img.ctxs k f } }
def Core.camPort (c : Core) (p : Nat) : CamPort := c.img.ports.getD p CamPort.init
def Core.modCam (c : Core) (p : Nat) (f : CamPort → CamPort) : Core :=
  { c with img := { c.img with ports := modAt CamPort.init c.img.ports p f } }
def Core.setFrames (c : Core) (l : List CamFrame) : Core := { c with img := { c.img with frames := l } }

/-- The enabled context that binds a stream (R251). -/
def Core.boundCtx (c : Core) (port vc : Nat) : Option Nat :=
  (List.range 32).find? (fun k =>
    c.flag IPL_CTX.ENABLE k && c.rd IPL_CTX.PORT k == port && c.rd IPL_CTX.VC k == vc)

/-- The CSI-2 data type of a context (R249). -/
def Core.ctxDt (c : Core) (k : Nat) : Nat := 0x2A + c.rd IPL_CTX.DT k
/-- Bits of a pixel (R258). -/
def pixelBits (dt : Nat) : Nat := 8 + 2 * dt

/-- The address of a slot of a port's ring. -/
def Core.frameSlot (c : Core) (port slot : Nat) : Nat := c.rd CAM_PORT.RING_ADDR port + slot * c.rd CAM_PORT.SLOT_SIZE port

/-- Frames stored, arriving or in a pipeline. -/
def Core.framesHeld (c : Core) : List CamFrame :=
  c.img.frames ++ c.img.cur.filterMap (fun x => x.map (fun (t : Taken) => t.frame))

/-- No frame lies in a slot (R253: a frame already in a slot is never overwritten). -/
def Core.slotEmpty (c : Core) (port slot : Nat) : Bool :=
  let a := c.frameSlot port slot
  c.framesHeld.all (fun f => f.base != a && !overlaps f.base f.size a (c.rd CAM_PORT.SLOT_SIZE port))

/-- A frame has left its slot, which goes to its port's ring behind the slots already free (R253). -/
def Core.freeSlot (c : Core) (port : Nat) : Core :=
  let n := c.rd CAM_PORT.RING_SLOTS port
  c.modCam port (fun q => { q with
    free := q.free ++ (List.range n).filter (fun s => !q.free.contains s && c.slotEmpty port s) })

/-- Header ECC of a packet (R250): 0 good, 1 corrected, 2 beyond correction. A port that is off receives nothing; switched
off, it first ends the frame in progress. -/
def Core.header (c : Core) (port ecc : Nat) (act : Core → Core) : Core :=
  if c.stopped domCAM || !(c.flag CAM_PORT.ENABLE port || c.img.frames.any (fun f => !f.ended && f.port == port)) then c
  else if ecc = 2 then c.inc CAM_STAT.ECC_BAD port
  else act (if ecc = 1 then c.inc CAM_STAT.ECC_CORR port else c)

/-- The open frame of a stream. -/
def isOpen (port vc : Nat) (f : CamFrame) : Bool := !f.ended && f.port == port && f.vc == vc

/-- A context's acquisition ends with the frame that it waited for (R267). -/
def Core.acquired (c : Core) (k : Nat) : Core := c.modIctx k (fun x => { x with acq := if x.acq = 2 then 0 else x.acq })

/-- A frame ends and is judged by its lines (R254). A frame that its watchdog does not end breaks a run of timed-out frames
(R255). -/
def Core.endFrame (c : Core) (port vc : Nat) (lost timeout : Bool) : Core :=
  match c.img.frames.find? (isOpen port vc) with
  | none => c
  | some o =>
    let c := c.setFrames (c.img.frames.map (fun f =>
      if isOpen port vc f then
        { f with ended := true, feLost := f.feLost || lost, timeout := timeout,
                 short := f.short || timeout || decide (f.lines < c.rd IPL_CTX.HEIGHT f.ctx) }
      else f))
    let c := c.acquired o.ctx
    if timeout then c else c.modIctx o.ctx (fun x => { x with timedOut := false })

/-- A frame-start packet (R251 to R254): `at_` is the instant its last byte left the receiver. -/
def Core.frameStart (c : Core) (port vc fn ecc : Nat) (at_ : Time) : Core :=
  c.header port ecc (fun c =>
    let c := c.endFrame port vc true false
    if !c.flag CAM_PORT.ENABLE port then c
    else
      match c.boundCtx port vc with
      | none => c.inc CAM_STAT.ORPHAN port
      | some k =>
        let stamp := at_ / (8 * nsU) * (8 * nsU)
        let follows := fun (a : Nat) => if a = 1 ∨ c.rd CAM_TRIG.MODE port = 0 then 2 else 0
        let c := c.modIctx k (fun x => { x with lastStart := some stamp, missed := 0, acq := follows x.acq })
        match (c.camPort port).free with
        | [] =>
          let c := (c.inc CAM_STAT.DROPPED port).inc IPL_STAT.DROPPED k
          c.modIctx k (fun x => { x with drops := satNat 16 (x.drops + 1) })
        | s :: rest =>
          let c := c.modCam port (fun q => { q with free := rest })
          let c := c.inc CAM_STAT.FRAMES port
          c.setFrames (c.img.frames ++
            [⟨k, port, vc, stamp, stamp, c.frameSlot port s, c.rd CAM_PORT.SLOT_SIZE port, fn, 0, false, false, false, false,
              false, false⟩]))

/-- Unpack a line's payload: RAW8, RAW10, RAW12, RAW14 as MIPI CSI-2 packs them. -/
def unpackGroup (dt : Nat) (g : Bytes) : List Nat :=
  let b (i : Nat) : Nat := (g.getD i 0#8).toNat
  match dt with
  | 0 => [b 0]
  | 1 => (List.range 4).map (fun i => b i * 4 + bits (b 4) (2 * i) 2)
  | 2 => (List.range 2).map (fun i => b i * 16 + bits (b 2) (4 * i) 4)
  | _ => (List.range 4).map (fun i => b i * 64 + bits (b 4 + 256 * b 5 + 65536 * b 6) (6 * i) 6)

/-- Bytes of a packing group. -/
def groupBytes (dt : Nat) : Nat := [1, 5, 3, 7].getD dt 1

def unpackLine (dt : Nat) (payload : Bytes) : List Nat :=
  let n := groupBytes dt
  (List.range (payload.length / n)).flatMap (fun i => unpackGroup dt (slice payload (n * i) n))

/-- The context whose frames a stream carries: that of its open frame, else the one that binds it now. -/
def Core.streamCtx (c : Core) (port vc : Nat) : Option Nat :=
  match c.img.frames.find? (isOpen port vc) with
  | some f => some f.ctx
  | none => c.boundCtx port vc

/-- A long packet (R250, R254): a line of pixels is stored in the frame's slot, cut to the context's size. -/
def Core.longPacket (c : Core) (port vc dt ecc : Nat) (crcOk : Bool) (payload : Bytes) : Core :=
  c.header port ecc (fun c =>
    match c.streamCtx port vc with
    | none => c
    | some k =>
      if dt ≠ c.ctxDt k then c.inc CAM_STAT.DT_SKIP port
      else
        match c.img.frames.find? (isOpen port vc) with
        | none => c
        | some f =>
          let c := if crcOk then c else c.inc CAM_STAT.CRC_ERR port
          let w := c.rd IPL_CTX.WIDTH k
          let px := unpackLine (c.rd IPL_CTX.DT k) payload
          let extra := decide (c.rd IPL_CTX.HEIGHT k ≤ f.lines)
          let c := if extra then c
            else c.dramWrite (f.base + 2 * w * f.lines)
              ((px.take w).flatMap (leBytes 2))
          c.setFrames (c.img.frames.map (fun g =>
            if isOpen port vc g then
              { g with
                lines := if extra then g.lines else g.lines + 1,
                short := g.short || (!extra && decide (px.length < w)),
                long := g.long || extra || decide (w < px.length), lineErr := g.lineErr || !crcOk }
            else g)))

/-- A frame-end packet (R254); that of a frame dropped whole ends its acquisition too (R267). -/
def Core.frameEnd (c : Core) (port vc ecc : Nat) : Core :=
  c.header port ecc (fun c =>
    if c.img.frames.any (isOpen port vc) then c.endFrame port vc false false
    else
      match c.boundCtx port vc with
      | some k => c.acquired k
      | none => c)

/-- The watchdog time of a context (R255). -/
def Core.watchdog (c : Core) (k : Nat) : Nat := c.rd IPL_CTX.TIMEOUT_MULT k * c.rd IPL_CTX.FRAME_INTERVAL k * usU

/-- The watchdog of a stalled frame (R255). -/
def Core.frameTimeout (c : Core) (k : Nat) : Core :=
  match c.img.frames.find? (fun f => f.ctx == k && !f.ended) with
  | none => c
  | some f =>
    if c.stopped domCAM || decide (c.now < f.since + c.watchdog k) then c
    else
      let c := c.endFrame f.port f.vc false true
      let c := if (c.ictx k).timedOut then c else c.post evIplTimeout k (leBytes 2 f.fn)
      c.modIctx k (fun x => { x with timedOut := true })

/-- No frame start within the watchdog time of the previous one (R255). -/
def Core.frameMissing (c : Core) (k : Nat) : Core :=
  let x := c.ictx k
  match x.lastStart with
  | none => c
  | some t =>
    if c.stopped domCAM || !c.flag IPL_CTX.ENABLE k || c.img.frames.any (fun f => f.ctx == k && !f.ended) ||
        decide (c.now < t + (x.missed + 1) * c.watchdog k) then c
    else (c.inc IPL_STAT.MISSING k).modIctx k (fun x => { x with missed := x.missed + 1 })

/-! ### References (R261) -/

/-- The 16-byte image of R261 and its check word. -/
def nrSig (v : Nat) : Nat :=
  crc32c (leBytes 2 (imgField v IPL_CTX.WIDTH) ++ leBytes 2 (imgField v IPL_CTX.HEIGHT) ++
    leBytes 1 (imgField v IPL_CTX.DT) ++ leBytes 1 (imgField v IPL_CTX.SNR_S) ++
    leBytes 2 (imgField v IPL_CTX.TNR_K) ++ leBytes 2 (imgField v IPL_CTX.TNR_THRESH) ++ zeros 6)

def refNone : Nat := 0
def refValid : Nat := 1
def refStale : Nat := 2
def refCapturing : Nat := 3

/-- The dark in use of a context (R261). -/
def Core.darkInUse (c : Core) (k : Nat) : Nat :=
  if c.flag IPL_CTX.DARK_EN k && c.rd IPL_CTX_STATE.DARK_STATE k == refValid then c.rd IPL_CTX_STATE.DARK_ID k else 0

/-- The state a reference has under the present settings. -/
def refJudge (id old : Nat) (ok : Bool) : Nat :=
  if old = refCapturing then old else if id = 0 then refNone else if ok then refValid else refStale

/-- The references are judged at a frame taken (R261); a change from VALID to STALE posts IPL_REF_STALE. -/
def Core.judgeRefs (c : Core) (k sig : Nat) : Core :=
  let d0 := c.rd IPL_CTX_STATE.DARK_STATE k
  let f0 := c.rd IPL_CTX_STATE.FLAT_STATE k
  let d1 := refJudge (c.rd IPL_CTX_STATE.DARK_ID k) d0 (c.rd IPL_CTX_STATE.DARK_SIG k == sig)
  let c := c.wr IPL_CTX_STATE.DARK_STATE d1 k
  let f1 := refJudge (c.rd IPL_CTX_STATE.FLAT_ID k) f0
    (c.rd IPL_CTX_STATE.FLAT_SIG k == sig && c.rd IPL_CTX_STATE.FLAT_DARK_ID k == c.darkInUse k)
  let c := c.wr IPL_CTX_STATE.FLAT_STATE f1 k
  let m := b2n (d0 == refValid && d1 == refStale) + 2 * b2n (f0 == refValid && f1 == refStale)
  if m ≠ 0 then c.post evIplRefStale k (leBytes 1 m ++ zeros 3 ++ leBytes 4 sig) else c

/-! ### Reference captures (R262) -/

/-- A capture ends without a result: the old state returns, and its command completes with CAPTURE_FAILED. -/
def Core.captureFailed (c : Core) (k : Nat) : Core :=
  match (c.ictx k).capture with
  | none => c
  | some q =>
    let c := c.wr (if q.flat then IPL_CTX_STATE.FLAT_STATE else IPL_CTX_STATE.DARK_STATE) q.old k
    let c := c.modIctx k (fun x => { x with capture := none })
    c.completeLong (fun l => l.kind == .capture k) (errReply stCaptureFailed)

/-- IPL_CAPTURE_DARK and IPL_CAPTURE_FLAT are admitted (R262): allowed in STANDBY, ARMED, SLACK, HOLD and SERVICE on an
enabled context; the scratch area follows R43. The NR_SIG it runs under is that of the last frame taken since the context was enabled, or, where
none has been, that of the first frame taken in it (DESIGN CHOICE, log 49). -/
def Core.captureStart (c : Core) (flat : Bool) (k scratch frames reserved : Nat) : Core × Answer :=
  let m := c.cmdMode
  let modeOk := m == .standby || m == .armed || m == .slack || m == .hold || m == .service
  let st := if flat then IPL_CTX_STATE.FLAT_STATE else IPL_CTX_STATE.DARK_STATE
  if !modeOk || !c.flag IPL_CTX.ENABLE k then (c, err stBadMode)
  else if !c.dramOk scratch (4 * (c.rd IPL_CTX.WIDTH k * c.rd IPL_CTX.HEIGHT k)) then (c, err stBadField 16)
  else if frames < 1 ∨ 256 < frames then (c, err stBadField 24)
  else if reserved ≠ 0 then (c, err stBadField 26)
  else if (c.ictx k).capture.isSome then (c, err stBusy)
  else
    let n := (c.ictx k).taken
    let sig := if n = 0 then none else some (c.rd IPL_CTX_STATE.NR_SIG k)
    let c := c.modIctx k (fun x => { x with capture := some ⟨flat, frames, scratch, 0, 0, sig, c.rd st k, n⟩ })
    (c.wr st refCapturing k, .wait (.capture k))

/-! ### Taking a frame (R256, R257) -/

/-- The order of R256 between two frames. -/
def Core.frameBefore (c : Core) (a b : CamFrame) : Bool :=
  if a.stamp ≠ b.stamp then decide (a.stamp < b.stamp)
  else
    let pa := c.rd IPL_CTX.PRIORITY a.ctx
    let pb := c.rd IPL_CTX.PRIORITY b.ctx
    if pa ≠ pb then decide (pb < pa) else decide (a.port < b.port)

/-- The first frame of a pipeline in key order, over stored and arriving frames. -/
def Core.firstFrame (c : Core) (pipe : Nat) : Option CamFrame :=
  (c.img.frames.filter (fun f => f.ctx / 16 == pipe)).foldl (fun r f =>
    match r with
    | none => some f
    | some g => if c.frameBefore f g then some f else some g) none

/-- A capture meets the NR_SIG of a frame taken: the first it sees is the one it runs under, another fails it (R262). -/
def Core.captureSig (c : Core) (k sig : Nat) : Core :=
  match (c.ictx k).capture with
  | none => c
  | some q =>
    if q.sig ≠ none ∧ q.sig ≠ some sig then c.captureFailed k
    else c.modIctx k (fun x => { x with capture := some { q with sig := some sig } })

/-- A free pipeline takes the first frame in key order once it is ready, and loads its context (R256, R257). -/
def Core.pipelineTake (c : Core) (pipe : Nat) : Core :=
  if c.stopped domCAM || (c.img.cur.getD pipe none).isSome then c
  else
    match c.firstFrame pipe with
    | none => c
    | some f =>
      if !f.ended then c
      else
        let k := f.ctx
        let c := c.setFrames (c.img.frames.filter (fun g => g != f))
        if !c.flag IPL_CTX.ENABLE k then c.freeSlot f.port
        else
          let v := c.image Obj.IPL_CTX k
          let sig := nrSig v
          let c := if sig ≠ c.rd IPL_CTX_STATE.NR_SIG k then c.modIctx k (fun x => { x with resetDue := true }) else c
          let c := ((c.captureSig k sig).wr IPL_CTX_STATE.NR_SIG sig k).judgeRefs k sig
          let x := c.ictx k
          let t : Taken := { frame := f, ctx := v, seq := x.taken + 1, defects := x.defects,
                             dark := c.rd IPL_CTX_STATE.DARK_STATE k, flat := c.rd IPL_CTX_STATE.FLAT_STATE k,
                             reset := !f.short && x.resetDue, capt := x.capture.isSome }
          let c := c.modIctx k (fun x => { x with taken := x.taken + 1, resetDue := x.resetDue && f.short })
          { c with img := { c.img with cur := setAt none c.img.cur pipe (some t) } }

/-! ### The stages (R258 to R260), on row-major lists of pixels -/

/-- Pixel (x, y) of an image of width `w`, edges replicated. -/
def pxAt (im : List Nat) (w h : Nat) (x y : Int) : Nat :=
  let xi := (clampInt 0 ((w : Int) - 1) x).toNat
  let yi := (clampInt 0 ((h : Int) - 1) y).toNat
  im.getD (yi * w + xi) 0

def rowMajor (w h : Nat) (f : Nat → Nat → Nat) : List Nat :=
  (List.range h).flatMap (fun y => (List.range w).map (fun x => f x y))

/-- Spatial noise reduction (R258). -/
def spatialNr (im : List Nat) (w h s : Nat) : List Nat :=
  if s = 0 then im
  else rowMajor w h (fun x y =>
    let at_ (dx dy : Int) : Nat := pxAt im w h (x + dx) (y + dy)
    let sum := at_ (-1) (-1) + 2 * at_ 0 (-1) + at_ 1 (-1) + 2 * at_ (-1) 0 + 4 * at_ 0 0 + 2 * at_ 1 0 +
      at_ (-1) 1 + 2 * at_ 0 1 + at_ 1 1
    let avg := (sum + 8) / 16
    (at_ 0 0 * (16 - s) + avg * s + 8) / 16)

/-- Temporal noise reduction (R259): the new reference, which goes on as t. -/
def temporalNr (s r : List Nat) (k thresh : Nat) (reset : Bool) : List Nat :=
  if reset then s
  else (List.zip s r).map (fun q =>
    let d : Int := (q.1 : Int) - q.2
    if thresh < d.natAbs then q.1 else ((q.2 : Int) + (d * k) / 256).toNat)

/-- Dark subtraction (R260). -/
def darkSub (t d : List Nat) : List Nat := (List.zip t d).map (fun q => q.1 - q.2)

/-- Defect correction of one line position (R260). -/
def defectPixel (im : List Nat) (w h : Nat) (def_ : List (Nat × Nat)) (x y : Nat) : Nat :=
  let listed (x : Int) : Bool := def_.any (fun d => (d.1 : Int) == x && d.2 == y)
  let ok (x : Int) : Bool := decide (0 ≤ x) && decide (x < w) && !listed x
  let near (d1 d2 : Int) : Option Nat :=
    if ok (x + d1) then some (pxAt im w h (x + d1) y)
    else if ok (x + d2) then some (pxAt im w h (x + d2) y) else none
  match near (-1) (-2), near 1 2 with
  | some a, some b => (a + b + 1) / 2
  | some a, none => a
  | none, some b => b
  | none, none => pxAt im w h x y

def defectCorrect (im : List Nat) (w h : Nat) (def_ : List (Nat × Nat)) : List Nat :=
  rowMajor w h (fun x y =>
    if def_.any (fun d => d.1 == x && d.2 == y) then defectPixel im w h def_ x y else im.getD (y * w + x) 0)

/-- Flat field (R260). -/
def flatField (q g : List Nat) : List Nat := (List.zip q g).map (fun p => min 0xFFFF ((p.1 * p.2 + 8192) / 16384))

/-! ### Features (R263, R264) -/

/-- Totals over pool pixels: count, Σ(f−T), Σx(f−T), Σy(f−T), Σx, Σy, Σx², Σy², Σxy, box. -/
structure PoolSums where
  a : Nat
  i : Nat
  xi : Nat
  yi : Nat
  x : Nat
  y : Nat
  xx : Nat
  yy : Nat
  xy : Nat
  x0 : Nat
  x1 : Nat
  y0 : Nat
  y1 : Nat
  deriving DecidableEq, Repr

/-- The pixels of the ROI with their positions from its corner, in raster order. -/
def roiPixels (im : List Nat) (w x0 y0 rw rh : Nat) : List (Nat × Nat × Nat) :=
  (List.range rh).flatMap (fun y => (List.range rw).map (fun x => (x, y, im.getD ((y0 + y) * w + x0 + x) 0)))

def poolSums (l : List (Nat × Nat × Nat)) (thresh : Nat) : PoolSums :=
  l.foldl (fun s p =>
    let (x, y, f) := p
    if f ≤ thresh then s
    else
      let g := f - thresh
      { a := s.a + 1, i := s.i + g, xi := s.xi + x * g, yi := s.yi + y * g, x := s.x + x, y := s.y + y,
        xx := s.xx + x * x, yy := s.yy + y * y, xy := s.xy + x * y,
        x0 := if s.a = 0 then x else min s.x0 x, x1 := max s.x1 x,
        y0 := if s.a = 0 then y else min s.y0 y, y1 := max s.y1 y })
    ⟨0, 0, 0, 0, 0, 0, 0, 0, 0, 0, 0, 0, 0⟩

/-- The largest pixel at its first position in raster order. -/
def peakOf : List (Nat × Nat × Nat) → Nat × Nat × Nat
  | [] => (0, 0, 0)
  | p :: l => l.foldl (fun b q => if b.2.2 < q.2.2 then q else b) p

/-- Words 9 to 25 of the feature record, and whether there is no pool and whether PEAK is saturated. -/
def features (im : List Nat) (w : Nat) (v : Nat) : Bytes × Bool × Bool :=
  let l := roiPixels im w (imgField v IPL_CTX.ROI_X0) (imgField v IPL_CTX.ROI_Y0) (imgField v IPL_CTX.ROI_W)
    (imgField v IPL_CTX.ROI_H)
  let s := poolSums l (imgField v IPL_CTX.THRESH)
  let pk := peakOf l
  let far (x y : Nat) : Nat := max ((x : Int) - pk.1).natAbs ((y : Int) - pk.2.1).natAbs
  let spat := (l.filter (fun p =>
    decide (imgField v IPL_CTX.SPAT_T < p.2.2) && decide (imgField v IPL_CTX.SPAT_R < far p.1 p.2.1))).length
  let mean := (l.foldl (fun a p => a + p.2.2) 0) / max 1 l.length
  let w16 (n : Nat) : Bytes := leBytes 2 (satNat 16 n)
  let sq (a b : Nat) : Nat := 16 * (s.a * a - b * b) / (s.a * s.a)
  let none_ := s.a == 0
  let cx := if none_ then 0 else 16 * s.xi / s.i
  let cy := if none_ then 0 else 16 * s.yi / s.i
  let mxy : Int := if none_ then 0 else (16 * ((s.a * s.xy : Int) - s.x * s.y)) / (s.a * s.a : Nat)
  (w16 s.a ++ leBytes 4 (satNat 32 s.i) ++ w16 pk.2.2 ++ w16 pk.1 ++ w16 pk.2.1 ++ w16 cx ++ w16 cy ++
    w16 s.x0 ++ w16 s.x1 ++ w16 s.y0 ++ w16 s.y1 ++ w16 mean ++
    w16 (if none_ then 0 else sq s.xx s.x) ++ w16 (if none_ then 0 else sq s.yy s.y) ++
    leBytes 2 (ofSigned 16 (satSigned 16 mxy)) ++ w16 spat,
   none_, pk.2.2 == 0xFFFF)

/-- `n` 16-bit words of DRAM. -/
def Core.words16 (c : Core) (m : Mem) (a n : Nat) : List Nat :=
  let bs := c.dramRead m a (2 * n)
  (List.range n).map (fun i => fieldLE bs (2 * i) 2)

def wordBytes (l : List Nat) : Bytes := l.flatMap (leBytes 2)

/-- What the stages give for a processed frame: t of stage 2, the input of the flat field, and f. -/
structure Staged where
  t : List Nat
  q : List Nat
  f : List Nat

/-- The stages over a taken frame (R258 to R260): reference stages run where their reference was VALID as it was taken. -/
def Core.stages (c : Core) (m : Mem) (x : Taken) : Staged :=
  let v := x.ctx
  let w := imgField v IPL_CTX.WIDTH
  let h := imgField v IPL_CTX.HEIGHT
  let n := w * h
  let shift := 16 - pixelBits (imgField v IPL_CTX.DT)
  let p := (c.words16 m x.frame.base n).map (fun r => (r * 2 ^ shift) % 65536)
  let s := spatialNr p w h (imgField v IPL_CTX.SNR_S)
  let t := temporalNr s (c.words16 m (imgField v IPL_CTX.TREF_ADDR) n) (imgField v IPL_CTX.TNR_K)
    (imgField v IPL_CTX.TNR_THRESH) x.reset
  let d := if imgField v IPL_CTX.DARK_EN = 1 ∧ x.dark = refValid then
      darkSub t (c.words16 m (imgField v IPL_CTX.DARK_ADDR) n) else t
  let q := if imgField v IPL_CTX.DEF_EN = 1 ∧ imgField v IPL_CTX.DEF_COUNT ≠ 0 then
      defectCorrect d w h x.defects else d
  let f := if imgField v IPL_CTX.FLAT_EN = 1 ∧ x.flat = refValid then
      flatField q (c.words16 m (imgField v IPL_CTX.FLAT_ADDR) n) else q
  ⟨t, q, f⟩

/-- The mean reference of a sum (R262). -/
def meanRef (frames : Nat) (sum : Nat) : Nat := (sum + frames / 2) / frames

/-- The flat gains from the mean frame (R262). -/
def flatGains (f : List Nat) : List Nat :=
  let mean := (f.foldl (· + ·) 0) / max 1 f.length
  f.map (fun x => if x = 0 then 0x4000 else min 0xFFFF ((mean * 16384 + x / 2) / x))

/-- A processed frame enters the capture of its context; when the sum is complete the reference is written (R262). -/
def Core.captureFrame (c : Core) (m : Mem) (k : Nat) (x : Taken) (g : Staged) : Core :=
  match (c.ictx k).capture with
  | none => c
  | some q =>
    let sig := nrSig x.ctx
    if x.seq ≤ q.before then c
    else
      let im := if q.flat then g.q else g.t
      let n := im.length
      let old := if q.used = 0 then zeros (4 * n) else c.dramRead m q.scratch (4 * n)
      let sums := (List.zip (List.range n) im).map (fun e => (fieldLE old (4 * e.1) 4 + e.2) % 2 ^ 32)
      let c := c.dramWrite q.scratch (sums.flatMap (leBytes 4))
      if q.used + 1 < q.frames then
        c.modIctx k (fun y => { y with capture := some { q with used := q.used + 1, unusable := 0 } })
      else
        let mean := sums.map (meanRef q.frames)
        let c := c.dramWrite (imgField x.ctx (if q.flat then IPL_CTX.FLAT_ADDR else IPL_CTX.DARK_ADDR))
          (wordBytes (if q.flat then flatGains mean else mean))
        let id := (if q.flat then c.img.flatIds else c.img.darkIds) % 65535 + 1
        let c := { c with img := if q.flat then { c.img with flatIds := id } else { c.img with darkIds := id } }
        let used := c.darkInUse k
        let c := if q.flat then
            ((c.wr IPL_CTX_STATE.FLAT_SIG sig k).wr IPL_CTX_STATE.FLAT_DARK_ID used k).wr IPL_CTX_STATE.FLAT_ID id k
          else (c.wr IPL_CTX_STATE.DARK_SIG sig k).wr IPL_CTX_STATE.DARK_ID id k
        let c := c.wr (if q.flat then IPL_CTX_STATE.FLAT_STATE else IPL_CTX_STATE.DARK_STATE) refValid k
        let c := c.modIctx k (fun y => { y with capture := none })
        let c := c.post evIplRefCaptured k (leBytes 1 (b2n q.flat) ++ zeros 1 ++ leBytes 2 id ++ leBytes 4 sig)
        c.completeLong (fun l => l.kind == .capture k) (okReply (leBytes 2 id ++ leBytes 2 q.frames ++ leBytes 4 sig ++
          (if q.flat then leBytes 2 used ++ zeros 2 else [])))

/-- An unusable frame counts against a capture: the 16th in a row fails it (R262). -/
def Core.captureSkip (c : Core) (k : Nat) (x : Taken) : Core :=
  match (c.ictx k).capture with
  | none => c
  | some q =>
    if x.seq ≤ q.before then c
    else if 16 ≤ q.unusable + 1 then c.captureFailed k
    else c.modIctx k (fun y => { y with capture := some { q with unusable := q.unusable + 1 } })

/-- The feature record (R264). -/
def featureRecord (x : Taken) (flags drops : Nat) (feat : Bytes) : Bytes :=
  let f := x.frame
  let v := x.ctx
  let body := leBytes 2 (f.ctx + 32 * f.port + 256 * f.vc) ++ leBytes 2 flags ++ leBytes 2 (x.seq % 65536) ++
    leBytes 2 (imgField v IPL_CTX.TRIM_CH + 64 * imgField v IPL_CTX.TRIM_BIND) ++
    leBytes 4 (timeSec f.stamp) ++ leBytes 4 (timeNs f.stamp) ++ leBytes 2 f.lines ++ padTo 34 feat ++
    leBytes 2 drops ++ leBytes 2 f.fn ++ zeros 4
  body ++ leBytes 4 (crc32c body)

/-- Word `n` of a feature record. -/
def featWord (r : Bytes) (n : Nat) : Nat := fieldLE r (2 * n) 2

/-- A record goes to the trim loop of its channel unless flagged SHORT, LONG or TIMEOUT (R99, R265). -/
def Core.trimRecord (c : Core) (r : Bytes) : Core :=
  let ch := featWord r 3 % 64
  if bitOf (featWord r 3) 6 && featWord r 1 % 8 == 0 then
    let stamp := (c.now / secU / 2 ^ 32) * 2 ^ 32 * secU + mkTime (fieldLE r 8 4) (fieldLE r 12 4 % 2 ^ 30) 0
    c.modCh ch (fun s => { s with gat := { s.gat with
      feats := s.gat.feats ++ [(stamp, featWord r (c.rd GAT_TRIM.FEAT_SEL ch))] } })
  else c

/-- The record as an input of the trim loop: in a pair it is forwarded and admitted on both units (R315). -/
def Core.trimInput (c : Core) (r : Bytes) : Core :=
  if c.inPair then (if bitOf (featWord r 3) 6 then c.twinForward 0 r else c) else c.trimRecord r

/-- A record goes to the feature ring (R265). -/
def Core.ringRecord (c : Core) (r : Bytes) : Core :=
  if !c.flag IPL_OUT.FR_EN then c
  else
    let size := 2 ^ c.rd IPL_OUT.FRING_LOG2
    let prod := c.rd IPL_OUT.FR_PROD
    if size ≤ (prod + 2 ^ 32 - c.rd IPL_OUT.FR_CONS) % 2 ^ 32 then c.inc IPL_OUT.FR_LOST
    else
      let c := c.dramWrite (c.rd IPL_OUT.FRING_ADDR + 64 * (prod % size)) r
      c.wr IPL_OUT.FR_PROD ((prod + 1) % 2 ^ 32)

/-- The pipeline has processed its frame: the record is delivered and the slot freed (R257 to R265). An uncorrectable
burst is used as read and gives the record LINE_ERR (R371). -/
def Core.frameDone (c : Core) (m : Mem) (pipe : Nat) (bad : Option (Nat × Bool) := none) : Core :=
  match c.img.cur.getD pipe none with
  | none => c
  | some x =>
    if c.stopped domCAM then c
    else
      let (c, ue) := c.readErr 1 bad
      let k := x.frame.ctx
      let f := x.frame
      let v := x.ctx
      let drops := (c.ictx k).drops
      let stale := (imgField v IPL_CTX.DARK_EN == 1 && x.dark == refStale) ||
        (imgField v IPL_CTX.FLAT_EN == 1 && x.flat == refStale)
      let g := if f.short then Staged.mk [] [] [] else c.stages m x
      let feat := if f.short then (zeros 34, false, false) else features g.f (imgField v IPL_CTX.WIDTH) v
      let flags := b2n f.short + 2 * b2n f.long + 4 * b2n f.timeout + 8 * b2n (f.lineErr || ue) + 16 * b2n f.feLost +
        32 * b2n (x.dark == refStale) + 64 * b2n (x.flat == refStale) + 128 * b2n x.reset + 256 * b2n feat.2.1 +
        512 * b2n x.capt + 1024 * b2n feat.2.2
      let r := featureRecord x flags drops feat.1
      let c := if f.short then c else c.dramWrite (imgField v IPL_CTX.TREF_ADDR) (wordBytes g.t)
      let c := if f.short || f.long || f.timeout then c.captureSkip k x else c.captureFrame m k x g
      let c := c.modIctx k (fun y => { y with drops := 0 })
      let c := c.inc IPL_STAT.PROCESSED k
      let c := if f.timeout then c.inc IPL_STAT.TIMEOUT k else if f.short then c.inc IPL_STAT.SHORT k else c
      let c := if f.long then c.inc IPL_STAT.LONG k else c
      let c := if stale then c.inc IPL_STAT.STALE_USE k else c
      let c := (c.trimInput r).ringRecord r
      { c with img := { c.img with cur := setAt none c.img.cur pipe none } }.freeSlot f.port

/-! ### Triggers (R266) -/

/-- A trigger of a camera port falls due: a pulse starts, at the level that POL makes active and with its strobes, or is
skipped. The port's contexts now await a frame (R267). -/
def Core.trigger (c : Core) (p : Nat) (at_ : Time) (compare : Bool := false) : Core :=
  if c.stopped domCAM then c
  else if at_ < (c.camPort p).pulseEnd then c.inc CAM_STAT.TRIG_SKIP p
  else
    let w := c.rd CAM_TRIG.WIDTH p
    let c := c.modCam p (fun q => { q with pulseEnd := at_ + w * 8 * nsU })
    let c := c.forEach 32 (fun c k => if c.rd IPL_CTX.PORT k = p then c.modIctx k (fun x => { x with acq := 1 }) else c)
    let c := if compare then c.cutDiag p at_ else c
    (c.emit (.ctrig p (!c.flag CAM_TRIG.POL p) w)).strobe p at_

/-- A periodic trigger falls due (MODE 1). -/
def Core.periodicTrigger (c : Core) (p : Nat) (at_ : Time) : Core :=
  if c.rd CAM_TRIG.MODE p = 1 ∧ periodStart at_ (c.rd CAM_TRIG.PERIOD p) (c.rd CAM_TRIG.PHASE p) ∧ !c.held domTIM then
    c.trigger p at_ else c

/-- Every camera port in compare mode on a unit triggers at its firing (MODE 2). -/
def Core.compareTriggers (c : Core) (u : Nat) (at_ : Time) : Core :=
  c.forEach 8 (fun c p => if c.rd CAM_TRIG.MODE p = 2 ∧ c.rd CAM_TRIG.CMP_UNIT p = u then c.trigger p at_ true else c)

/-- Writing PULSE asks for one pulse at the next tick boundary (MODE 3). -/
def Core.askPulse (c : Core) (p : Nat) : Core :=
  if c.rd CAM_TRIG.MODE p = 3 then c.modCam p (fun q => { q with pulseDue := true }) else c

/-- The software pulses due at the present boundary. -/
def Core.softPulses (c : Core) : Core :=
  c.forEach 8 (fun c p =>
    if (c.camPort p).pulseDue then (c.modCam p (fun q => { q with pulseDue := false })).trigger p c.now else c)

end Sys2Proof.Machine
end

