-- ==== Sys2Proof/Machine/Axes.lean ====
section
/-!
DEFINITION. Machine/Axes.lean: bed axes, the recoat sequence, incremental and SSI inputs, compare units and encoder
emulation (R284 to R311).
-/
namespace Sys2Proof.Machine

def Core.axis (c : Core) (n : Nat) : Axis := c.mot.axes.getD n Axis.init
def Core.modAxis (c : Core) (n : Nat) (f : Axis → Axis) : Core :=
  { c with mot := { c.mot with axes := modAt Axis.init c.mot.axes n f } }

def axDisabled : Nat := 0
def axIdle : Nat := 1
def axMoving : Nat := 2
def axStopping : Nat := 3
def axKept : Nat := 4
def axFault : Nat := 5
def Core.axState (c : Core) (n : Nat) : Nat := c.rd MOT_STATE.STATE n
def Core.setAx (c : Core) (n st : Nat) : Core := c.wr MOT_STATE.STATE st n

/-- The axis is moving or stopping. -/
def Core.axBusy (c : Core) (n : Nat) : Bool := c.axState n == axMoving || c.axState n == axStopping
def Core.anyAxisBusy (c : Core) : Bool := (List.range 8).any c.axBusy

def Core.posCmd (c : Core) (n : Nat) : Int := c.rdI MOT_STATE.POS_CMD n

/-- TARGET and REMAIN show the target in force, or the kept one (R293). -/
def Core.showTarget (c : Core) (n : Nat) : Core :=
  let x := c.axis n
  let t := match x.target with | some g => g | none => x.kept.getD (c.posCmd n)
  (c.wr MOT_STATE.TARGET (ofSigned 32 t) n).wr MOT_STATE.REMAIN (ofSigned 32 (t - c.posCmd n)) n

/-! ### The profile (R286 to R289) -/

/-- One profile tick in seconds: 16 µs. -/
def tauS : F64 := F64.ofRatio 16 1000000

def Core.axLimits (c : Core) (n : Nat) : Limits :=
  ⟨F64.ofNat (c.rd MOT_CONFIG.AMAX n), F64.ofNat (1000 * c.rd MOT_CONFIG.JMAX n)⟩

/-- Position, speed and acceleration after constant-jerk stretches from a state. -/
def runPhases : List (F64 × F64) → F64 × F64 × F64 → F64 × F64 × F64
  | [], s => s
  | (d, j) :: l, s => runPhases l (Phase.at ⟨F64.zero, d, s.1, s.2.1, s.2.2, j⟩ d)

/-- The first `t` seconds of constant-jerk stretches. -/
def runFor : List (F64 × F64) → F64 → F64 × F64 × F64 → F64 × F64 × F64
  | [], _, s => s
  | (d, j) :: l, t, s =>
    if t.le d then Phase.at ⟨F64.zero, t, s.1, s.2.1, s.2.2, j⟩ t
    else runFor l (t.sub d) (Phase.at ⟨F64.zero, d, s.1, s.2.1, s.2.2, j⟩ d)

def phasesTime (l : List (F64 × F64)) : F64 := l.foldl (fun t p => t.add p.1) F64.zero

/-- The state one tick later under a constant jerk. -/
def tickOn (x : F64 × F64 × F64) (j : F64) : F64 × F64 × F64 :=
  Phase.at ⟨F64.zero, tauS, x.1, x.2.1, x.2.2, j⟩ tauS

/-- |a| ≤ A and |v| ≤ V throughout one tick of jerk `j` (R287). -/
def tickInLimits (l : Limits) (vmax : F64) (x : F64 × F64 × F64) (j : F64) : Bool :=
  let e := tickOn x j
  let turn := if j.isZero then F64.zero else (x.2.2.neg).div j
  let mid := (Phase.at ⟨F64.zero, tauS, x.1, x.2.1, x.2.2, j⟩ turn).2.1
  (x.2.2.abs).le l.acc && (e.2.2.abs).le l.acc && (x.2.1.abs).le vmax && (e.2.1.abs).le vmax &&
  (!(F64.zero.lt turn && turn.lt tauS) || (mid.abs).le vmax)

/-- Where the time-optimal stop from a state ends. -/
def stopEnd (l : Limits) (x : F64 × F64 × F64) : F64 := (runPhases (stopPhases l x.2.1 x.2.2) x).1

/-- The jerk of the first tick of the time-optimal stop, limited to the jerk limit. -/
def stopJerk (l : Limits) (x : F64 × F64 × F64) : F64 :=
  let e := runFor (stopPhases l x.2.1 x.2.2) tauS x
  F64.clamp l.jerk.neg l.jerk ((e.2.2.sub x.2.2).div tauS)

/-- The time-optimal stop from a state stays within V (R289): so does the speed at which it brings the acceleration to zero. -/
def stopInLimit (l : Limits) (vmax : F64) (x : F64 × F64 × F64) : Bool :=
  ((x.2.1.add (((x.2.2.mul x.2.2.abs).div l.jerk).div (F64.ofNat 2))).abs).le vmax

/-- R287: the jerk chosen for the coming tick towards target `g`. R287's test bounds the speed within the tick only; the model
bounds it in the time-optimal stop that follows too, without which an axis that nears VMAX would pass it, against R289 (log
49). -/
def chooseJerk (l : Limits) (vmax : F64) (x : F64 × F64 × F64) (g : F64) : F64 :=
  let d := g.sub x.1
  let s : F64 := if d.isZero then (if x.2.1.lt F64.zero then F64.one else if x.2.1.isZero then F64.zero else F64.one.neg)
    else if d.lt F64.zero then F64.one.neg else F64.one
  let ok (u : F64) : Bool :=
    let j := u.mul s
    tickInLimits l vmax x j && stopInLimit l vmax (tickOn x j) && ((stopEnd l (tickOn x j)).mul s).le (g.mul s)
  if ok l.jerk.neg then (largest ok l.jerk.neg l.jerk).mul s else stopJerk l x

/-- The axis state in the profile's order p, v, a. -/
def Axis.pva (x : Axis) : F64 × F64 × F64 := (x.p, x.v, x.a)
def Axis.withPva (x : Axis) (s : F64 × F64 × F64) : Axis := { x with p := s.1, v := s.2.1, a := s.2.2 }

/-- The axis is so near its target that the move is done (R287). -/
def Core.moveDone (c : Core) (n : Nat) (g : Int) : Bool :=
  let x := c.axis n
  c.posCmd n == g && ((x.v.abs).mul tauS).lt F64.one && (((x.a.abs).mul tauS).mul tauS).lt F64.one

/-! ### Positions of inputs (R296, R306, R310) -/

/-- The position of input `src`: 0 to 7 incremental, 8 to 11 SSI. -/
def Core.inputPos (c : Core) (src : Nat) : Int :=
  if src < 8 then c.rdI PFI_INC_STATE.POS src else c.rdI PFI_SSI_STATE.POS (src - 8)

/-- A difference of positions, modulo 2³² as a signed value (R300). -/
def posDiff (a b : Int) : Int := toSigned 32 (ofSigned 32 (a - b))

/-- round(POS × num / den), ties away from zero (R296). -/
def scaleRound (p : Int) (num den : Nat) : Int := roundDiv (p * num) (max 1 den)

/-- dev of R296. -/
def Core.devOf (c : Core) (n : Nat) : Int :=
  let e := c.inputPos (c.rd MOT_CONFIG.ENC_SRC n)
  posDiff (posDiff e (c.axis n).e0)
    (scaleRound (c.posCmd n) (c.rd MOT_CONFIG.ENC_NUM n) (c.rd MOT_CONFIG.ENC_DEN n))

/-- E₀ is set so that dev = 0 (R296). -/
def Core.zeroDev (c : Core) (n : Nat) : Core :=
  let e := c.inputPos (c.rd MOT_CONFIG.ENC_SRC n)
  let p := scaleRound (c.posCmd n) (c.rd MOT_CONFIG.ENC_NUM n) (c.rd MOT_CONFIG.ENC_DEN n)
  (c.modAxis n (fun x => { x with e0 := posDiff e p, devRun := 0 })).wr MOT_STATE.DEV 0 n

/-! ### Stopping, faults (R293, R297, R299) -/

/-- An axis starts the time-optimal stop, with its remaining distance kept or discarded (R293). -/
def Core.stopAxis (c : Core) (n : Nat) (keep : Bool) : Core :=
  let x := c.axis n
  let g := match x.latch with | some l => some l.1 | none => if c.axState n = axMoving then x.target else none
  let st := c.axState n
  if st = axDisabled ∨ st = axFault then c
  else
    let c := c.modAxis n (fun x =>
      { x with
        target := if g.isSome then none else x.target, latch := none,
        kept := if keep then (if g.isSome then g else x.kept) else none,
        stopping := decide (st = axMoving) || x.stopping })
    let c := if st = axMoving then c.setAx n axStopping
      else if st = axStopping then c
      else c.setAx n (if (c.axis n).kept.isSome then axKept else axIdle)
    c.showTarget n

/-- Recoat: the axes it uses are marked (R298). -/
def Core.markRecoat (c : Core) : Core :=
  let on := c.mot.recoat.step != 0
  c.forEach 8 (fun c n =>
    c.setFlag MOT_STATE.IN_RECOAT
      (on && (c.rd MOT_RECOAT.PLAT_AXIS == n || c.rd MOT_RECOAT.RC_AXIS == n)) n)

def Core.setRecoat (c : Core) (r : Recoat) : Core := ({ c with mot := { c.mot with recoat := r } }).markRecoat

/-- The recoat sequence ends failed (R299). -/
def Core.recoatFail (c : Core) (axis : Nat) : Core :=
  let r := c.mot.recoat
  let c := c.setRecoat { r with failed := true, done := true }
  (c.post evRecoatFail 0 (leBytes 1 (if r.step = 6 then 5 else r.step) ++ leBytes 1 axis)).raiseHold evRecoatFail

/-- MEN_N of an axis (R284): low while it is enabled and free of a driver fault, outside DORMANT and BOOT. -/
def Core.menN (c : Core) (n : Nat) : Bool :=
  !(c.flag MOT_CONFIG.ENABLE n && !(c.axis n).causes.contains 2 && c.mode != .dormant && c.mode != .boot)

/-- MCUR of an axis (R284, R295). -/
def Core.mcur (c : Core) (n : Nat) : Bool := c.flag MOT_STATE.CUR_MODE n

/-- An axis faults, enabled or not (R297); a cause met in a fault joins those that MOT_CLEAR must find gone. A fault of an axis
of the running recoat sequence ends it (R299). -/
def Core.axisFault (c : Core) (n cause : Nat) : Core :=
  let c := c.modAxis n (fun x => { x with causes := if x.causes.contains cause then x.causes else x.causes ++ [cause] })
  if c.axState n = axFault then c
  else
    let c := c.modAxis n (fun x =>
      { x with
        v := F64.zero, a := F64.zero, stopping := false, devRun := 0,
        kept := match x.latch with
          | some l => some l.1
          | none => if c.axState n = axMoving then x.target else x.kept,
        target := none, latch := none })
    let c := (c.setAx n axFault).wr MOT_STATE.FAULT_CAUSE cause n
    let c := (c.wr MOT_STATE.VEL 0 n).showTarget n
    let c := (c.post evAxisFault n (leBytes 1 cause ++ zeros 3 ++ leBytes 4 (ofSigned 32 (c.posCmd n)))).raiseHold evAxisFault
    let r := c.mot.recoat
    if r.step ≠ 0 ∧ !r.failed ∧ (c.rd MOT_RECOAT.PLAT_AXIS = n ∨ c.rd MOT_RECOAT.RC_AXIS = n) then c.recoatFail n else c

/-- The driver fault input of an axis (R284, R297). -/
def Core.driverFault (c : Core) (n : Nat) (active : Bool) : Core :=
  let c := c.modAxis n (fun x => { x with mflt := active })
  if active && !c.held domMOT then c.axisFault n 2 else c

/-- Every axis stops with its remaining distance kept (R231, R293). -/
def Core.stopAllAxes (c : Core) : Core := c.forEach 8 (fun c n => c.stopAxis n true)

/-- Entry into EXPOSE: every axis still moving stops, counted (R292). -/
def Core.exposeCuts (c : Core) : Core :=
  c.forEach 8 (fun c n => if c.axBusy n || (c.axis n).latch.isSome then
    (if c.axState n = axMoving then c.inc MOT_STAT.EXPOSE_CUTS n else c).stopAxis n true else c)

/-- ABORT in HOLD discards every kept target; the axes stay at rest (R240). -/
def Core.discardKept (c : Core) : Core :=
  c.forEach 8 (fun c n =>
    let c := c.modAxis n (fun x => { x with kept := none })
    let c := if c.axState n = axKept then c.setAx n axIdle else c
    c.showTarget n)

/-- A target is latched at the next tick boundary (R290). -/
def Core.latchTarget (c : Core) (n : Nat) (g : Int) : Core :=
  let c := if (c.axis n).latch.isSome then c.inc MOT_STAT.MOT_OVERWRITES n else c
  c.modAxis n (fun x => { x with latch := some (g, c.ticks + 1) })

/-- A kept target is in force again (R294). -/
def Core.continueAxis (c : Core) (n : Nat) : Core :=
  match (c.axis n).kept with
  | none => c
  | some g =>
    if c.axState n = axFault ∨ c.axState n = axDisabled then c
    else
      let c := c.modAxis n (fun x => { x with kept := none, target := some g, stopping := false })
      (c.setAx n axMoving).showTarget n

/-- The target lies outside the enabled virtual limits (R291). -/
def Core.beyondLimit (c : Core) (n : Nat) (g : Int) : Bool :=
  c.flag MOT_CONFIG.LIM_EN n && (decide (g < c.rdI MOT_CONFIG.LIM_LO n) || decide (c.rdI MOT_CONFIG.LIM_HI n < g))

/-! ### Compare units (R306 to R309) -/

def Core.cmp (c : Core) (u : Nat) : Cmp := c.mot.cmps.getD u Cmp.init
def Core.modCmp (c : Core) (u : Nat) (f : Cmp → Cmp) : Core :=
  { c with mot := { c.mot with cmps := modAt Cmp.init c.mot.cmps u f } }

/-- The direction of travel of an input: 1, −1, or 0 before its first count or change (R308). -/
def Core.inputDir (c : Core) (src : Nat) : Int :=
  if src < 8 then
    if (c.mot.incs.getD src IncIn.init).counted then (if c.flag PFI_INC_STATE.DIR src then 1 else -1) else 0
  else (c.mot.ssis.getD (src - 8) SsiIn.init).dir

/-- The armed entry of a unit is decided: logged, and the next one is armed (R307, R309). `how`: 1 FIRED, 2 LATE,
3 MISSED; `pulsed`: this update has already given its pulse. -/
def Core.cmpDecide (c : Core) (u ix how : Nat) (e : CmpEntry) (pulsed : Bool) (at_ : Time) : Core :=
  let c := c.dramWrite (c.rd PFI_CMP.LOG_ADDR u + ix) [BitVec.ofNat 8 how]
  let c := c.inc (if how = 1 then PFI_CMP_STATE.FIRED else if how = 2 then PFI_CMP_STATE.LATE else PFI_CMP_STATE.MISSED) u
  let c := c.wr PFI_CMP_STATE.NEXT (ix + 1) u
  let c := if (c.cmp u).list.length ≤ ix + 1 then c.wr PFI_CMP_STATE.ARMED 0 u else c
  if how = 3 then
    let c := c.wr PFI_CMP_STATE.MISSED_STICKY 1 u
    let c := if c.rd PFI_CMP_STATE.FIRST_MISSED u = 0xFFFF then c.wr PFI_CMP_STATE.FIRST_MISSED ix u else c
    if (c.cmp u).missPosted then c
    else
      (c.modCmp u (fun x => { x with missPosted := true })).post evCmpMissed u
        (leBytes 2 ix ++ zeros 2 ++ leBytes 4 (ofSigned 32 e.pos))
  else
    let inv := c.flag PFI_CMP.OUT_POL u
    let w := c.rd PFI_CMP.PULSE_W u
    let c := if e.act = 0 then
        if pulsed then c
        else (c.modCmp u (fun x => { x with pulseEnd := at_ + w * 8 * nsU })).emit (.cmpo u 2 inv w)
      else if e.act = 1 then (c.modCmp u (fun x => { x with out := true })).emit (.cmpo u 1 inv 0)
      else if e.act = 2 then (c.modCmp u (fun x => { x with out := false })).emit (.cmpo u 0 inv 0)
      else c
    c.compareTriggers u at_

/-- The armed entries of a unit are judged (R307, R308) at position `p1`, reached from `p0` by a count or reading when
`moved`. The first is judged as behind where `fresh` says so, and each entry armed here is. `fuel` bounds the entries. -/
def Core.cmpJudge (u : Nat) (p0 p1 : Int) (moved : Bool) (at_ : Time) : Nat → Bool → Bool → Core → Core
  | 0, _, _, c => c
  | fuel + 1, fresh, pulsed, c =>
    let d := c.inputDir (c.rd PFI_CMP.SRC u)
    let ix := c.rd PFI_CMP_STATE.NEXT u
    if !c.flag PFI_CMP_STATE.ARMED u then c
    else if d == 0 then c.modCmp u (fun x => { x with unjudged := true })
    else
      let c := c.modCmp u (fun x => { x with unjudged := false })
      match (c.cmp u).list[ix]? with
      | none => c
      | some e =>
        if !(e.dir == 0 || (e.dir == 1 && d == 1) || (e.dir == 2 && d == -1)) then c
        else
          let a := d * posDiff e.pos p0
          let b := d * posDiff p1 p0
          let past := d * posDiff p1 e.pos
          let next := fun (how : Nat) =>
            Core.cmpJudge u p0 p1 moved at_ fuel true (pulsed || (e.act == 0 && how != 3)) (c.cmpDecide u ix how e pulsed at_)
          if moved && decide (0 ≤ a) && decide (a ≤ b) then next 1
          else if fresh && decide (0 < past) then
            next (if c.flag PFI_CMP.CATCH u && decide (past ≤ (c.rd PFI_CMP.CATCH_WIN u : Int)) then 2 else 3)
          else c

/-- Every unit that follows an input judges its entries: at a count or reading the armed one fires, or is judged as behind if it
has not been judged yet; a re-zero may also carry the position past it (R308). -/
def Core.cmpFollow (c : Core) (src : Nat) (p0 p1 : Int) (moved : Bool) (at_ : Time) : Core :=
  c.forEach 8 (fun c u =>
    if c.rd PFI_CMP.SRC u = src then
      let x := c.cmp u
      let ahead := match x.list[c.rd PFI_CMP_STATE.NEXT u]? with
        | some e => decide (c.inputDir src * posDiff p0 e.pos ≤ 0)
        | none => false
      Core.cmpJudge u p0 p1 moved at_ (x.list.length + 1) (x.unjudged || (!moved && ahead)) false c
    else c)

/-- The list of R306 read from DRAM. -/
def cmpEntries (bs : Bytes) : List CmpEntry :=
  (List.range (bs.length / 8)).map (fun i =>
    ⟨fieldLEs bs (8 * i) 4, fieldLE bs (8 * i + 4) 1, fieldLE bs (8 * i + 5) 1⟩)

/-- The list passes the tests of R307. -/
def cmpListOk (bs : Bytes) (crc : Nat) : Bool :=
  crc32c bs == crc && (List.range (bs.length / 8)).all (fun i => fieldLE bs (8 * i + 6) 2 == 0) &&
  (cmpEntries bs).all (fun e => decide (e.dir ≤ 2) && decide (e.act ≤ 3))

/-- Entry 0 is armed and the log cleared (R307). -/
def Core.cmpStart (c : Core) (u : Nat) : Core :=
  let c := c.modCmp u (fun x => { x with missPosted := false })
  let c := c.dramWrite (c.rd PFI_CMP.LOG_ADDR u) (zeros 4096)
  let c := [PFI_CMP_STATE.FIRED, PFI_CMP_STATE.LATE, PFI_CMP_STATE.MISSED, PFI_CMP_STATE.NEXT].foldl
    (fun c f => c.wr f 0 u) c
  let c := c.wr PFI_CMP_STATE.FIRST_MISSED 0xFFFF u
  let c := c.wr PFI_CMP_STATE.ARMED (b2n ((c.cmp u).list.length != 0)) u
  let p := c.inputPos (c.rd PFI_CMP.SRC u)
  Core.cmpJudge u p p false c.now ((c.cmp u).list.length + 1) true false c

/-- Writing ARM from 0 to 1 (R307): none where the list fails its tests. -/
def Core.cmpArm (c : Core) (m : Mem) (u : Nat) : Option Core :=
  let n := 8 * c.rd PFI_CMP.LIST_COUNT u
  let c := c.dramHazard (c.rd PFI_CMP.LIST_ADDR u) n
  let bs := c.dramRead m (c.rd PFI_CMP.LIST_ADDR u) n
  if cmpListOk bs (c.rd PFI_CMP.LIST_CRC u) then
    some (((c.wr PFI_CMP.ARM 1 u).modCmp u (fun x => { x with list := cmpEntries bs })).cmpStart u)
  else none

/-- The recoat sequence re-arms a unit with the list it holds (R298 step 2). -/
def Core.cmpRearm (c : Core) (u : Nat) : Core := if (c.cmp u).list.isEmpty then c else c.cmpStart u

/-! ### Incremental inputs (R300 to R303) -/

def Core.modInc (c : Core) (i : Nat) (f : IncIn → IncIn) : Core :=
  { c with mot := { c.mot with incs := modAt IncIn.init c.mot.incs i f } }

/-- An input faults (R302, R305): posted, its axes fault, and a HOLD escalation is raised. -/
def Core.inputFault (c : Core) (src : Nat) : Core :=
  let c := c.post evPfiInputFault (if src < 8 then src else src - 8) (leBytes 1 (b2n (decide (8 ≤ src))))
  let c := c.forEach 8 (fun c n => if c.rd MOT_CONFIG.ENC_SRC n = src then c.axisFault n 3 else c)
  c.raiseHold evPfiInputFault

/-- An index event: checked against LINES (R301, R302), then perhaps a re-zero (R303). -/
def Core.indexEvent (c : Core) (i : Nat) : Core :=
  let x := c.mot.incs.getD i IncIn.init
  let pos := c.rdI PFI_INC_STATE.POS i
  let lines := c.rd PFI_INC.LINES i
  let c := if lines = 0 then c
    else if !x.prevIndex || x.turned then c.inc PFI_INC_STATE.UNCHECKED i
    else
      let d := (posDiff pos (c.rdI PFI_INC_STATE.IDX_POS i)).natAbs
      let c := c.wr PFI_INC_STATE.IDX_DIFF d i
      if ((d : Int) - 4 * lines).natAbs ≤ c.rd PFI_INC.TOL i then c.wr PFI_INC_STATE.MISS_RUN 0 i
      else
        let c := (c.wr PFI_INC_STATE.IDX_STICKY 1 i).inc PFI_INC_STATE.PFI_INDEX_ERR i
        let c := c.inc PFI_INC_STATE.MISS_RUN i
        if c.rd PFI_INC.MISMATCH_MAX i ≤ c.rd PFI_INC_STATE.MISS_RUN i ∧ !c.flag PFI_INC_STATE.FAULT i then
          (c.wr PFI_INC_STATE.FAULT 1 i).inputFault i
        else c
  let mode := c.rd PFI_INC.ZERO_MODE i
  let c := c.modInc i (fun x => { x with prevIndex := true, turned := false })
  if mode = 1 ∨ mode = 2 then
    let z := c.rdI PFI_INC.ZERO_VALUE i
    let c := if mode = 1 then c.wr PFI_INC.ZERO_MODE 0 i else c
    let c := (c.wr PFI_INC_STATE.POS (ofSigned 32 z) i).wr PFI_INC_STATE.IDX_POS (ofSigned 32 z) i
    let c := c.forEach 8 (fun c n =>
      if c.rd MOT_CONFIG.ENC_SRC n = i then
        c.modAxis n (fun a => { a with e0 := posDiff (a.e0 + posDiff z pos) 0 }) else c)
    c.cmpFollow i pos z false c.now
  else c.wr PFI_INC_STATE.IDX_POS (ofSigned 32 pos) i

/-- An index event that the levels have shown is taken: by its own row, else before the input's next change or at the next tick
boundary. -/
def Core.indexDue (c : Core) (i : Nat) : Core :=
  if c.held domMOT || !(c.mot.incs.getD i IncIn.init).index then c
  else (c.modInc i (fun x => { x with index := false })).indexEvent i

/-- One count of an incremental input (R300). -/
def Core.countOne (c : Core) (i : Nat) (up : Bool) (at_ : Time) : Core :=
  let up := up != c.flag PFI_INC.INV i
  let p0 := c.rdI PFI_INC_STATE.POS i
  let p1 := p0 + (if up then 1 else -1)
  let turned := (c.mot.incs.getD i IncIn.init).counted && c.flag PFI_INC_STATE.DIR i != up
  let c := c.wr PFI_INC_STATE.POS (ofSigned 32 p1) i
  let c := c.setFlag PFI_INC_STATE.DIR up i
  let c := c.modInc i (fun x => { x with counted := true, turned := x.turned || turned })
  c.cmpFollow i p0 (c.rdI PFI_INC_STATE.POS i) true at_

/-- ENC_A, ENC_B and ENC_Z take new levels and keep them for `lasts` × 8 ns (R300, R301): shorter than FILT, the change is
ignored. One of A and B counts, A ahead of B counting up; both together count in QERR. With GATE_Z the index event is the count
edge after which A, B and Z are all high, without it the rising edge of Z. -/
def Core.encoderCount (c : Core) (i : Nat) (a b z : Bool) (lasts : Nat) (at_ : Time) : Core :=
  if lasts < c.rd PFI_INC.FILT i then c
  else
    let c := c.indexDue i
    let x := c.mot.incs.getD i IncIn.init
    let c := c.modInc i (fun x => { x with a := a, b := b, z := z })
    if c.held domMOT then c
    else
      let moved := x.a != a || x.b != b
      let both := x.a != a && x.b != b
      let c := if both then c.inc PFI_INC_STATE.QERR i
        else if moved then c.countOne i ((x.a != a) == (a != b)) at_ else c
      let index := if c.flag PFI_INC.GATE_Z i then moved && !both && a && b && z else z && !x.z
      if index then c.modInc i (fun x => { x with index := true }) else c

/-! ### SSI inputs (R304, R305) -/

def Core.ssi (c : Core) (s : Nat) : SsiIn := c.mot.ssis.getD s SsiIn.init
def Core.modSsi (c : Core) (s : Nat) (f : SsiIn → SsiIn) : Core :=
  { c with mot := { c.mot with ssis := modAt SsiIn.init c.mot.ssis s f } }

/-- A reading starts at every RATE_DIV-th profile tick. -/
def Core.ssiStart (c : Core) (s : Nat) : Core :=
  if c.held domMOT || !c.flag PFI_SSI.ENABLE s || (c.ssi s).busy || decide ((c.ssi s).div < c.rd PFI_SSI.RATE_DIV s) then c
  else c.modSsi s (fun x => { x with busy := true, div := 0 })

/-- Gray code to binary over `n` bits. -/
def grayDecode : Nat → Nat → Nat
  | 0, _ => 0
  | n + 1, g => (oddOnes (g / 2 ^ n) 32) * 2 ^ n + grayDecode n g

/-- An SSI frame completes (R304, R305). It is in error where SSI_DAT was not high before the first clock edge (`first`), or not
low one half-period after the last data bit (`last`). -/
def Core.ssiDone (c : Core) (s raw : Nat) (first last : Bool) (at_ : Time) : Core :=
  if c.held domMOT || !(c.ssi s).busy then c
  else
    let c := c.modSsi s (fun x => { x with busy := false })
    if !first || last then
      let c := c.inc PFI_SSI_STATE.SSI_ERRS s
      let c := c.modSsi s (fun x => { x with errRun := x.errRun + 1 })
      if c.rd PFI_SSI.ERR_MAX s ≤ (c.ssi s).errRun ∧ !c.flag PFI_SSI_STATE.FAULT s then
        (c.wr PFI_SSI_STATE.FAULT 1 s).inputFault (8 + s)
      else c
    else
      let n := c.rd PFI_SSI.BITS s
      let v := if c.flag PFI_SSI.GRAY s then grayDecode n (raw % 2 ^ n) else raw % 2 ^ n
      let p0 := c.rdI PFI_SSI_STATE.POS s
      let fresh := (c.ssi s).prev.isNone
      let d := match (c.ssi s).prev with | some q => toSigned n (v + 2 ^ n - q) | none => 0
      let p1 := if fresh then (v : Int) else p0 + d
      let c := (c.wr PFI_SSI_STATE.RAW v s).wr PFI_SSI_STATE.POS (ofSigned 32 p1) s
      let c := c.modSsi s (fun x =>
        { x with
          prev := some v, errRun := 0, fresh := true,
          dir := if d = 0 then x.dir else if 0 < d then 1 else -1 })
      if fresh then c.cmpFollow (8 + s) (c.rdI PFI_SSI_STATE.POS s) (c.rdI PFI_SSI_STATE.POS s) false at_
      else c.cmpFollow (8 + s) p0 (c.rdI PFI_SSI_STATE.POS s) true at_

/-! ### The recoat sequence (R298, R299) -/

/-- Give an axis of the sequence its target; a refused target ends the sequence failed. -/
def Core.recoatTarget (c : Core) (n : Nat) (g : Int) : Core :=
  if c.beyondLimit n g || c.axState n == axFault || c.axState n == axDisabled then c.recoatFail n
  else c.latchTarget n g

/-- The target in force of an axis, or its position where it has none. -/
def Core.targetOf (c : Core) (n : Nat) : Int := (c.axis n).target.getD (c.posCmd n)

/-- Start the step the sequence is at. -/
def Core.recoatStep (c : Core) : Core :=
  let r := c.mot.recoat
  let rc := c.rd MOT_RECOAT.RC_AXIS
  let home := c.rdI MOT_RECOAT.RC_HOME
  let far := c.rdI MOT_RECOAT.RC_FAR
  if r.step = 3 then
    let n := c.rd MOT_RECOAT.PLAT_AXIS
    c.recoatTarget n (c.targetOf n + c.rdI MOT_RECOAT.PLAT_STEP)
  else if r.step = 4 then
    c.setRecoat { r with settleAt := some (c.ticks + c.rd MOT_RECOAT.RC_SETTLE * ticksPerUs) }
  else if r.step = 5 then
    if c.flag MOT_RECOAT.BIDIR then c.recoatTarget rc (if c.targetOf rc = far then home else far)
    else c.recoatTarget rc far
  else if r.step = 6 then c.recoatTarget rc home
  else c

/-- At entry into SLACK the sequence starts, or reports done at once (R298 steps 1 to 3). -/
def Core.recoatStart (c : Core) : Core :=
  if !c.flag MOT_RECOAT.RC_EN then c.setRecoat ⟨0, false, false, none, true⟩
  else
    let c := c.forEach 8 (fun c u => if bitOf (c.rd MOT_RECOAT.CMP_REARM) u then c.cmpRearm u else c)
    (c.setRecoat ⟨3, false, false, none, false⟩).recoatStep

/-- The axis rests at the target it was given. -/
def Core.axArrived (c : Core) (n : Nat) : Bool :=
  c.axState n == axIdle && (c.axis n).latch.isNone && (c.axis n).kept.isNone

/-- A blade cassette counts one stroke of its recoater axis (R406). -/
def Core.countStroke (c : Core) (rc : Nat) : Core :=
  c.forEach 4 (fun c r =>
    if c.rd CON_BLADE.NODE r ≠ 0 ∧ c.rd CON_BLADE.AXIS r = rc ∧ c.rd CON_BLADE.STATE r ≠ 0 then
      c.inc CON_BLADE.PENDING r else c)

/-- An axis of the sequence has reached IDLE: the sequence advances or reports done (R298). -/
def Core.recoatAdvance (c : Core) : Core :=
  let r := c.mot.recoat
  let rc := c.rd MOT_RECOAT.RC_AXIS
  if c.held domMOT || r.step == 0 || r.failed || r.paused then c
  else if r.step = 3 then
    if c.axArrived (c.rd MOT_RECOAT.PLAT_AXIS) then (c.setRecoat { r with step := 4 }).recoatStep else c
  else if r.step = 4 then c
  else if c.axArrived rc then
    let c := c.countStroke rc
    if r.step = 5 ∧ !c.flag MOT_RECOAT.BIDIR then (c.setRecoat { r with step := 6 }).recoatStep
    else c.setRecoat { r with step := 0, done := true }
  else c

/-- The settling time ends and the stroke starts (R298 step 4). -/
def Core.settleExpiry (c : Core) : Core :=
  let r := c.mot.recoat
  match r.settleAt with
  | none => c
  | some t =>
    if r.step ≠ 4 ∨ r.paused ∨ c.ticks < t ∨ c.held domMOT then c
    else (c.setRecoat { r with step := 5, settleAt := none }).recoatStep

/-- HOLD or SAFE from SLACK interrupts the sequence (R237, R294). -/
def Core.recoatPause (c : Core) : Core :=
  if c.mot.recoat.step = 0 then c else c.setRecoat { c.mot.recoat with paused := true }

/-- RESUME: the sequence goes on from where it stopped, or from the step that failed (R294, R299). -/
def Core.recoatResume (c : Core) : Core :=
  let r := c.mot.recoat
  if r.step = 0 then c
  else
    let c := c.setRecoat { r with paused := false, failed := false, done := false }
    if r.failed then
      let n := if r.step = 3 then c.rd MOT_RECOAT.PLAT_AXIS else c.rd MOT_RECOAT.RC_AXIS
      if c.axState n = axMoving then c else c.recoatStep
    else c

/-! ### The profile tick (R287, R288, R295, R296) -/

/-- DEV_TICKS consecutive evaluations have exceeded DEV_WIN: the axis faults (R296). -/
def Core.stallDue (c : Core) (n : Nat) : Core :=
  let run := (c.axis n).devRun
  if c.axState n = axFault ∨ c.rd MOT_CONFIG.DEV_WIN n = 0 ∨ run = 0 ∨ run < c.rd MOT_CONFIG.DEV_TICKS n then c
  else (c.inc MOT_STAT.STALLS n).axisFault n 1

/-- The stall test of one axis at a profile tick boundary (R296). -/
def Core.stallTest (c : Core) (n : Nat) : Core :=
  let src := c.rd MOT_CONFIG.ENC_SRC n
  if 12 ≤ src ∨ (8 ≤ src ∧ !(c.ssi (src - 8)).fresh) then c
  else
    let d := c.devOf n
    let c := c.wr MOT_STATE.DEV (ofSigned 32 d) n
    let win := c.rd MOT_CONFIG.DEV_WIN n
    let run := if win ≠ 0 ∧ win < d.natAbs ∧ c.axState n ≠ axFault then (c.axis n).devRun + 1 else 0
    let c := c.modAxis n (fun x => { x with devRun := run })
    c.stallDue n

/-- The quiet or strong current mode (R295). -/
def Core.currentMode (c : Core) (n : Nat) : Core :=
  let v := (c.axis n).v.abs
  let up := (F64.ofNat (c.rd MOT_CONFIG.CUR_UP n)).le v
  let dn := v.lt (F64.ofNat (c.rd MOT_CONFIG.CUR_DN n)) || v.isZero
  let old := c.flag MOT_STATE.CUR_MODE n
  let new := if dn then false else if up then true else old
  if new = old then c else (c.setFlag MOT_STATE.CUR_MODE new n).inc MOT_STAT.CUR_SWITCHES n

/-- The starts of `k` step pulses in a profile tick, in units of 8 ns after its boundary (R288); where MDIR turned at the
boundary, DIR_SETUP puts off the first and with it the others. -/
def stepStarts (k : Nat) (turned : Bool) (setup : Nat) : List Nat :=
  let put := if turned then setup - 1000 / max 1 k else 0
  (List.range k).map (fun i => (2 * i + 1) * 1000 / k + put)

/-- MDIR follows the direction and DIR_INV at a profile tick boundary, and the steps of the tick are emitted (R284, R285,
R288). -/
def Core.sendSteps (c : Core) (n : Nat) (m : Int) : Core :=
  let level := c.flag MOT_STATE.DIR n != c.flag MOT_CONFIG.DIR_INV n
  let turned := level != (c.axis n).mdir
  let c := if turned then (c.modAxis n (fun x => { x with mdir := level })).emit (.mdir n level) else c
  if m = 0 then c
  else c.emit (.steps n m (stepStarts m.natAbs turned (c.rd MOT_CONFIG.DIR_SETUP n)) (c.rd MOT_CONFIG.STEP_W n))

/-- The profile of one axis advances one tick (R287); its steps follow. -/
def Core.advanceAxis (c : Core) (n : Nat) : Core :=
  let st := c.axState n
  if st = axDisabled ∨ st = axFault then c
  else
    -- a latched target is taken
    let c := match (c.axis n).latch with
      | some (g, t) =>
        if t ≤ c.ticks then
          (c.modAxis n (fun x => { x with target := some g, latch := none, kept := none, stopping := false })).setAx n axMoving
        else c
      | none => c
    let x := c.axis n
    let l := c.axLimits n
    let before := c.posCmd n
    let finish (c : Core) (y : Axis) : Core :=
      let after := y.p.nearest
      let m := after - before
      let c := c.modAxis n (fun _ => y)
      let c := c.wr MOT_STATE.POS_CMD (ofSigned 32 after) n
      let c := c.wr MOT_STATE.VEL (ofSigned 32 (if y.v.lt F64.zero then -(y.v.neg.floor) else y.v.floor)) n
      let c := if m = 0 then c else c.setFlag MOT_STATE.DIR (decide (0 < m)) n
      c.showTarget n
    if x.stopping then
      let ph := stopPhases l x.v x.a
      if (phasesTime ph).le tauS then
        let e := runPhases ph x.pva
        let c := finish c { x with p := e.1, v := F64.zero, a := F64.zero, stopping := false }
        (c.setAx n (if x.kept.isSome then axKept else axIdle)).showTarget n
      else finish c (x.withPva (tickOn x.pva (stopJerk l x.pva)))
    else
      match x.target with
      | none => c
      | some g =>
        if c.moveDone n g then
          if c.axState n = axMoving then
            (finish c { x with p := F64.ofInt g, v := F64.zero, a := F64.zero }).setAx n axIdle
          else c
        else
          let j := chooseJerk l (F64.ofNat (c.rd MOT_CONFIG.VMAX n)) x.pva (F64.ofInt g)
          (finish c (x.withPva (tickOn x.pva j))).setAx n axMoving

/-- A profile tick boundary (R286): stall tests, current modes, the profiles, the recoat sequence, SSI readings. -/
def Core.profileTick (c : Core) : Core :=
  if c.held domMOT || c.held domTIM || decide (c.now % (16 * usU) ≠ 0) then c
  else
    let c := c.forEach 8 (fun c n =>
      let c := (c.stallTest n).currentMode n
      let before := c.posCmd n
      let c := c.advanceAxis n
      c.sendSteps n (posDiff (c.posCmd n) before))
    let c := c.forEach 4 (fun c s => (c.modSsi s (fun x => { x with fresh := false, div := x.div + 1 })).ssiStart s)
    c.recoatAdvance.settleExpiry

/-! ### Encoder emulation (R310) -/

/-- S of an emulation output. -/
def Core.emuSource (c : Core) (src : Nat) : Int := if src < 12 then c.inputPos src else c.posCmd (src - 16)

/-- EMU_A, EMU_B and EMU_Z at an output count (R310): quadrature with A ahead for rising counts, and Z at the multiples of
4 × LINES. -/
def Core.emuLevels (c : Core) (o : Nat) (count : Int) : Bool × Bool × Bool :=
  let q := count % 4
  let lines := c.rd PFI_EMU.LINES o
  (q == 1 || q == 2, q == 2 || q == 3, lines != 0 && count % (4 * lines : Nat) == 0)

/-- ENABLE is set: S₀ is S, and the output stands at count 0. -/
def Core.emuEnable (c : Core) (o : Nat) : Core :=
  let s := c.emuSource (c.rd PFI_EMU.SRC o)
  let c := { c with mot := { c.mot with emuS0 := c.mot.emuS0.set o s } }
  ((c.wr PFI_EMU_STATE.OUT_POS 0 o).wr PFI_EMU_STATE.BACKLOG 0 o).emit (.emu o [c.emuLevels o 0])

/-- Each output moves at most five counts in 500 ns towards its count, through the levels of each; the rest is BACKLOG. -/
def Core.emuFollow (c : Core) : Core :=
  if c.held domMOT then c
  else
    c.forEach 2 (fun c o =>
      if !c.flag PFI_EMU.ENABLE o then c
      else
        let s := posDiff (c.emuSource (c.rd PFI_EMU.SRC o)) (c.mot.emuS0.getD o 0)
        let want := (s * (c.rd PFI_EMU.NUM o : Nat)) / (max 1 (c.rd PFI_EMU.DEN o) : Nat)
        let have_ := c.rdI PFI_EMU_STATE.OUT_POS o
        let d := posDiff want have_
        let step := clampInt (-5) 5 d
        let passed := (List.range step.natAbs).map (fun i => c.emuLevels o (have_ + (i + 1 : Nat) * step.sign))
        let c := if step = 0 then c else c.emit (.emu o passed)
        let c := c.wr PFI_EMU_STATE.OUT_POS (ofSigned 32 (have_ + step)) o
        c.wr PFI_EMU_STATE.BACKLOG (ofSigned 32 (d - step)) o)

/-! ### PFI_CLEAR -/

def Core.clearIncSticky (c : Core) (i : Nat) : Core := (c.wr PFI_INC_STATE.IDX_STICKY 0 i).wr PFI_INC_STATE.MISS_RUN 0 i
def Core.clearIncFault (c : Core) (i : Nat) : Core := (c.wr PFI_INC_STATE.FAULT 0 i).wr PFI_INC_STATE.MISS_RUN 0 i
def Core.clearSsiFault (c : Core) (s : Nat) : Core :=
  (c.wr PFI_SSI_STATE.FAULT 0 s).modSsi s (fun x => { x with errRun := 0 })
def Core.clearCmpSticky (c : Core) (u : Nat) : Core := c.wr PFI_CMP_STATE.MISSED_STICKY 0 u

end Sys2Proof.Machine
end

