-- ==== Sys2Proof/Machine/Crypto.lean ====
section
/-!
DEFINITION. Machine/Crypto.lean: SHA-256 and ECDSA over P-256, which R398 and R403 to R405 name; their algorithms are those
of the published standards (assumption log 40).
-/
namespace Sys2Proof.Machine

/-! ### SHA-256 -/

/-- A 32-bit word. -/
def w32 (x : Nat) : Nat := x % 4294967296
def rotr (x k : Nat) : Nat := (x >>> k) ||| w32 (x <<< (32 - k))

def shaK0 : List Nat :=
  [0x428A2F98, 0x71374491, 0xB5C0FBCF, 0xE9B5DBA5, 0x3956C25B, 0x59F111F1, 0x923F82A4, 0xAB1C5ED5,
   0xD807AA98, 0x12835B01, 0x243185BE, 0x550C7DC3, 0x72BE5D74, 0x80DEB1FE, 0x9BDC06A7, 0xC19BF174,
   0xE49B69C1, 0xEFBE4786, 0x0FC19DC6, 0x240CA1CC, 0x2DE92C6F, 0x4A7484AA, 0x5CB0A9DC, 0x76F988DA,
   0x983E5152, 0xA831C66D, 0xB00327C8, 0xBF597FC7, 0xC6E00BF3, 0xD5A79147, 0x06CA6351, 0x14292967]
def shaK1 : List Nat :=
  [0x27B70A85, 0x2E1B2138, 0x4D2C6DFC, 0x53380D13, 0x650A7354, 0x766A0ABB, 0x81C2C92E, 0x92722C85,
   0xA2BFE8A1, 0xA81A664B, 0xC24B8B70, 0xC76C51A3, 0xD192E819, 0xD6990624, 0xF40E3585, 0x106AA070,
   0x19A4C116, 0x1E376C08, 0x2748774C, 0x34B0BCB5, 0x391C0CB3, 0x4ED8AA4A, 0x5B9CCA4F, 0x682E6FF3,
   0x748F82EE, 0x78A5636F, 0x84C87814, 0x8CC70208, 0x90BEFFFA, 0xA4506CEB, 0xBEF9A3F7, 0xC67178F2]
def shaH0 : List Nat :=
  [0x6A09E667, 0xBB67AE85, 0x3C6EF372, 0xA54FF53A, 0x510E527F, 0x9B05688C, 0x1F83D9AB, 0x5BE0CD19]

/-- The message padded to whole blocks of 64 bytes. -/
def shaPad (m : Bytes) : Bytes :=
  let z := (119 - m.length % 64) % 64
  m ++ [0x80#8] ++ zeros z ++ (leBytes 8 (8 * m.length)).reverse

/-- The words of a block, most significant byte first. -/
def shaWords : Bytes → List Nat
  | a :: b :: c :: d :: l => beNat [a, b, c, d] :: shaWords l
  | _ => []

/-- The message schedule, latest word first; `n` words still to make. -/
def shaSchedule : Nat → List Nat → List Nat
  | 0, w => w
  | n + 1, w =>
    let g (i : Nat) : Nat := w.getD (i - 1) 0
    let s0 := rotr (g 15) 7 ^^^ rotr (g 15) 18 ^^^ (g 15 >>> 3)
    let s1 := rotr (g 2) 17 ^^^ rotr (g 2) 19 ^^^ (g 2 >>> 10)
    shaSchedule n (w32 (g 16 + s0 + g 7 + s1) :: w)

/-- The working variables. -/
structure ShaVars where
  a : Nat
  b : Nat
  c : Nat
  d : Nat
  e : Nat
  f : Nat
  g : Nat
  h : Nat
  deriving DecidableEq, Repr

def shaRound (v : ShaVars) (kw : Nat × Nat) : ShaVars :=
  let s1 := rotr v.e 6 ^^^ rotr v.e 11 ^^^ rotr v.e 25
  let ch := (v.e &&& v.f) ^^^ ((4294967295 - v.e) &&& v.g)
  let t1 := v.h + s1 + ch + kw.1 + kw.2
  let s0 := rotr v.a 2 ^^^ rotr v.a 13 ^^^ rotr v.a 22
  let maj := (v.a &&& v.b) ^^^ (v.a &&& v.c) ^^^ (v.b &&& v.c)
  ⟨w32 (t1 + s0 + maj), v.a, v.b, v.c, w32 (v.d + t1), v.e, v.f, v.g⟩

def shaBlock (v : ShaVars) (block : Bytes) : ShaVars :=
  let w := (shaSchedule 48 (shaWords block).reverse).reverse
  let r := (List.zip (shaK0 ++ shaK1) w).foldl shaRound v
  ⟨w32 (v.a + r.a), w32 (v.b + r.b), w32 (v.c + r.c), w32 (v.d + r.d), w32 (v.e + r.e), w32 (v.f + r.f),
   w32 (v.g + r.g), w32 (v.h + r.h)⟩

/-- `n` blocks of a padded message. -/
def shaBlocks : Nat → Bytes → ShaVars → ShaVars
  | 0, _, v => v
  | n + 1, m, v => shaBlocks n (m.drop 64) (shaBlock v (m.take 64))

/-- The SHA-256 digest as a number, most significant byte first. -/
def sha256 (m : Bytes) : Nat :=
  let p := shaPad m
  let h (i : Nat) : Nat := shaH0.getD i 0
  let v := shaBlocks (p.length / 64) p ⟨h 0, h 1, h 2, h 3, h 4, h 5, h 6, h 7⟩
  [v.a, v.b, v.c, v.d, v.e, v.f, v.g, v.h].foldl (fun acc x => acc * 4294967296 + x) 0

/-! ### ECDSA over P-256 -/

def p256P : Nat := 0xFFFFFFFF00000001000000000000000000000000FFFFFFFFFFFFFFFFFFFFFFFF
def p256N : Nat := 0xFFFFFFFF00000000FFFFFFFFFFFFFFFFBCE6FAADA7179E84F3B9CAC2FC632551
def p256B : Nat := 0x5AC635D8AA3A93E7B3EBBD55769886BC651D06B0CC53B0F63BCE3C3E27D2604B
def p256Gx : Nat := 0x6B17D1F2E12C4247F8BCE6E563A440F277037D812DEB33A0F4A13945D898C296
def p256Gy : Nat := 0x4FE342E2FE1A7F9B8EE7EB4A7C0F9E162BCE33576B315ECECBB6406837BF51F5

/-- `b` to the power of the low `n` bits of `e`, modulo `m`. -/
def powMod (m : Nat) : Nat → Nat → Nat → Nat
  | 0, _, _ => 1
  | n + 1, b, e =>
    let r := powMod m n (b * b % m) (e / 2)
    if e % 2 = 1 then r * b % m else r

/-- The inverse modulo a prime. -/
def invMod (m a : Nat) : Nat := powMod m 256 (a % m) (m - 2)

def subMod (m a b : Nat) : Nat := (a % m + m - b % m) % m

/-- A point of the curve, `none` the point at infinity. -/
abbrev EcPoint := Option (Nat × Nat)

def ecAdd (p q : EcPoint) : EcPoint :=
  match p, q with
  | none, _ => q
  | _, none => p
  | some (x1, y1), some (x2, y2) =>
    if x1 = x2 ∧ (y1 + y2) % p256P = 0 then none
    else
      let l :=
        if x1 = x2 then subMod p256P (3 * x1 * x1) 3 * invMod p256P (2 * y1) % p256P
        else subMod p256P y2 y1 * invMod p256P (subMod p256P x2 x1) % p256P
      let x3 := subMod p256P (l * l) (x1 + x2)
      some (x3, subMod p256P (l * subMod p256P x1 x3) y1)

/-- The low `n` bits of `k` times a point. -/
def ecMul : Nat → Nat → EcPoint → EcPoint
  | 0, _, _ => none
  | n + 1, k, p =>
    let r := ecMul n (k / 2) (ecAdd p p)
    if k % 2 = 1 then ecAdd p r else r

/-- The point lies on the curve y² = x³ − 3x + b. -/
def onCurve (x y : Nat) : Bool :=
  decide (x < p256P) && decide (y < p256P) &&
  (y * y % p256P == subMod p256P (x * x * x + p256B) (3 * x))

/-- A signature r, s of a digest verifies under the public key (x, y). -/
def ecdsaOk (x y r s digest : Nat) : Bool :=
  if r = 0 ∨ p256N ≤ r ∨ s = 0 ∨ p256N ≤ s then false
  else if !onCurve x y then false
  else
    let w := invMod p256N s
    let u1 := digest * w % p256N
    let u2 := r * w % p256N
    match ecAdd (ecMul 256 u1 (some (p256Gx, p256Gy))) (ecMul 256 u2 (some (x, y))) with
    | none => false
    | some (px, _) => px % p256N == r

/-- A signature of 64 bytes under a key of 64 bytes, over the SHA-256 of a message (R398, R403, R404). -/
def sigOk (key sig msg : Bytes) : Bool :=
  ecdsaOk (beNat (slice key 0 32)) (beNat (slice key 32 32)) (beNat (slice sig 0 32)) (beNat (slice sig 32 32)) (sha256 msg)

end Sys2Proof.Machine
end

