-- ==== Sys2Proof/Machine/Records.lean ====
section
/-!
DEFINITION. Machine/Records.lean: flash records in two copies (R385 to R388), the trim load (R389, R390), the signed image
and the choice of image at boot (R398 to R400).
-/
namespace Sys2Proof.Machine

def Core.modHbr (c : Core) (f : Harbour → Harbour) : Core := { c with hbr := f c.hbr }
def Core.modCal (c : Core) (f : Cal → Cal) : Core := c.modHbr (fun h => { h with cal := f h.cal })

/-! ### Flash device 0 (R399) -/

def Core.flashRead (c : Core) (a n : Nat) : Bytes :=
  (List.range n).map (fun i => Kv.get Flash.unlisted c.hbr.flash (a + i))

/-- Put bytes into flash, one by one, canonical form kept. -/
def flashPut (f : List Host.Cell) (a : Nat) : Bytes → List Host.Cell
  | [] => f
  | b :: bs => flashPut (Kv.put Flash.unlisted f a b) (a + 1) bs

/-- Erase a stretch: unlisted addresses read as the erased byte. -/
def flashErase (f : List Host.Cell) (a n : Nat) : List Host.Cell :=
  Kv.dropWhere (fun k => decide (a ≤ k) && decide (k < a + n)) f

/-- A sector is erased and programmed. -/
def Core.flashSector (c : Core) (a : Nat) (bs : Bytes) : Core :=
  c.modHbr (fun h => { h with flash := flashPut (flashErase h.flash a 4096) a bs })

/-! ### Records (R385, R387, R388) -/

/-- Copy A (0) or B (1) of a part. -/
def partAddr (n copy : Nat) : Nat := 0x10000 + 0x2000 * n + 0x1000 * copy

def recGen (b : Bytes) : Nat := fieldLE b 4 2

/-- The bytes of a part's payload that R386 and R399 list, as offset and length from the payload's start. -/
def listedBytes (n : Nat) : List (Nat × Nat) :=
  match n with
  | 0 | 1 => [(0, 128)]
  | 2 => [(0, 8)]
  | 3 => [(0, 64)]
  | 4 | 5 | 6 | 7 => [(0, 82), (84, 40)]
  | 8 => [(0, 84)]
  | 9 => (List.range 28).flatMap (fun i => [(8 * i, 2), (8 * i + 4, 4)])
  | _ => [(0, 3), (4, 4)]

/-- A payload with every byte that is not listed zero (R386). -/
def maskPart (n : Nat) (b : Bytes) : Bytes :=
  (List.range 224).map (fun i => if (listedBytes n).any (fun r => decide (r.1 ≤ i) && decide (i < r.1 + r.2)) then b.getD i 0#8 else 0#8)

/-- A copy of a part is valid (R388): its reserved fields and the bytes not listed are zero. -/
def partOk (n : Nat) (b : Bytes) : Bool :=
  slice b 28 224 == maskPart n (slice b 28 224) &&
  fieldLE b 0 2 == 0xCA1B && fieldLE b 2 1 == n && fieldLE b 3 1 == 1 && fieldLE b 6 2 == 0 && fieldLE b 26 2 == 0 &&
  fieldLE b 16 4 / 2 ^ 30 == 0 && fieldLE b 252 4 == crc32c (b.take 252)

/-- The copy a part is loaded from, its bytes, and whether the other copy is invalid (R388). -/
def Core.loadCopy (c : Core) (n : Nat) : Option (Nat × Bytes × Bool) :=
  let a := c.flashRead (partAddr n 0) 256
  let b := c.flashRead (partAddr n 1) 256
  match partOk n a, partOk n b with
  | true, true => if seqNewer 16 (recGen b) (recGen a) then some (1, b, false) else some (0, a, false)
  | true, false => some (0, a, true)
  | false, true => some (1, b, true)
  | false, false => none

/-- The bytes of a record (R385). -/
def recordBytes (n gen sec ns count : Nat) (temp : Int) (payload : Bytes) : Bytes :=
  let body := leBytes 2 0xCA1B ++ leBytes 1 n ++ leBytes 1 1 ++ leBytes 2 gen ++ zeros 2 ++ leBytes 8 sec ++
    leBytes 4 ns ++ leBytes 4 count ++ leBytes 2 (ofSigned 16 temp) ++ zeros 2 ++ maskPart n payload
  body ++ leBytes 4 (crc32c body)

/-- Bytes that a failed programming leaves: no value is stated for them. -/
def Core.junk (c : Core) (n : Nat) : Bytes × Core :=
  ((List.range n).map (fun i => Config.undefByte (c.fresh + i)), { c with fresh := c.fresh + n })

/-- A part is written to the copy that does not hold the newer valid generation (R387). `good` says that the read-back
check passed. -/
def Core.writePart (c : Core) (n sec ns count : Nat) (temp : Int) (payload : Bytes) (good : Bool) : Core :=
  let (copy, gen) := match c.loadCopy n with
    | some (k, b, _) => (1 - k, (recGen b + 1) % 65536)
    | none => (0, 1)
  if good then c.flashSector (partAddr n copy) (recordBytes n gen sec ns count temp payload)
  else
    let (j, c) := c.junk 256
    c.flashSector (partAddr n copy) j

/-! ### Part 10: the update state (R399) -/

/-- The update state: ACTIVE, TRIAL (0xFF none), TRIED, the active image's IMG_SVN, the boot count. -/
structure UpdState where
  active : Nat
  trial : Nat
  tried : Nat
  svn : Nat
  boots : Nat
  deriving DecidableEq, Repr

def Core.updState (c : Core) : UpdState :=
  match c.loadCopy 10 with
  | some (_, b, _) => ⟨fieldLE b 28 1, fieldLE b 29 1, fieldLE b 30 1, fieldLE b 32 4, fieldLE b 20 4⟩
  | none => ⟨0, 0xFF, 0, 0, 0⟩

/-- UPD_STATE ACTIVE and TRIAL show part 10. -/
def Core.showUpd (c : Core) : Core :=
  let u := c.updState
  (c.wr UPD_STATE.ACTIVE u.active).wr UPD_STATE.TRIAL (if u.trial < 2 then u.trial else 3)

def Core.writeUpd (c : Core) (u : UpdState) : Core :=
  (c.writePart 10 0 0 u.boots 0
    (leBytes 1 u.active ++ leBytes 1 u.trial ++ leBytes 1 u.tried ++ zeros 1 ++ leBytes 4 u.svn) true).showUpd

/-! ### The signed image (R398) -/

def slotAddr (s : Nat) : Nat := if s = 0 then 0x00100000 else 0x02100000
def slotSize : Nat := 0x02000000

/-- The header of an image passes every test of R398 that needs only the header. -/
def Core.imageHeaderOk (c : Core) (h : Bytes) : Bool :=
  let len := fieldLE h 12 4
  let key := c.hbr.otp.imageKeys.getD (fieldLE h 16 1) KeySlot.init
  fieldLE h 0 4 == 0x5A494D47 && fieldLE h 4 2 == 1 && decide (1 ≤ fieldLE h 8 4) && decide (fieldLE h 8 4 ≤ 64) &&
  decide (len % 4096 = 0) && decide (len ≤ 0x02000000 - 4096) && decide (fieldLE h 16 1 < 4) &&
  allZero (slice h 17 15) && allZero (slice h 192 3904) &&
  key.hash == some (sha256 (slice h 64 64)) && !key.revoked &&
  sigOk (slice h 64 64) (slice h 128 64) (h.take 128) &&
  decide (c.hbr.otp.svn ≤ fieldLE h 8 4)

/-- An image is valid (R398). `rd a n` reads where it stands. -/
def Core.imageOk (c : Core) (rd : Nat → Nat → Bytes) : Bool :=
  let h := rd 0 4096
  c.imageHeaderOk h && (sha256 (rd 4096 (fieldLE h 12 4)) == beNat (slice h 32 32))

def Core.slotRd (c : Core) (s a n : Nat) : Bytes := c.flashRead (slotAddr s + a) n
def Core.slotOk (c : Core) (s : Nat) : Bool := decide (s < 2) && c.imageOk (c.slotRd s)

/-- UPD_STATE STAGED_OK and SVN_COUNTER. -/
def Core.showStaged (c : Core) : Core :=
  (c.setFlag UPD_STATE.STAGED_OK (c.slotOk (1 - c.updState.active))).wr UPD_STATE.SVN_COUNTER c.hbr.otp.svn

/-! ### The trim load (R389, R390) -/

/-- The parts of a calibration group (R386). -/
def groupParts (g : Nat) : List Nat :=
  match g with
  | 0 => [0, 1]
  | 1 => [2]
  | 2 => [3]
  | 3 => [4, 5, 6, 7]
  | _ => [8]

/-- Step 2: the OTP trim block. -/
def Core.otpTrim (c : Core) : Kv Nat × Nat :=
  match c.hbr.otp.trimA, c.hbr.otp.trimB with
  | some a, _ => (a, 0)
  | none, some b => (b, 1)
  | none, none => ([], 2)

/-- The entries of part 9, up to a TRIM_ID of 0. -/
def trimEntries : Nat → Bytes → List (Nat × Nat)
  | 0, _ => []
  | n + 1, b =>
    let id := fieldLE b 0 2
    if id = 0 then [] else (id, fieldLE b 4 4) :: trimEntries n (b.drop 8)

/-- Step 3: each entry replaces the shadow word it names; unknown ones are counted. -/
def applyTrims : List (Nat × Nat) → Kv Nat → Kv Nat × Nat
  | [], s => (s, 0)
  | (id, v) :: l, s =>
    if Config.trimKnown id then applyTrims l (Kv.insert id v s)
    else
      let r := applyTrims l s
      (r.1, r.2 + 1)

/-- T_LAST of a GATE channel in a payload; 0x800 marks an empty entry. -/
def gateEntryTemp (payload : Bytes) (i : Nat) : Option Int :=
  let w := bits (fieldLE payload (4 * i) 4) 20 12
  if w = 0x800 then none else some (toSigned 12 w)

/-- T_LAST of a channel as the state keeps it: marked, so that a missing one is told apart. -/
def markTemp (t : Int) : Nat := 65536 + ofSigned 16 t
def Core.gateT (c : Core) (ch : Nat) : Option Int :=
  (Kv.find c.hbr.cal.gateTemp ch).map (fun v => toSigned 16 v)

/-- Step 4 for one part. -/
def Core.loadPart (c : Core) (n : Nat) : Core :=
  match c.loadCopy n with
  | none => (c.wr CAL_TRIM.DEFAULT (orBit (c.rd CAL_TRIM.DEFAULT) n)).modCal (fun s => { s with
      parts := s.parts.set n (zeros 224) })
  | some (_, b, fb) =>
    let c := if fb then c.wr CAL_TRIM.FALLBACK (orBit (c.rd CAL_TRIM.FALLBACK) n) else c
    let p := slice b 28 224
    let c := c.modCal (fun s => { s with parts := s.parts.set n p, validParts := orBit s.validParts n })
    if n < 2 then
      (List.range 32).foldl (fun c i =>
        match gateEntryTemp p i with
        | some t => c.modCal (fun s => { s with
            gateTemp := Kv.insert (32 * n + i) (markTemp t) s.gateTemp,
            gate := Kv.put 0 s.gate (32 * n + i) (fieldLE p (4 * i) 4 % 2 ^ 20) })
        | none => c) c
    else c

/-- Step 4 for one group: CAL_COUNT, CAL_LAST_TIME and T_LAST, from its part with the most passed runs. -/
def Core.loadGroup (c : Core) (g : Nat) : Core :=
  (groupParts g).foldl (fun c n =>
    match c.loadCopy n with
    | some (_, b, _) =>
      if c.rd CAL_STATE.CAL_COUNT g ≤ fieldLE b 20 4 then
        let c := (c.wr CAL_STATE.CAL_COUNT (fieldLE b 20 4) g).wr CAL_STATE.T_LAST (fieldLE b 24 2) g
        (c.wr CAL_STATE.LAST_SEC (fieldLE b 8 4) g).wr CAL_STATE.LAST_NS (fieldLE b 16 4) g
      else c
    | none => c) c

/-- The live trim field GAP takes its shadow value; a value out of its range leaves the safe default. -/
def Core.liveTrims (c : Core) : Core :=
  match Kv.find c.hbr.cal.shadow Config.gapTrimId with
  | some v => if 256 ≤ v % 65536 then c.wr RST_CONFIG.GAP v else c
  | none => c

/-- Step 1, at the release of HBR (R389, R390). -/
def Core.trimClear (c : Core) : Core :=
  let c := c.modCal (fun s => { s with shadow := [], validParts := 0, gateTemp := [], gate := [], gateNext := [] })
  c.setFlag CAL_TRIM.TRIM_VALID false

/-- The trim load (R389). -/
def Core.trimLoad (c : Core) : Core :=
  let c := c.trimClear
  let o := c.otpTrim
  let c := ((c.wr CAL_TRIM.OTP_SRC o.2).wr CAL_TRIM.FALLBACK 0).wr CAL_TRIM.DEFAULT 0
  let nine := c.loadCopy 9
  let c := match nine with
    | some (_, _, true) => c.wr CAL_TRIM.FALLBACK (orBit 0 9)
    | none => c.wr CAL_TRIM.DEFAULT (orBit 0 9)
    | _ => c
  let t := applyTrims (match nine with | some (_, b, _) => trimEntries 28 (slice b 28 224) | none => []) o.1
  let c := (c.wr CAL_TRIM.UNKNOWN_IDS (satNat 8 t.2)).modCal (fun s => { s with shadow := t.1 })
  let c := c.forEach 9 (fun c n => c.loadPart n)
  let c := c.forEach 5 (fun c g => c.loadGroup g)
  c.liveTrims.setFlag CAL_TRIM.TRIM_VALID true

/-- TRIM_FALLBACK is posted when a copy was missing (R389 step 5). -/
def Core.postTrimFallback (c : Core) : Core :=
  let s := c.rd CAL_TRIM.OTP_SRC
  let f := c.rd CAL_TRIM.FALLBACK
  let d := c.rd CAL_TRIM.DEFAULT
  if s = 0 ∧ f = 0 ∧ d = 0 then c
  else c.post evTrimFallback 0 (leBytes 1 s ++ zeros 1 ++ leBytes 2 f ++ leBytes 2 d)

/-! ### The choice of image (R400) -/

/-- The start-up code picks an image, counts the boot and writes part 10 (R400). -/
def Core.selectImage (c : Core) : Core :=
  let u := c.updState
  let trying := decide (u.trial < 2) && u.tried == 0
  let late := decide (u.trial < 2) && u.tried != 0
  let pick := if trying then u.trial else u.active
  let u1 := { u with trial := if late then 0xFF else u.trial, tried := if trying then 1 else u.tried }
  let cause := if late then some 2 else none
  let badTrial := trying && !c.slotOk pick
  let pick := if badTrial then u.active else pick
  let u2 := if badTrial then { u1 with trial := 0xFF } else u1
  let cause := if badTrial then some 1 else cause
  let bad := !c.slotOk pick
  let other := bad && c.slotOk (1 - pick)
  let pick := if other then 1 - pick else pick
  let cause := if bad then some 3 else cause
  let u3 := { u2 with boots := (u.boots + 1) % 2 ^ 32 }
  let c := (c.writeUpd u3).wr HBR_STATE.BOOT_COUNT u3.boots
  let c := c.modHbr (fun h => { h with fallback := cause })
  if bad && !other then c.wr BAR0.ID_BOOT 2
  else
    let h := c.slotRd pick 0 16
    let c := ((c.wr UPD_STATE.RUNNING pick).wr UPD_STATE.RUN_SVN (fieldLE h 8 4)).wr UPD_STATE.RUN_RELEASE (fieldLE h 6 2)
    let c := (c.wr BAR0.ID_FW_MINOR (fieldLE h 6 1)).wr BAR0.ID_FW_MAJOR (fieldLE h 7 1)
    c.showStaged.modHbr (fun h => { h with booted := true })

/-- BOOT_IMAGE_SELECT: the trim load has run, then the choice (R389, R400). -/
def Core.bootSelect (c : Core) : Core :=
  if c.held domHBR || !c.held domPLT || c.mode ≠ .boot || c.hbr.booted then c
  else c.trimLoad.selectImage

end Sys2Proof.Machine
end

