-- ==== Sys2Proof/Machine/Harbour.lean ====
section
/-!
DEFINITION. Machine/Harbour.lean: housekeeping (R393 to R397), restarts of the processor pair (R392), the update path (R401,
R402), cassettes and their life (R403 to R408), issuer keys and field trims (R405, R409).
-/
namespace Sys2Proof.Machine

/-! ### Slack work items (R235, R236) -/

def kindLife : Nat := 0
def kindCal : Nat := 1

/-- An admitted item of Slack work ends. -/
def Core.slackDone (c : Core) (kind ref : Nat) : Core :=
  c.modPilot (fun p => { p with slackWork := p.slackWork.filter (fun i => !(i.kind == kind && i.ref == ref)) })

/-- An item begins to run. -/
def Core.slackRun (c : Core) (kind ref : Nat) (on : Bool) : Core :=
  c.modPilot (fun p => { p with slackWork := p.slackWork.map (fun i =>
    if i.kind = kind ∧ i.ref = ref then { i with running := on } else i) })

def Core.hasSlack (c : Core) (kind : Nat) : Bool := c.pilot.slackWork.any (fun i => i.kind == kind)

/-! ### Housekeeping (R393 to R397) -/

def thOk : Nat := 0
def thErr : Nat := 5
def thFaulty (s : Nat) : Bool := decide (3 ≤ s)

/-- The state a good reading gives a slot outside a fault (R395). -/
def Core.thmJudge (c : Core) (s : Nat) (v : Int) : Nat :=
  if v < c.rdI THM_SLOT.LO_FAULT s then 3
  else if c.rdI THM_SLOT.HI_FAULT s < v then 4
  else if v < c.rdI THM_SLOT.LO_WARN s then 1
  else if c.rdI THM_SLOT.HI_WARN s < v then 2
  else 0

/-- A slot changes state: events and escalation (R396). -/
def Core.thmEnter (c : Core) (s old new : Nat) : Core :=
  let v := leBytes 2 (c.rd THM_READ.VALUE s)
  let c := c.wr THM_READ.STATE new s
  if old = new then c
  else if thFaulty new then
    let c := c.post evThmFault s (v ++ leBytes 1 new)
    if c.mode = .expose ∨ c.mode = .slack then c.raiseHold evThmFault else c
  else
    let c := if thFaulty old then c.post evThmClear s v else c
    if new = thOk then c else c.post evThmWarn s (v ++ leBytes 1 new)

/-- The state of an enabled slot after a reading (R395). -/
def Core.thmNext (c : Core) (s : Nat) (reading : Option Int) : Core :=
  let old := c.rd THM_READ.STATE s
  let runs (n : Nat) (c : Core) : Core := c.modHbr (fun h => { h with goodRuns := Kv.put 0 h.goodRuns s n })
  match reading with
  | none => (runs 0 c).thmEnter s old thErr
  | some v =>
    let j := c.thmJudge s v
    if thFaulty j then (runs 0 c).thmEnter s old j
    else if thFaulty old then
      if j = 0 then
        let n := Kv.get 0 c.hbr.goodRuns s + 1
        if 2 ≤ n then (runs 0 c).thmEnter s old 0 else runs n c
      else runs 0 c
    else c.thmEnter s old j

/-- A fault or ERR on any enabled slot (R233 condition 3, R396). -/
def Core.thmFaulty (c : Core) : Bool :=
  (List.range 64).any (fun s => c.flag THM_SLOT.ENABLE s && thFaulty (c.rd THM_READ.STATE s))

/-! #### Temperature triggers (R375) -/

def grpGate : Nat := 0

def Core.trigDue (c : Core) (g : Nat) (v last : Int) : Bool := decide (c.rd CAL_CONFIG.TRIG_DC g ≤ (v - last).natAbs)

/-- A GATE channel becomes due. -/
def Core.gateDue (c : Core) (ch : Nat) : Core := c.wr CAL_GATE.DUE (orBit (c.rd CAL_GATE.DUE) ch)
def Core.groupDue (c : Core) (g : Nat) : Core := c.modCal (fun s => { s with due := orBit s.due g })

/-- A group of its own temperature becomes due at a reading of its slot. -/
def Core.triggerGroup (c : Core) (g s : Nat) (v : Int) : Core :=
  if c.flag CAL_CONFIG.AUTO g && c.rd CAL_CONFIG.TEMP_SLOT g == s && c.trigDue g v (c.rdI CAL_STATE.T_LAST g) then c.groupDue g
  else c

/-- The channels of a head port become due at a reading of its slot. -/
def Core.triggerGate (c : Core) (s : Nat) (v : Int) : Core :=
  let s0 := c.rd CAL_CONFIG.TEMP_SLOT grpGate
  if c.flag CAL_CONFIG.AUTO grpGate && decide (s0 ≤ s) && decide (s < s0 + 16) then
    c.forEach 4 (fun c k =>
      let ch := 4 * (s - s0) + k
      match c.gateT ch with
      | some t => if c.trigDue grpGate v t then c.gateDue ch else c
      | none => c)
  else c

/-- A slot's reading takes part in the triggers of its groups; a rail or unused slot never does (R394). -/
def Core.triggers (c : Core) (s : Nat) (v : Int) : Core :=
  if 40 ≤ s then c
  else [1, 2, 3, 4].foldl (fun c g => c.triggerGroup g s v) (c.triggerGate s v)

/-- The sequencer converts the next slot (R393): a reading, or none in error (R394). DESIGN CHOICE (assumption log 49): the row
comes at the tick boundary at which the reading is latched (R397), after that boundary's TICK. -/
def Core.hkConvert (c : Core) (reading : Option Int) : Core :=
  if c.held domHBR then c
  else
    let s := c.hbr.slot
    let c := c.modHbr (fun h => { h with slot := (s + 1) % 64 })
    if 48 ≤ s then c
    else
      let c := match reading with
        | some v =>
          let c := c.wrI THM_READ.VALUE v s
          let c := if v < c.rdI THM_READ.MIN s then c.wrI THM_READ.MIN v s else c
          if c.rdI THM_READ.MAX s < v then c.wrI THM_READ.MAX v s else c
        | none => c
      let c := if c.flag THM_SLOT.ENABLE s then c.thmNext s reading else c.wr THM_READ.STATE thOk s
      match reading with
      | some v => c.triggers s v
      | none => c

/-! ### The update path (R401, R402) -/

/-- UPD_STAGE: the image in DRAM is checked; a good one is erased into the other slot. -/
def Core.updStage (c : Core) (m : Mem) (addr : Nat) : Core × Answer :=
  if !c.dramOk addr 4096 then (c, err stBadField 16)
  else
    let h := c.dramRead m addr 4096
    let len := fieldLE h 12 4
    if !c.dramOk addr (4096 + len) then (c, err stSigFailed)
    else
      let c := c.dramHazard addr (4096 + len)
      if !c.imageOk (fun a n => c.dramRead m (addr + a) n) then (c, err stSigFailed)
      else
        let slot := 1 - c.updState.active
        let c := c.modHbr (fun s => { s with
          staging := some (slot, addr), flash := flashErase s.flash (slotAddr slot) slotSize })
        (c.setFlag UPD_STATE.STAGED_OK false, .wait .updStage)

/-- A TRIAL that names a slot is cleared (R401). -/
def Core.clearTrial (c : Core) (slot : Nat) : Core :=
  let u := c.updState
  if u.trial = slot then c.writeUpd { u with trial := 0xFF } else c

/-- Programming and read-back end (R401). -/
def Core.updStageDone (c : Core) (m : Mem) (good : Bool) : Core :=
  match c.hbr.staging with
  | none => c
  | some (slot, addr) =>
    let h := c.dramRead m addr 4096
    let bytes := c.dramRead m addr (4096 + fieldLE h 12 4)
    let c := c.modHbr (fun s => { s with staging := none })
    if good then
      let c := c.modHbr (fun s => { s with flash := flashPut s.flash (slotAddr slot) bytes })
      c.showStaged.completeLong (fun l => l.kind == .updStage)
        (okReply (leBytes 1 slot ++ zeros 3 ++ leBytes 4 (fieldLE h 8 4)))
    else
      (c.clearTrial slot).completeLong (fun l => l.kind == .updStage) (errReply stInternal)

/-- UPD_ACTIVATE (R402). -/
def Core.updActivate (c : Core) : Core × Answer :=
  if !c.flag UPD_STATE.STAGED_OK then (c, err stBadMode)
  else
    let u := c.updState
    (c.writeUpd { u with trial := 1 - u.active, tried := 0 }, ok)

/-- UPD_CONFIRM (R402). -/
def Core.updConfirm (c : Core) : Core × Answer :=
  let u := c.updState
  if !(decide (u.trial < 2) && u.tried == 1 && c.rd UPD_STATE.RUNNING == u.trial) then (c, err stBadMode)
  else
    let svn := c.rd UPD_STATE.RUN_SVN
    let c := c.modHbr (fun h => { h with otp := { h.otp with svn := max h.otp.svn svn } })
    let c := (c.writeUpd { u with active := u.trial, trial := 0xFF, tried := 0, svn := svn }).showStaged
    (c, ok (leBytes 1 c.hbr.otp.svn))

/-! ### Cassettes (R403 to R408) -/

def Core.cass (c : Core) (k : Nat) : Cass := c.hbr.cass.getD k Cass.init
def Core.modCass (c : Core) (k : Nat) (f : Cass → Cass) : Core := c.modHbr (fun h => { h with cass := modAt Cass.init h.cass k f })

/-- The fields of CON_WINDOW and CON_BLADE stand at the same bits. -/
def conF (k : Nat) (f : Field) : Field := if k < 64 then f else { f with obj := 0x8210 }
def conI (k : Nat) : Nat := if k < 64 then k else k - 64
def Core.con (c : Core) (k : Nat) (f : Field) : Nat := c.rd (conF k f) (conI k)
def Core.setCon (c : Core) (k : Nat) (f : Field) (v : Nat) : Core := c.wr (conF k f) v (conI k)

def csAbsent : Nat := 0
def csPending : Nat := 1
def csOk : Nat := 2
def csAuthFail : Nat := 3
def csExhausted : Nat := 4

/-- The port and node that hold a cassette, and its slot (R404). A blade node beyond the chains stands behind the aux port
whose relays took its address. -/
def Core.cassPlace (c : Core) (k : Nat) : Nat × Nat × Nat :=
  if k < 64 then (k / 4, c.headAddr (k / 4), k % 4)
  else
    let n := c.rd CON_BLADE.NODE (k - 64)
    let l := n % 4096
    (if l < 0x090 then 16 else if l < 0x110 then 17
     else if l < 0x110 + c.rd STR_CHAIN.EXT_NODES 16 then 16 else 17, n, 0)

/-- Send CASS_REQ and wait for its answer (R404). For a write-back only a unit that stands alone or is active sends it; the
other keeps its SEQ series in step and follows the node's answers (R317, R325). -/
def Core.cassReq (c : Core) (k op : Nat) (data : Bytes) : Core :=
  let silent := (c.cass k).forLife && !c.actsActive
  let id := c.hbr.nextReq
  let (p, node, slot) := c.cassPlace k
  let c := c.modHbr (fun h => { h with nextReq := (id + 1) % 2 ^ 32 })
  let c := c.modCass k (fun x => { x with step := op + 1, reqId := id, sentAt := c.ticks })
  if !c.isUp p then c
  else if silent then c.skipCtl p node
  else
    c.sendCtl p 0x06 0 node id (leBytes 1 op ++ leBytes 1 slot ++ leBytes 2 data.length ++ data)

/-- The harbour's firmware serves cassettes: it runs, and its processors are not restarting (R392). -/
def Core.harbourRuns (c : Core) : Bool := !c.held domHBR && c.hbr.booted && c.hbr.restarting.isNone

/-- Authentication starts (R405). -/
def Core.authStart (c : Core) (k : Nat) (forLife : Bool) : Core :=
  let c := c.modCass k (fun x => { x with authDue := false, forLife := forLife })
  let c := if c.con k CON_WINDOW.STATE = csOk ∨ c.con k CON_WINDOW.STATE = csExhausted then c
    else c.setCon k CON_WINDOW.STATE csPending
  c.cassReq k 0 []

/-- Cassettes being served. -/
def Core.cassBusy (c : Core) : Nat := (c.hbr.cass.filter (fun x => x.step != 0)).length

/-- A cassette is to be reached: a window's head node is UP, a blade has a node. -/
def Core.cassFitted (c : Core) (k : Nat) : Bool :=
  if k < 64 then c.isUp (k / 4) else c.rd CON_BLADE.NODE (k - 64) != 0

/-- Waiting authentications and write-backs start, at most 8 at once, lowest number first (R405). -/
def Core.cassGo (c : Core) : Core :=
  if !c.harbourRuns then c
  else
    c.forEach 68 (fun c k =>
      let x := c.cass k
      if x.step != 0 || decide (8 ≤ c.cassBusy) then c
      else if x.authDue then c.authStart k false
      else if c.hbr.lifeDue.contains k && (c.mode = .slack) then c.authStart k true
      else c)

/-- A window cassette's channel is declared failed as cause 4 (R143, R155). -/
def Core.cassFailChan (c : Core) (k : Nat) : Core := if k < 64 then c.declareFailed k 4 else c

/-- CON_REAUTH of a cassette completes. -/
def Core.reauthDone (c : Core) (k : Nat) : Core :=
  c.completeLong (fun l => l.kind == .reauth k) (okReply (leBytes 1 (c.con k CON_WINDOW.STATE)))

/-- The write-back of a cassette ends; the item ends with the last (R235). -/
def Core.lifeDone (c : Core) (k : Nat) : Core :=
  let c := c.modHbr (fun h => { h with lifeDue := h.lifeDue.filter (fun j => j != k) })
  let c := c.modCass k (fun x => { x with step := 0, forLife := false })
  if c.hbr.lifeDue.isEmpty then c.slackDone kindLife 0 else c

/-- Authentication fails at a step (R405). -/
def Core.authFail (c : Core) (k step : Nat) : Core :=
  let life := (c.cass k).forLife
  let serial := fieldLE (c.cass k).idBlock 4 8
  let c := (c.modCass k (fun x => { x with step := 0 })).setCon k CON_WINDOW.STATE csAuthFail
  let c := c.post evConAuthFail k (leBytes 8 serial ++ leBytes 1 step)
  let c := (c.cassFailChan k).reauthDone k
  (if life then c.lifeDone k else c).cassGo

/-- No cassette is in the slot. -/
def Core.cassAbsent (c : Core) (k : Nat) : Core :=
  let life := (c.cass k).forLife
  let c := (c.modCass k (fun x => { x with step := 0 })).setCon k CON_WINDOW.STATE csAbsent
  let c := c.reauthDone k
  (if life then c.lifeDone k else c).cassGo

/-- The ID block suits the slot (R405 first test); the spec's reserved bytes are zero. -/
def idKindOk (k : Nat) (b : Bytes) : Bool :=
  fieldLE b 0 2 == 0xC5A5 && fieldLE b 2 1 == (if k < 64 then 1 else 2) && fieldLE b 3 1 == 1 && allZero (slice b 13 3) &&
  decide (fieldLE b 12 1 < 4)

/-- The issuer's key: the OTP slot holds the hash of the key whose signature CERT_SIG is; the certificate is checked under
it. The key's bytes come with the harbour's certificate store, so the reader of the ID block supplies them. -/
def Core.issuerOk (c : Core) (b issuerKey : Bytes) : Bool :=
  let s := c.hbr.otp.issuerKeys.getD (fieldLE b 12 1) KeySlot.init
  s.hash == some (sha256 issuerKey) && !s.revoked

/-- The ID block has arrived: its tests, then the challenge (R405). -/
def Core.gotId (c : Core) (k : Nat) (b issuerKey : Bytes) : Core :=
  let c := c.modCass k (fun x => { x with idBlock := b })
  if !idKindOk k b then c.authFail k 1
  else if !c.issuerOk b issuerKey then c.authFail k 2
  else if !sigOk issuerKey (slice b 88 64) (b.take 88) then c.authFail k 3
  else
    let (n, c) := c.drawFresh
    let nonce := (Config.nonce n).toNat
    let c := c.modCass k (fun x => { x with nonce := nonce })
    c.cassReq k 1 (leBytes 32 nonce).reverse

/-- A new SERIAL: an override and the reports of the old cassette end (R407, R408). -/
def Core.newSerial (c : Core) (k serial : Nat) : Core :=
  let p := c.con k CON_WINDOW.PENDING
  let old := c.con k CON_WINDOW.SERIAL
  let c := if old = serial then c
    else
      let c := c.setCon k CON_WINDOW.SERIAL serial
      let c := (c.setCon k CON_WINDOW.OVERRIDE 0).setCon k CON_WINDOW.STATE csOk
      c.modCass k (fun x => { x with lowPosted := false })
  if (c.cass k).accrued = serial ∨ p = 0 then c
  else
    let c := c.setCon k CON_WINDOW.LOST_MAIN (satNat 16 (c.con k CON_WINDOW.LOST_MAIN + p))
    let c := c.setCon k CON_WINDOW.PENDING 0
    c.modCass k (fun x => { x with hasLife := false, remain := 0, accrued := serial })

/-- The CHALLENGE signature verifies: the cassette is authentic (R405); a write-back goes on to READ_LIFE (R407). -/
def Core.gotSignature (c : Core) (k : Nat) (sig : Bytes) : Core :=
  let x := c.cass k
  let msg := (leBytes 32 x.nonce).reverse ++ x.idBlock.take 88
  if !sigOk (slice x.idBlock 24 64) sig msg then c.authFail k 4
  else
    let serial := fieldLE x.idBlock 4 8
    let same := c.con k CON_WINDOW.SERIAL == serial
    let c := c.newSerial k serial
    let c := c.modCass k (fun y => { y with
      ratedMain := fieldLE y.idBlock 16 4, ratedHits := fieldLE y.idBlock 20 4,
      hasLife := y.hasLife && same, accrued := serial, step := 0 })
    let c := if same && c.con k CON_WINDOW.STATE == csExhausted then c else c.setCon k CON_WINDOW.STATE csOk
    let c := c.reauthDone k
    if (c.cass k).forLife then c.cassReq k 2 [] else c.cassGo

/-- A life state is adopted (R407, R408): exhaustion and CON_LOW follow from it. -/
def Core.adoptLife (c : Core) (k epoch main hits : Nat) : Core :=
  let c := (c.setCon k CON_WINDOW.LIFE_EPOCH epoch).setCon k CON_WINDOW.LEFT_MAIN main
  let c := (c.setCon k CON_WINDOW.LEFT_HITS hits).modCass k (fun x => { x with hasLife := true })
  let x := c.cass k
  let serial := leBytes 8 (c.con k CON_WINDOW.SERIAL)
  let out := main == 0 || (k < 64 && hits == 0)
  let c := if out && c.con k CON_WINDOW.STATE == csOk then
      (c.setCon k CON_WINDOW.STATE csExhausted).post evConExhausted k serial
    else c
  let low := decide (main * 20 < x.ratedMain) || (k < 64 && decide (hits * 20 < x.ratedHits))
  if low && !x.lowPosted then
    (c.modCass k (fun x => { x with lowPosted := true })).post evConLow k (leBytes 4 main ++ leBytes 4 hits)
  else c

/-- PENDING is cleared by an amount. -/
def Core.chargeLife (c : Core) (k n : Nat) : Core := c.setCon k CON_WINDOW.PENDING (c.con k CON_WINDOW.PENDING - n)

/-- A life state as TWN_INPUT carries it (R332): kind, instance, life, whole joules or strokes charged. -/
def lifeInput (k epoch main hits charged : Nat) : Bytes :=
  leBytes 1 (if k < 64 then 1 else 2) ++ leBytes 1 (conI k) ++ zeros 2 ++ leBytes 4 epoch ++ leBytes 4 main ++
  leBytes 4 hits ++ leBytes 4 charged ++ zeros 4

/-- The active unit has written or adopted a life state (R407): it is taken up at once, or in a pair by both units at the
admission tick (R315). The standby waits for what the active unit forwards (R325). -/
def Core.takeLife (c : Core) (k epoch main hits charged : Nat) : Core :=
  if !c.inPair then (c.adoptLife k epoch main hits).chargeLife k charged
  else if c.actsActive then c.twinForward 3 (lifeInput k epoch main hits charged)
  else c

/-- Write-back of a cassette ends with a stored life. -/
def Core.lifeStored (c : Core) (k epoch main hits : Nat) : Core :=
  ((c.takeLife k epoch main hits (c.con k CON_WINDOW.PENDING)).lifeDone k).cassGo

/-- READ_LIFE has answered (R407 step 3). -/
def Core.gotLife (c : Core) (k : Nat) (b : Bytes) : Core :=
  let e := fieldLE b 0 4
  let main := fieldLE b 4 4
  let hits := fieldLE b 8 4
  let hp := fieldLE b 12 4
  let own := c.con k CON_WINDOW.LIFE_EPOCH
  let has := (c.cass k).hasLife
  if has ∧ e = (own + 1) % 2 ^ 32 then c.lifeStored k e main hits
  else
    let c := if has ∧ e = own then c else c.takeLife k e main hits 0
    let p := c.con k CON_WINDOW.PENDING
    let n := ((e + 1) % 2 ^ 32, main - p, hits - hp)
    let c := c.modCass k (fun x => { x with writing := n })
    c.cassReq k 3 (leBytes 4 n.1 ++ leBytes 4 n.2.1 ++ leBytes 4 n.2.2 ++ leBytes 4 hp)

/-- A write-back fails: PENDING is kept for the next Slack (R407 step 4). A unit that only follows one counts nothing. -/
def Core.lifeFailed (c : Core) (k : Nat) : Core :=
  let c := if c.actsActive then c.setCon k CON_WINDOW.WB_FAILS (satNat 16 (c.con k CON_WINDOW.WB_FAILS + 1)) else c
  (c.lifeDone k).cassGo

/-- A CASS_RSP for a request under way (R404 to R407). -/
def Core.cassRsp (c : Core) (tag : Nat) (b issuerKey : Bytes) : Core :=
  if !c.harbourRuns then c
  else
    match findIdx (fun (x : Cass) => x.step != 0 && x.reqId == tag) c.hbr.cass 0 with
    | none => c
    | some (k, x) =>
      let op := fieldLE b 0 1
      let st := fieldLE b 1 1 / 16
      let data := slice b 4 (fieldLE b 2 2)
      if op + 1 ≠ x.step then c
      else if op = 0 then
        if st = 1 then c.cassAbsent k
        else if st = 0 ∧ data.length = 152 then c.gotId k data issuerKey
        else c.authFail k 0
      else if op = 1 then
        if st = 0 ∧ data.length = 64 then c.modCass k (fun x => { x with step := 5, sig := data }) else c.authFail k 4
      else if op = 2 then
        if st = 0 ∧ data.length = 16 then c.gotLife k data else c.lifeFailed k
      else
        if (st = 0 ∨ st = 3) ∧ data.length = 16 then
          c.lifeStored k (fieldLE data 0 4) (fieldLE data 4 4) (fieldLE data 8 4)
        else c.lifeFailed k

/-- CASSETTE_AUTH_DONE: the harbour has verified the signature of CHALLENGE (R405). -/
def Core.authDone (c : Core) (k : Nat) : Core :=
  if !c.harbourRuns || (c.cass k).step != 5 then c else c.gotSignature k (c.cass k).sig

/-- A request has had no answer for 20 ms (R404). -/
def Core.cassTimeout (c : Core) (k : Nat) : Core :=
  let x := c.cass k
  if !c.harbourRuns || x.step == 0 || x.step == 5 || decide (c.ticks < x.sentAt + 20 * ticksPerMs) then c
  else if x.step = 1 ∨ x.step = 2 then c.authFail k (if x.step = 1 then 0 else 4)
  else c.lifeFailed k

/-- Life write-back is admitted at entry into SLACK (R407): every cassette present and OK. A standby runs the same item, so
that both units leave SLACK and number their frames alike, and sends nothing (R317, R325). -/
def Core.lifeAdmit (c : Core) : Core :=
  let l := (List.range 68).filter (fun k => c.con k CON_WINDOW.STATE == csOk)
  if l.isEmpty then c
  else (c.modHbr (fun h => { h with lifeDue := l })).modPilot (fun p => { p with
    slackWork := p.slackWork ++ [⟨kindLife, 0, 0, true⟩] })

/-- The write-back of all cassettes ends within 200 ms (R407). -/
def Core.lifeLimit (c : Core) : Core :=
  if c.hasSlack kindLife && decide (c.pilot.slackSince + 200 * ticksPerMs ≤ c.ticks) then
    c.hbr.lifeDue.foldl (fun c k => c.lifeFailed k) c
  else c

/-- Energy of one tick of a channel whose gate is driven on (R406), exact over 65,535 × 32,768 × 2·10⁶. -/
def lifeDen : Nat := 65535 * 32768 * 2000000
def Core.accrue (c : Core) (ch power factor : Nat) : Core :=
  let n := (c.cass ch).remain + power * factor * c.rd CON_WINDOW.FULL_W ch
  let c := c.modCass ch (fun x => { x with remain := n % lifeDen })
  if n < lifeDen then c else c.wr CON_WINDOW.PENDING (satNat 32 (c.rd CON_WINDOW.PENDING ch + n / lifeDen)) ch

/-- The window cassette leaves the channel unarmable (R48, R155, R408); a restored channel waits until its cassette
authenticates (R156). -/
def Core.windowUnarmable (c : Core) (ch : Nat) : Bool :=
  let s := c.rd CON_WINDOW.STATE ch
  s == csAuthFail || ((c.ch ch).restored && (s == csAbsent || s == csPending)) ||
    (s == csExhausted && !c.flag CON_WINDOW.OVERRIDE ch)

/-! #### Commands on cassettes and keys (R405, R408, R409) -/

/-- KIND and INSTANCE of a cassette command; none where out of range. -/
def cassOf (kind inst : Nat) : Option Nat :=
  if kind = 1 ∧ inst < 64 then some inst else if kind = 2 ∧ inst < 4 then some (64 + inst) else none

def Core.conOverride (c : Core) (k on : Nat) : Core × Answer :=
  if c.con k CON_WINDOW.STATE ≠ csExhausted then (c, err stBadMode)
  else (c.setCon k CON_WINDOW.OVERRIDE on, ok)

def Core.conIssuer (c : Core) (slot action hash : Nat) : Core × Answer :=
  let s := c.hbr.otp.issuerKeys.getD slot KeySlot.init
  if action = 0 ∧ s.hash.isSome then (c, err stBadField 17)
  else
    let n : KeySlot := if action = 0 then { s with hash := some hash } else { s with revoked := true }
    (c.modHbr (fun h => { h with otp := { h.otp with issuerKeys := setAt KeySlot.init h.otp.issuerKeys slot n } }), ok)

/-- HBR_TRIM_WRITE replaces part 9 (R409). -/
def Core.trimWrite (c : Core) (entries : Bytes) : Core := c.writePart 9 (timeSec c.now) (timeNs c.now) 0 0 entries true

/-! ### Restarts of the processor pair (R392) -/

/-- Long commands that the harbour serves. -/
def LongKind.harbours : LongKind → Bool
  | .updStage | .reauth _ | .harbour => true
  | _ => false

/-- The cores disagree: both restart. -/
def Core.lockstepMismatch (c : Core) : Core :=
  if !c.harbourRuns then c
  else
    let c := c.closeSession 2
    let c := c.completeLong (fun l => l.kind.harbours && l.cmd.master != 2) (errReply stInternal)
    let c := c.modPilot (fun p => { p with long := p.long.filter (fun l => !(l.kind.harbours && l.cmd.master == 2)), ethPeer := none })
    c.modHbr (fun h => { h with
      restarting := some c.ticks, staging := none,
      cass := h.cass.map (fun (x : Cass) => if x.step = 0 then x else { x with step := 0, authDue := x.authDue || !x.forLife }) })

/-- The restart ends: counted, posted; interrupted work starts again (R392). -/
def Core.harbourBack (c : Core) : Core :=
  match c.hbr.restarting with
  | none => c
  | some _ =>
    let c := (c.modHbr (fun h => { h with restarting := none })).inc HBR_STATE.RESTARTS
    (c.post evHbrRestart 0 (leBytes 2 (c.rd HBR_STATE.RESTARTS))).cassGo

end Sys2Proof.Machine
end

