-- ==== Sys2Proof/Machine/Hold.lean ====
section
/-!
DEFINITION. Machine/Hold.lean: entering HOLD (R237, R239) and the Slack's end (R236).
-/
namespace Sys2Proof.Machine

def phNone : Nat := 0
def phSettling : Nat := 1
def phHeld : Nat := 2

/-- HOLD_CAUSE (R230). -/
def hcHold : Nat := 1
def hcImmediate : Nat := 2
def hcEscalation : Nat := 3
def hcUrgent : Nat := 4

/-- Every live channel is halted: in path, or at end (R80, R81, R237). -/
def Core.haltAll (c : Core) (inPath : Bool) : Core :=
  c.forEach 64 (fun c ch => if inPath then c.haltInPath ch else c.haltAtEnd ch)

/-- Holds at end still under way become stops in path (R237); a channel that rests HELD_AT_END already stays so. -/
def Core.hastenHalts (c : Core) : Core :=
  c.forEach 64 (fun c ch => if c.rd SEQ_MOTION.STATE ch = 5 then c else c.haltInPath ch)

/-- A HOLD request raised in SAFE is recorded and has no further effect (R16). -/
def Core.noteHold (c : Core) (cause src : Nat) : Core :=
  if c.mode = .safe then c.modPilot (fun p => { p with heldInSafe := some (cause, src) }) else c

/-- A HOLD is requested at the present boundary (R237): HOLD is entered from EXPOSE and SLACK; in HOLD it is recorded, and
IMMEDIATE during SETTLING turns holds at end into stops in path; elsewhere it changes nothing. -/
def Core.enterHold (c : Core) (cause src : Nat) : Core :=
  if c.mode = .expose ∨ c.mode = .slack then
    let c := (c.wr PLT_MODE.RETURN (c.rd PLT_MODE.MODE)).wr PLT_MODE.PHASE phSettling
    let c := (c.wr PLT_MODE.HOLD_CAUSE cause).wr PLT_MODE.ESC_SOURCE src
    let c := c.enterMode .hold
    ((c.haltAll (cause == hcImmediate)).stopAllAxes).recoatPause
  else if c.mode = .hold then
    let c := (c.wr PLT_MODE.HOLD_CAUSE cause).wr PLT_MODE.ESC_SOURCE src
    if cause = hcImmediate ∧ c.rd PLT_MODE.PHASE = phSettling then c.hastenHalts else c
  else c

/-- A channel of the layer rests at its hold point, or has nothing left to do. -/
def Core.channelSettled (c : Core) (ch : Nat) : Bool :=
  let s := c.ch ch
  !c.live ch || (s.atRest && (s.ended || s.halt == .none || decide (5 ≤ c.rd SEQ_MOTION.STATE ch)))

/-- PHASE becomes HELD when every channel rests at its hold point and every axis is at rest (R237). -/
def Core.holdSettled (c : Core) : Core :=
  if c.mode = .hold ∧ c.rd PLT_MODE.PHASE = phSettling ∧
      (List.range 64).all c.channelSettled ∧ !c.anyAxisBusy then
    c.wr PLT_MODE.PHASE phHeld
  else c

/-- An item of Slack work that still has to end (R236); a diagnostic item that found no window has ended. -/
def SlackItem.open (i : SlackItem) : Bool := !(i.kind == kindDiag && i.arg == 1)

/-- The Slack items other than diagnosis have ended and SLACK_MIN has passed. -/
def Core.slackOthersEnded (c : Core) : Bool :=
  (c.mot.recoat.done || c.mot.recoat.step == 0) &&
  !c.pilot.slackWork.any (fun i => i.kind != kindDiag) &&
  decide (c.pilot.slackSince + c.rd PLT_SLACK.SLACK_MIN * ticksPerUs ≤ c.ticks)

/-- Diagnostic items for which no window was found end when everything else has (R278). -/
def Core.diagEnd (c : Core) : Core :=
  if c.mode = .slack ∧ c.slackOthersEnded then c.diagNoWindow else c

/-- The Slack work of the layer has ended (R236). -/
def Core.slackEnded (c : Core) : Bool := c.slackOthersEnded && !c.pilot.slackWork.any SlackItem.open

/-- The item SLACK_LONG names: the first one running, the recoat sequence before the others. -/
def Core.slackItemCode (c : Core) : Nat :=
  if !(c.mot.recoat.done || c.mot.recoat.step == 0) then (Config.slackCode 4).toNat
  else match c.pilot.slackWork.find? (fun i => i.running && i.open) with
    | some i => (Config.slackCode i.kind).toNat
    | none => 0

/-- SLACK_LONG is posted once when SLACK has lasted SLACK_WARN without ending (R236). -/
def Core.slackLong (c : Core) : Core :=
  let w := c.rd PLT_SLACK.SLACK_WARN
  if c.mode = .slack ∧ w ≠ 0 ∧ !c.pilot.slackWarned ∧ c.pilot.slackSince + w * ticksPerUs ≤ c.ticks ∧ !c.slackEnded then
    (c.modPilot (fun p => { p with slackWarned := true })).post evSlackLong 0 (leBytes 2 c.slackItemCode)
  else c

end Sys2Proof.Machine
end

