-- ==== Sys2Proof/Machine/Calib.lean ====
section
/-!
DEFINITION. Machine/Calib.lean: calibration (R374 to R384, R387): due groups, runs, host requests, records.
-/
namespace Sys2Proof.Machine

/-! ### What is due and what is shown (R375, R376) -/

/-- A group is due. -/
def Core.isDue (c : Core) (g : Nat) : Bool := if g = grpGate then c.rd CAL_GATE.DUE != 0 else bitOf c.hbr.cal.due g

/-- A group has a valid record (R233 condition 4, R388): every part of it, and for GATE every channel's entry. -/
def Core.groupValid (c : Core) (g : Nat) : Bool :=
  (groupParts g).all (fun n => bitOf c.hbr.cal.validParts n) &&
  (g != grpGate || (List.range 64).all (fun ch => (c.gateT ch).isSome))

/-- A request waits for a group. -/
def CalReq.wants (r : CalReq) (g : Nat) : Bool := bitOf r.left g
def Core.wanted (c : Core) (g : Nat) : Bool := c.hbr.cal.reqs.any (fun r => r.admitted && r.wants g)

/-- A run of the group is under way. -/
def Core.calRunning (c : Core) (g : Nat) : Bool :=
  (match c.hbr.cal.run with | some r => r.group == g | none => false) || (g == grpGate && !c.hbr.cal.gateRuns.isEmpty)

/-- CAL_STATE STATE and PENDING of a group. -/
def Core.showCal (c : Core) (g : Nat) : Core :=
  let pend := (c.hbr.cal.reqs.filter (fun r => r.deferred && r.wants g)).length
  let st := if c.calRunning g then 3
    else if c.hbr.cal.reqs.any (fun r => r.wants g) then 2
    else if !c.groupValid g then 4
    else if c.isDue g then 1 else 0
  (c.wr CAL_STATE.STATE st g).wr CAL_STATE.PENDING (satNat 5 pend) g

def Core.showCals (c : Core) : Core := c.forEach 5 (fun c g => c.showCal g)

/-- At the end of BRINGUP a group, or a GATE channel, without a valid record is due (R376). -/
def Core.calBringup (c : Core) : Core :=
  let c := c.forEach 64 (fun c ch =>
    if (c.gateT ch).isNone || !bitOf c.hbr.cal.validParts (ch / 32) then c.gateDue ch else c)
  ([1, 2, 3, 4].foldl (fun c g => if c.groupValid g then c else c.groupDue g) c).showCals

/-! ### Starting runs (R377, R382) -/

/-- The reading a group's or a channel's T_LAST takes. -/
def Core.calTemp (c : Core) (slot : Nat) : Int := c.rdI THM_READ.VALUE slot

/-- A run of a group starts. GATE measures the channels due, or all of them for a request. -/
def Core.calStart (c : Core) (g : Nat) (slack : Bool) : Core :=
  let slot := c.rd CAL_CONFIG.TEMP_SLOT g
  let serves := (c.hbr.cal.reqs.filter (fun r => r.admitted && r.wants g)).map CalReq.id
  let chans := if g ≠ grpGate then 0 else if serves.isEmpty then c.rd CAL_GATE.DUE else 2 ^ 64 - 1
  let temps := if g = grpGate then (List.range 16).map (fun p => c.calTemp (slot + p)) else [c.calTemp slot]
  let c := c.modCal (fun s => { s with run := some ⟨g, chans, temps, c.now, serves, slack⟩ })
  let c := if slack then c.slackRun kindCal g true else c
  if g = grpDram then
    (c.drcPhase drcRecovery).modDrc (fun d => { d with slicePass := [], sliceAt := none })
  else c

/-- Whether a group may start in the present mode (R377, R382). -/
def Core.calMayRun (c : Core) (g : Nat) : Bool :=
  match c.mode with
  | .standby => c.isDue g
  | .service => c.isDue g || c.wanted g
  | .calibrate => c.wanted g
  | .slack => c.pilot.slackWork.any (fun i => i.kind == kindCal && i.ref == g)
  | .hold => c.rd PLT_MODE.PHASE == phHeld && c.hbr.cal.reqs.any (fun r => r.urgent && r.admitted && r.wants g)
  | _ => false

/-- The first group that may run: in Slack in the order of the items, elsewhere in group order. -/
def Core.calNext (c : Core) : Option Nat :=
  if c.mode = Mode.slack then (c.pilot.slackWork.find? (fun i => i.kind == kindCal)).map SlackItem.ref
  else (List.range 5).find? c.calMayRun

/-- One group runs at a time: start the next that may. -/
def Core.calKick (c : Core) : Core :=
  let c := match c.hbr.cal.run, c.calNext with
    | none, some g => if c.held domHBR then c else c.calStart g (decide (c.mode = Mode.slack))
    | _, _ => c
  c.showCals

/-- Work that has become free to run starts (R377). -/
def Core.calPoll (c : Core) : Core := if c.hbr.cal.run.isNone && c.calNext.isSome then c.calKick else c

/-! ### Results (R374, R380, R386) -/

/-- An entry of a GATE part: SCALE and OFFSET, with T_LAST. -/
def gateEntry (v : Nat) (t : Int) : Bytes := leBytes 4 (v % 2 ^ 20 + 2 ^ 20 * ofSigned 12 t)

def emptyGateEntry : Bytes := leBytes 4 (0x800 * 2 ^ 20)

/-- A GATE result of a channel: it governs from the channel's next vector start; its T_LAST and its part's entry. -/
def Core.gateResult (c : Core) (ch v : Nat) (t : Int) : Core :=
  let c := c.modCal (fun s => { s with
    gateNext := Kv.insert ch (v % 2 ^ 20) s.gateNext, gateTemp := Kv.insert ch (markTemp t) s.gateTemp })
  c.wr CAL_GATE.DUE (c.rd CAL_GATE.DUE - (if bitOf (c.rd CAL_GATE.DUE) ch then 2 ^ ch else 0))

/-- The payload of a GATE part as the latest results have it (R386). -/
def Core.gatePart (c : Core) (n : Nat) : Bytes :=
  (List.range 32).flatMap (fun i =>
    let ch := 32 * n + i
    match c.gateT ch with
    | some t => gateEntry (Kv.get (Kv.get 0 c.hbr.cal.gate ch) c.hbr.cal.gateNext ch) t
    | none => emptyGateEntry)

/-- A part's new payload is kept and marked for writing (R380). -/
def Core.putPart (c : Core) (n : Nat) (payload : Bytes) : Core :=
  c.modCal (fun s => { s with
    parts := s.parts.set n (maskPart n payload), validParts := orBit s.validParts n,
    marked := if s.marked.contains n then s.marked else s.marked ++ [n] })

/-- The counts and times of a passed run (R380). -/
def Core.calPassed (c : Core) (g : Nat) (at_ : Time) (t : Int) : Core :=
  let c := (c.inc CAL_STATE.CAL_COUNT g).wr CAL_STATE.LAST_SEC (timeSec at_) g
  let c := (c.wr CAL_STATE.LAST_NS (timeNs at_) g).wrI CAL_STATE.T_LAST t g
  c.wr CAL_STATE.LAST_RESULT 1 g

def Core.calFailed (c : Core) (g : Nat) : Core := (c.inc CAL_STATE.FAILS g).wr CAL_STATE.LAST_RESULT 2 g

/-- A TIMPHY result is scheduled 40 ticks on (R374): the nodes are told the tick index at which their LINK_DELAY
changes. -/
def Core.phySchedule (c : Core) (payload : Bytes) : Core :=
  let old := c.hbr.cal.parts.getD 8 []
  let tag := tickIndex (c.now + 40 * tickU)
  let c := c.modCal (fun s => { s with phyDue := some (c.ticks + 40, payload) })
  c.forEach 18 (fun c p =>
    if !c.isUp p then c
    else
      let d := fieldLEs payload (4 * p) 2 + fieldLEs payload (4 * p + 2) 2 - fieldLEs old (4 * p) 2 - fieldLEs old (4 * p + 2) 2
      let v := ofSigned 32 (c.rdI STR_PORT_STATE.LINK_DELAY p + d)
      c.sendCfg p (c.firstNode p) false false tag false (cfgPayload 0x0003 [v]))

/-- The boundary of a TIMPHY result is reached: every port's LINK_DELAY changes with the corrections (R187, R374). -/
def Core.phyApply (c : Core) : Core :=
  match c.hbr.cal.phyDue with
  | none => c
  | some (t, payload) =>
    if c.ticks < t then c
    else
      let old := (List.range 21).map c.timphy
      let c := (c.modCal (fun s => { s with phyDue := none })).putPart 8 payload
      c.forEach 21 (fun c p =>
        if c.rd STR_PORT_STATE.LINK_DELAY p = 0 then c
        else c.wrI STR_PORT_STATE.LINK_DELAY (c.rdI STR_PORT_STATE.LINK_DELAY p + (c.timphy p - old.getD p 0)) p)

/-- The values of a passed run: 4 bytes a channel for GATE, the payloads of the group's parts for the others. -/
def Core.calValues (c : Core) (r : CalRun) (values : Bytes) : Core :=
  if r.group = grpGate then
    let c := c.forEach 64 (fun c ch =>
      if bitOf r.chans ch then c.gateResult ch (fieldLE values (4 * ch) 4) (r.temps.getD (ch / 4) 0) else c)
    (c.putPart 0 (c.gatePart 0)).putPart 1 (c.gatePart 1)
  else if r.group = 4 then
    (c.phySchedule values).modCal (fun s => { s with
      validParts := orBit s.validParts 8, marked := if s.marked.contains 8 then s.marked else s.marked ++ [8] })
  else
    let ps := groupParts r.group
    (List.range ps.length).foldl (fun c i => c.putPart (ps.getD i 0) (slice values (224 * i) 224)) c

/-! ### Requests (R381 to R383) -/

/-- The payload of a CAL_RUN reply: REQ_ID, RESULT. -/
def calPayload (id result : Nat) : Bytes := leBytes 2 id ++ leBytes 1 result ++ [0#8]

/-- CAL_DONE (R380, R383). -/
def Core.postCalDone (c : Core) (g result id : Nat) : Core :=
  c.post evCalDone g (leBytes 1 result ++ [0#8] ++ leBytes 2 id)

/-- Requests whose groups have all run end: a long command completes. Where the work for which HOLD was entered has ended and
all of it has passed, the HOLD ends too (R239); a request made in HOLD is no part of that work. -/
def Core.endRequests (c : Core) : Core :=
  let done := c.hbr.cal.reqs.filter (fun r => r.left == 0)
  let c := c.modCal (fun s => { s with reqs := s.reqs.filter (fun r => r.left != 0) })
  let c := done.foldl (fun c r =>
    let st := if r.failed = 0 then stOk else stCalFailed
    let c := c.modCal (fun s => { s with holdFailed := s.holdFailed || (r.asksHold && r.failed != 0) })
    c.completeLong (fun l => l.kind == .cal r.id) ⟨st, 0, calPayload r.id r.failed⟩) c
  if done.any CalReq.asksHold && !c.hbr.cal.reqs.any CalReq.asksHold && c.mode == .hold &&
      c.rd PLT_MODE.HOLD_CAUSE == hcUrgent then
    c.modPilot (fun p => { p with restDue := !c.hbr.cal.holdFailed })
  else c

/-- CALIBRATE ends with its requests (R232). -/
def Core.calibrateEnds (c : Core) : Core :=
  if c.mode = .calibrate ∧ !c.hbr.cal.reqs.any (fun r => r.admitted) ∧ c.hbr.cal.run.isNone then c.enterMode .standby else c

/-- A run of a group has ended for the requests it served. -/
def Core.serveRequests (c : Core) (g : Nat) (serves : List Nat) (passed : Bool) : Core :=
  let c := if serves.isEmpty then c.postCalDone g (if passed then 1 else 2) 0
    else serves.foldl (fun c id => c.postCalDone g (if passed then 1 else 2) id) c
  c.modCal (fun s => { s with reqs := s.reqs.map (fun (r : CalReq) =>
    if serves.contains r.id && r.wants g then
      { r with left := r.left - 2 ^ g, failed := if passed then r.failed else orBit r.failed g }
    else r) })

/-- The run under way ends, passed or failed (R380). -/
def Core.calEnd (c : Core) (r : CalRun) (passed : Bool) (values : Bytes) : Core :=
  let g := r.group
  let c := c.modCal (fun s => { s with run := none })
  let c := if passed then
      let c := c.calValues r values
      let c := if g = grpGate then c else c.modCal (fun s => { s with due := s.due - (if bitOf s.due g then 2 ^ g else 0) })
      c.calPassed g r.at_ (r.temps.head?.getD 0)
    else c.calFailed g
  let c := if g = grpDram ∧ c.drc.recoverLeft.isNone ∧ c.rd DRC_STATE.PHASE = drcRecovery then c.drcPhase c.drcRest else c
  let c := if r.slack then c.slackDone kindCal g else c
  (((c.serveRequests g r.serves passed).endRequests).calibrateEnds).calKick

/-- CAL_GROUP_DONE: the run under way ends, or a GATE run of one channel in a laser-off interval. A DRAM run passes only
when its slices passed on every subchannel (R362). -/
def Core.calGroupDone (c : Core) (chan : Option Nat) (passed : Bool) (values : Bytes) : Core :=
  if c.held domHBR then c
  else match chan with
    | none =>
      match c.hbr.cal.run with
      | none => c
      | some r => c.calEnd r (passed && (r.group != grpDram || c.drc.slicePass.length == 4)) values
    | some ch =>
      match c.hbr.cal.gateRuns.find? (fun r => r.chan == ch) with
      | none => c
      | some r =>
        let c := c.modCal (fun s => { s with gateRuns := s.gateRuns.filter (fun x => x.chan != ch) })
        let c := if passed then
            let c := c.gateResult ch (fieldLE values 0 4) r.temp
            let c := c.putPart (ch / 32) (c.gatePart (ch / 32))
            (c.calPassed grpGate r.at_ r.temp).inc CAL_GATE.RUNS_EXPOSE
          else c.calFailed grpGate
        c.showCals

/-- SAFE cuts the run under way short as a failure, and with it the requests that ran outside the Slack; Slack work that was
interrupted goes on at RESUME (R246, R247). CALIBRATE is left for SAFE itself. -/
def Core.calCut (c : Core) : Core :=
  let c := match c.hbr.cal.run with
    | none => c
    | some r =>
      let c := c.modCal (fun s => { s with run := none })
      if r.slack then c.slackRun kindCal r.group false
      else (c.calFailed r.group).serveRequests r.group r.serves false
  let c := c.modCal (fun s => { s with reqs := s.reqs.map (fun (q : CalReq) =>
    if q.admitted && (q.urgent || (decide (c.mode ≠ Mode.slack) && decide (c.mode ≠ Mode.hold))) then
      { q with failed := q.failed ||| q.left, left := 0 } else q) })
  let c := c.endRequests
  let c := c.hbr.cal.gateRuns.foldl (fun c _ => c.inc CAL_GATE.ABANDONED) c
  (c.modCal (fun s => { s with gateRuns := [] })).showCals

/-- The groups of a mask, in group order. -/
def groupList (groups : Nat) : List Nat := (List.range 5).filter (bitOf groups)

/-- Work admitted to the Slack for groups, in order: an item not yet begun serves several requests. -/
def Core.calItems (c : Core) (groups : List Nat) : Core :=
  groups.foldl (fun c g =>
    if c.pilot.slackWork.any (fun i => i.kind == kindCal && i.ref == g && !i.running) then c
    else
      let own := c.pilot.slackWork.filter (fun i => decide (i.kind ≤ kindCal))
      let rest := c.pilot.slackWork.filter (fun i => decide (kindCal < i.kind))
      c.modPilot (fun p => { p with slackWork := own ++ [⟨kindCal, g, 0, false⟩] ++ rest })) c

/-- At entry into SLACK, due groups and the deferred requests whose deadline has not passed are admitted (R235, R383), the
requests in the order in which they were made. DESIGN CHOICE (assumption log 49): groups that are due, which nobody
requested, come first. -/
def Core.calSlackEntry (c : Core) : Core :=
  let c := c.modCal (fun s => { s with reqs := s.reqs.map (fun (r : CalReq) =>
    if r.deferred && decide (c.ticks ≤ r.deadline) then { r with admitted := true } else r) })
  let asked := (c.hbr.cal.reqs.filter CalReq.admitted).flatMap (fun r => groupList r.left)
  (c.calItems ((List.range 5).filter c.isDue ++ asked)).calKick

/-- Deferred requests whose deadline has passed with no SLACK (R383). -/
def Core.calExpired (c : Core) : Core :=
  let late (r : CalReq) : Bool := r.deferred && !r.admitted && decide (r.deadline < c.ticks)
  let gone := c.hbr.cal.reqs.filter late
  if gone.isEmpty then c
  else
    let c := c.modCal (fun s => { s with reqs := s.reqs.filter (fun r => !late r) })
    (gone.foldl (fun c r => c.post evCalExpired 0 (leBytes 1 r.groups ++ [0#8] ++ leBytes 2 r.id)) c).showCals

/-- ABORT and device reset discard every deferred request (R383). -/
def Core.calDiscard (c : Core) : Core :=
  (c.modCal (fun s => { s with reqs := s.reqs.filter (fun r => !r.deferred) })).showCals

/-- REQ_ID after one: modulo 65,536, 0 skipped (R381). -/
def nextReqId (n : Nat) : Nat := if n = 65535 then 1 else n + 1

/-- CAL_RUN (R381, R382): GROUPS, URGENT and DEADLINE. -/
def Core.calRun (c : Core) (groups deadline reserved : Nat) (urgent : Bool) : Core × Answer :=
  let m := c.cmdMode
  let run := m == .standby || m == .service || m == .slack || (urgent && (m == .expose || m == .hold))
  let deferred := !urgent && (m == .armed || m == .expose || m == .hold)
  if m ≠ .calibrate ∧ !run ∧ !deferred then (c, err stBadMode)
  else if m = .standby ∧ c.layerActive then (c, err stBadMode)
  else if groups = 0 ∨ 32 ≤ groups then (c, err stBadField 16)
  else if reserved ≠ 0 then (c, err stBadField 17)
  else if 3600 < deadline then (c, err stBadField 18)
  else if m = .calibrate ∨ 16 ≤ c.hbr.cal.reqs.length then (c, err stBusy)
  else
    let id := c.hbr.cal.nextId
    let secs := if deadline = 0 then 60 else deadline
    let asks := urgent && (m == .slack || m == .expose)
    let r : CalReq :=
      { id := id, groups := groups, left := groups, failed := 0, deadline := c.ticks + secs * 1000 * ticksPerMs,
        deferred := deferred, urgent := asks || (urgent && m == .hold), asksHold := asks, admitted := run }
    let c := c.modCal (fun s =>
      { s with
        reqs := s.reqs ++ [r], nextId := nextReqId id,
        holdFailed := s.holdFailed && s.reqs.any CalReq.asksHold })
    if deferred then (c.showCals, .done ⟨stDeferred, 0, calPayload id 0⟩)
    else
      let c := if m = .standby then c.ask .calibrate
        else if asks then c.ask .urgent
        else if m = .slack then c.calItems (groupList groups)
        else c
      (c.calKick, .wait (.cal id))

/-! ### GATE runs in laser-off intervals (R378, R379) -/

/-- Ticks of the channel's present motion that are still to come; a lower bound of the time to its next chain. -/
def Core.motionLeft (c : Core) (ch : Nat) : F64 :=
  match (c.ch ch).motion with
  | .rest => F64.zero
  | .jump k n _ _ _ _ _ => k.total.sub (ticksSec n)
  | .chain p n _ _ _ => p.track.total.sub (ticksSec n)
  | .dwell n total _ => ticksSec (total - n)

def gateLead : F64 := F64.ofRatio 20 1000000

/-- The channel's next gate-on is predicted no earlier than 20 µs from the present boundary (R378); before its chain is
planned, the motion under way bounds it from below. -/
def Core.nextOnFar (c : Core) (ch : Nat) : Bool :=
  let s := c.ch ch
  match s.gat.pend.find? GateEv.on with
  | some e =>
    match c.predict ch e with
    | some t => (F64.ofNat 20000).le t
    | none => false
  | none => (s.ended && s.adoptQ.isEmpty) || gateLead.le (c.motionLeft ch)

/-- A due channel may start its run at the present boundary. -/
def Core.gateMayRun (c : Core) (ch : Nat) : Bool :=
  let g := (c.ch ch).gat
  c.mode == .expose && bitOf (c.rd CAL_GATE.DUE) ch && !c.hbr.cal.gateRuns.any (fun r => r.chan == ch) &&
  !g.lgHigh && !c.flag GAT_STATE.GATE ch && g.placed.isEmpty &&
  (match g.pend.head? with | some e => e.on | none => true) && c.nextOnFar ch

/-- Start the GATE runs of the present boundary. -/
def Core.gateRunsStart (c : Core) : Core :=
  if c.mode ≠ .expose ∨ c.rd CAL_GATE.DUE = 0 ∨ c.held domHBR then c
  else c.forEach 64 (fun c ch =>
    if c.gateMayRun ch then
      let t := c.calTemp (c.rd CAL_CONFIG.TEMP_SLOT grpGate + ch / 4)
      (c.modCal (fun s => { s with gateRuns := s.gateRuns ++ [⟨ch, c.ticks, t, c.now⟩] })).showCals
    else c)

/-- Gating outranks a GATE run (R379): an edge placed in a window that overlaps it, or an immediate gate-off, abandons it. -/
def Core.gateAbandon (c : Core) : Core :=
  let hit (r : GateRun) : Bool :=
    let s := c.ch r.chan
    decide (c.ticks + 1 < r.start + 24) &&
    (!s.gat.placed.isEmpty || s.gat.lgHigh || s.halt == .inPath || c.failed r.chan)
  let gone := c.hbr.cal.gateRuns.filter hit
  if gone.isEmpty then c
  else
    let c := c.modCal (fun s => { s with gateRuns := s.gateRuns.filter (fun r => !hit r) })
    ((gone.foldl (fun c _ => c.inc CAL_GATE.ABANDONED) c).wr CAL_STATE.LAST_RESULT 3 grpGate).showCals

/-! ### Writing records (R387) -/

/-- The group a part belongs to. -/
def groupOfPart (n : Nat) : Nat := if n < 2 then 0 else if n = 2 then 1 else if n = 3 then 2 else if n < 8 then 3 else 4

/-- CAL_RECORD_WRITE: a marked part is written, at most once in 10 s; `failed` attempts of the read-back, at most 2. -/
def Core.calRecordWrite (c : Core) (n failed : Nat) : Core :=
  let recent := match Kv.find c.hbr.cal.written n with
    | some t => decide (c.ticks < t + 10000 * ticksPerMs)
    | none => false
  if !c.harbourRuns || !c.hbr.cal.marked.contains n || recent || decide (9 ≤ n) then c
  else
    let g := groupOfPart n
    let payload := match n, c.hbr.cal.phyDue with
      | 8, some (_, p) => p
      | _, _ => c.hbr.cal.parts.getD n []
    let temp := if g = grpGate then 0 else c.rdI CAL_STATE.T_LAST g
    let c := c.writePart n (c.rd CAL_STATE.LAST_SEC g) (c.rd CAL_STATE.LAST_NS g) (c.rd CAL_STATE.CAL_COUNT g) temp payload
      (decide (failed < 2))
    let c := c.modCal (fun s => { s with marked := s.marked.filter (fun x => x != n), written := Kv.insert n c.ticks s.written })
    if failed < 2 then c
    else (c.inc CAL_STATE.WRITE_FAILS g).post evCalRecordFail 0 (leBytes 1 n)

end Sys2Proof.Machine
end

