-- ==== Sys2Proof/Machine/Modes.lean ====
section
/-!
DEFINITION. Machine/Modes.lean: the mode controller (R230 to R248): escalations, SAFE and the safety inputs, RESUME, ABORT,
ARM, Slack; the commit queue and the tide marks (R216 to R222); the layer's end (R23, R235).
-/
namespace Sys2Proof.Machine

/-! ### Requests and their spread (R241, R330) -/

/-- A HOLD or SAFE on a member goes to every other member of the cascade (R330). -/
def Core.sendCscHold (c : Core) (src : Nat) (safe : Bool) : Core :=
  if !c.inCascade then c
  else c.otherMembers.foldl (fun c i =>
    c.sendLink 2 1 0x5B i (tickIndex c.now) (leBytes 2 src ++ leBytes 1 (b2n safe) ++ [0#8])) c

/-- A HOLD requested on this device. -/
def Core.requestHold (c : Core) (cause src : Nat) : Core :=
  let enters := decide (c.mode = .expose) || decide (c.mode = .slack)
  let c := c.enterHold cause src
  if enters then c.sendCscHold src false else c

/-- Slack work whose run SAFE interrupts; the harbour's write-back goes on by itself. -/
def Core.safeWork (c : Core) : Core := c.calCut

/-- The RETURN that SAFE sets (R247), and that of the HOLD it will return to. -/
def safeReturn (m : Mode) : Mode :=
  match m with
  | .boot | .bringup => .bringup
  | .expose | .slack | .hold => .hold
  | .service => .service
  | _ => .standby

/-- Long commands that wait on the mode end with BAD_MODE when HOLD or SAFE intervenes (R233, R240). -/
def Core.dropLeave (c : Core) : Core := c.completeLong (fun l => l.kind == .leaveSlack) (errReply stBadMode)

/-- SAFE is entered at the present boundary (R243, R244): every channel stops in path, every gate goes off, every axis
stops with its remaining distance kept. A request in SAFE is recorded in CAUSE alone. -/
def Core.enterSafe (c : Core) (src : Nat) : Core :=
  let c := if src = evSafetyTrip then c else c.wr SAF_STATUS.CAUSE (c.rd SAF_STATUS.CAUSE % 8 + 8)
  if c.mode = .dormant ∨ c.mode = .shutdownTest ∨ c.mode = .safe then c
  else
    let old := c.mode
    let c := c.dropLeave.completeLong (fun l => l.kind == .resume) (errReply stBadMode)
    let c := c.safeWork
    let c := c.modPilot (fun p => { p with
      holdReturn := if old = .hold then c.rd PLT_MODE.RETURN else if old = .expose ∨ old = .slack then old.code else 0,
      disarmDue := none, restDue := false })
    let c := (c.wr PLT_MODE.RETURN (safeReturn old).code).wr PLT_MODE.ESC_SOURCE src
    let c := c.enterMode .safe
    let c := c.forEach 64 (fun c ch =>
      if c.live ch && (c.ch ch).halt != .inPath then c.haltInPath ch else c.gateOffNow ch)
    (c.stopAllAxes).recoatPause

def Core.requestSafe (c : Core) (src : Nat) : Core :=
  let enters := decide (c.mode ≠ .dormant) && decide (c.mode ≠ .shutdownTest) && decide (c.mode ≠ .safe)
  let c := c.enterSafe src
  if enters then c.sendCscHold src true else c

/-! ### The safety inputs (R242 to R247) -/

def safLevel (i : Nat) : Field := if i = 0 then SAF_STATUS.LEVEL_A else if i = 1 then SAF_STATUS.LEVEL_B else SAF_STATUS.LEVEL_E

/-- All three inputs are inactive. -/
def Core.safHigh (c : Core) : Bool := c.flag SAF_STATUS.LEVEL_A && c.flag SAF_STATUS.LEVEL_B && c.flag SAF_STATUS.LEVEL_E

/-- LSAF_A_N and LSAF_B_N disagree. -/
def Core.safDisagree (c : Core) : Bool := c.rd SAF_STATUS.LEVEL_A != c.rd SAF_STATUS.LEVEL_B

/-- After a change of level: the discrepancy timer, the clearing of DISC, HIGH_FOR (R245, R247). -/
def Core.safTrack (c : Core) : Core :=
  let a := c.flag SAF_STATUS.LEVEL_A
  let b := c.flag SAF_STATUS.LEVEL_B
  let c := c.modPilot (fun p => { p with
    discSince := if a == b then none else (match p.discSince with | some t => some t | none => some c.ticks),
    discClear := p.discClear || (!a && !b),
    highSince := c.ticks })
  let c := if a && b && c.pilot.discClear then
      (c.setFlag SAF_STATUS.DISC false).modPilot (fun p => { p with discClear := false })
    else c
  c.wr SAF_STATUS.HIGH_FOR 0

/-- Every LG pair is forced low (R243 step 2). -/
def Core.safForceLow (c : Core) : Core :=
  c.forEach 64 (fun c ch =>
    if (c.ch ch).gat.lgHigh then (c.emit (.lg ch false c.now)).modGat ch (fun g => { g with lgHigh := false }) else c)

/-- A cause bit of an interlock input is latched: the first since SAFE_CLEAR counts one trip and is reported (R242); SAFE
follows at the next boundary, but for DORMANT and BOOT, which only latch it, and the shutdown test, which it ends
(R246). -/
def Core.tripCause (c : Core) (bit gateNs : Nat) : Core :=
  let cause := c.rd SAF_STATUS.CAUSE
  let first := cause % 8 == 0
  let c := c.wr SAF_STATUS.CAUSE (orBit cause bit)
  let c := if first then
      let c := (c.inc SAF_STATUS.TRIPS).wr SAF_STATUS.LAST_GATE_NS gateNs
      c.modPilot (fun p => { p with tripAt := some (c.ticks + 1, c.now + tickU) })
    else c
  let c := c.safForceLow
  if c.mode = .shutdownTest then { c with bst := { c.bst with abandoned := true } }
  else if c.mode = .dormant ∨ c.mode = .boot then c
  else c.raiseSafe evSafetyTrip

/-- A safety input goes active (R243); `gateNs` is the measured time of step 2. -/
def Core.safetyTrip (c : Core) (i gateNs : Nat) : Core :=
  let c := (c.wr (safLevel i) 0).safTrack
  let c := if !c.flag SAF_STATUS.LEVEL_A && !c.flag SAF_STATUS.LEVEL_B then c.modPilot (fun p => { p with discClear := true }) else c
  if bitOf (c.rd SAF_STATUS.CAUSE) i then c
  else
    let c := c.tripCause i gateNs
    if c.inPair then c.sendTwin 0 0x52 (tickIndex c.now) (twinInputBytes 2 (leBytes 1 (2 ^ (4 + i)) ++ zeros 3))
    else c

/-- A safety input goes inactive. -/
def Core.safetyRelease (c : Core) (i : Nat) : Core := (c.wr (safLevel i) 1).safTrack

/-- A discrepancy of more than 10 ms latches DISC (R245). -/
def Core.discrepancy (c : Core) : Core :=
  match c.pilot.discSince with
  | some t =>
    if c.safDisagree && decide (t + 10 * ticksPerMs ≤ c.ticks) && !c.flag SAF_STATUS.DISC then
      let c := (c.setFlag SAF_STATUS.DISC true).modPilot (fun p => { p with discClear := false })
      c.post evSafetyDiscrepancy 0 (leBytes 1 (c.rd SAF_STATUS.LEVEL_A + 2 * c.rd SAF_STATUS.LEVEL_B))
    else c
  | none => c

/-- HIGH_FOR counts while all three inputs are inactive (R247). -/
def Core.safHighFor (c : Core) : Core :=
  if c.safHigh then c.wr SAF_STATUS.HIGH_FOR (satNat 16 ((c.ticks - c.pilot.highSince) / ticksPerMs)) else c

/-- SAFETY_TRIP is posted at the control tick after the boundary that latched the trip, with CAUSE as it stands (R242, R243
step 5). -/
def Core.postTrip (c : Core) : Core :=
  match c.pilot.tripAt with
  | some (k, t) =>
    if c.held domPLT ∨ c.ticks ≤ k then c
    else
      let c := c.modPilot (fun p => { p with tripAt := none })
      { c with
        events := c.events ++ [⟨evSafetyTrip, 0, some t,
          leBytes 1 (16 * c.rd SAF_STATUS.CAUSE) ++ [0#8] ++ leBytes 2 (c.rd SAF_STATUS.LAST_GATE_NS), k⟩] }
  | none => c

/-! ### Arming conditions (R233) -/

/-- The manifest the queue will expose first. -/
def Core.firstManifest (c : Core) : Option Bytes := c.queuedManifests.head?

/-- Conditions 1 to 3: the number of the first that fails. -/
def Core.armFirst3 (c : Core) : Option Nat :=
  if !c.safHigh then some 1
  else if c.flag SAF_STATUS.DISC then some 2
  else if c.thmFaulty then some 3
  else none

/-- A blade cassette that serves RC_AXIS stops arming: EXHAUSTED and not overridden, or AUTH_FAIL (R408). -/
def Core.bladeStops (c : Core) (j : Nat) : Bool :=
  let s := c.rd CON_BLADE.STATE j
  c.rd CON_BLADE.AXIS j == c.rd MOT_RECOAT.RC_AXIS &&
  (s == csAuthFail || (s == csExhausted && !c.flag CON_BLADE.OVERRIDE j))

/-- All arming conditions in order; 6 is the cascade's (R329). -/
def Core.armFails (c : Core) : Option Nat :=
  match c.armFirst3 with
  | some n => some n
  | none =>
    if !c.flag CAL_TRIM.TRIM_VALID || !(List.range 5).all c.groupValid then some 4
    else if (match c.firstManifest with
      | some m => (List.range 64).any (fun ch => bitOf (manMask m) ch && !c.isUp (ch / 4))
      | none => false) then some 5
    else if c.inCascade && !c.flag CSC_STATE.FORMED then some 6
    else if c.flag MOT_RECOAT.RC_EN && (List.range 4).any c.bladeStops then some 9
    else none

/-! ### The commit queue (R216, R217, R222) -/

/-- QUEUE_DEPTH at once; PLT_QUEUE as it stands. -/
def Core.showDepth (c : Core) : Core := c.wr SEQ_LAYER_STATE.QUEUE_DEPTH (min 4 c.queuedManifests.length)
def Core.showQueue (c : Core) : Core :=
  let c := (c.wr PLT_QUEUE.SETS c.pilot.queue.length).wr PLT_QUEUE.LAYERS c.queuedManifests.length
  (c.wr PLT_QUEUE.HEAD_SET_ID ((c.pilot.queue.head?.map CommSet.id).getD 0)).showDepth

/-- Sets leave the queue unapplied: their charts' banks become EMPTY, their prefetched tiles go (R155, R222). -/
def Core.discardSets (c : Core) (keep gone : List CommSet) : Core :=
  match gone.head?, gone.getLast? with
  | some f, some l =>
    let c := c.modPilot (fun p => { p with queue := keep, nodePlan := none })
    let c := (gone.flatMap (fun s => chartChans s.objs)).foldl (fun c ch =>
      (c.wr CHT_BANK.INACTIVE_STATE bankEmpty ch).wr CHT_BANK.PENDING_LAYER 0 ch) c
    let c := c.post evQueueDiscarded 0 (leBytes 2 f.id ++ leBytes 2 l.id)
    c.dropUnqueued.showQueue
  | _, _ => c

/-- ABORT's effect on the `n` sets that waited when it was executed (R222). -/
def Core.discardQueue (c : Core) (n : Nat) : Core :=
  (c.discardSets (c.pilot.queue.drop n) (c.pilot.queue.take n)).modPilot (fun p => { p with freeNumber := true })

/-- ABORT's effect on the queue as it stands. -/
def Core.discardAll (c : Core) : Core := c.discardQueue c.pilot.queue.length

/-- The sets ahead of the first one whose layer arms a failed channel, and the rest (R155). -/
def Core.splitHalted (c : Core) : List CommSet × List CommSet :=
  c.pilot.queue.span (fun s => match s.manifest with
    | some m => !(List.range 64).any (fun ch => bitOf (manMask m) ch && c.failed ch)
    | none => true)

/-- With NEXT_LAYER = 0 a queued layer that arms a failed channel is discarded, with every set behind it, once no layer is
active (R155). -/
def Core.haltLayers (c : Core) : Core :=
  if c.layerActive || c.flag ADP_POLICY.NEXT_LAYER then c
  else
    let q := c.splitHalted
    if q.2.isEmpty then c
    else
      let ls := q.2.filterMap (fun s => s.manifest.map manLayer)
      let c := c.post evLayerDiscarded 0 (leBytes 4 (ls.head?.getD 0) ++ leBytes 4 (ls.getLast?.getD 0))
      c.discardSets q.1 q.2

/-! ### Fields that apply at tick or in Slack (R8) -/

/-- Waiting writes take force. -/
def Core.applyWrites (c : Core) (l : List (Field × Nat × Nat)) : Core := l.foldl (fun c w => c.wr w.1 w.2.2 w.2.1) c

/-- Tick fields take force at the present boundary. A changed SEL leaves the old bank to the sampling instants before it
(R114). -/
def Core.applyTickW (c : Core) : Core :=
  let sel := (List.range 64).map (fun ch => c.rd RFX_SELECT.SEL ch)
  let c := ({ c with tickW := [] }).applyWrites c.tickW
  c.forEach 64 (fun c ch =>
    if c.rd RFX_SELECT.SEL ch = sel.getD ch 0 then c
    else c.modCh ch (fun s => { s with rfx := { s.rfx with prevSel := sel.getD ch 0, selFrom := c.now } }))

/-- Slack fields take force; a new VST_SLOTS empties the rings (R55). -/
def Core.applySlackW (c : Core) : Core :=
  let old := c.rd VST_CONFIG.VST_SLOTS
  let c := ({ c with slackW := [] }).applyWrites c.slackW
  if c.rd VST_CONFIG.VST_SLOTS ≠ old then c.forEach 64 (fun c ch => c.flushRing ch) else c

/-! ### Slack (R235, R236) and the layer's end (R23) -/

/-- Slack items in the order of R235. -/
def sortSlack (l : List SlackItem) : List SlackItem :=
  l.filter (fun i => i.kind == kindLife) ++ l.filter (fun i => i.kind == kindCal) ++
  l.filter (fun i => i.kind != kindLife && i.kind != kindCal)

/-- Steps 2, 4 and 5 of R235: Slack fields, the recoat sequence, the queued work. -/
def Core.slackBegin (c : Core) : Core :=
  let c := c.applySlackW
  let c := c.modPilot (fun p => { p with
    slackSince := c.ticks, slackWarned := false, slackOwed := false,
    slackWork := p.slackWork.map (fun (i : SlackItem) => if i.kind = kindDiag then { i with arg := 0 } else i) })
  let c := c.recoatStart
  let c := c.lifeAdmit.calSlackEntry
  c.modPilot (fun p => { p with slackWork := sortSlack p.slackWork })

/-- Every channel armed for the layer has ended it, or has failed and its adoption is done (R23). -/
def Core.layerDone (c : Core) : Bool :=
  c.layerActive &&
  (List.range 64).all (fun ch => !bitOf c.layer.mask ch ||
    (if c.failed ch then c.rd ADP_STATE.STATE ch == 3 else (c.ch ch).ended && c.finished ch))

/-- The layer ends at the present boundary: LAYER_ACTIVE clears, reservations go, LAYER_DONE is posted, the summaries are
written (R235, R415); the device enters SLACK, or owes that entry to the HOLD or SAFE it is in. -/
def Core.layerEnd (c : Core) : Core :=
  let layer := c.rd SEQ_LAYER_STATE.LAYER_NOW
  let c := (c.setFlag SEQ_LAYER_STATE.LAYER_ACTIVE false).dropUnqueued
  let c := c.forEach 64 (fun c ch => c.modCh ch (fun s => { s with halt := .none }))
  let c := c.discardReservations
  let expose := decide (c.mode = .expose)
  let c := if expose then c.enterMode .slack else c
  let c := c.post evLayerDone 0 (leBytes 4 layer) (some c.now)
  let c := (c.summaryBatch false).haltLayers
  if expose then c.slackBegin
  else if c.mode = .hold then (c.wr PLT_MODE.RETURN Mode.slack.code).modPilot (fun p => { p with slackOwed := true })
  else c.modPilot (fun p => { p with slackOwed := true, holdReturn := Mode.slack.code })

/-- Outside a cascade the device ends its layer by itself; in a cascade the lead chooses the boundary (R23, R330). -/
def Core.layerEndDue (c : Core) : Core := if !c.inCascade && c.layerDone then c.layerEnd else c

/-! ### RESUME (R238) -/

/-- HOLD is left for RETURN at the present boundary: every channel and axis restarts (R83, R238, R294). -/
def Core.resumeNow (c : Core) : Core :=
  let ret := Mode.ofCode (c.rd PLT_MODE.RETURN)
  let c := c.modPilot (fun p => { p with restDue := false })
  let c := c.enterMode ret
  let c := if ret = .slack then
      if c.pilot.slackOwed then c.slackBegin
      else (c.recoatResume).calKick
    else (c.forEach 32 (fun c k => c.captureFailed k)).forEach 64 (fun c ch =>
      if c.live ch then (c.retryAfterHold ch).unhalt ch else c)
  let c := c.forEach 8 (fun c n => c.continueAxis n)
  c.completeLong (fun l => l.kind == .resume) okReply

/-- STANDBY is entered from a mode whose gate drivers were enabled. -/
def Core.toStandby (c : Core) : Core := (c.enterMode .standby).disableGates.calPoll

/-! ### ABORT (R240) -/

/-- A channel gives up everything it had left of the layer. -/
def Core.abortChannel (c : Core) (ch : Nat) : Core :=
  let p := c.posNow ch
  let c := if c.flag GAT_STATE.GATE ch then c.gateOffNow ch else c
  let c := c.modCh ch (fun s => { s.dropWork p with
    pendingBorder := false, halt := .none,
    idle := match s.idle with | some t => if t.adopt.isSome then none else some t | none => none,
    gat := { s.gat with
      pend := [], placed := [], scheds := [] } })
  (((c.seqState ch 0).wr BWK_STATE.STATE 0 ch).clearWait ch).wr ADP_STATE.QUEUED 0 ch

/-- The present layer is abandoned (R240). -/
def Core.abandonLayer (c : Core) : Core :=
  let active := c.layerActive
  let c := if active then c.forEach 64 (fun c ch => if (c.ch ch).armed then c.abortChannel ch else c) else c
  let c := { c with losses := c.losses.filter (fun l => l.planned && l.out == 0) }
  let c := c.discardReservations.discardKept
  let c := c.setRecoat ⟨0, false, false, none, true⟩
  let c := (c.setFlag SEQ_LAYER_STATE.LAYER_ACTIVE false).dropUnqueued
  let c := c.modPilot (fun p => { p with slackOwed := false, slackWork := p.slackWork.filter (fun i => i.kind == kindDiag) })
  let c := c.modHbr (fun h => { h with lifeDue := [] })
  let c := c.modCal (fun s => { s with run := s.run.map (fun (r : CalRun) => { r with slack := false }) })
  if active then
    (c.post evLayerAborted 0 (leBytes 4 (c.rd SEQ_LAYER_STATE.LAYER_NOW))).summaryBatch true
  else c

/-- ABORT in HOLD. -/
def Core.abortHold (c : Core) (n : Nat) : Core :=
  let c := c.completeLong (fun l => l.kind == .resume) (errReply stBadMode)
  let c := c.abandonLayer
  ((c.discardQueue n).calDiscard).toStandby

/-- DISARM or ABORT admitted in SLACK: STANDBY is entered, for ABORT at a later control tick than that of its admission, once
the Slack work has ended, and the commands complete (R233, R240). -/
def Core.leaveSlackDue (c : Core) : Core :=
  let waits := c.pilot.long.filter (fun l => l.kind == .leaveSlack)
  let abort := waits.any (fun l => l.cmd.op == 0x3003)
  if c.mode = .slack ∧ c.slackEnded ∧ waits.any (fun l => l.cmd.op != 0x3003 || decide (l.since < c.ticks)) then
    let c := if abort then c.discardAll.calDiscard else c
    (c.toStandby).completeLong (fun l => l.kind == .leaveSlack) okReply
  else c

/-! ### Tide marks (R217 to R220) -/

/-- R217: the earliest boundary and NOT_BEFORE of a set. -/
def Core.setMature (c : Core) (s : CommSet) : Bool :=
  decide (s.earliest ≤ c.ticks) && (match s.notBefore with | some t => decide (t ≤ c.now) | none => true)

/-- Node configuration a set changes: the channels whose SAMPLE_DIV differs from the one in force, with the new value
(R106, R193). -/
def Core.nodeChanges (c : Core) (s : CommSet) : List (Nat × Nat) :=
  s.objs.filterMap (fun o =>
    if o.obj = RFX_CONFIG.SAMPLE_DIV.obj then
      let v := imgField (leNat o.image) RFX_CONFIG.SAMPLE_DIV
      if v = c.rd RFX_CONFIG.SAMPLE_DIV o.inst then none else some (o.inst, v)
    else none)

/-- The CFG_WRs of a set's node changes, for the tide mark at `t` (R220). -/
def Core.sendNodeChanges (c : Core) (s : CommSet) (t : Time) : Core :=
  let c := c.modPilot (fun p => { p with nodePlan := some (s.id, t) })
  (c.nodeChanges s).foldl (fun c q =>
    if c.isUp (q.1 / 4) then
      c.sendCfg (q.1 / 4) (c.headAddr (q.1 / 4)) false false (tickIndex t) s.manifest.isSome
        (cfgPayload (0x10 + q.1 % 4) [q.2])
    else c) c

/-- Nodes have been told of the tide mark at the present boundary, or need not be. -/
def Core.nodesReady (c : Core) (s : CommSet) : Bool :=
  (c.nodeChanges s).isEmpty || c.pilot.nodePlan == some (s.id, c.now)

/-- Nodes are told at least 40 ticks ahead: of the earliest boundary of R217, once everything else that can be known
holds (R193). -/
def Core.planNodes (c : Core) (s : CommSet) (holds : Bool) : Core :=
  let told := match c.pilot.nodePlan with
    | some (id, t) => id == s.id && decide (c.now < t)
    | none => false
  if (c.nodeChanges s).isEmpty || told || !holds then c
  else
    let wait := max 40 (s.earliest - c.ticks)
    let t := c.now + wait * tickU
    let t := match s.notBefore with | some n => max t n | none => t
    c.sendNodeChanges s ((t + 20 * tickU - 1) / (20 * tickU) * (20 * tickU))

/-- An ABORT has been executed and is not yet acted on: the sets it discards take no tide mark. -/
def Core.abortWaits (c : Core) : Bool := c.pilot.modeReqs.any (fun r => match r with | .abort _ => true | _ => false)

/-- The conditions of R219 on the mode. -/
def Core.plainModeOk (c : Core) : Bool :=
  !c.layerActive && !c.abortWaits && (decide (c.mode = .standby) || decide (c.mode = .armed) || decide (c.mode = .slack) || decide (c.mode = .service))

/-- The entry conditions of R218 and R234, the boundary's own choice in a cascade apart. -/
def Core.entryOk (c : Core) (man : Bytes) : Bool :=
  (decide (c.mode = .armed) || decide (c.mode = .slack)) && !c.layerActive &&
  c.escHold.isEmpty && c.escSafe.isEmpty && c.pilot.modeReqs.isEmpty && c.armFirst3.isNone && c.pilot.disarmDue.isNone &&
  !c.anyLong (fun k => k == .leaveSlack) &&
  (decide (c.mode = .armed) || c.slackEnded) && c.ringsReady man

/-- The counts cleared at each layer's tide mark. -/
def tideCounts : List Field :=
  [SEQ_MOTION_STAT.EDGE_CLIP, SEQ_MOTION_STAT.STOPS, SEQ_TILE_POS.SEQ_UNDERRUN, GAT_TRIM_STATE.UPDATES,
   VST_STATE.FETCH_MAX_NS, RFX_LATENCY.LAT_MAX, RFX_LATENCY.OVER_BOUND] ++
  Obj.GAT_STAT.fields ++ Obj.RFX_STAT.fields ++ Obj.BWK_STAT.fields

/-- What a layer's tide mark makes of one channel (R44, R88, R99, R111). σ counts from the tide mark (R87), so the entries before
it carry no arc of this layer: the trace begins anew there, and the match index with it (DEDUCED, assumption log 49). B never
exceeds 0x8000, whatever BASE_INIT is. -/
def Core.tideChannel (c : Core) (man : Bytes) (ch : Nat) : Core :=
  let layer := manLayer man
  let armed := bitOf (manMask man) ch
  let c := tideCounts.foldl (fun c f => c.wr f 0 ch) c
  let c := c.forEach 3 (fun c k => c.wr SEQ_AXIS_SETPOINT.SAT_COUNT 0 (3 * ch + k))
  let c := if c.flag GAT_TRIM.RESET_AT_TIDE ch then c.wr GAT_TRIM_STATE.K_NOW (c.rd GAT_TRIM.TRIM_INIT ch) ch else c
  let off := c.tideOff ch
  let c := if c.flag RFX_CONFIG.BASE_RESET_AT_TIDE ch then c.wr RFX_STATE.BASE (min 0x8000 (c.rd RFX_CONFIG.BASE_INIT ch)) ch else c
  c.modCh ch (fun s => { s with
    armed := armed, ended := !armed || c.failed ch, listAddr := manAddr man ch, listCount := manCount man ch,
    moveNext := (match s.idle with
      | some t => if t.adopt.isNone && t.layer == layer && armed && !c.failed ch then 1
          else if c.failed ch then manCount man ch else 0
      | none => if c.failed ch then manCount man ch else 0),
    sigma := F64.zero, halt := .none, intr := .nothing, reentry := none, cut := none, syncWait := 0, syncPosted := false,
    chainRest := none, lit := none, owed := false, prevLit := false, gapTick := false,
    underrunSeen := false, extentFault := false,
    fb := { s.fb with
      traceBase := 0, trace := [], matchIx := 0, recent := [], lastSamp := none, dwellFrom := none, dwellDone := 0 },
    gat := { s.gat with
      pend := [], placed := s.gat.placed.filter (fun e => !e.on) ++ off, scheds := [], conf := Confirm.init },
    rfx := { s.rfx with
      dead := false } })

/-- A layer starts: EXPOSE is entered (R46, R155, R234); reference captures under way fail (R262). -/
def Core.layerStart (c : Core) (man : Bytes) : Core :=
  let c := { c with layer := ⟨manMask man, manTimeout man, manLists man, 0, []⟩ }
  let c := (c.wr SEQ_LAYER_STATE.LAYER_NOW (manLayer man)).setFlag SEQ_LAYER_STATE.LAYER_ACTIVE true
  let c := c.modPilot (fun p => { p with freeNumber := false })
  let c := c.forEach 64 (fun c ch => c.tideChannel man ch)
  let c := c.logTide
  let c := c.forEach 64 (fun c ch =>
    if bitOf (manMask man) ch && c.failed ch then c.carryLoss ch (listTail (manAddr man ch) 0 (manCount man ch)) else c)
  let c := c.forEach 32 (fun c k => c.captureFailed k)
  c.exposeCuts.enterMode .expose

/-- A set takes effect at the present boundary (R46, R220). -/
def Core.takeSet (c : Core) (s : CommSet) (rest : List CommSet) : Core :=
  let layer := match s.manifest with | some m => manLayer m | none => 0xFFFFFFFF
  let c := c.post evSetApplied 0 (leBytes 2 s.id ++ zeros 2 ++ leBytes 4 layer) (some c.now)
  let c := { c with
    tickW := c.tickW.filter (fun w => !s.objs.any (fun o => o.obj == w.1.obj && o.inst == w.2.1)) }
  let c := c.applyObjs s.objs
  let c := c.modPilot (fun p => { p with
    queue := rest, nodePlan := none, applied := some (s.id, c.now) })
  let c := match s.manifest with
    | some m => c.layerStart m
    | none => c
  c.showDepth

/-- The set at the head of the queue takes effect at the present control tick boundary, where its conditions hold (R218,
R219). In a cascade a layer's tide mark falls only where the lead announced it. -/
def Core.tideMark (c : Core) (announced : Bool) : Core :=
  match c.pilot.queue with
  | [] => c
  | s :: rest =>
    match s.manifest with
    | none =>
      let holds := c.plainModeOk
      if holds && c.setMature s && c.nodesReady s then c.takeSet s rest else c.planNodes s holds
    | some m =>
      let holds := c.entryOk m && (!c.inCascade || announced)
      if holds && c.setMature s && c.nodesReady s then c.takeSet s rest else c.planNodes s (c.entryOk m && !c.inCascade)

/-- PLT_QUEUE at the control tick after a tide mark (R220). -/
def Core.showApplied (c : Core) : Core :=
  match c.pilot.applied with
  | none => c
  | some (id, t) =>
    let c := c.modPilot (fun p => { p with applied := none })
    let c := (c.wr PLT_QUEUE.LAST_APPLIED id).wr PLT_QUEUE.APPLIED_SEC (timeSec t)
    (c.wr PLT_QUEUE.APPLIED_NS (timeNs t)).showQueue

/-! ### The mode commands (R206, R233): a change they ask for is latched at the next tick boundary (R14) -/

/-- STOP requests SAFE. -/
def Core.cmdStop (c : Core) : Core × Answer := (c.ask .safe, ok)

/-- HOLD, with or without IMMEDIATE (R237). -/
def Core.cmdHold (c : Core) (immediate : Bool) : Core × Answer :=
  let m := c.cmdMode
  if m = .expose ∨ m = .slack ∨ m = .hold ∨ m = .safe then (c.ask (.hold immediate), ok) else (c, ok)

/-- ABORT, by mode (R240). -/
def Core.cmdAbort (c : Core) : Core × Answer :=
  match c.cmdMode with
  | .standby => (c.discardAll.calDiscard, ok)
  | .armed | .hold => (c.ask (.abort c.pilot.queue.length), ok)
  | .slack => (c, .wait .leaveSlack)
  | _ => (c, err stBadMode)

/-- ARM (R233): STANDBY only, all arming conditions. -/
def Core.cmdArm (c : Core) : Core × Answer :=
  if c.cmdMode ≠ .standby then (c, err stBadMode)
  else match c.armFails with
    | some n => (c, err stBadMode n)
    | none => (c.ask .arm, ok)

/-- DISARM (R233). -/
def Core.cmdDisarm (c : Core) : Core × Answer :=
  match c.cmdMode with
  | .standby => (c, ok)
  | .armed => (c.modPilot (fun p => { p with disarmDue := some c.ticks }), ok)
  | .slack => (c, .wait .leaveSlack)
  | _ => (c, err stBadMode)

/-- A member of the cascade that reports HELD_READY (R330). -/
def Core.membersHeld (c : Core) : Bool :=
  c.otherMembers.all (fun i => c.casc.ready.any (fun r => r.1 == i && r.2.held))

/-- RESUME (R238): it completes when motion restarts; in a cascade it goes through the lead (R330). -/
def Core.cmdResume (c : Core) : Core × Answer :=
  if c.cmdMode ≠ .hold then (c, err stBadMode)
  else if c.inCascade && !c.isLead then (c, err stBadMode 7)
  else match c.armFirst3 with
    | some n => (c, err stBadMode n)
    | none => if c.inCascade && !c.membersHeld then (c, err stBadMode 8) else (c, .wait .resume)

/-- No SAFE escalation cause remains (R247). -/
def Core.safeCauseGone (c : Core) : Bool := c.escSafe.isEmpty && !c.held domFAB && !c.held domEXP

/-- The conditions of SAFE_CLEAR beside the mode (R247). -/
def Core.clearOk (c : Core) : Bool :=
  decide (100 ≤ c.rd SAF_STATUS.HIGH_FOR) && c.safHigh && !c.flag SAF_STATUS.DISC && c.safeCauseGone

/-- SAFE_CLEAR (R247). -/
def Core.cmdSafeClear (c : Core) : Core × Answer :=
  if c.cmdMode ≠ .safe ∨ !c.clearOk then (c, err stBadMode) else (c.ask .clear, ok)

/-- SERVICE_ENTER and SERVICE_EXIT. -/
def Core.cmdServiceEnter (c : Core) : Core × Answer :=
  if c.cmdMode ≠ .standby ∨ c.layerActive then (c, err stBadMode) else (c.ask .serviceEnter, ok)
def Core.cmdServiceExit (c : Core) : Core × Answer :=
  if c.cmdMode ≠ .service then (c, err stBadMode) else (c.ask .serviceExit, ok)

/-! ### What is latched at a tick boundary (R14, R16, R241) -/

/-- SAFE is left for RETURN; the conditions are judged again at the boundary. -/
def Core.leaveSafe (c : Core) : Core :=
  if c.mode ≠ .safe ∨ !c.clearOk then c
  else
    let c := c.wr SAF_STATUS.CAUSE 0
    let ret := Mode.ofCode (c.rd PLT_MODE.RETURN)
    if ret = .hold then
      let c := (c.wr PLT_MODE.PHASE phHeld).wr PLT_MODE.RETURN c.pilot.holdReturn
      c.enterMode .hold
    else (c.enterMode ret).calPoll

/-- The HOLD request that counts among those latched together, as its cause and source: IMMEDIATE where one of them is, else the
command, the escalation, the URGENT work. -/
def holdAsked (esc : List Nat) (reqs : List ModeReq) : Option (Nat × Nat) :=
  if reqs.contains (.hold true) then some (hcImmediate, 0)
  else if reqs.contains (.hold false) then some (hcHold, 0)
  else match esc with
    | h :: _ => some (hcEscalation, h)
    | [] => if reqs.contains .urgent then some (hcUrgent, 0) else none

/-- HOLD requests latched together (R16, R237, R241). -/
def Core.actHolds (c : Core) (esc : List Nat) (reqs : List ModeReq) : Core :=
  match holdAsked esc reqs with
  | none => c
  | some (cause, src) =>
    if c.mode = .expose ∨ c.mode = .slack ∨ (c.mode = .hold ∧ cause ≠ hcUrgent) then c.dropLeave.requestHold cause src
    else c.noteHold cause src

/-- A request other than HOLD and SAFE is acted on, where the mode it was made for still stands. `esc`: an escalation to SAFE
was latched with it. -/
def Core.actReq (esc : Bool) (c : Core) (r : ModeReq) : Core :=
  match r with
  | .arm => if c.mode = .standby then c.headsOutOfNeap.enterMode .armed else c
  | .serviceEnter => if c.mode = .standby then (c.enterMode .service).calPoll else c
  | .serviceExit => if c.mode = .service then c.toStandby else c
  | .calibrate => if c.mode = .standby then ((c.enterMode .calibrate).stopAllAxes).calKick else c
  | .clear => if esc then c else c.leaveSafe
  | .abort n =>
    if c.mode = .hold then c.abortHold n
    else if c.mode = .armed then ((c.discardQueue n).calDiscard).toStandby else c
  | .safe | .hold _ | .urgent => c

/-- Everything asked of the mode controller is acted on at the present boundary, SAFE ahead of HOLD. -/
def Core.actEscalations (c : Core) : Core :=
  let reqs := c.pilot.modeReqs
  let esc := c.escSafe
  let holds := c.escHold
  let c := ({ c with
    escSafe := [], escHold := [] }).modPilot (fun p => { p with modeReqs := [] })
  let c : Core := match esc ++ (if reqs.contains .safe then [0] else []) with
    | s :: _ => c.requestSafe s
    | [] => c.actHolds holds reqs
  reqs.foldl (Core.actReq (!esc.isEmpty)) c

/-- What the mode controller does at a control tick boundary: a DISARM of an earlier tick, RESUME and URGENT work that has
passed, the end of Slack for DISARM and ABORT. -/
def Core.modeTick (c : Core) : Core :=
  let c : Core := match c.pilot.disarmDue with
    | some t =>
      if t < c.ticks then
        let c := c.modPilot (fun p => { p with disarmDue := none })
        if c.mode = .armed then c.toStandby else c
      else c
    | none => c
  let held := decide (c.mode = .hold) && c.rd PLT_MODE.PHASE == phHeld
  let urgent := c.pilot.restDue && c.rd PLT_MODE.HOLD_CAUSE == hcUrgent
  let resume := !c.inCascade && c.pilot.long.any (fun l => l.kind == .resume && decide (l.since < c.ticks))
  let c := if held && (urgent || resume) then c.resumeNow else c
  c.leaveSlackDue

/-- The mode controller's part of a tick beside escalations: HELD, the layer's end, Slack (R235 to R237). -/
def Core.modeAtTick (c : Core) : Core :=
  let c := c.holdSettled
  let c := c.diagEnd.slackLong
  (c.calPoll).safHighFor.discrepancy

/-- The pilot firmware has missed a control tick (R241). -/
def Core.watchdogMiss (c : Core) : Core :=
  if c.held domPLT then c
  else (c.modPilot (fun p => { p with wdogMissed := p.wdogMissed + 1 })).raiseSafe 0

end Sys2Proof.Machine
end

