-- ==== Sys2Proof/Machine/Twin.lean ====
section
/-!
DEFINITION. Machine/Twin.lean: twin pairs (R312 to R327): roles, heartbeats, take-over, forwarded inputs, digests,
resynchronisation, exchanges of roles.
-/
namespace Sys2Proof.Machine

def Core.modTwin (c : Core) (f : Twin → Twin) : Core := { c with twin := f c.twin }

def Core.unit (c : Core) : Nat := c.rd TWN_STATE.UNIT
def Core.eligible (c : Core) : Bool := c.flag TWN_STATE.ELIGIBLE

/-! ### Roles (R313, R324, R326) -/

/-- The unit changes role; ROLE records and the effective time source follow. -/
def Core.setRole (c : Core) (r : Nat) : Core :=
  let old := c.role
  if old = r then c else ((c.wr TWN_STATE.ROLE r).logRole old).refreshSrc

/-- A standby stops being eligible and mutes (R320). -/
def Core.setIneligible (c : Core) : Core :=
  let c := ((c.setFlag TWN_STATE.ELIGIBLE false).setFlag TWN_STATE.MUTED true).wr TWN_STATE.ELIG_FOR 0
  c.modTwin (fun t => { t with eligSince := none, resyncDue := true })

def Core.setEligible (c : Core) : Core :=
  let c := (c.setFlag TWN_STATE.ELIGIBLE true).setFlag TWN_STATE.MUTED false
  c.modTwin (fun t => { t with eligSince := some c.ticks, resyncDue := false })

/-- The unit becomes ACTIVE. -/
def Core.becomeActive (c : Core) : Core :=
  let c := (c.setFlag TWN_STATE.ELIGIBLE false).setFlag TWN_STATE.MUTED false
  let c := c.modTwin (fun t => { t with eligSince := none, timeSrcDue := true })
  c.setRole roleActive

/-- The unit becomes an ineligible standby (R326). -/
def Core.becomeIneligible (c : Core) : Core := (c.setRole roleStandby).setIneligible

/-- Heard on a path within 151 µs. -/
def Core.heardBy (c : Core) (t : Option Nat) : Bool := match t with | some n => decide (c.ticks < n + hbLimit) | none => false
def Core.hears (c : Core) : Bool := c.heardBy c.twin.hbLink || c.heardBy c.twin.hbPin

/-- A heartbeat of the partner has arrived on either path since it was last declared failed. -/
def Core.metPartner (c : Core) : Bool := c.twin.hbLink.isSome || c.twin.hbPin.isSome

/-- The role that the partner's latest heartbeat states. -/
def Core.partnerRole (c : Core) : Option Nat := if c.metPartner then some (c.rd TWN_STATE.PARTNER_ROLE) else none

/-- The partner is an eligible standby, as far as the active unit knows (R319). -/
def Core.partnerElig (c : Core) : Bool := c.flag TWN_STATE.PARTNER_ELIG && !c.twin.partnerOut

/-- Two units strapped alike never pair (R312). -/
def Core.sameStrap (c : Core) : Bool :=
  match c.twin.partner with | some p => p.unit == c.unit | none => false

/-- A unit that is FORMING takes its role once its partner is heard (R313), or stays FORMING, muted, beside one strapped
alike. Where only pulses arrive, which do not state a unit, they decide once LP2 is not UP or 151 µs have passed. -/
def Core.formPair (c : Core) : Core :=
  if !c.inPair || c.role != roleForming then c
  else if c.sameStrap then
    if c.twin.pairFail then c else (c.modTwin (fun t => { t with pairFail := true })).post evTwnPairFail 0
  else if c.twin.partner.isNone && c.isUp lp2 && decide (c.ticks < c.twin.since + hbLimit) then c
  else match c.partnerRole with
    | none => c
    | some r =>
      if r = roleActive ∨ !c.flag TWN_STATE.PREFERRED then c.becomeIneligible
      else c.becomeActive.modTwin (fun t => { t with resyncDue := true, partnerOut := true })

/-- BRINGUP ends on a unit of a pair (R312, R313): it is FORMING, its head ports muted until it has a role. -/
def Core.twinBringup (c : Core) : Core :=
  if !c.inPair then c
  else ((c.wr TWN_STATE.ROLE roleForming).setFlag TWN_STATE.MUTED true |>.modTwin (fun t => { t with since := c.ticks })).formPair

/-- No heartbeat on either path for 151 µs after BRINGUP: the unit is ACTIVE alone (R313). -/
def Core.soloTimeout (c : Core) : Core :=
  if !c.inPair || c.role != roleForming || c.metPartner || decide (c.ticks < c.twin.since + hbLimit) then c
  else c.becomeActive

/-- PARTNER_FAILED (R323, R324): no heartbeat on either path for 151 µs. -/
def Core.partnerFailed (c : Core) : Core :=
  if !c.inPair || !c.metPartner || c.hears || c.sameStrap then c
  else
    let c := (c.setFlag TWN_STATE.PATH_LINK false).setFlag TWN_STATE.PATH_PIN false
    let c := c.modTwin (fun t => { t with partner := none, hbLink := none, hbPin := none, exchange := none, partnerOut := false })
    let c := c.wr TWN_STATE.PARTNER_ELIG 0
    if c.role ≠ roleStandby then c
    else if c.eligible then
      let c := c.wr TWN_STATE.TAKEOVER_EPOCH ((c.rd TWN_STATE.TAKEOVER_EPOCH + 1) % 65536)
      let c := c.becomeActive.inc TWN_STAT.TAKEOVERS
      c.post evTwnTakeover 0 (leBytes 2 (c.rd TWN_STATE.TAKEOVER_EPOCH) ++ leBytes 1 (1 - c.unit))
    else
      let c := (c.becomeActive).requestSafe 0
      let c := (c.abandonLayer).discardAll
      c.post evTwnNoTakeover 0

/-- PATH_ALARM (R323): one path has been silent for 151 µs while the other is heard. -/
def Core.pathAlarm (c : Core) : Core :=
  let link := c.flag TWN_STATE.PATH_LINK && !c.heardBy c.twin.hbLink
  let pin := c.flag TWN_STATE.PATH_PIN && !c.heardBy c.twin.hbPin
  if !c.inPair || !c.hears || !(link || pin) then c
  else
    let c := if link then c.setFlag TWN_STATE.PATH_LINK false else c
    let c := if pin then c.setFlag TWN_STATE.PATH_PIN false else c
    (c.inc TWN_STAT.PATH_ALARMS).post evTwnPathAlarm 0 (leBytes 1 (b2n link + 2 * b2n pin))

/-- A dual-active interval starts with the partner's ACTIVE heartbeat and ends when either unit stops being ACTIVE
(R326). -/
def Core.dualTrack (c : Core) : Core :=
  let both := c.role == roleActive && c.partnerRole == some roleActive
  match c.twin.dualSince, both with
  | none, true => c.modTwin (fun t => { t with dualSince := some c.ticks })
  | some t, false => (c.keepMax TWN_STAT.DUAL_ACTIVE_MAX ((c.ticks - t) / ticksPerUs)).modTwin (fun t => { t with dualSince := none })
  | some t, true => c.keepMax TWN_STAT.DUAL_ACTIVE_MAX ((c.ticks - t) / ticksPerUs)
  | none, false => c

/-- A unit acting as ACTIVE yields to a partner that is ACTIVE with a newer epoch, or the same and preferred (R326). -/
def Core.yieldActive (c : Core) : Core :=
  match c.twin.partner with
  | some p =>
    let own := c.rd TWN_STATE.TAKEOVER_EPOCH
    if c.inPair && c.role == roleActive && p.role == roleActive && p.unit != c.unit &&
        (seqNewer 16 p.epoch own || (seqSame 16 p.epoch own && p.preferred)) then
      (c.dualTrack.wr TWN_STATE.TAKEOVER_EPOCH p.epoch).becomeIneligible.dualTrack
    else c
  | none => c

/-- Own heartbeats withheld for 500 µs (R326). -/
def Core.heartbeatWithheld (c : Core) : Core :=
  match c.twin.withheld with
  | some t => if c.inPair && c.role == roleActive && decide (t + 1000 ≤ c.ticks) then c.becomeIneligible else c
  | none => c

/-! ### Heartbeats (R322, R332) -/

/-- The width of the role pulse, µs. -/
def Core.pulseWidth (c : Core) : Nat :=
  if c.role = roleActive then 1 else if c.role = roleStandby then (if c.eligible then 2 else 3) else 4

/-- HEARTBEAT_SEND: every 50 µs of machine time, both paths, unless withheld. -/
def Core.heartbeatSend (c : Core) : Core :=
  if !c.inPair || c.twin.withheld.isSome || c.held domPLT || c.held domTIM || decide (c.now % (50 * usU) ≠ 0) then c
  else
    let c := c.sendTwin 0 0x50 (tickIndex c.now)
      (leBytes 1 c.unit ++ leBytes 1 c.role ++
       leBytes 1 (b2n c.eligible + 2 * c.rd TWN_STATE.PREFERRED) ++ leBytes 1 (c.rd PLT_MODE.MODE) ++
       leBytes 2 (c.rd TWN_STATE.TAKEOVER_EPOCH) ++ zeros 2)
    c.emit (.twhb c.pulseWidth)

/-- TWN_HB is received on LP2. -/
def Core.twinHb (c : Core) (b : Bytes) : Core :=
  if !c.inPair then c
  else
    let f := fieldLE b 2 1
    let p : PartnerHb := ⟨fieldLE b 0 1, fieldLE b 1 1 % 4, bitOf f 0, bitOf f 1, fieldLE b 3 1, fieldLE b 4 2⟩
    let c := c.modTwin (fun t => { t with partner := some p, hbLink := some c.ticks })
    let c := ((c.setFlag TWN_STATE.PATH_LINK true).wr TWN_STATE.PARTNER_ROLE p.role).setFlag TWN_STATE.PARTNER_ELIG p.elig
    c.wr TWN_STATE.HB_AGE 0

/-- A pulse of `width` ns on TWHB_I: within 250 ns of 1, 2, 3 or 4 µs it is a heartbeat and states a role. -/
def Core.twinPulse (c : Core) (width : Nat) : Core :=
  let w := (width + 500) / 1000
  let near := decide (w * 1000 ≤ width + 250) && decide (width ≤ w * 1000 + 250)
  if !c.inPair || !near || w = 0 || decide (4 < w) then c
  else
    let role := if w = 1 then roleActive else if w = 4 then roleForming else roleStandby
    let c := c.modTwin (fun t => { t with
      hbPin := some c.ticks,
      partner := t.partner.map (fun (p : PartnerHb) => { p with role := role, elig := w == 2 }) })
    let c := ((c.setFlag TWN_STATE.PATH_PIN true).wr TWN_STATE.PARTNER_ROLE role).wr TWN_STATE.PARTNER_ELIG (if w = 2 then 1 else 0)
    c.wr TWN_STATE.HB_AGE 0

/-! ### Divergence (R315, R319, R320) -/

/-- The standby becomes ineligible, on the active unit in its own account of it until the next resynchronisation, whatever
the heartbeats on their way still say; both units post TWN_DIVERGED: 0 decision digest, 1 state digest, 2 late forward. -/
def Core.diverged (c : Core) (kind tick : Nat) : Core :=
  let was := if c.role = roleStandby then c.eligible else c.role == roleActive && c.partnerElig
  if !was then c
  else
    let c := if c.role = roleStandby then c.setIneligible
      else (c.wr TWN_STATE.PARTNER_ELIG 0).modTwin (fun t => { t with resyncDue := true, partnerOut := true })
    (c.inc TWN_STAT.DIVERGENCES).post evTwnDiverged 0 (leBytes 1 kind ++ zeros 3 ++ leBytes 4 tick)

/-- A tick index lies before the present boundary's. -/
def Core.tickPast (c : Core) (t : Nat) : Bool := seqNewer 32 (tickIndex c.now) t
/-- A tick index has been reached. -/
def Core.tickReached (c : Core) (t : Nat) : Bool := c.tickPast t || seqSame 32 (tickIndex c.now) t

/-- A forwarded input or command came after its admission tick (R315). -/
def Core.lateForward (c : Core) (t : Nat) : Core :=
  if c.tickPast t then (c.inc TWN_STAT.LATE_FWD).diverged 2 t else c

/-- The decision digest of one channel's part: gate word, power word, BWK_STATE STATE, SEQ_OUT, TILE_INDEX, RECORD_INDEX. -/
def Core.digestChan (c : Core) (ch gate power : Nat) : Bytes :=
  leBytes 1 gate ++ leBytes 2 power ++ leBytes 1 (c.rd BWK_STATE.STATE ch) ++ leBytes 1 (c.rd RFX_STATE.SEQ_OUT ch) ++
  leBytes 4 (c.rd SEQ_TILE_POS.TILE_INDEX ch) ++ leBytes 1 (c.rd SEQ_TILE_POS.RECORD_INDEX ch)

/-- The decision digest is formed at the present boundary and sent (R319). -/
def Core.sendDecision (c : Core) (chans : Bytes) : Core :=
  if !c.inPair || decide (c.role < roleActive) then c
  else
    let d := crc32c (chans ++ leBytes 1 (c.rd PLT_MODE.MODE) ++ leBytes 1 (c.rd PLT_MODE.PHASE))
    let t := tickIndex c.now
    let c := c.modTwin (fun w => { w with ownDec := w.ownDec.drop (w.ownDec.length - 7) ++ [(t, d)] })
    c.sendTwin 0 0x53 t (leBytes 4 d ++ zeros 4)

/-- A reservation in the state digest. -/
def resvBytes (r : Resv) : Bytes :=
  leBytes 2 r.g ++ leBytes 4 r.id ++ boxBytes r.box ++ boxBytes r.zone ++ leBytes 1 (b2n r.border + 2 * b2n r.pending) ++
  leBytes 2 r.reqId

/-- The content of the state digest (R319). -/
def Core.stateDigest (c : Core) : Nat :=
  let chans := (List.range 64).flatMap (fun ch =>
    leBytes 2 (c.rd RFX_STATE.BASE ch) ++ leBytes 4 (c.rd RFX_STATE.INTEG ch) ++ leBytes 1 (c.rd RFX_STATE.RUNG ch) ++
    leBytes 2 (c.rd GAT_TRIM_STATE.K_NOW ch))
  let adp := (List.range 64).flatMap (fun ch => leBytes 1 (c.rd ADP_STATE.STATE ch) ++ leBytes 2 (c.rd ADP_STATE.QUEUED ch))
  let seqs := c.ports.flatMap (fun q => leBytes 2 q.txTick ++ q.txCtl.flatMap (fun e => leBytes 2 e.1 ++ leBytes 2 e.2)) ++
    (c.casc.tx.filter (fun e => decide (e.1 < linkKey 3 0))).flatMap (fun e => leBytes 2 e.2)
  crc32c (chans ++ c.bwk.table.flatMap resvBytes ++ adp ++ seqs ++ c.pilot.queue.flatMap (fun s => leBytes 2 s.id))

/-- STATE_DIGEST: at each 1 ms boundary. -/
def Core.stateDigestSend (c : Core) : Core :=
  if !c.inPair || decide (c.role < roleActive) || decide (c.now % (1000 * usU) ≠ 0) || c.held domPLT then c
  else
    let t := tickIndex c.now
    let d := c.stateDigest
    let c := c.modTwin (fun w => { w with ownState := w.ownState.filter (fun e => e.1 != t) ++ [(t, d)] })
    c.sendTwin 1 0x54 t (leBytes 4 d ++ zeros 4)

/-- The partner's digests. -/
def Core.twinTick (c : Core) (tag d : Nat) : Core :=
  c.modTwin (fun w => { w with partDec := w.partDec.drop (w.partDec.length - 7) ++ [(tag, d)] })
def Core.twinDigest (c : Core) (tag d : Nat) : Core :=
  c.modTwin (fun w => { w with partState := w.partState.drop (w.partState.length - 3) ++ [(tag, d)] })

def findDigest (l : List (Nat × Nat)) (t : Nat) : Option Nat := (l.find? (fun e => e.1 == t)).map Prod.snd

/-- The decision digest of T_k is compared at T_{k+2}, a state digest when both are there, at the latest 200 µs after its
boundary; a missing one counts while heartbeats arrive (R319). -/
def Core.compareDigests (c : Core) : Core :=
  if !c.inPair || decide (c.role < roleActive) then c
  else
    let t := tickIndex (c.now - 2 * tickU)
    let c := match findDigest c.twin.ownDec t with
      | none => c
      | some d =>
        match findDigest c.twin.partDec t with
        | some e => if d = e then c else c.diverged 0 t
        | none => if c.hears then c.diverged 0 t else c
    match c.twin.ownState with
    | [] => c
    | (t, d) :: rest =>
      let drop := c.modTwin (fun w => { w with ownState := rest })
      match findDigest c.twin.partState t with
      | some e => if d = e then drop else drop.diverged 1 t
      | none =>
        if seqNewer 32 (tickIndex c.now) ((t + 399) % 2 ^ 32) then (if c.hears then drop.diverged 1 t else drop) else c

/-! ### Forwarded inputs (R315) -/

/-- TWN_INPUT is received: kept for its admission tick; a late one is counted. A forwarded trip is latched at arrival. -/
def Core.twinInput (c : Core) (tag : Nat) (b : Bytes) : Core :=
  if !c.inPair then c
  else
    let kind := fieldLE b 0 1
    let data := b.drop 4
    if kind = 2 then
      let cause := fieldLE data 0 1 / 16 % 8
      if c.rd SAF_STATUS.CAUSE % 8 = 0 ∧ cause ≠ 0 then
        c.tripCause (if bitOf cause 0 then 0 else if bitOf cause 1 then 1 else 2) 0
      else c
    else (c.modTwin (fun t => { t with inputs := t.inputs ++ [⟨tag, kind, data⟩] })).lateForward tag

/-- One forwarded input is admitted. Escalations come back to be acted on with those of the boundary. -/
def Core.admitInput (c : Core) (i : FwdInput) : Core :=
  match i.kind with
  | 0 => c.trimRecord i.data
  | 1 => c
  | 3 =>
    let k := if fieldLE i.data 0 1 = 1 then fieldLE i.data 1 1 % 64 else 64 + fieldLE i.data 1 1 % 4
    (c.adoptLife k (fieldLE i.data 4 4) (fieldLE i.data 8 4) (fieldLE i.data 12 4)).chargeLife k (fieldLE i.data 16 4)
  | _ => c

/-- At a tick boundary: admitted inputs, and the escalations raised or admitted there. In a pair an escalation raised here
is forwarded and waits with its partner for the admission tick; interlocks act at once (R315). -/
def Core.twinEscalations (c : Core) : Core :=
  if !c.inPair then c.actEscalations
  else
    let own := c.escSafe.filter (fun s => s != evSafetyTrip)
    let trips := c.escSafe.filter (fun s => s == evSafetyTrip)
    let holds := c.escHold
    let c := { c with escSafe := trips, escHold := [] }
    let c := own.foldl (fun c s => c.twinForward 1 (leBytes 2 s ++ [1#8, 0#8])) c
    let c := holds.foldl (fun c s => c.twinForward 1 (leBytes 2 s ++ zeros 2)) c
    let due := c.twin.inputs.filter (fun i => c.tickReached i.tick)
    let c := c.modTwin (fun t => { t with inputs := t.inputs.filter (fun i => !c.tickReached i.tick) })
    let c := due.foldl (fun c i => c.admitInput i) c
    let esc := due.filter (fun i => i.kind == 1)
    let safe := (esc.filter (fun i => fieldLE i.data 2 1 == 1)).map (fun i => fieldLE i.data 0 2)
    let hold := (esc.filter (fun i => fieldLE i.data 2 1 == 0)).map (fun i => fieldLE i.data 0 2)
    ({ c with escSafe := c.escSafe ++ safe, escHold := hold }).actEscalations

/-- TWN_CMD is received: the command waits for its admission tick (R316). -/
def Core.twinCmd (c : Core) (tag : Nat) (b : Bytes) : Core :=
  if !c.inPair || decide (2 < fieldLE b 0 1) || decide (7 < fieldLE b 1 1) then c
  else (c.modTwin (fun t => { t with cmds := t.cmds ++ [⟨tag, fieldLE b 0 1, fieldLE b 1 1, b.drop 4⟩] })).lateForward tag

/-! ### TIME_SRC (R324, R194) -/

/-- A new active unit writes TIME_SRC on every node at the next control tick boundary; the standby of an exchange keeps its
SEQ series in step (R317). -/
def Core.timeSrcWrite (c : Core) : Core :=
  if !c.twin.timeSrcDue then c
  else
    let c := c.modTwin (fun t => { t with timeSrcDue := false })
    c.forEach 18 (fun c p => 
      if !c.isUp p then c
      else if c.actsActive then c.sendCfg p (c.firstNode p) false true 0 false (cfgPayload 4 [c.unit])
      else c.skipCtl p (c.firstNode p))

/-! ### Resynchronisation (R321) -/

/-- The field that a register key names. -/
def fieldOfKey (k : Nat) : Option Field :=
  match findObj (k / 2 ^ 32) with
  | some d => d.fields.find? (fun f => f.lsb == k % 2 ^ 16)
  | none => none

/-- The objects that a snapshot holds whole beside those it holds by their Applies value. -/
def snapObjects : List Nat := [0x0101, 0x0102, 0x0103, 0x0106, 0x1002, 0x1103, 0x1305, 0x1211, 0x1503, 0x1510, 0x1511]

/-- A register belongs to the snapshot (R321). -/
def snapKey (k : Nat) : Bool :=
  match fieldOfKey k with
  | none => false
  | some f =>
    snapObjects.contains f.obj ||
    (match f.applies with
     | .tick | .vectorStart | .tideMark | .slack => true
     | _ => false) ||
    [CON_WINDOW.LIFE_EPOCH, CON_WINDOW.LEFT_MAIN, CON_WINDOW.LEFT_HITS, CON_WINDOW.PENDING,
     CON_BLADE.LIFE_EPOCH, CON_BLADE.LEFT_MAIN, CON_BLADE.LEFT_HITS, CON_BLADE.PENDING].contains f

def snapSetObj (o : SnapObj) : SetObj := ⟨o.obj.toNat, o.inst.toNat, o.image, o.data⟩
def snapCommSet (c : Core) (s : SnapSet) : CommSet := ⟨s.id.toNat, s.objs.map snapSetObj, s.notBefore, c.ticks, s.manifest⟩

/-- A sparse store put together again in its canonical form. -/
def rebuildKv (l : List (Nat × Nat)) : Kv Nat := l.foldl (fun s e => Kv.put 0 s e.1 e.2) []

/-- The standby adopts a snapshot. -/
def Core.adoptSnapshot (c : Core) (s : Snapshot) : Core :=
  let c := { c with regs := Kv.dropWhere snapKey c.regs, psets := rebuildKv s.psets, charts := rebuildKv s.charts }
  let c := (s.regs.filter (fun e => snapKey e.1)).foldl (fun c e =>
    match fieldOfKey e.1 with
    | some f => c.wr f e.2 (e.1 / 2 ^ 16 % 2 ^ 16)
    | none => c) c
  let c := c.modPilot (fun p => { p with
    staged := s.staged.map snapSetObj, queue := s.queue.map (snapCommSet c), holderSince := c.ticks })
  let c := s.portSeq.foldl (fun (c : Core) (e : Nat × Nat × Nat) =>
    c.modPort e.1 (fun q => if e.2.1 = 0xFFFF then { q with txTick := e.2.2 % 65536 }
      else { q with txCtl := Kv.put 0 q.txCtl e.2.1 (e.2.2 % 65536) })) c
  let c := { c with casc := { c.casc with
    tx := s.linkSeq.foldl (fun (l : Kv Nat) (e : Nat × Nat) => Kv.put 0 l e.1 (e.2 % 65536)) c.casc.tx } }
  let c := c.setBwk { c.bwk with leadTable := s.border.map (fun e => borderReqOf e.1 e.2) }
  c.forEach 21 (fun c p => c.modPort p (fun q => { q with resyncTick := true, sentTo := [] }))

/-- TWN_SYNC: a block of the snapshot arrives at the standby. The active unit sends one only to a standby that it holds
ineligible, so an eligible one learns here that a forward came too late (R315). -/
def Core.twinSync (c : Core) (b : Bytes) : Core :=
  if !c.inPair || c.role != roleStandby then c
  else (c.diverged 2 (tickIndex c.now)).modTwin (fun t => { t with
    total := fieldLE b 4 4, blocks := t.blocks.filter (fun x => x.1 != fieldLE b 0 4) ++ [(fieldLE b 0 4, b.drop 8)] })

/-- The bytes of block `n` of a snapshot. -/
def syncBlock (b : Bytes) (n : Nat) : Bytes := leBytes 4 (4096 * n) ++ leBytes 4 b.length ++ slice b (4096 * n) 4096

/-- A resynchronisation takes place in SLACK, and in STANDBY where a pair has just formed (R313, R321). -/
def Core.resyncPlace (c : Core) : Bool := decide (c.mode = .slack) || decide (c.mode = .standby)

/-- The active unit sends its snapshot in TWN_SYNC blocks (R321), all at once. -/
def Core.resyncSend (c : Core) : Core :=
  if !c.inPair || c.role != roleActive || !c.twin.resyncDue || c.twin.syncSent || !c.hears || !c.resyncPlace || !c.isUp lp2 then c
  else
    let b := Config.snapshot c.ticks
    let c := c.modTwin (fun t => { t with syncSent := true })
    (List.range ((b.length + 4095) / 4096)).foldl (fun c n => c.sendTwin 1 0x55 n (syncBlock b n)) c

/-- RESYNC_BOUNDARY: at the named boundary the standby adopts the snapshot and becomes eligible; the active unit counts
it too. -/
def Core.resyncBoundary (c : Core) (s : Snapshot) : Core :=
  if !c.inPair || !c.twin.resyncDue || !c.resyncPlace || !c.isUp lp2 then c
  else if c.role = roleActive then
    let c := (c.inc TWN_STAT.RESYNCS).modTwin (fun t => { t with
      resyncDue := false, partnerOut := false, syncSent := false })
    c.post evTwnResynced 0 (leBytes 4 s.bytes.toNat)
  else if c.role == roleStandby && (match c.twin.boundary with | some t => c.tickReached t | none => false) then
    let c := c.modTwin (fun t => { t with blocks := [], boundary := none })
    let c := (c.adoptSnapshot s).setEligible.inc TWN_STAT.RESYNCS
    c.post evTwnResynced 0 (leBytes 4 s.bytes.toNat)
  else c

/-- A resynchronisation that the Slack's end overtook is abandoned (R321). -/
def Core.resyncAbandon (c : Core) : Core :=
  if c.inPair && decide (c.mode = .expose) && 
      (!c.twin.blocks.isEmpty || c.twin.boundary.isSome || c.twin.syncSent) then
    (c.inc TWN_STAT.RESYNC_ABANDONED).modTwin (fun t => { t with blocks := [], boundary := none, syncSent := false })
  else c

/-! ### Exchanges of roles (R327) -/

/-- The first control tick boundary at least 200 µs on, as a tick index. -/
def Core.exchangeTick (c : Core) : Nat := tickIndex ((c.now + 200 * usU + 10 * usU - 1) / (10 * usU) * (10 * usU))

def Core.nextEpoch (c : Core) : Nat := (c.rd TWN_STATE.TAKEOVER_EPOCH + 1) % 65536

/-- TWN_ROLE frame. -/
def Core.sendRole (c : Core) (kind tick epoch : Nat) : Core :=
  c.sendTwin 0 0x56 tick (leBytes 1 kind ++ [0#8] ++ leBytes 2 epoch ++ zeros 4)

/-- TAKEBACK_PROPOSAL: the preferred standby has been eligible for TAKEBACK_HOLDOFF. -/
def Core.takebackProposal (c : Core) : Core :=
  match c.twin.eligSince with
  | some t =>
    if c.inPair && c.flag TWN_CONFIG.TAKEBACK_EN && c.flag TWN_STATE.PREFERRED && c.role == roleStandby && c.eligible &&
        c.twin.exchange.isNone && c.heardBy c.twin.hbLink &&
        decide (t + c.rd TWN_CONFIG.TAKEBACK_HOLDOFF * 1000 * ticksPerMs ≤ c.ticks) then
      let k := c.exchangeTick
      (c.modTwin (fun w => { w with exchange := some (k, c.nextEpoch, false) })).sendRole 0 k c.nextEpoch
    else c
  | none => c

/-- TWN_ROLE is received: a proposal is accepted or refused, an answer settles the exchange, a resync boundary is kept. -/
def Core.twinRole (c : Core) (tag : Nat) (b : Bytes) : Core :=
  let epoch := fieldLE b 2 2
  if !c.inPair then c
  else match fieldLE b 0 1 with
    | 0 =>
      if c.role = roleActive ∧ c.partnerElig ∧ !c.tickReached tag ∧ c.twin.exchange.isNone then
        (c.modTwin (fun w => { w with exchange := some (tag, epoch, true) })).sendRole 1 tag epoch
      else c.sendRole 2 tag epoch
    | 1 => c.modTwin (fun w => { w with exchange := w.exchange.map (fun e => (e.1, e.2.1, true)) })
    | 2 => (c.modTwin (fun w => { w with exchange := none })).completeLong (fun l => l.kind == .handover) (errReply stBadMode)
    | 3 => c.modTwin (fun w => { w with boundary := some tag })
    | _ => c

/-- ROLE_EXCHANGE: at the agreed boundary both units change roles; one that was never agreed lapses. -/
def Core.roleExchange (c : Core) : Core :=
  match c.twin.exchange with
  | some (tick, epoch, agreed) =>
    if !c.inPair || !c.tickReached tick then c
    else
      let c := c.modTwin (fun w => { w with exchange := none })
      if !agreed then c
      else
        let c := (c.wr TWN_STATE.TAKEOVER_EPOCH epoch).inc TWN_STAT.TAKEBACKS
        let c := if c.role = roleActive then ((c.setRole roleStandby).setEligible).modTwin (fun w => { w with timeSrcDue := true })
          else c.becomeActive
        let c := c.modTwin (fun w => { w with
          partner := w.partner.map (fun (p : PartnerHb) => { p with
            role := if c.role = roleActive then roleStandby else roleActive, epoch := epoch }) })
        let c := c.post evTwnTakeback 0 (leBytes 2 epoch)
        c.completeLong (fun l => l.kind == .handover) okReply
  | none => c

/-- TWN_HANDOVER (R327): both units admit it, and agree on the boundary. -/
def Core.cmdHandover (c : Core) : Core × Answer :=
  let elig := (c.role == roleActive && c.partnerElig) || (c.role == roleStandby && c.eligible)
  if !c.inPair || !elig || !c.flag TWN_STATE.PATH_LINK then (c, err stBadMode)
  else (c.modTwin (fun w => { w with exchange := some (c.exchangeTick, c.nextEpoch, true) }), .wait .handover)

/-! ### At every tick -/

/-- HB_AGE and ELIG_FOR. -/
def Core.twinShow (c : Core) : Core :=
  let last := match c.twin.hbLink, c.twin.hbPin with
    | some a, some b => some (max a b)
    | some a, none => some a
    | none, some b => some b
    | none, none => none
  let c := match last with
    | some t => c.wr TWN_STATE.HB_AGE (satNat 16 ((c.ticks - t) / ticksPerUs))
    | none => c
  match c.twin.eligSince with
  | some t => c.wr TWN_STATE.ELIG_FOR (satNat 32 ((c.ticks - t) / (1000 * ticksPerMs)))
  | none => c

/-- The pair's part of a tick boundary beside escalations and digests. -/
def Core.twinAtTick (c : Core) : Core :=
  if !c.inPair then c
  else (c.formPair.soloTimeout.yieldActive.partnerFailed.pathAlarm.heartbeatWithheld.roleExchange.dualTrack.resyncAbandon.resyncSend
    |>.takebackProposal).twinShow

end Sys2Proof.Machine
end

