-- ==== Sys2Proof/Machine/Cascade.lean ====
section
/-!
DEFINITION. Machine/Cascade.lean: cascades (R328 to R331): heartbeats and routes, FORMED, readiness and announced
boundaries, CSC_HOLD, lost members and a lost lead.
-/
namespace Sys2Proof.Machine

def Core.modCasc (c : Core) (f : Casc → Casc) : Core := { c with casc := f c.casc }

/-- A member was heard on either cascade link port. -/
def Core.heard (c : Core) (far : Nat) : Bool := c.heardOn lp0 far || c.heardOn lp1 far

/-- A member has been heard at some time, since FAB's release. -/
def Core.everHeard (c : Core) (far : Nat) : Bool :=
  Kv.get 0 c.casc.heard (hopKey lp0 far) != 0 || Kv.get 0 c.casc.heard (hopKey lp1 far) != 0

/-- Those this device exchanges CSC_HB with: the lead hears every member, a member its lead. -/
def Core.hbPeers (c : Core) : List Nat := if c.isLead then c.otherMembers else [0]

/-! ### Heartbeats and FORMED (R328, R329) -/

/-- One copy of a CSC_HB to a member out of a port; only the active unit of a pair originates it (R328). -/
def Core.cscHbCopy (c : Core) (seq far p : Nat) : Core :=
  if !c.actsActive then c else
  let body := [0#8] ++ leBytes 1 (if c.isLead then c.rd CSC_STATE.FORMED else 0) ++ zeros 2
  c.emitLink p 1 0x58 (linkKey 2 far) (far * 4096) seq (tickIndex c.now) (c.cascId * 4096) body

/-- CSC_HB_SEND: every 50 µs of machine time, to each peer, out of both link ports, so that each member learns the hops both
ways. The standby of a pair keeps the SEQ series in step. -/
def Core.cscHbSend (c : Core) : Core :=
  if !c.inCascade || c.held domFAB || c.held domTIM || decide (c.now % (50 * usU) ≠ 0) then c
  else c.hbPeers.foldl (fun (c : Core) (far : Nat) =>
    let (seq, c) := c.nextLinkSeq (linkKey 2 far)
    (c.cscHbCopy seq far lp0).cscHbCopy seq far lp1) c

/-- What a CSC_HB teaches: the sender was heard over that port, and at how many hops. -/
def Core.cscLearn (c : Core) (p src hops : Nat) : Core :=
  c.modCasc (fun k => { k with
    hops := Kv.put 0xFF k.hops (hopKey p src) hops,
    heard := Kv.put 0 k.heard (hopKey p src) (c.ticks + 1),
    lostPosted := k.lostPosted.filter (fun i => i != src),
    leadLost := if src = 0 then false else k.leadLost })

/-- FORMED is set and reported. -/
def Core.setFormed (c : Core) : Core :=
  if c.flag CSC_STATE.FORMED then c
  else (c.setFlag CSC_STATE.FORMED true).post evCscFormed 0 (leBytes 2 (c.rd CSC_CONFIG.MEMBERS))

/-- CSC_ANNOUNCE frames to every member. -/
def Core.sendAnnounce (c : Core) (kind tick layer : Nat) : Core :=
  c.otherMembers.foldl (fun (c : Core) (i : Nat) =>
    c.sendLink 2 1 0x5A i tick (leBytes 1 kind ++ zeros 3 ++ leBytes 4 layer)) c

/-- The lead sets FORMED and announces it once every member has been heard (R329). -/
def Core.formCascade (c : Core) : Core :=
  if c.inCascade && c.isLead && bitOf (c.rd CSC_CONFIG.MEMBERS) 0 && !c.flag CSC_STATE.FORMED && c.otherMembers.all c.everHeard then
    c.setFormed.sendAnnounce 3 (tickIndex c.now) 0
  else c

/-- The link port over which a CSC_HB came: a copy out of lane 1 of LP2 came over the partner's. -/
def Core.arrivalPort (c : Core) (p : Nat) : Nat := if p = lp2 then (37 - c.ownLink) else p

/-- CSC_HB is received (R329): every good copy teaches its hops; the accepted one may form the cascade, or tell a member
that it is formed. -/
def Core.cscHb (c : Core) (p : Nat) (h : FrameHdr) (b : Bytes) : Core :=
  let src := h.aux.toNat / 4096
  let good := !c.held domFAB && c.isUp p && frameOnPort 0x58 p && frameLenOk 0x58 b && hdrOk p h &&
    h.node.toNat / 4096 == c.cascId
  let c := if good then c.cscLearn (c.arrivalPort p) src (fieldLE b 0 1 + 1) else c
  c.rxFrame p 1 0x58 h b (fun c =>
    let c := if src = 0 ∧ bitOf (fieldLE b 1 1) 0 ∧ !c.isLead then c.setFormed else c
    c.formCascade)

/-! ### Readiness and announced boundaries (R330) -/

/-- This member's readiness. -/
def Core.ownReady (c : Core) : CscReady :=
  let held := decide (c.mode = .hold) && c.rd PLT_MODE.PHASE == phHeld
  match c.pilot.queue.head? with
  | some s =>
    match s.manifest with
    | some m => ⟨manLayer m, c.entryOk m && c.setMature s, c.layerDone, held⟩
    | none => ⟨0, false, c.layerDone, held⟩
  | none => ⟨0, false, c.layerDone, held⟩

/-- CSC_READY to the lead, at every control tick boundary. -/
def Core.cscReadySend (c : Core) : Core :=
  if !c.inCascade || c.isLead then c
  else
    let r := c.ownReady
    c.sendLink 2 1 0x59 0 (tickIndex c.now)
      (leBytes 4 r.layer ++ leBytes 1 (b2n r.tide + 2 * b2n r.ended + 4 * b2n r.held) ++ zeros 3)

/-- Every member's readiness satisfies a test. -/
def Core.allReady (c : Core) (p : CscReady → Bool) : Bool :=
  p c.ownReady && c.otherMembers.all (fun i => c.casc.ready.any (fun r => r.1 == i && p r.2))

/-- The first control tick boundary at least 100 µs on. -/
def Core.announceTick (c : Core) : Time := (c.now + 100 * usU + 10 * usU - 1) / (10 * usU) * (10 * usU)

/-- A device learns of an announced boundary; nodes that a layer's set changes are told of its tide mark (R193). -/
def Core.takeAnnounce (c : Core) (kind tick layer : Nat) (t : Time) : Core :=
  let c := (c.wr CSC_STATE.LAST_ANNOUNCE tick).modCasc (fun k => { k with announced := some (kind, tick, layer) })
  match kind, c.pilot.queue.head? with
  | 0, some s =>
    if (s.manifest.map manLayer) == some layer && !(c.nodeChanges s).isEmpty then c.sendNodeChanges s t else c
  | _, _ => c

/-- The lead announces the boundary that every member is ready for, one at a time. -/
def Core.leadAnnounce (c : Core) : Core :=
  if !c.inCascade || !c.isLead || c.casc.announced.isSome then c
  else
    let own := c.ownReady
    let kind : Option Nat :=
      if c.allReady (fun r => r.held) && c.anyLong (fun k => k == .resume) then some 2
      else if c.allReady (fun r => r.ended) then some 1
      else if c.flag CSC_STATE.FORMED && c.allReady (fun r => r.tide && r.layer == own.layer) then some 0
      else none
    match kind with
    | some k =>
      let t := c.announceTick
      let c := c.sendAnnounce k (tickIndex t) own.layer
      (c.takeAnnounce k (tickIndex t) own.layer t).modCasc (fun q => { q with ready := [] })
    | none => c

/-- CSC_READY is received by the lead. -/
def Core.cscReady (c : Core) (src : Nat) (b : Bytes) : Core :=
  if !c.inCascade || !c.isLead then c
  else
    let f := fieldLE b 4 1
    let c := c.modCasc (fun k => { k with
      ready := k.ready.filter (fun r => r.1 != src) ++ [(src, ⟨fieldLE b 0 4, bitOf f 0, bitOf f 1, bitOf f 2⟩)] })
    c.leadAnnounce

/-- The instant of a tick index near the present. -/
def Core.timeOfIndex (c : Core) (t : Nat) : Time :=
  let k := c.now / tickU
  let d := (t + 2 ^ 32 - k % 2 ^ 32) % 2 ^ 32
  if d < 2 ^ 31 then (k + d) * tickU else (k - (2 ^ 32 - d)) * tickU

/-- CSC_ANNOUNCE is received by a member. -/
def Core.cscAnnounce (c : Core) (tag : Nat) (b : Bytes) : Core :=
  let kind := fieldLE b 0 1
  if !c.inCascade || c.isLead || decide (3 < kind) then c
  else if kind = 3 then c.setFormed
  else c.takeAnnounce kind tag (fieldLE b 4 4) (c.timeOfIndex tag)

/-- ANNOUNCED_BOUNDARY: at the control tick boundary named, the tide mark, the start of SLACK or the restart happens here,
unless this member's own conditions no longer hold (R234, R330). -/
def Core.announcedBoundary (c : Core) : Core :=
  match c.casc.announced with
  | some (kind, tick, layer) =>
    if !c.tickReached tick || decide (c.now % (10 * usU) ≠ 0) then c
    else
      let c := c.modCasc (fun k => { k with announced := none, ready := [] })
      match kind with
      | 0 =>
        if (c.pilot.queue.head?.bind (fun s => s.manifest.map manLayer)) == some layer then c.tideMark true else c
      | 1 => if c.layerDone then c.layerEnd else c
      | _ => if c.mode = .hold ∧ c.rd PLT_MODE.PHASE = phHeld then c.resumeNow else c
  | none => c

/-! ### HOLD, loss of a member and of the lead -/

/-- CSC_HOLD is received: the member holds at end at the tick boundary at which the frame is latched. -/
def Core.cscHold (c : Core) (b : Bytes) : Core :=
  if !c.inCascade then c else c.modCasc (fun k => { k with holdLatched := some (fieldLE b 0 2) })

/-- The latched CSC_HOLD is acted on; it is not sent on again. -/
def Core.holdLatch (c : Core) : Core :=
  match c.casc.holdLatched with
  | some src =>
    let c := c.modCasc (fun k => { k with holdLatched := none })
    if c.mode = .expose ∨ c.mode = .slack ∨ c.mode = .hold then c.dropLeave.enterHold hcEscalation src else c.noteHold hcEscalation src
  | none => c

/-- CSC_MEMBER_LOST: the lead has not heard a member it had heard for 151 µs. -/
def Core.memberLost (c : Core) : Core :=
  if !c.inCascade || !c.isLead then c
  else
    let gone := c.otherMembers.filter (fun i => c.everHeard i && !c.heard i && !c.casc.lostPosted.contains i)
    gone.foldl (fun (c : Core) (i : Nat) =>
      let c := c.modCasc (fun k => { k with lostPosted := k.lostPosted ++ [i], ready := k.ready.filter (fun r => r.1 != i) })
      let c := c.post evCscMemberLost 0 (leBytes 1 i)
      (c.sendCscHold evCscMemberLost false).raiseHold evCscMemberLost) c

/-- CSC_LEAD_LOST: a member has not heard the lead it had heard for 151 µs. -/
def Core.leadLost (c : Core) : Core :=
  if !c.inCascade || c.isLead || !c.everHeard 0 || c.heard 0 || c.casc.leadLost then c
  else ((c.modCasc (fun k => { k with leadLost := true })).post evCscLeadLost 0).raiseHold evCscLeadLost

/-- CSC_STATE as shown: LEAD and SEEN. -/
def Core.cscShow (c : Core) : Core :=
  let c := c.setFlag CSC_STATE.LEAD c.isLead
  c.wr CSC_STATE.SEEN (c.otherMembers.foldl (fun a i => if c.heard i then a + 2 ^ i else a) 0)

/-- The cascade's part of a tick boundary. -/
def Core.cascAtTick (c : Core) : Core := if c.inCascade then c.memberLost.leadLost.cscShow else c.setFlag CSC_STATE.LEAD c.isLead

end Sys2Proof.Machine
end

