-- ==== Sys2Proof/Machine/Events.lean ====
section
/-!
DEFINITION. Machine/Events.lean: the event ring, its interrupts (R223 to R226) and the status mirror (R464, R465).
-/
namespace Sys2Proof.Machine

/-! ### The event ring (R223, R224) -/

/-- A PCIe host has a session open: master 0 or 1 (R198, R223). -/
def Core.pcieSession (c : Core) : Bool := c.epoch 0 != 0 || c.epoch 1 != 0

/-- Records in the ring that are not consumed, free-running counters modulo 2³². -/
def Core.evWaiting (c : Core) : Nat := (c.rd BAR0.EV_PROD + 2 ^ 32 - c.rd BAR0.EV_CONS) % 2 ^ 32

/-- The 64 bytes of an event record (R224) for an instant. -/
def Core.eventBytes (c : Core) (e : Ev) (t : Time) : Bytes :=
  padTo 64 (leBytes 2 e.code ++ leBytes 2 e.inst ++ leBytes 4 (c.rd BAR0.EV_PROD) ++ leBytes 8 (timeSec t) ++
    leBytes 4 (timeNs t) ++ leBytes 2 (timeFrac t) ++ leBytes 1 c.unitId ++ zeros 1 ++ e.data)

/-- The record in the ring with a sequence number's place. -/
def Core.ringRecordAt (c : Core) (seq : Nat) : Bytes := Kv.get (zeros 64) c.pilot.ring (seq % 1024)

/-- Vector 8 is raised, at most once per EV_HOLDOFF (R226). -/
def Core.eventMessage (c : Core) : Core :=
  if c.ticks < c.pilot.holdoffUntil then c.modPilot (fun p => { p with eventSince := true })
  else
    let c := c.modPilot (fun p => { p with
      eventSince := false, holdoffUntil := c.ticks + c.rd PLT_EVQ.EV_HOLDOFF * ticksPerUs })
    c.msix 8

/-- EV_HOLDOFF has ended: vector 8 goes again if events entered meanwhile (R226). -/
def Core.holdoffExpiry (c : Core) : Core :=
  if c.pilot.eventSince && decide (c.pilot.holdoffUntil ≤ c.ticks) then c.eventMessage else c

/-- The event is sent once to the peer of the Ethernet session, by the active unit (R229, R325). -/
def Core.eventDatagram (c : Core) (bytes : Bytes) : Core :=
  match c.pilot.ethPeer with
  | some (ip, port) =>
    if c.actsActive && !c.held domHBR && c.epoch 2 != 0 then c.emit (.datagram ip port (udpBytes 2 0 bytes)) else c
  | none => c

/-- One event enters the ring (R223): at a full ring it is dropped while a session is open, else the oldest record
goes. -/
def Core.ringPut (c : Core) (e : Ev) : Core :=
  let t := e.at_.getD c.now
  let c := c.logOffer ⟨e.code, e.inst, t, e.data⟩
  let c := if e.code = evModeChanged then
      (c.wr BAR0.INT_STATUS (orBit (c.rd BAR0.INT_STATUS) 1)).msix 9
    else c
  let full := decide (1024 ≤ c.evWaiting)
  if full && c.pcieSession then
    (c.inc PLT_EVQ.EV_LOST).modPilot (fun p => { p with lostNew := p.lostNew + 1 })
  else
    let bytes := c.eventBytes e t
    let seq := c.rd BAR0.EV_PROD
    let c := if full then c.wr BAR0.EV_CONS ((c.rd BAR0.EV_CONS + 1) % 2 ^ 32) else c
    let c := c.modPilot (fun p => { p with ring := Kv.put (zeros 64) p.ring (seq % 1024) bytes })
    let c := c.wr BAR0.EV_PROD ((seq + 1) % 2 ^ 32)
    let c := c.wr BAR0.INT_STATUS (orBit (c.rd BAR0.INT_STATUS) 0)
    c.eventMessage.eventDatagram bytes

/-- Events were lost and there is room again: EVQ_OVERFLOW reports how many (R223). -/
def Core.reportLost (c : Core) : Core :=
  if c.pilot.lostNew = 0 ∨ (1024 ≤ c.evWaiting ∧ c.pcieSession) then c
  else
    let n := c.pilot.lostNew
    let c := c.modPilot (fun p => { p with lostNew := 0 })
    c.ringPut ⟨evEvqOverflow, 0, none, leBytes 4 (satNat 32 n), c.ticks⟩

/-- At a control tick boundary the pilot posts the events raised before that boundary, in order. -/
def Core.postEvents (c : Core) : Core :=
  let due := c.events.filter (fun e => decide (e.tick < c.ticks))
  due.foldl Core.ringPut ({ c with
    events := c.events.filter (fun e => decide (c.ticks ≤ e.tick)) }).reportLost

/-- Host software writes EV_CONS (R199): ignored outside EV_PROD − 1,024 to EV_PROD. The events lost before are reported
at the next control tick. -/
def Core.evConsWrite (c : Core) (v : Nat) : Core :=
  if c.held domPLT ∨ 1024 < (c.rd BAR0.EV_PROD + 2 ^ 32 - v % 2 ^ 32) % 2 ^ 32 then c else c.wr BAR0.EV_CONS v

/-- The mask bit of a vector is written in the MSI-X table (R226): a message held back is sent when it is unmasked. -/
def Core.msixMask (c : Core) (v : Nat) (on : Bool) : Core :=
  if on then c.modPilot (fun p => { p with msixMasked := orBit p.msixMasked v })
  else
    let was := bitOf c.pilot.msixHeld v
    let c := c.modPilot (fun p => { p with
      msixMasked := if bitOf p.msixMasked v then p.msixMasked - 2 ^ v else p.msixMasked,
      msixHeld := if bitOf p.msixHeld v then p.msixHeld - 2 ^ v else p.msixHeld })
    if was then c.emit (.msix v) else c

/-! ### The status mirror (R464, R465) -/

/-- TIM_NOW reads machine time as it stands (R334). -/
def Core.showNow (c : Core) : Core :=
  ((c.wr TIM_NOW.SEC (timeSec c.now)).wr TIM_NOW.NS (timeNs c.now)).wr TIM_NOW.FRAC (timeFrac c.now)

/-- The entries of the mirror: offset, object, instances, stride. -/
def mirrorEntries : List (Nat × ObjDesc × Nat × Nat) :=
  [(0x40, Obj.PLT_MODE, 1, 16), (0x50, Obj.PLT_QUEUE, 1, 16), (0x60, Obj.SEQ_LAYER_STATE, 1, 16),
   (0x70, Obj.TIM_NOW, 1, 16), (0x80, Obj.TWN_STATE, 1, 16), (0x90, Obj.SAF_STATUS, 1, 16), (0xA0, Obj.PLT_TOKEN, 1, 16),
   (0x100, Obj.ADP_STATE, 64, 4), (0x200, Obj.GAT_STATE, 64, 16), (0x600, Obj.RFX_STATE, 64, 16),
   (0xA00, Obj.BWK_STATE, 64, 16), (0xE00, Obj.SEQ_TILE_POS, 64, 8), (0x1000, Obj.MOT_STATE, 8, 32),
   (0x1100, Obj.THM_READ, 64, 8), (0x1300, Obj.STR_PORT_STATE, 21, 8)]

/-- The bytes of one entry, instances at their stride. -/
def Core.mirrorEntry (c : Core) (d : ObjDesc) (n stride : Nat) : Bytes :=
  (List.range n).flatMap (fun i => padTo stride (c.imageBytes d i))

/-- The mirror is rewritten (R464): MIR_SEQ ends on the next even value, and MIR_SEQ_END equals it. -/
def Core.refreshMirror (c : Core) : Core :=
  let c := c.showNow
  let seq := (c.pilot.mirSeq + 2) % 2 ^ 32
  let body := mirrorEntries.foldl (fun (bs : Bytes) (e : Nat × ObjDesc × Nat × Nat) =>
    padTo e.1 bs ++ c.mirrorEntry e.2.1 e.2.2.1 e.2.2.2) (leBytes 4 seq)
  c.modPilot (fun p => { p with mirror := padTo 0x1FFC body ++ leBytes 4 seq, mirSeq := seq })

end Sys2Proof.Machine
end

