-- ==== Sys2Proof/Machine/Reset.lean ====
section
/-!
DEFINITION. Machine/Reset.lean: reset domains, their release, device resets and the way to STANDBY (R420 to R432), with the
power supplies and PERST_N (R454, R456).
-/
namespace Sys2Proof.Machine

def Core.modRst (c : Core) (f : RstSt → RstSt) : Core := { c with rst := f c.rst }

/-! ### What a domain holds (R9, R420) -/

/-- The reset domain of a register's object or BAR0 word: doorbells, interrupts and the event ring lie in PLT, ID_HOST_MIB
follows the DRAM, the other BAR0 words are served from AON (R463). -/
def domainOfObj (obj : Nat) : Nat :=
  match findObj obj with
  | some d => d.domain
  | none => if 0x31000 ≤ obj ∧ obj ≤ 0x31018 then domPLT else if obj = 0x30018 then domMEM else domAON

def objOfKey (k : Nat) : Nat := k / 2 ^ 32

/-- Fields that a strap pin sets (R9, R312, R328). -/
def strapKey (k : Nat) : Bool :=
  [TWN_STATE.UNIT.key 0, TWN_STATE.PREFERRED.key 0, CSC_STATE.CASC_ID.key 0].contains k

/-- The cause latch (R431). -/
def latchKey (k : Nat) : Bool := objOfKey k == 0xA004 || k == RST_STATE.LAST_CAUSE.key 0

/-- A field read from its flash record at BOOT only (R8). -/
def bootKey (k : Nat) : Bool :=
  match fieldOfKey k with
  | some f => f.applies == .boot
  | none => false

/-- Registers of a domain take their Reset values; straps, the cause latch and what BOOT has read stay. -/
def Core.clearRegs (c : Core) (d : Nat) : Core :=
  let gone := fun k => domainOfObj (objOfKey k) == d && !strapKey k && !latchKey k && !bootKey k
  { c with
    regs := Kv.dropWhere gone c.regs,
    tickW := c.tickW.filter (fun w => domainOfObj w.1.obj != d),
    slackW := c.slackW.filter (fun w => domainOfObj w.1.obj != d) }

/-- The pilot after a reset; what it holds for the interlock block of AON stays. -/
def resetPilot (p : Pilot) : Pilot :=
  { Pilot.init with
    tripAt := p.tripAt, discSince := p.discSince, discClear := p.discClear, highSince := p.highSince,
    msixMasked := p.msixMasked }

/-- What a domain holds beside its registers. -/
def Core.clearState (c : Core) (d : Nat) : Core :=
  match d with
  | 0 => { c with
      bst := Bst.init, escHold := [], escSafe := [],
      rst := { c.rst with clkLost := [], dramTrained := false, fastRecord := false, fastDram := false, degraded := [] },
      pilot := { c.pilot with tripAt := none, discSince := none, discClear := false, highSince := c.ticks },
      hbr := { c.hbr with cal := Cal.init } }
  | 1 => { c with hbr := { Harbour.init with flash := c.hbr.flash, otp := c.hbr.otp, cal := c.hbr.cal } }
  | 2 => { c with pilot := resetPilot c.pilot, events := [] }
  | 3 => { c.emptyRings with drc := Drc.init, log := LogBook.init, rst := { c.rst with dramTrained := false, fastDram := false } }
  | 4 => { c with ports := List.replicate 21 Port.init, twin := Twin.init, casc := Casc.init }
  | 5 => { c with tim := Tim.init, now := 0 }
  | 6 => { c with img := Imaging.init }
  | 7 => { c with mot := { Axes.init with
      axes := c.mot.axes.map (fun x => { Axis.init with mflt := x.mflt }),
      incs := c.mot.incs.map (fun x => { IncIn.init with a := x.a, b := x.b, z := x.z }) } }
  | 8 => { c with lum := Lighting.init }
  | 9 => { c with seq := List.replicate 64 SeqCh.init, layer := Layer.init, bwk := Bwk.init, losses := [], psets := [],
                  charts := [], surgeOrder := 0, resWrite := 0 }
  | _ => c

def Core.clearDomain (c : Core) (d : Nat) : Core := (c.clearState d).clearRegs d

/-- What the outputs of a domain do when it enters reset (R420). -/
def Core.outputsOff (c : Core) (d : Nat) : Core :=
  match d with
  | 4 => c.forEach 21 (fun c p => (c.emit (.portIdle p)).emit (.clockStop p))
  | 5 => if c.tim.ppsAt.isSome then c.emit (.pps false) else c
  | 6 => c.forEach 8 (fun c p =>
      if c.now < (c.camPort p).pulseEnd || c.flag CAM_TRIG.POL p then c.emit (.ctrig p false 0) else c)
  | 7 =>
    let c := c.forEach 8 (fun c n => if (c.axis n).mdir then c.emit (.mdir n false) else c)
    let c := c.forEach 8 (fun c u =>
      if (c.cmp u).out || c.flag PFI_CMP.OUT_POL u then c.emit (.cmpo u 0 false 0) else c)
    c.forEach 2 (fun c o => if c.flag PFI_EMU.ENABLE o then c.emit (.emu o [(false, false, false)]) else c)
  | 8 => c.forEach 16 (fun c n => if (c.sink n).current = 0 then c else c.emit (.sink n 0 0))
  | 9 => c.forEach 64 (fun c ch => if (c.ch ch).gat.lgHigh then c.emit (.lg ch false c.now) else c)
  | _ => c

/-- A domain enters reset, unless it is there; reference captures fail with CAM. -/
def Core.enterReset (c : Core) (d : Nat) : Core :=
  if c.held d then c
  else
    let c := if d = domCAM then c.forEach 32 (fun c k => c.captureFailed k) else c
    let c := (c.outputsOff d).clearDomain d
    c.wr RST_STATE.IN_RESET (orBit (c.rd RST_STATE.IN_RESET) d)

/-- The software reset bit of a domain. -/
def Core.swHeld (c : Core) (d : Nat) : Bool := decide (3 ≤ d) && bitOf (c.rd RST_SW.SW_RESET) (d - 3)

def Core.clkQual (c : Core) (d : Nat) : Bool := bitOf (c.rd RST_STATE.CLK_QUAL) d
def Core.setQual (c : Core) (d : Nat) (b : Bool) : Core :=
  let q := c.rd RST_STATE.CLK_QUAL
  c.wr RST_STATE.CLK_QUAL (if b then orBit q d else if bitOf q d then q - 2 ^ d else q)

/-- A domain before `d` is held. -/
def Core.heldBefore (c : Core) (d : Nat) : Bool := (List.range d).any c.held

/-- RST_PEND (R424): held only for an unqualified clock or a held predecessor; it clears at the release. -/
def Core.showPend (c : Core) : Core :=
  let old := c.rd RST_STATE.RST_PEND
  c.wr RST_STATE.RST_PEND ((List.range 10).foldl (fun (a : Nat) (d : Nat) =>
    if c.held d && !c.swHeld d && c.rst.asserted.isNone && (bitOf old d || !c.clkQual d || c.heldBefore d)
    then a + 2 ^ d else a) 0)

/-! ### Device resets (R421, R422, R427, R430) -/

/-- A device reset is asserted: every domain is held and the mode is DORMANT. The boot fields are read afresh at the coming
BOOT; an interrupted UPD_STAGE clears a TRIAL that names its slot. Power-on clears the cause latch as well. -/
def Core.assertReset (c : Core) (cause : Nat) : Core :=
  let c := match c.hbr.staging with
    | some (slot, _) => c.clearTrial slot
    | none => c
  let c := c.forEach 10 (fun c d => if c.held d then c else c.outputsOff d)
  let kept := c.regs.filter (fun e => strapKey e.1 || (latchKey e.1 && cause != 0))
  let c := { c with regs := c.bootRegs.foldl (fun (r : Kv Nat) (e : Nat × Nat) => Kv.insert e.1 e.2 r) kept,
                    tickW := [], slackW := [] }
  let c := c.forEach 10 (fun c d => c.clearState d)
  let c := ((c.wr RST_STATE.IN_RESET 0x3FF).wr RST_STATE.LAST_CAUSE cause).wr PLT_MODE.MODE Mode.dormant.code
  c.modRst (fun r => { r with asserted := some cause, dueAt := none })

/-- The device reset is released (R422, R432): BOOT begins, with AON still held. -/
def Core.releaseReset (c : Core) : Core :=
  match c.rst.asserted with
  | none => c
  | some cause =>
    let c := if cause = 1 then c.inc RST_HIST.RESETN_COUNT
      else if cause = 2 then c.inc RST_HIST.DEVRESET_COUNT
      else if cause = 3 then c.inc RST_HIST.WDOG_COUNT else c
    let c := c.wr PLT_MODE.MODE Mode.boot.code
    c.modRst (fun r => { r with asserted := none, dueAt := none, bootStart := c.ticks })

/-- The internal reset of 4.0 µs (R422). -/
def Core.internalReset (c : Core) (cause : Nat) : Core :=
  (c.assertReset cause).modRst (fun r => { r with dueAt := some (c.ticks + 8, cause) })

/-- The internal reset is released 4.0 µs after it was asserted. -/
def Core.internalRelease (c : Core) : Core :=
  match c.rst.dueAt with
  | some (t, _) => if t ≤ c.ticks then c.releaseReset else c
  | none => c

/-- RESET_N has been acted on, and has been high for 3.0 µs. -/
def Core.resetnRelease (c : Core) : Core := if c.rst.asserted = some 1 then c.releaseReset else c

/-- A rail has fallen below 88 % (R456): the device and its PCIe endpoint are in power-on reset. -/
def Core.powerFail (c : Core) : Core := { c.assertReset 0 with pcie := Pcie.init }

/-- Every rail has stood above 92 % of nominal for a continuous 100 µs (R456). -/
def railsUp (percent us : Nat) : Bool := decide (92 < percent) && decide (100 ≤ us)

/-- The rails are within limits (R456): the power-on reset is released. -/
def Core.powerOn (c : Core) : Core := if c.rst.asserted ≠ some 0 then c else c.releaseReset

/-! ### Clocks and release (R423 to R425) -/

/-- A domain's clock has passed its count. The PLLs of the other domains start with the release of AON. -/
def Core.clockQualified (c : Core) (d : Nat) : Core :=
  if c.rst.asserted.isSome || (d != 0 && c.held domAON) then c else (c.setQual d true).showPend

/-- What a domain starts when it is released (R390, R426): its own bring-up items. -/
def Core.startDomain (c : Core) (d : Nat) : Core :=
  match d with
  | 1 => c.trimClear
  | 2 =>
    let lost := c.rst.clkLost
    lost.foldl (fun (c : Core) (l : Nat × Nat) => c.post evRstClkLost 0 [BitVec.ofNat 8 l.1, BitVec.ofNat 8 l.2])
      (c.modRst (fun r => { r with clkLost := [] }))
  | 4 => c.forEach 21 (fun c p =>
      let c := c.startTraining p
      if c.ptState p = ptFailed then c.post evPortDown p else c)
  | 5 => c.refreshSrc.acquire
  | _ => c

/-- The pilot may start: outside BOOT, or once the image is chosen and verified and the boot self-test has let it on (R400,
R428, R443). -/
def Core.imageRuns (c : Core) : Bool := c.mode != .boot || (c.hbr.booted && decide (c.rd BAR0.ID_BOOT < 2))

/-- The straps as the pins show them (R9, R312, R328). -/
def Core.sampleStraps (c : Core) (twPref : Bool) (casc : Nat) : Core :=
  ((c.wr TWN_STATE.UNIT (b2n (!twPref))).wr TWN_STATE.PREFERRED (b2n twPref)).wr CSC_STATE.CASC_ID casc

/-- A domain is released (R424): GAP is counted in cycles of REFCLK, 50 to a tick. AON samples the straps as it is released
(R9, R428). -/
def Core.domainRelease (c : Core) (d : Nat) (twPref : Bool) (casc : Nat) : Core :=
  if c.rst.asserted.isSome || c.mode == .dormant || !c.held d || c.heldBefore d || !c.clkQual d || c.swHeld d ||
      (d != 0 && decide (50 * (c.ticks - c.rst.lastRelease) < c.rd RST_CONFIG.GAP)) ||
      (d == domPLT && !c.imageRuns) then c
  else
    let c := c.clearDomain d
    let c := if d = 0 then (c.sampleStraps twPref casc).wr RST_STATE.IN_RESET 0x3FE
      else c.wr RST_STATE.IN_RESET (c.rd RST_STATE.IN_RESET - 2 ^ d)
    let c := (c.startDomain d).modRst (fun r => { r with lastRelease := c.ticks })
    if d = 0 then c else c.showPend

/-- A released domain's clock leaves qualification (R425): `reason` 0 PLL unlock, 1 frequency. -/
def Core.clockLost (c : Core) (d reason : Nat) : Core :=
  if c.rst.asserted.isSome then c
  else if c.held d then (c.setQual d false).showPend
  else if d < 2 then (c.assertReset 5).releaseReset
  else
    let c := (c.inc RST_HIST.CLK_DROPS).enterReset d
    let c := (c.setQual d false).showPend
    let c := if c.held domPLT then c.modRst (fun r => { r with clkLost := r.clkLost ++ [(d, reason)] })
      else c.post evRstClkLost 0 [BitVec.ofNat 8 d, BitVec.ofNat 8 reason]
    if d = domFAB ∨ d = domEXP then c.raiseSafe evRstClkLost else c

/-! ### Software reset bits (R426) -/

/-- Whether a write that changes the bits in `changed` (by domain), setting those in `set`, is allowed. -/
def Core.swAllowed (c : Core) (changed set : List Nat) : Bool :=
  let calm := !c.layerActive && (c.mode == .standby || c.mode == .service)
  changed.all (fun d => if d = domMEM ∨ d = domTIM then c.mode == .service else calm) &&
  !(set.any (fun d => decide (d ≤ domMOT)) && c.anyAxisBusy)

/-- SW_RESET takes the value `v` (bit d − 3 for domain d): a domain whose bit is set enters reset with its PLL restarted, and
with it every domain after it. -/
def Core.swApply (c : Core) (v : Nat) : Core :=
  let old := c.rd RST_SW.SW_RESET
  let set := (List.range 10).filter (fun d => decide (3 ≤ d) && bitOf v (d - 3) && !bitOf old (d - 3))
  let c := c.wr RST_SW.SW_RESET v
  let c := set.foldl (fun (c : Core) (d : Nat) =>
    let c := c.setQual d false
    c.forEach 10 (fun c e => if d ≤ e then c.enterReset e else c)) c
  c.showPend

/-- The domains whose bit a new value changes, and those it sets. -/
def Core.swChanged (c : Core) (v : Nat) : List Nat × List Nat :=
  let old := c.rd RST_SW.SW_RESET
  let ds := (List.range 10).filter (fun d => decide (3 ≤ d) && bitOf v (d - 3) != bitOf old (d - 3))
  (ds, ds.filter (fun d => bitOf v (d - 3)))

/-- Writing one bit of SW_RESET, where R426 allows it. -/
def Core.swBit (c : Core) (d : Nat) (on : Bool) : Core :=
  let old := c.rd RST_SW.SW_RESET
  let v := if d < 3 then old else if on then orBit old (d - 3) else if bitOf old (d - 3) then old - 2 ^ (d - 3) else old
  let ch := c.swChanged v
  if c.held domPLT || !c.swAllowed ch.1 ch.2 then c else c.swApply v

/-! ### Resets asked for by command and watchdog (R427) -/

/-- A control tick passes for a device reset that waits. -/
def Core.resetTick (c : Core) : Core :=
  match c.pilot.resetDue with
  | none => c
  | some 0 => c.internalReset 2
  | some (n + 1) => c.modPilot (fun p => { p with resetDue := some n })

/-- The pilot has missed every control tick for WDOG_RESET_MS. -/
def Core.watchdogReset (c : Core) : Core :=
  let ms := c.rd RST_CONFIG.WDOG_RESET_MS
  if c.held domPLT || ms == 0 || decide (c.pilot.wdogMissed < 100 * ms) then c else c.internalReset 3

/-! ### The PCIe endpoint (R454, R466) -/

/-- PERST_N goes low or high: low, the endpoint is in its power-on state, the staging ring is empty and the session of that
host closes. -/
def Core.perst (c : Core) (low : Bool) : Core :=
  if !low then { c with pcie := { c.pcie with perst := false } }
  else
    let c := { c with pcie := ⟨true, false, []⟩ }
    let c := c.modPilot (fun p => { p with msixMasked := 0, msixHeld := 0 })
    let c := (c.wr BAR0.TSW_PROD 0).wr BAR0.TSW_CONS 0
    if c.held domPLT then c else c.closeSession c.localMaster

/-! ### From BOOT to STANDBY (R232, R246, R428) -/

/-- BOOT ends once every domain runs and the trims are valid: in SAFE with an interlock latched, else in BRINGUP. -/
def Core.bootEnd (c : Core) : Core :=
  if c.mode ≠ .boot ∨ c.rd RST_STATE.IN_RESET ≠ 0 ∨ !c.flag CAL_TRIM.TRIM_VALID ∨ !c.imageRuns then c
  else
    let c := c.wr BAR0.ID_BOOT 0
    if c.rd SAF_STATUS.CAUSE ≠ 0 then c.enterSafe evSafetyTrip else c.enterMode .bringup

/-- A port has ended its bring-up: not enabled, FAILED, or UP with its aux chain numbered. -/
def Core.portReady (c : Core) (p : Nat) : Bool :=
  !c.flag STR_PORT_CFG.ENABLE p || c.ptState p == ptFailed ||
  (c.isUp p && (!isAux p || c.rd STR_CHAIN.CHAIN_NODES p != 0))

/-- Boot self-test findings are reported, and the fallbacks of the boot. -/
def Core.bootReports (c : Core) : Core :=
  let bad := c.rst.degraded
  let c := bad.foldl (fun (c : Core) (e : Nat × Nat × Nat) =>
    c.post evBstDegraded 0 (leBytes 1 e.1 ++ zeros 1 ++ leBytes 2 e.2.1 ++ leBytes 2 e.2.2))
    (c.modRst (fun r => { r with degraded := [] }))
  let c := c.postTrimFallback
  match c.hbr.fallback with
  | some cause => (c.modHbr (fun h => { h with fallback := none })).post evUpdFallback 0
      [BitVec.ofNat 8 cause]
  | none => c

/-- BRINGUP ends (R232, R428): DRAM trained, ports and chains ready. -/
def Core.bringupDone (c : Core) : Core :=
  if c.mode ≠ .bringup ∨ !c.rst.dramTrained ∨ !(List.range 21).all c.portReady then c
  else
    let fast := c.rst.fastRecord && c.rst.fastDram
    let ms := satNat 16 ((c.ticks - c.rst.bootStart) / ticksPerMs)
    let c := (c.wr RST_STATE.BOOT_MS ms).setFlag RST_STATE.FAST_BOOT fast
    let c := c.calBringup.twinBringup.enterMode .standby
    let c := c.forEach 68 (fun c k => if c.cassFitted k then c.wantAuth k else c)
    let c := c.bootReports
    c.post evBootDone 0 (leBytes 1 (c.rd RST_STATE.LAST_CAUSE) ++ leBytes 1 (b2n fast) ++ leBytes 2 ms)

end Sys2Proof.Machine
end

