-- ==== Sys2Proof/Machine/Bst.lean ====
section
/-!
DEFINITION. Machine/Bst.lean: the shutdown self-test, its records and repairs, test access (R433 to R445), and the boot
self-test that decides a boot (R400, R441, R443).
-/
namespace Sys2Proof.Machine

def Core.modBst (c : Core) (f : Bst → Bst) : Core := { c with bst := f c.bst }

/-! ### Records in two copies (R387, R388, R440, R444) -/

/-- A block whose last four bytes are the CRC-32C of those before, with a magic in its first two. -/
def blockOk (magic : Nat) (b : Bytes) : Bool :=
  fieldLE b 0 2 == magic && fieldLE b (b.length - 4) 4 == crc32c (b.take (b.length - 4))

/-- The newer valid copy of a block kept at two addresses: which copy, and its bytes. -/
def Core.newerCopy (c : Core) (a0 a1 n magic : Nat) : Option (Nat × Bytes) :=
  let b0 := c.flashRead a0 n
  let b1 := c.flashRead a1 n
  if blockOk magic b0 then
    if blockOk magic b1 && seqNewer 16 (fieldLE b1 2 2) (fieldLE b0 2 2) then some (1, b1) else some (0, b0)
  else if blockOk magic b1 then some (1, b1) else none

/-- Write a block to the copy that does not hold the newer valid generation. `body gen` gives its bytes before the check
word, for the next generation. -/
def Core.writeCopy (c : Core) (a0 a1 n magic : Nat) (body : Nat → Bytes) : Core :=
  let (addr, gen) := match c.newerCopy a0 a1 n magic with
    | some (k, b) => (if k = 0 then a1 else a0, (fieldLE b 2 2 + 1) % 65536)
    | none => (a0, 1)
  let b := padTo (n - 4) (body gen)
  c.flashSector addr (b ++ leBytes 4 (crc32c b))

def resultMagic : Nat := 0x5354
def mapMagic : Nat := 0x5352
def summaryMagic : Nat := 0x5347

def Core.resultRecord (c : Core) : Option (Nat × Bytes) := c.newerCopy 0x4102000 0x4103000 256 resultMagic

/-! ### The repair map (R444, R445) -/

def Repair.bytes (r : Repair) : Bytes := leBytes 2 r.array ++ leBytes 1 r.kind ++ leBytes 1 r.spare ++ leBytes 4 r.addr

/-- The map in force: that of the newer valid copy, or empty. -/
def Core.softMap (c : Core) : List Repair :=
  match c.newerCopy 0x4104000 0x4105000 4096 mapMagic with
  | none => []
  | some (_, b) => (List.range (min 508 (fieldLE b 4 2))).map (fun i =>
      ⟨fieldLE b (16 + 8 * i) 2, fieldLE b (18 + 8 * i) 1, fieldLE b (19 + 8 * i) 1, fieldLE b (20 + 8 * i) 4⟩)

def Core.writeMap (c : Core) (l : List Repair) : Core :=
  let l := l.take 508
  c.writeCopy 0x4104000 0x4105000 4096 mapMagic (fun gen =>
    leBytes 2 mapMagic ++ leBytes 2 gen ++ leBytes 2 l.length ++ zeros 10 ++ l.flatMap Repair.bytes)

/-- BST_REPAIR shows the map and the fuses. -/
def Core.showRepair (c : Core) : Core :=
  let f := c.hbr.otp.repairs.length
  ((c.wr BST_REPAIR.SOFT_ENTRIES c.softMap.length).wr BST_REPAIR.FUSED f).wr BST_REPAIR.FUSE_FREE (128 - f)

/-- BST_FUSE_REPAIR (R445): every map entry is blown, or none where the fuses do not suffice. -/
def Core.fuseRepair (c : Core) : Core × Answer :=
  let l := c.softMap
  let used := c.hbr.otp.repairs.length
  if 128 < used + l.length then (c, err stBadField)
  else
    let c := if l.isEmpty then c
      else (c.modHbr (fun h => { h with otp := { h.otp with repairs := h.otp.repairs ++ l } })).writeMap []
    let c := c.showRepair
    (c, ok (leBytes 2 l.length ++ leBytes 2 (c.rd BST_REPAIR.FUSE_FREE)))

/-! ### The result of a test (R434, R436 to R440) -/

/-- A verdict: RESULT, FAIL_STEP, FAIL_ARRAY, FAIL_DETAIL. -/
structure Verdict where
  result : Nat
  step : Nat
  array : Nat
  detail : Nat
  deriving DecidableEq, Repr

/-- The spares of an array (R436). -/
def spareRows : Nat := 4
def spareCols : Nat := 2

/-- A repair takes the row or the column of a cell out of use. -/
def Repair.covers (r : Repair) (array row col : Nat) : Bool :=
  r.array == array && ((r.kind == 0 && r.addr == row) || (r.kind == 1 && r.addr == col))

/-- Repair analysis (R436): a failing cell is repaired with a spare row of its row, else with a spare column of its column; an
array whose failures exceed its spares is unrepaired. `old` are the repairs in force; the result carries those made and the
arrays unrepaired, in the march's order. -/
def repairCell (old : List Repair) (s : List Repair × List Nat) (cell : Nat × Nat × Nat) : List Repair × List Nat :=
  let (a, row, col) := cell
  let all := old ++ s.1
  let used (kind : Nat) : Nat := (all.filter (fun r => r.array == a && r.kind == kind)).length
  if s.2.contains a || all.any (fun r => r.covers a row col) then s
  else if used 0 < spareRows then (s.1 ++ [⟨a, 0, used 0, row⟩], s.2)
  else if used 1 < spareCols then (s.1 ++ [⟨a, 1, used 1, col⟩], s.2)
  else (s.1, s.2 ++ [a])

/-- What the march repairs and leaves unrepaired; where the secrets did not clear nothing is marched (R435). -/
def Core.march (c : Core) (r : BistResult) : List Repair × List Nat :=
  if r.secretBad then ([], [])
  else (r.cells.map (fun e => (e.1.toNat, e.2.1.toNat, e.2.2.toNat))).foldl (repairCell (c.hbr.otp.repairs ++ c.softMap)) ([], [])

/-- The first step that fails decides (R434). -/
def verdictOf (r : BistResult) (unrepaired : List Nat) : Verdict :=
  if r.secretBad then ⟨1, 3, 0, 0⟩
  else match unrepaired with
    | a :: _ => ⟨1, 4, a, 0⟩
    | [] =>
      if r.logicBad.toNat ≠ 0 then ⟨1, 5, 0, lowBit r.logicBad.toNat 10⟩
      else match r.lanesBad with
        | (p, l) :: _ => ⟨1, 6, 0, p.val + 256 * l.val⟩
        | [] => ⟨0, 0, 0, 0⟩

/-- The repairs of a test join the map, which is written when it changes. -/
def Core.keepRepairs (c : Core) (made : List Repair) : Core := if made.isEmpty then c else c.writeMap (c.softMap ++ made)

/-- The result record (R440). -/
def Core.writeResult (c : Core) (kind : Nat) (v : Verdict) (jtag : Bool) (entered : Time) (repairs ms : Nat) : Core :=
  c.writeCopy 0x4102000 0x4103000 256 resultMagic (fun gen =>
    leBytes 2 resultMagic ++ leBytes 2 gen ++ leBytes 1 kind ++ leBytes 1 v.result ++
    leBytes 1 (b2n (repairs != 0) + 2 * b2n jtag) ++ leBytes 1 v.step ++ leBytes 4 (c.rd HBR_STATE.BOOT_COUNT) ++
    leBytes 2 v.array ++ leBytes 2 v.detail ++ leBytes 8 (timeSec entered) ++ leBytes 4 (timeNs entered) ++
    leBytes 2 repairs ++ leBytes 2 ms)

/-! ### Entering and leaving the shutdown test (R433, R434, R440, R442) -/

/-- Secrets are cleared (R435): mailbox slots, the staged set, the nonces. -/
def Core.clearSecrets (c : Core) : Core :=
  let c := c.modPilot (fun p => { p with mboxes := List.replicate 24 Mbox.init, staged := [], check := [] })
  c.modHbr (fun h => { h with cass := h.cass.map (fun (x : Cass) => { x with nonce := 0 }) })

/-- The summary of R419 is flushed. -/
def Core.flushSummary (c : Core) : Core :=
  c.writeCopy 0x4100000 0x4101000 4096 summaryMagic (fun gen => (c.summaryBlock gen).take 4092)

/-- SHUTDOWN_TEST is entered at a tick boundary (R433): lanes idle, axes and sinks stop. -/
def Core.enterShutdown (c : Core) (restart jtag : Bool) : Core :=
  let at_ := c.now
  let c := c.safForceLow
  let c := c.enterMode .shutdownTest
  let c := c.flushSummary
  let c := c.modBst (fun b => { b with entered := some at_, restart := restart, jtagOpen := jtag, abandoned := false })
  let c := c.forEach 21 (fun c p => ((c.setPt p ptDown).emit (.portIdle p)).emit (.clockStop p))
  let c := c.stopAllAxes
  c.forEach 16 (fun c n => if (c.sink n).current = 0 then c else c.driveSink n 0 none c.now)

/-- BST_SHUTDOWN, latched at the present boundary, completes as the test is entered; where the device is no longer in
STANDBY it completes with BAD_MODE (R232, R433). -/
def Core.shutdownDue (c : Core) : Core :=
  c.pilot.long.foldl (fun (c : Core) (l : LongCmd) =>
    match l.kind with
    | .shutdown r j =>
      let mine := fun (x : LongCmd) => x == l
      if c.mode = .standby then (c.enterShutdown r j).completeLong mine okReply else c.completeLong mine (errReply stBadMode)
    | _ => c) c

/-- Step 8 of R434: with RESTART a device reset of cause 4, otherwise DORMANT until RESET_N or power-off. TEST_OPEN stays set
in DORMANT with JTAG_OPEN 1 where step 3 has set it (`opened`). -/
def Core.testEnds (c : Core) (opened : Bool) : Core :=
  if c.bst.restart then c.internalReset 4
  else
    let jtag := c.bst.jtagOpen && opened
    let c := (List.range 9).foldl (fun (c : Core) (i : Nat) => c.enterReset (i + 1)) c
    (c.setFlag BST_REPAIR.TEST_OPEN jtag).wr PLT_MODE.MODE Mode.dormant.code

/-- An interlock input acted on in SHUTDOWN_TEST has ended the test (R246, R442): the record says ABANDONED, with the whole
milliseconds since entry, and step 8 follows. -/
def Core.testAbandoned (c : Core) : Core :=
  let ms := satNat 16 ((c.ticks - c.pilot.modeSince) / ticksPerMs)
  (c.writeResult 0 ⟨2, 0, 0, 0⟩ c.bst.jtagOpen (c.bst.entered.getD 0) 0 ms).testEnds (c.flag BST_REPAIR.TEST_OPEN)

/-- A test that an interlock input has ended closes. TEST_OPEN is set at step 3, at most 120 ms from entry, and the
secrets are gone by then; with JTAG_OPEN 0 it is cleared again at the end of step 6 (R434, R435, R439). -/
def Core.bstAtTick (c : Core) : Core :=
  if c.mode ≠ .shutdownTest then c
  else if c.bst.abandoned then c.testAbandoned
  else if c.flag BST_REPAIR.TEST_OPEN ∨ c.ticks ≠ c.pilot.modeSince + 120 * ticksPerMs then c
  else c.clearSecrets.setFlag BST_REPAIR.TEST_OPEN true

/-- SHUTDOWN_TEST_DONE: map and record are written, then step 8. A test that an interlock has ended waits for its tick
boundary instead. -/
def Core.shutdownDone (c : Core) (r : BistResult) : Core :=
  if c.mode ≠ .shutdownTest || c.bst.abandoned then c
  else
    let q := c.march r
    let c := c.clearSecrets.keepRepairs q.1
    let c := c.writeResult 0 (verdictOf r q.2) c.bst.jtagOpen (c.bst.entered.getD 0) q.1.length r.ms.toNat
    c.testEnds (!r.secretBad)

/-- JTAG_INSTRUCTION (R439): the instruction register after a load; what is not accepted acts as BYPASS. -/
def Core.jtag (c : Core) (i : JtagInstr) : Core :=
  let code := match i with
    | .bypass => 0
    | .idcode => 1
    | .samplePreload => 2
    | .extest => 3
    | .clamp => 4
    | .extestPulse => 5
    | .extestTrain => 6
    | .privateInstr => 7
  c.modBst (fun b => { b with jtagIr := if code < 3 ∨ c.flag BST_REPAIR.TEST_OPEN then code else 0 })

/-! ### The boot self-test (R400, R429, R441, R443) -/

/-- The record in force allows a quick boot. -/
def Core.quickBoot (c : Core) : Bool :=
  match c.resultRecord with
  | some (_, b) => fieldLE b 4 1 == 0 && fieldLE b 5 1 == 0 &&
      (fieldLE b 8 4 + 1) % 2 ^ 32 == c.rd HBR_STATE.BOOT_COUNT
  | none => false

/-- BST_RESULT shows the record in force. -/
def Core.showResult (c : Core) : Core :=
  match c.resultRecord with
  | none => c
  | some (_, b) =>
    let c := (c.wr BST_RESULT.KIND (fieldLE b 4 1)).wr BST_RESULT.RESULT (fieldLE b 5 1)
    let c := (c.wr BST_RESULT.REPAIRED (fieldLE b 6 1)).wr BST_RESULT.FAIL_STEP (fieldLE b 7 1)
    (c.wr BST_RESULT.FAIL_ARRAY (fieldLE b 12 2)).wr BST_RESULT.FAIL_DETAIL (fieldLE b 14 2)

/-- The channel whose vector store or chart bank an array is (R436, R443). -/
def arrayChan (a : Nat) : Option Nat :=
  if (a / 256 = 0x71 ∨ a / 256 = 0x11) ∧ a % 256 < 64 then some (a % 256) else none

/-- The boot self-test has run: what it finds decides the boot (R443). -/
def Core.bootTest (c : Core) (r : BistResult) : Core :=
  let q := c.march r
  let v := verdictOf r q.2
  let c := (c.keepRepairs q.1).writeResult 1 v false c.now q.1.length r.ms.toNat
  let c := c.showResult.showRepair
  let fatal := r.secretBad || r.logicBad.toNat != 0 || q.2.any (fun a => (arrayChan a).isNone)
  if fatal then c.wr BAR0.ID_BOOT 3
  else
    let chans := q.2.filterMap arrayChan ++
      r.lanesBad.flatMap (fun e => if e.1.val < 16 then (List.range 4).map (fun i => 4 * e.1.val + i) else [])
    let ports := r.lanesBad.map (fun e => e.1.val)
    let c := c.wr BST_RESULT.UNARMABLE (chans.foldl orBit 0)
    let c := c.modBst (fun b => { b with portsHeld := ports.foldl orBit 0 })
    if v.result = 0 then c else c.modRst (fun s => { s with degraded := [(v.step, v.array, v.detail)] })

/-- BOOT_IMAGE_SELECT: the trim load, the choice of image and its boot count (R389, R400), then the boot self-test unless the
record of the shutdown test stands (R429, R441). `r` is what that test finds. -/
def Core.bootImageSelect (c : Core) (r : BistResult) : Core :=
  if c.held domHBR || !c.held domPLT || c.mode ≠ .boot || c.hbr.booted then c
  else
    let c := c.bootSelect.showRepair
    if !c.hbr.booted then c
    else if c.quickBoot then c.showResult.modRst (fun s => { s with fastRecord := true })
    else c.bootTest r

end Sys2Proof.Machine
end

