-- ==== Sys2Proof/Machine/ObjWrite.lean ====
section
/-!
DEFINITION. Machine/ObjWrite.lean: writes of objects (R8, R9, R211): the ranges of their fields, the conditions that other
chapters place on a write, and what a write does beside putting values into force.
-/
namespace Sys2Proof.Machine

/-! ### Ranges of directly written fields -/

/-- A range of a field: lowest and highest value; a negative lowest value marks a signed field. -/
structure Range where
  field : Field
  lo : Int
  hi : Int
  deriving DecidableEq, Repr

/-- Whether a value image keeps a range. -/
def Range.ok (r : Range) (v : Nat) : Bool :=
  let x := if r.lo < 0 then imgFieldI v r.field else (imgField v r.field : Int)
  decide (r.lo ≤ x) && decide (x ≤ r.hi)

/-- Ranges of the control plane, the vector store and timing (R54, R229, R248, R332, R354, R390, R419). -/
def rangesA : List Range :=
  [⟨VST_CONFIG.VST_SLOTS, 8, 384⟩, ⟨VST_CONFIG.VST_START_FILL, 1, 64⟩, ⟨PLT_TOKEN.TOKEN_TIMEOUT, 100, 60000⟩,
   ⟨PLT_EVQ.EV_HOLDOFF, 0, 10000⟩, ⟨PLT_MGMT.MGMT_PORT, 1024, 65535⟩, ⟨PLT_SLACK.SLACK_MIN, 0, 60000000⟩,
   ⟨TWN_CONFIG.TAKEBACK_HOLDOFF, 1, 3600⟩, ⟨TIM_CONFIG.SRC, 0, 2⟩, ⟨TIM_CONFIG.STEP_THRESH, 40, 16000000⟩,
   ⟨TIM_CONFIG.LOCK_THRESH, 1, 65535⟩, ⟨TIM_CONFIG.PPS_W, 1, 250⟩, ⟨TIM_CONFIG.FREE_PPB, -100000, 100000⟩,
   ⟨TIM_PTP.LOG_SYNC, -7, 1⟩, ⟨TIM_PTP.LOG_ANNOUNCE, 0, 3⟩, ⟨TIM_PTP.LOG_DELAY, -4, 3⟩,
   ⟨CAL_CONFIG.TEMP_SLOT, 0, 48⟩, ⟨CAL_CONFIG.TRIG_DC, 5, 500⟩, ⟨REC_CONFIG.REC_SIZE, 16, 4096⟩]

/-- Ranges of cameras, contexts and lighting (R267, R283). -/
def rangesB : List Range :=
  [⟨CAM_PORT.LANE_RATE, 80, 2500⟩, ⟨CAM_PORT.RING_SLOTS, 2, 64⟩, ⟨CAM_PORT.SLOT_SIZE, 0, 33554432⟩,
   ⟨CAM_TRIG.WIDTH, 1, 65535⟩, ⟨CAM_TRIG.PERIOD, 1000, 1000000000⟩,
   ⟨IPL_CTX.WIDTH, 16, 4096⟩, ⟨IPL_CTX.HEIGHT, 1, 4096⟩, ⟨IPL_CTX.FRAME_INTERVAL, 100, 10000000⟩,
   ⟨IPL_CTX.TIMEOUT_MULT, 2, 15⟩, ⟨IPL_CTX.SNR_S, 0, 16⟩, ⟨IPL_CTX.TNR_K, 1, 256⟩, ⟨IPL_CTX.DEF_COUNT, 0, 4096⟩,
   ⟨IPL_CTX.ROI_W, 1, 4096⟩, ⟨IPL_CTX.ROI_H, 1, 4096⟩, ⟨IPL_OUT.FRING_LOG2, 6, 15⟩,
   ⟨LUM_GLOBAL.GLOBAL, 0, 0x8000⟩, ⟨LUM_GLOBAL.OPENCHK_MAXDEFER, 1, 3600⟩, ⟨LUM_GLOBAL.SHORT_V, 200, 4000⟩,
   ⟨LUM_SINK.CURVE, 0, 2⟩, ⟨LUM_SINK.IMAX, 0, 60000⟩, ⟨LUM_SINK.HYB_TH, 500, 60000⟩, ⟨LUM_SINK.STROBE_I, 0, 60000⟩,
   ⟨LUM_SINK.PERIOD, 10000, 1000000⟩, ⟨LUM_SINK.STROBE_W, 1, 65535⟩,
   ⟨LUM_SHW.DRIVERS, 1, 128⟩, ⟨LUM_SHW.REFRESH, 13, 1000⟩]

/-- Ranges of axes and inputs, memory and the others (R311, R373). -/
def rangesC : List Range :=
  [⟨MOT_CONFIG.STEP_W, 1, 255⟩, ⟨MOT_CONFIG.DIR_SETUP, 0, 125⟩, ⟨MOT_CONFIG.VMAX, 1, 2000000⟩,
   ⟨MOT_CONFIG.AMAX, 1, 1000000000⟩, ⟨MOT_CONFIG.JMAX, 1, 4000000000⟩, ⟨MOT_CONFIG.ENC_NUM, 1, 65535⟩,
   ⟨MOT_CONFIG.ENC_DEN, 1, 65535⟩, ⟨MOT_CONFIG.DEV_TICKS, 1, 255⟩, ⟨PFI_INC.ZERO_MODE, 0, 2⟩,
   ⟨PFI_INC.MISMATCH_MAX, 1, 15⟩, ⟨PFI_SSI.BITS, 8, 32⟩, ⟨PFI_SSI.CLK_KHZ, 100, 4000⟩, ⟨PFI_SSI.MONO_US, 1, 60⟩,
   ⟨PFI_SSI.RATE_DIV, 1, 15⟩, ⟨PFI_SSI.ERR_MAX, 1, 15⟩, ⟨PFI_CMP.SRC, 0, 11⟩, ⟨PFI_CMP.PULSE_W, 1, 65535⟩,
   ⟨PFI_CMP.LIST_COUNT, 1, 4096⟩, ⟨PFI_EMU.NUM, 1, 65535⟩, ⟨PFI_EMU.DEN, 1, 65535⟩,
   ⟨DRC_CONFIG.DENSITY, 0, 2⟩, ⟨DRC_CONFIG.RATE_MAX, 32, 64⟩, ⟨DRC_CONFIG.MIN_EYE, 8, 32⟩,
   ⟨DRC_CONFIG.PNR_LOG2, 6, 14⟩, ⟨DRC_CONFIG.ACT_TH, 128, 8192⟩, ⟨DRC_CONFIG.AGE_CAP, 200, 20000⟩,
   ⟨DRC_CONFIG.SCRUB_HOURS, 1, 168⟩]

/-- Bit positions of the fields of an object image that break their ranges. -/
def rangeFaults (obj v : Nat) : List Nat :=
  ((rangesA ++ rangesB ++ rangesC).filter (fun r => r.field.obj == obj && !r.ok v)).map (fun r => r.field.lsb)

/-- Positions at which reserved bits start: those no field covers, between and after the fields in order (R4). -/
def reservedGo : List Field → Nat → Nat → List (Nat × Nat)
  | [], at_, top => [(at_, top - at_)]
  | f :: fs, at_, top => (at_, f.lsb - at_) :: reservedGo fs (max at_ (f.lsb + f.width)) top

/-- Positions of non-zero reserved bits of an image. -/
def reservedFaults (d : ObjDesc) (v : Nat) : List Nat :=
  ((reservedGo d.fields 0 (8 * d.size)).filter (fun g => bits v g.1 g.2 != 0)).map Prod.fst

/-- RO fields of a written image must equal the present value (R211). -/
def Core.roFaults (c : Core) (d : ObjDesc) (i v : Nat) : List Nat :=
  (d.fields.filter (fun f => f.access == .ro && imgField v f != c.rd f i)).map Field.lsb

/-! ### Rules on several fields -/

/-- A period in ns that divides 10⁹ and is a multiple of 8. -/
def periodOk (p : Nat) : Bool := p != 0 && p % 8 == 0 && 1000000000 % p == 0

/-- A fault at a field where a condition does not hold. -/
def need (f : Field) (ok : Bool) : List Nat := if ok then [] else [f.lsb]

/-- The stretches that rings and references of enabled ports, contexts and the feature ring hold, other than port `p`'s. -/
def Core.imageStretches (c : Core) (p : Nat) : List (Nat × Nat) :=
  ((List.range 8).filter (fun q => q != p && c.flag CAM_PORT.ENABLE q)).map (fun q =>
    (c.rd CAM_PORT.RING_ADDR q, c.rd CAM_PORT.RING_SLOTS q * c.rd CAM_PORT.SLOT_SIZE q)) ++
  ((List.range 32).filter (fun k => c.flag IPL_CTX.ENABLE k)).flatMap (fun k =>
    let n := 2 * c.rd IPL_CTX.WIDTH k * c.rd IPL_CTX.HEIGHT k
    [(c.rd IPL_CTX.TREF_ADDR k, n)] ++
    (if c.flag IPL_CTX.DARK_EN k then [(c.rd IPL_CTX.DARK_ADDR k, n)] else []) ++
    (if c.flag IPL_CTX.FLAT_EN k then [(c.rd IPL_CTX.FLAT_ADDR k, n)] else [])) ++
  (if c.flag IPL_OUT.FR_EN then [(c.rd IPL_OUT.FRING_ADDR, 64 * 2 ^ c.rd IPL_OUT.FRING_LOG2)] else [])

/-- CAM_PORT (R267): SLOT_SIZE, the ring in DRAM, and no overlap while the port is on. -/
def Core.camPortFaults (c : Core) (i v : Nat) : List Nat :=
  let g := imgField v
  let n := g CAM_PORT.RING_SLOTS * g CAM_PORT.SLOT_SIZE
  let bound := (List.range 32).filter (fun k => c.flag IPL_CTX.ENABLE k && c.rd IPL_CTX.PORT k == i)
  need CAM_PORT.SLOT_SIZE (g CAM_PORT.SLOT_SIZE % 4096 == 0 && bound.all (fun k =>
    decide (2 * c.rd IPL_CTX.WIDTH k * c.rd IPL_CTX.HEIGHT k ≤ g CAM_PORT.SLOT_SIZE))) ++
  need CAM_PORT.RING_ADDR (g CAM_PORT.RING_ADDR % 4096 == 0 && c.dramOk (g CAM_PORT.RING_ADDR) n &&
    (g CAM_PORT.ENABLE == 0 || !(c.imageStretches i).any (fun s => overlaps (g CAM_PORT.RING_ADDR) n s.1 s.2)))

/-- The defect list a context write names: entries ascending by Y and X, inside the frame (R260). -/
def defectsOf (bs : Bytes) : List (Nat × Nat) :=
  (List.range (bs.length / 4)).map (fun i => (fieldLE bs (4 * i) 2, fieldLE bs (4 * i + 2) 2))

def defectsOk (l : List (Nat × Nat)) (w h : Nat) : Bool :=
  l.all (fun e => decide (e.1 < w) && decide (e.2 < h)) &&
  (l.zip (l.drop 1)).all (fun p => decide (p.1.2 < p.2.2) || (p.1.2 == p.2.2 && decide (p.1.1 < p.2.1)))

/-- IPL_CTX (R251, R260, R267). -/
def Core.iplFaults (c : Core) (m : Mem) (i v : Nat) : List Nat :=
  let g := imgField v
  let w := g IPL_CTX.WIDTH
  let h := g IPL_CTX.HEIGHT
  let n := 2 * w * h
  let on := g IPL_CTX.ENABLE != 0
  let bs := c.dramRead m (g IPL_CTX.DEF_ADDR) (4 * g IPL_CTX.DEF_COUNT)
  let where_ := g IPL_CTX.DEF_ADDR % 4 == 0 && c.dramOk (g IPL_CTX.DEF_ADDR) (4 * g IPL_CTX.DEF_COUNT)
  need IPL_CTX.ENABLE (!on || !(List.range 32).any (fun k => k != i && c.flag IPL_CTX.ENABLE k &&
    c.rd IPL_CTX.PORT k == g IPL_CTX.PORT && c.rd IPL_CTX.VC k == g IPL_CTX.VC)) ++
  need IPL_CTX.WIDTH (!on || decide (n ≤ c.rd CAM_PORT.SLOT_SIZE (g IPL_CTX.PORT))) ++
  need IPL_CTX.ROI_X0 (decide (g IPL_CTX.ROI_X0 + g IPL_CTX.ROI_W ≤ w)) ++
  need IPL_CTX.ROI_Y0 (decide (g IPL_CTX.ROI_Y0 + g IPL_CTX.ROI_H ≤ h)) ++
  need IPL_CTX.TREF_ADDR (g IPL_CTX.TREF_ADDR % 64 == 0 && c.dramOk (g IPL_CTX.TREF_ADDR) n) ++
  need IPL_CTX.DARK_ADDR (c.dramOk (g IPL_CTX.DARK_ADDR) n) ++
  need IPL_CTX.FLAT_ADDR (c.dramOk (g IPL_CTX.FLAT_ADDR) n) ++
  need IPL_CTX.DEF_CRC (!where_ || crc32c bs == g IPL_CTX.DEF_CRC) ++
  need IPL_CTX.DEF_ADDR (where_ && defectsOk (defectsOf bs) w h)

/-- MOT_CONFIG (R291). -/
def motFaults (v : Nat) : List Nat :=
  let g := imgField v
  need MOT_CONFIG.ENC_SRC (decide (g MOT_CONFIG.ENC_SRC < 12) || g MOT_CONFIG.ENC_SRC == 31) ++
  need MOT_CONFIG.VMAX (decide (g MOT_CONFIG.VMAX * g MOT_CONFIG.STEP_W ≤ 60000000)) ++
  need MOT_CONFIG.LIM_LO (decide (imgFieldI v MOT_CONFIG.LIM_LO < imgFieldI v MOT_CONFIG.LIM_HI)) ++
  need MOT_CONFIG.CUR_UP (decide (g MOT_CONFIG.CUR_DN < g MOT_CONFIG.CUR_UP))

/-- PFI_CMP (R306, R307): addresses; the list is judged when ARM goes from 0 to 1. -/
def Core.cmpFaults (c : Core) (m : Mem) (i v : Nat) : List Nat :=
  let g := imgField v
  let n := 8 * g PFI_CMP.LIST_COUNT
  let at_ := g PFI_CMP.LIST_ADDR
  let where_ := at_ % 8 == 0 && c.dramOk at_ n
  let arms := g PFI_CMP.ARM != 0 && !c.flag PFI_CMP.ARM i
  let bs := c.dramRead m at_ n
  need PFI_CMP.LIST_ADDR (where_ && (!arms || crc32c bs != g PFI_CMP.LIST_CRC || cmpListOk bs (g PFI_CMP.LIST_CRC))) ++
  need PFI_CMP.LIST_CRC (!arms || !where_ || crc32c bs == g PFI_CMP.LIST_CRC) ++
  need PFI_CMP.LOG_ADDR (c.dramOk (g PFI_CMP.LOG_ADDR) 4096)

/-- The rules on several fields of an object, by object. -/
def Core.ruleFaults (c : Core) (m : Mem) (obj i v : Nat) : List Nat :=
  let g := imgField v
  match obj with
  | 0x7101 => need VST_CONFIG.VST_START_FILL (decide (g VST_CONFIG.VST_START_FILL ≤ g VST_CONFIG.VST_SLOTS))
  | 0x3001 => c.camPortFaults i v
  | 0x3002 => need CAM_TRIG.PERIOD (periodOk (g CAM_TRIG.PERIOD)) ++
      need CAM_TRIG.PHASE (g CAM_TRIG.PHASE % 8 == 0 && decide (g CAM_TRIG.PHASE < g CAM_TRIG.PERIOD))
  | 0x3101 => c.iplFaults m i v
  | 0x3110 => need IPL_OUT.FRING_ADDR (g IPL_OUT.FRING_ADDR % 64 == 0 &&
      c.dramOk (g IPL_OUT.FRING_ADDR) (64 * 2 ^ g IPL_OUT.FRING_LOG2))
  | 0x3202 => need LUM_SINK.CURVE (g LUM_SINK.CURVE == 0 || decide (i < 4)) ++
      need LUM_SINK.PERIOD (periodOk (g LUM_SINK.PERIOD)) ++
      need LUM_SINK.PHASE (g LUM_SINK.PHASE % 8 == 0 && decide (g LUM_SINK.PHASE < g LUM_SINK.PERIOD))
  | 0x3210 => need LUM_SHW.REFRESH (g LUM_SHW.REFRESH != 0 && 1000 % g LUM_SHW.REFRESH == 0) ++
      need LUM_SHW.TABLE_ADDR (g LUM_SHW.TABLE_ADDR % 8 == 0 && c.dramOk (g LUM_SHW.TABLE_ADDR) (24 * g LUM_SHW.DRIVERS))
  | 0x4001 => motFaults v
  | 0x4102 => need PFI_SSI.BITS (decide ((g PFI_SSI.BITS + 1) * 1000 + g PFI_SSI.MONO_US * g PFI_SSI.CLK_KHZ ≤
      (16 * g PFI_SSI.RATE_DIV - 1) * g PFI_SSI.CLK_KHZ))
  | 0x4110 => c.cmpFaults m i v
  | 0x4120 => need PFI_EMU.SRC (decide (g PFI_EMU.SRC < 12) ||
      (decide (16 ≤ g PFI_EMU.SRC) && decide (g PFI_EMU.SRC < 24)))
  | 0x5101 => need CSC_CONFIG.MEMBERS (g CSC_CONFIG.MEMBERS % 2 == 1)
  | 0x6004 => need TIM_PTP.MACH_DOM (g TIM_PTP.MACH_DOM != g TIM_PTP.PLANT_DOM)
  | 0x8101 => need THM_SLOT.LO_FAULT (decide (imgFieldI v THM_SLOT.LO_FAULT ≤ imgFieldI v THM_SLOT.LO_WARN) &&
      decide (imgFieldI v THM_SLOT.LO_WARN < imgFieldI v THM_SLOT.HI_WARN) &&
      decide (imgFieldI v THM_SLOT.HI_WARN ≤ imgFieldI v THM_SLOT.HI_FAULT))
  | 0x9001 => need REC_CONFIG.REC_SIZE (g REC_CONFIG.REC_SIZE % 16 == 0)
  | 0xA003 => need RST_CONFIG.WDOG_RESET_MS (g RST_CONFIG.WDOG_RESET_MS == 0 ||
      (decide (10 ≤ g RST_CONFIG.WDOG_RESET_MS) && decide (g RST_CONFIG.WDOG_RESET_MS ≤ 1000)))
  | _ => []

/-- The byte offset in the slot of the first offending field of a written image, if any (R201, R205). -/
def Core.writeFault (c : Core) (m : Mem) (d : ObjDesc) (i v : Nat) : Option Nat :=
  let l := reservedFaults d v ++ c.roFaults d i v ++ rangeFaults d.id v ++ c.ruleFaults m d.id i v
  match l with
  | [] => none
  | a :: t => some (16 + (t.foldl min a) / 8)

/-! ### Mode and state conditions of a write -/

/-- The image with one field's bits taken from another. -/
def sameBut (d : ObjDesc) (but : Field) (old new : Nat) : Bool :=
  d.fields.all (fun f => f.lsb == but.lsb || f.access != .rw || imgField old f == imgField new f)

/-- A write that its chapter refuses with BAD_MODE. -/
def Core.writeModeBad (c : Core) (d : ObjDesc) (i v : Nat) : Bool :=
  let old := c.image d i
  match d.id with
  | 0x1504 => imgField v ADP_CONTROL.RESTORE != 0 && c.cmdMode != .service
  | 0x2002 => imgField v STR_PORT_CTRL.NEAP_ENTER != 0 && !c.neapAllowed i
  | 0x3001 => c.flag CAM_PORT.ENABLE i && imgField v CAM_PORT.ENABLE != 0 && !sameBut d CAM_PORT.ENABLE old v
  | 0x3110 => c.flag IPL_OUT.FR_EN && (imgField v IPL_OUT.FRING_ADDR != c.rd IPL_OUT.FRING_ADDR ||
      imgField v IPL_OUT.FRING_LOG2 != c.rd IPL_OUT.FRING_LOG2)
  | 0x4001 => c.axBusy i
  | 0x4110 => c.flag PFI_CMP.ARM i && imgField v PFI_CMP.ARM != 0 && !sameBut d PFI_CMP.ARM old v
  | 0xA002 =>
    let ch := c.swChanged (imgField v RST_SW.SW_RESET)
    !c.swAllowed ch.1 ch.2
  | _ => false

/-! ### What a write does (R8, R9) -/

/-- One field of a written image takes the way its Applies value gives it. -/
def Core.putField (c : Core) (f : Field) (i v : Nat) : Core :=
  if f.access ≠ .rw then c
  else
    let x := imgField v f
    match f.applies with
    | .tick => { c with tickW := c.tickW ++ [(f, i, x)] }
    | .slack => { c with slackW := c.slackW ++ [(f, i, x)] }
    | .boot => { c with bootRegs := Kv.put (f.resetVal i) c.bootRegs (f.key i) x }
    | _ => c.wr f x i

/-- ENABLE of an axis changes: enabled it is IDLE with dev 0, or at fault with its driver; disabled it drops its targets. A
fault stands until MOT_CLEAR. -/
def Core.axisEnable (c : Core) (n : Nat) (was : Bool) : Core :=
  let on := c.flag MOT_CONFIG.ENABLE n
  let go := fun (c : Core) (st : Nat) => if c.axState n = axFault then c else c.setAx n st
  if on == was then c
  else if on then
    let c := ((go c axIdle).zeroDev n).showTarget n
    if (c.axis n).mflt then c.axisFault n 2 else c
  else
    (go (c.modAxis n (fun x => { x with target := none, latch := none, kept := none, stopping := false,
                                        v := F64.zero, a := F64.zero })) axDisabled).showTarget n

/-- A camera port switched on has every slot of its ring free in which no frame still lies (R253). -/
def Core.camEnable (c : Core) (p : Nat) (was : Bool) : Core :=
  if c.flag CAM_PORT.ENABLE p && !was then
    c.modCam p (fun q => { q with free := (List.range (c.rd CAM_PORT.RING_SLOTS p)).filter (c.slotEmpty p) })
  else c

/-- A context write copies the defect list on-die (R260); a context switched on starts afresh. -/
def Core.iplWritten (c : Core) (m : Mem) (k : Nat) (was : Bool) : Core :=
  let a := c.rd IPL_CTX.DEF_ADDR k
  let n := 4 * c.rd IPL_CTX.DEF_COUNT k
  let c := c.dramHazard a n
  let l := defectsOf (c.dramRead m a n)
  let c := c.modIctx k (fun x => { x with defects := l })
  if c.flag IPL_CTX.ENABLE k && !was then
    c.modIctx k (fun x => { x with
      taken := 0, drops := 0, lastStart := none, timedOut := false, missed := 0, resetDue := true,
      capture := x.capture.map (fun (q : Capture) => { q with before := 0 }) })
  else c

/-- ARM of a compare unit goes from 0 to 1, or to 0 (R307). -/
def Core.cmpWritten (c : Core) (m : Mem) (u : Nat) (was : Bool) : Core :=
  if c.flag PFI_CMP.ARM u && !was then (c.cmpArm m u).getD c
  else if !c.flag PFI_CMP.ARM u then c.wr PFI_CMP_STATE.ARMED 0 u
  else c

/-- What host software's PFI_CLEAR bits do (R302, R305, R308). -/
def Core.pfiClear (c : Core) (v : Nat) : Core :=
  let g := imgField v
  let c := c.forEach 8 (fun c k => if bitOf (g PFI_CLEAR.INC_STICKY) k then c.clearIncSticky k else c)
  let c := c.forEach 8 (fun c k => if bitOf (g PFI_CLEAR.INC_FAULT) k then c.clearIncFault k else c)
  let c := c.forEach 4 (fun c k => if bitOf (g PFI_CLEAR.SSI_FAULT) k then c.clearSsiFault k else c)
  c.forEach 8 (fun c k => if bitOf (g PFI_CLEAR.CMP_STICKY) k then c.clearCmpSticky k else c)

/-- STR_PORT_CTRL (R197). -/
def Core.portCtrl (c : Core) (p v : Nat) : Core :=
  let g := imgField v
  let c := if g STR_PORT_CTRL.CLEAR_STATS ≠ 0 then c.clearPortStats p else c
  let c := if g STR_PORT_CTRL.RETRAIN ≠ 0 then c.hostRetrain p else c
  let c := if g STR_PORT_CTRL.NEAP_ENTER ≠ 0 then c.neapEnter p else c
  if g STR_PORT_CTRL.NEAP_EXIT ≠ 0 then c.neapExit p else c

/-- What a write does beside its fields; `old` is the image before it. -/
def Core.writeEffect (c : Core) (m : Mem) (d : ObjDesc) (i old v : Nat) : Core :=
  match d.id with
  | 0x1504 => if imgField v ADP_CONTROL.RESTORE ≠ 0 then c.restore i else c
  | 0x2001 => if imgField old STR_PORT_CFG.ENABLE ≠ imgField v STR_PORT_CFG.ENABLE then c.startTraining i else c
  | 0x2002 => c.portCtrl i v
  | 0x3001 => c.camEnable i (imgField old CAM_PORT.ENABLE != 0)
  | 0x3002 => if imgField v CAM_TRIG.PULSE ≠ 0 then c.askPulse i else c
  | 0x3101 => c.iplWritten m i (imgField old IPL_CTX.ENABLE != 0)
  | 0x3204 => if imgField v LUM_SINK_CTRL.CLEAR_SHORT ≠ 0 then c.clearShort i else c
  | 0x3210 => if imgField v LUM_SHW.UPDATE ≠ 0 then c.shwUpdate i else c
  | 0x4001 => c.axisEnable i (imgField old MOT_CONFIG.ENABLE != 0)
  | 0x4105 => c.pfiClear v
  | 0x4110 => c.cmpWritten m i (imgField old PFI_CMP.ARM != 0)
  | 0x4120 => if imgField old PFI_EMU.ENABLE = 0 ∧ imgField v PFI_EMU.ENABLE ≠ 0 then c.emuEnable i else c
  | 0x6001 => ((c.wr TIM_CONFIG.SRC (imgField old TIM_CONFIG.SRC)).writeSrc (imgField v TIM_CONFIG.SRC)).refreshSrc.refreshUtc.txqOff
  | _ => c

/-- A write that has passed every test: SW_RESET acts as R426 says; a domain in reset ignores the rest (R420). -/
def Core.writeObject (c : Core) (m : Mem) (d : ObjDesc) (i v : Nat) : Core :=
  if d.id = 0xA002 then c.swApply (imgField v RST_SW.SW_RESET)
  else if c.held d.domain then c
  else
    let old := c.image d i
    (d.fields.foldl (fun c f => c.putField f i v) c).writeEffect m d i old v

/-- At a tick boundary the waiting tick fields take force; a new LEVEL or GLOBAL starts its fade (R273). -/
def Core.tickWrites (c : Core) : Core :=
  if c.tickW.isEmpty then c
  else
    let l := c.tickW
    l.foldl (fun (c : Core) (w : Field × Nat × Nat) =>
      if w.1.key 0 = LUM_SINK.LEVEL.key 0 then c.startFade w.2.1
      else if w.1.key 0 = LUM_GLOBAL.GLOBAL.key 0 then c.startGlobalFade
      else if w.1.obj = 0x3202 then c.openState w.2.1
      else c) c.applyTickW

end Sys2Proof.Machine
end

