-- ==== Sys2Proof/Machine/Check.lean ====
section
/-!
DEFINITION. Machine/Check.lean: the consistency check of a staged set (R41, R48, R49, R59, R70, R74, R76, R113, R141, R214,
R215, R299, R314) and the tests that COMMIT repeats (R216).
-/
namespace Sys2Proof.Machine

/-! ### The state a set is judged against (R214) -/

/-- The device as it will stand at the tide mark of the staged set: what is in force, every committed set still waiting,
then the staged set. -/
def Core.atTide (c : Core) : Core :=
  (c.pilot.queue.foldl (fun (c : Core) (s : CommSet) => c.applyObjs s.objs) c).applyObjs c.pilot.staged

/-! ### The manifest (R44, R47, R48) -/

/-- The manifest a set carries. -/
def manifestOf (os : List SetObj) : Option Bytes := (os.find? (fun o => o.obj == idManifest)).map SetObj.data

def manReservedZero (b : Bytes) : Bool :=
  allZero (slice b 2 2) && allZero (slice b 20 44) && allZero (slice b 1092 12) &&
  (List.range 64).all (fun ch => allZero (slice b (76 + 16 * ch) 4))

/-- The residue area in force (R152): its base and bytes. -/
def Core.residueArea (c : Core) : Nat × Nat := (c.rd ADP_POLICY.RES_ADDR, 16 * c.rd ADP_POLICY.RES_SIZE)

/-- A channel's list is one whose tiles are not read (R48). -/
def Core.listUnread (c : Core) (b : Bytes) (ch : Nat) : Bool :=
  decide (262144 < manCount b ch) || manAddr b ch % 4096 != 0 ||
  decide (c.hostBytes < manAddr b ch + 4096 * manCount b ch)

/-- M_ADDR (R48). `j` is the state at the tide mark. -/
def Core.manAddrBad (j : Core) (b : Bytes) : Bool :=
  let named := (List.range 64).filter (fun ch => manCount b ch != 0)
  let len := fun ch => 4096 * manCount b ch
  let res := j.residueArea
  named.any (fun ch => j.listUnread b ch || !j.dramOk (manAddr b ch) (len ch) ||
    overlaps (manAddr b ch) (len ch) res.1 res.2 ||
    named.any (fun k => decide (k < ch) && overlaps (manAddr b ch) (len ch) (manAddr b k) (len k))) ||
  decide (manTimeout b < 100) || decide (60000000 < manTimeout b)

/-- M_MASK (R48, R155, R440): the mask against the counts; a channel armed that is failed or unarmable. -/
def Core.manMaskBad (c : Core) (b : Bytes) : Bool :=
  (List.range 64).any (fun ch =>
    (bitOf (manMask b) ch != (manCount b ch != 0)) ||
    (bitOf (manMask b) ch && (c.failed ch || c.windowUnarmable ch || bitOf (c.rd BST_RESULT.UNARMABLE) ch)))

/-- M_LAYER (R47, R48). -/
def Core.manLayerBad (c : Core) (b : Bytes) (chk : Nat) : Bool :=
  let before := match c.queuedManifests.getLast? with
    | some m => manLayer m
    | none => c.rd SEQ_LAYER_STATE.LAYER_NOW
  manLayer b != chk || (!c.pilot.freeNumber && manLayer b != (before + 1) % 2 ^ 32)

/-- M_QUEUE (R48). -/
def Core.manQueueFull (c : Core) : Bool := decide (4 ≤ c.queuedManifests.length)

/-- The first failing manifest code (R48). -/
def Core.manifestCode (c j : Core) (b : Bytes) (chk : Nat) : Option Nat :=
  if crc32c (b.take 1088) != fieldLE b 1088 4 then some 0x21
  else if fieldLE b 0 1 != 0xA6 || fieldLE b 1 1 != 1 || !manReservedZero b then some 0x22
  else if c.manLayerBad b chk then some 0x23
  else if c.manMaskBad b then some 0x24
  else if j.manAddrBad b then some 0x25
  else if c.manQueueFull then some 0x26
  else none

/-! ### Tiles (R48, R49, R141) -/

/-- The tiles of a list from index `i` on, each checked against its predecessor (R30); `ue` is the address of an
uncorrectable burst. -/
def Core.checkList (c j : Core) (m : Mem) (layer ch addr : Nat) (ue : Option Nat) :
    Nat → Nat → Option Nat → List Fail
  | _, 0, _ => []
  | i, n + 1, prev =>
    let a := addr + 4096 * i
    let t := c.dramRead m a 4096
    let e := j.tileEnv ch layer prev
    let poisoned := match ue with | some u => decide (a ≤ u) && decide (u < a + 4096) | none => false
    let bad := match tileCheck e t poisoned with
      | some x => some x
      | none => tileBwk e t
    (match bad with | some x => [⟨x.1, x.2, idManifest, ch, i⟩] | none => []) ++
      c.checkList j m layer ch addr ue (i + 1) n (some (tileHdr t).planSeq)

/-- Failures of every tile a manifest names, and the tiles read. -/
def Core.checkTiles (c j : Core) (m : Mem) (b : Bytes) (ue : Option Nat) : List Fail × Nat :=
  let chans := (List.range 64).filter (fun ch => !j.listUnread b ch)
  (chans.flatMap (fun ch => c.checkList j m (manLayer b) ch (manAddr b ch) ue 0 (manCount b ch) none),
   (chans.map (manCount b)).foldl (· + ·) 0)

/-! ### Parameter sets (R41, R42, R314) -/

/-- The set numbers an object of the set names. -/
def setNumbers (o : SetObj) : List Nat :=
  let v := leNat o.image
  let first := if o.obj = idPset then imgField v SEQ_PSET.PSW_FIRST else imgField v SEQ_PSET_BLOCK.BLK_FIRST
  if o.obj = idPset ∨ o.obj = idPsetBlock then (List.range (o.data.length / 16)).map (fun n => first + n) else []

/-- The object staged last that names a set of a channel. -/
def setSource (os : List SetObj) (ch n : Nat) : Option Nat :=
  ((os.filter (fun o => o.inst == ch && (setNumbers o).contains n)).getLast?).map SetObj.obj

/-- The channels and sets the staged set names. -/
def setsNamed (os : List SetObj) : List (Nat × Nat) :=
  (List.range 64).flatMap (fun ch => (List.range 256).filterMap (fun n =>
    if (setSource os ch n).isSome then some (ch, n) else none))

/-- P_RANGE (R41, R215): one entry per failing set. -/
def Core.checkSets (j : Core) (os : List SetObj) : List Fail :=
  (setsNamed os).filterMap (fun q =>
    if psRangeOk (j.pset q.1 q.2) then none
    else some ⟨0x30, 0xFF, (setSource os q.1 q.2).getD idPset, q.1, q.2⟩)

/-- TW_GATE (R314): in a pair, a staged set whose gate runs on the LG pair, once per object instance. -/
def Core.checkTwin (j : Core) (os : List SetObj) : List Fail :=
  if !j.inPair then []
  else os.filterMap (fun o =>
    if (setNumbers o).any (fun n => setSource os o.inst n == some o.obj && psRangeOk (j.pset o.inst n) &&
        !psWord (j.pset o.inst n)) then
      some ⟨0x61, 0xFF, o.obj, o.inst, 0⟩
    else none)

/-! ### Staged objects -/

/-- A field of an image lies in a range. -/
def within (v : Nat) (f : Field) (lo hi : Nat) : Bool := decide (lo ≤ imgField v f) && decide (imgField v f ≤ hi)

/-- The rung factors of a bank (R113). -/
def rungs (v : Nat) : List Nat :=
  [RFX_BANK0.RS0, RFX_BANK0.RS1, RFX_BANK0.RS2, RFX_BANK0.RS3, RFX_BANK0.RS4, RFX_BANK0.RS5, RFX_BANK0.RS6,
   RFX_BANK0.RS7].map (imgField v)

/-- R_RANGE of a bank (R113); both banks have one layout. -/
def bankOk (v : Nat) : Bool :=
  let g := imgField v
  let n := g RFX_BANK0.RUNG_COUNT
  let rs := rungs v
  let used := rs.take n
  decide (g RFX_BANK0.LOW < g RFX_BANK0.HIGH) && within v RFX_BANK0.CONFIRM 1 4 && within v RFX_BANK0.RUNG_COUNT 2 8 &&
  decide (g RFX_BANK0.START_RUNG < n) &&
  decide (1 ≤ rs.getD 0 0) && (used.zip (used.drop 1)).all (fun p => decide (p.1 < p.2)) &&
  decide (rs.getD (n - 1) 0 ≤ 0x8000) && (rs.drop n).all (· == 0) &&
  (g RFX_BANK0.INT_THRESH == 0 || (decide (3 ≤ n) && decide (1 ≤ g RFX_BANK0.TARGET_RUNG) &&
    decide (g RFX_BANK0.TARGET_RUNG + 2 ≤ n))) &&
  within v RFX_BANK0.BASE_MIN 1 0x8000 && decide (g RFX_BANK0.BASE_STEP ≤ 0x1000)

/-- The tile lists of which A_RANGE speaks: those of the staged set, of the sets waiting, and of the layer exposing. -/
def Core.allLists (c : Core) : List (Nat × Nat) :=
  let of_ := fun b => (manLists b).map (fun q => (q.1, 4096 * q.2))
  (manifestOf c.pilot.staged).toList.flatMap of_ ++ c.queuedManifests.flatMap of_ ++
  (if c.layerActive then c.layer.lists.map (fun q => (q.1, 4096 * q.2)) else [])

/-- A_RANGE of ADP_POLICY (chapter 7): the residue area. -/
def Core.residueOk (c : Core) (v : Nat) : Bool :=
  let a := imgField v ADP_POLICY.RES_ADDR
  let n := 16 * imgField v ADP_POLICY.RES_SIZE
  a % 16 == 0 && decide (imgField v ADP_POLICY.RES_SIZE ≤ 1048576) &&
  (n == 0 || c.dramOk a n) && !c.allLists.any (fun q => overlaps a n q.1 q.2)

/-- M_RECOAT (R299): a coordinate within the enabled limits of an axis. -/
def Core.withinLimits (c : Core) (axis : Nat) (x : Int) : Bool :=
  !c.flag MOT_CONFIG.LIM_EN axis || (decide (c.rdI MOT_CONFIG.LIM_LO axis ≤ x) && decide (x ≤ c.rdI MOT_CONFIG.LIM_HI axis))

/-- The range code of a staged object and whether its value keeps its ranges; none for objects tested elsewhere. -/
def Core.objectTest (c : Core) (obj inst v : Nat) : Option (Nat × Bool) :=
  let g := imgField v
  match obj with
  | 0x1101 => some (0x40, g CHT_GEOM.PITCH == 0 || decide (100 ≤ g CHT_GEOM.PITCH))
  | 0x1012 => some (0x43, within v SEQ_DYN.MARK_ACC 100 1000000 && within v SEQ_DYN.MARK_JERK 100 100000000 &&
      within v SEQ_DYN.JUMP_ACC 100 1000000 && within v SEQ_DYN.JUMP_JERK 100 100000000 &&
      within v SEQ_DYN.CORNER_TOL 1 10000 && within v SEQ_DYN.REENTRY 0 10000)
  | 0x1201 => some (0x44, within v GAT_CONFIG.VMIN 1 1000000 && within v GAT_CONFIG.LAG_MAX 10 1000 &&
      within v GAT_CONFIG.FE_CROSS_MAX 1 8388607 && within v GAT_CONFIG.FE_TICKS 1 255)
  | 0x1210 => some (0x44, within v GAT_TRIM.MAXAGE 1 65535 && decide (g GAT_TRIM.TRIM_MIN ≤ g GAT_TRIM.TRIM_INIT) &&
      decide (g GAT_TRIM.TRIM_INIT ≤ g GAT_TRIM.TRIM_MAX))
  | 0x1301 => some (0x45, bankOk v)
  | 0x1302 => some (0x45, bankOk v)
  | 0x1303 => some (0x45, within v RFX_CONFIG.SAMPLE_DIV 1 100 && 10000000 % g RFX_CONFIG.SAMPLE_DIV == 0 &&
      within v RFX_CONFIG.STARVE 2 255)
  | 0x1401 => some (0x46, within v BWK_MAXLEN.MAXLEN 2000 200000)
  | 0x1402 => some (0x46, within v BWK_GEOM.KEEPOUT 1 1000000 && within v BWK_GEOM.SHADOW_LEN 0 2000000 &&
      within v BWK_GEOM.SHADOW_WIDE 0 1000000 && within v BWK_GEOM.LINGER 0 10000)
  | 0x1404 => some (0x46, within v BWK_WAIT.WAIT_CAP 1 2000000 && within v BWK_WAIT.YIELD_MAX 1 15)
  | 0x1403 => some (0x46, within v BWK_CASCADE.BORDER_W 0 4000000)
  | 0x1501 => some (0x49, !bitOf (g ADP_CONFIG.ADOPT_MASK) inst)
  | 0x1502 => some (0x49, c.residueOk v)
  | 0x4010 => some (0x60, g MOT_RECOAT.PLAT_AXIS != g MOT_RECOAT.RC_AXIS &&
      c.withinLimits (g MOT_RECOAT.RC_AXIS) (imgFieldI v MOT_RECOAT.RC_HOME) &&
      c.withinLimits (g MOT_RECOAT.RC_AXIS) (imgFieldI v MOT_RECOAT.RC_FAR))
  | _ => none

/-- A staged object that breaks its ranges, or has a reserved bit set. -/
def Core.checkObject (c : Core) (o : SetObj) : Option Fail :=
  let v := leNat o.image
  match c.objectTest o.obj o.inst v with
  | none => none
  | some (code, ok) =>
    let resOk := match findObj o.obj with | some d => reservedZero d v | none => true
    if ok && resOk then none else some ⟨code, 0xFF, o.obj, o.inst, 0⟩

/-! ### Charts (R74, R76) -/

/-- The channels R74 tests: those whose chart, or whose parameter sets, the set changes. -/
def rangeChans (os : List SetObj) : List Nat :=
  (List.range 64).filter (fun ch => os.any (fun o =>
    o.inst == ch && (o.obj == idChtGeom || o.obj == idChtNodes || o.obj == idPset || o.obj == idPsetBlock)))

/-- C_RANGE on a channel (R74). -/
def Core.chartRangeBad (j : Core) (ch : Nat) : Bool :=
  let g := j.geom ch
  let zs := ((List.range 256).map (j.pset ch)).filterMap (fun w => if psDefined w then some (psZ w) else none)
  let lo := match zs with | [] => 0 | z :: l => l.foldl min z
  let hi := match zs with | [] => 0 | z :: l => l.foldl max z
  g.pitch != 0 && rangeFails g (fun i k => j.node (j.rd CHT_BANK.CURRENT ch) ch i k) lo hi

/-- C_RANGE, reported on CHT_GEOM; a chart that failed C_GEOM is not reported again. -/
def checkRange (j : Core) (os : List SetObj) (found : List Fail) : List Fail :=
  (rangeChans os).filterMap (fun ch =>
    if found.any (fun f => f.obj == idChtGeom && f.inst == ch) then none
    else if j.chartRangeBad ch then some ⟨0x41, 0xFF, idChtGeom, ch, 0⟩ else none)

/-- C_BANK (R76). -/
def Core.checkBank (c : Core) (os : List SetObj) (found : List Fail) : List Fail :=
  os.filterMap (fun o =>
    if (o.obj == idChtGeom || o.obj == idChtNodes) && c.rd CHT_BANK.INACTIVE_STATE o.inst == bankCommitted &&
        !found.any (fun f => f.obj == o.obj && f.inst == o.inst) then
      some ⟨0x42, 0xFF, o.obj, o.inst, 0⟩
    else none)

/-! ### The border region of the set (R126, R141) -/

/-- B_REGION on BWK_CASCADE, unless it failed B_RANGE. -/
def Core.checkRegion (j : Core) (found : List Fail) : List Fail :=
  let reach := j.rd BWK_GEOM.KEEPOUT + max (j.rd BWK_GEOM.SHADOW_LEN) (j.rd BWK_GEOM.SHADOW_WIDE)
  if j.flag BWK_CASCADE.BORDER_EN && !found.any (fun f => f.obj == 0x1403) &&
      (decide (j.rdI BWK_CASCADE.REG_X_HI < j.rdI BWK_CASCADE.REG_X_LO) ||
       decide (j.rdI BWK_CASCADE.REG_Y_HI < j.rdI BWK_CASCADE.REG_Y_LO) ||
       decide (j.rd BWK_CASCADE.BORDER_W < reach)) then
    [⟨0x48, 0xFF, 0x1403, 0, 0⟩]
  else []

/-! ### The set (R214) -/

/-- S_EMPTY and S_QUEUE. -/
def Core.checkSet (c : Core) : List Fail :=
  if c.pilot.staged.isEmpty then [⟨0x50, 0xFF, 0, 0, 0⟩]
  else if 8 ≤ c.pilot.queue.length then [⟨0x51, 0xFF, 0, 0, 0⟩]
  else []

/-- The row of R214's table a code stands in. -/
def codeGroup (code : Nat) : Nat :=
  [0x15, 0x27, 0x31, 0x43, 0x44, 0x45, 0x46, 0x49, 0x4A, 0x51, 0x52].foldl (fun n hi => if hi ≤ code then n + 1 else n) 0

/-- The order of the report: the row of R214's table, then object, instance and index. -/
def Fail.before (a b : Fail) : Bool :=
  let ka := [codeGroup a.code, a.obj, a.inst, a.index]
  let kb := [codeGroup b.code, b.obj, b.inst, b.index]
  decide (ka < kb)

/-- Insert into an ordered report, after entries of the same place. -/
def Fail.insert (x : Fail) : List Fail → List Fail
  | [] => [x]
  | y :: l => if x.before y then x :: y :: l else y :: Fail.insert x l

def sortFails (l : List Fail) : List Fail := l.foldl (fun acc x => Fail.insert x acc) []

/-- Every failure of the staged set in the report's order, and the tiles read (R214). -/
def Core.checkAll (c : Core) (m : Mem) (ue : Option Nat) : List Fail × Nat :=
  let j := c.atTide
  let os := c.pilot.staged
  let man := os.find? (fun o => o.obj == idManifest)
  let (manFails, tiles, n) : List Fail × List Fail × Nat := match man with
    | none => ([], [], 0)
    | some o =>
      let code := c.manifestCode j o.data (imgField (leNat o.image) SEQ_MANIFEST.MAN_LAYER_CHK)
      let t := if code = some 0x21 ∨ code = some 0x22 then ([], 0) else c.checkTiles j m o.data ue
      ((code.map (fun x => (⟨x, 0xFF, idManifest, 0, 0⟩ : Fail))).toList, t.1, t.2)
  let objs := os.filterMap (fun o => (j.checkObject o))
  let range := checkRange j os objs
  let rest := objs ++ range ++ c.checkBank os (objs ++ range) ++ j.checkRegion objs ++ j.checkSets os ++ j.checkTwin os ++
    c.checkSet ++ manFails
  let early := tiles.filter (fun f => decide (codeGroup f.code = 0))
  let late := tiles.filter (fun f => decide (codeGroup f.code ≠ 0))
  (early ++ sortFails (rest ++ late), n)

/-! ### Results (R215, R216) -/

def failBytes (f : Fail) : Bytes :=
  leBytes 1 f.code ++ leBytes 1 f.rec_ ++ leBytes 2 f.obj ++ leBytes 2 f.inst ++ zeros 2 ++ leBytes 4 f.index

/-- The payload of R215. -/
def checkPayload (l : List Fail) : Bytes :=
  let few := l.take 16
  leBytes 1 (if l.isEmpty then 0 else 1) ++ leBytes 1 few.length ++ zeros 2 ++ leBytes 4 (satNat 32 l.length) ++
  few.flatMap failBytes

/-- The reply of a check or a commit that failed, or of a check that passed (R201, R214). -/
def checkReply (l : List Fail) : Reply :=
  if l.isEmpty then ⟨stOk, 0, checkPayload l⟩ else ⟨stCheckFailed, satNat 32 l.length, checkPayload l⟩

/-- The tests that COMMIT repeats (R216). -/
def Core.commitTests (c : Core) : List Fail :=
  (match manifestOf c.pilot.staged with
    | some b =>
      if c.manMaskBad b then [⟨0x24, 0xFF, idManifest, 0, 0⟩]
      else if c.manQueueFull then [⟨0x26, 0xFF, idManifest, 0, 0⟩] else []
    | none => []) ++
  (if 8 ≤ c.pilot.queue.length then [⟨0x51, 0xFF, 0, 0, 0⟩] else [])

end Sys2Proof.Machine
end

