-- ==== Sys2Proof/Machine/Staging.lean ====
section
/-!
DEFINITION. Machine/Staging.lean: the staged set (R42, R45, R71, R75, R76, R206, R211 to R213), the end of a DRAM copy
(R208), the end of a check (R214, R215, R318) and COMMIT (R216, R217).
-/
namespace Sys2Proof.Machine

/-! ### Descriptor tests (R42, R45, R71) -/

/-- The first offending place of a list of tests, as a byte offset in the slot. -/
def firstOffset (l : List (Nat × Bool)) : Option Nat :=
  match (l.filter (fun e => e.2)).map Prod.fst with
  | [] => none
  | a :: t => some (t.foldl min a)

def nodesSize : Nat := 133128
def manifestSize : Nat := 1104

/-- The descriptor of an object that names or carries more than its own value: the offset of the first fault. -/
def Core.descriptorFault (c : Core) (obj v : Nat) : Option Nat :=
  let g := imgField v
  if obj = idPset then
    let n := g SEQ_PSET.PSW_COUNT
    firstOffset [(17, decide (n < 1) || decide (14 < n)), (16, decide (256 < g SEQ_PSET.PSW_FIRST + n)),
      (18, bits v 16 112 != 0)]
  else if obj = idPsetBlock then
    let n := g SEQ_PSET_BLOCK.BLK_COUNT
    firstOffset [(16, g SEQ_PSET_BLOCK.BLK_ADDR % 16 != 0 || !c.dramOk (g SEQ_PSET_BLOCK.BLK_ADDR) (16 * n)),
      (25, decide (n < 1) || decide (256 < n)), (24, decide (256 < g SEQ_PSET_BLOCK.BLK_FIRST + n)),
      (26, bits v 81 15 != 0)]
  else if obj = idManifest then
    firstOffset [(16, g SEQ_MANIFEST.MAN_ADDR % 64 != 0 || !c.dramOk (g SEQ_MANIFEST.MAN_ADDR) manifestSize),
      (28, bits v 96 32 != 0)]
  else if obj = idChtNodes then
    firstOffset [(16, g CHT_NODES.NODE_ADDR % 8 != 0 || !c.dramOk (g CHT_NODES.NODE_ADDR) nodesSize),
      (28, bits v 96 32 != 0)]
  else none

/-- The device copies the object's data from DRAM (R208). -/
def copiesDram (obj : Nat) : Bool := obj == idPsetBlock || obj == idManifest || obj == idChtNodes

/-- Where the data of an object lies and how long it is. -/
def copySpan (obj v : Nat) : Nat × Nat :=
  if obj = idPsetBlock then (imgField v SEQ_PSET_BLOCK.BLK_ADDR, 16 * imgField v SEQ_PSET_BLOCK.BLK_COUNT)
  else if obj = idManifest then (imgField v SEQ_MANIFEST.MAN_ADDR, manifestSize)
  else (imgField v CHT_NODES.NODE_ADDR, nodesSize)

/-- The tests of data copied from DRAM: the offset R201 gives for a fault. -/
def dataFault (obj v : Nat) (data : Bytes) : Option Nat :=
  if obj = idPsetBlock then
    (if crc32c data != imgField v SEQ_PSET_BLOCK.BLK_CRC then some 28 else none)
  else if obj = idChtNodes then
    if crc32c data != imgField v CHT_NODES.NODE_CRC then some 24
    else if (List.range 16641).any (fun n => fieldLE data (8 * n + 7) 1 >>> 4 != 0) then some 16
    else none
  else none

/-! ### Chart banks (R71, R75) -/

/-- Put the nodes of a chart into a bank of a channel. -/
def Core.putNodes (c : Core) (bank ch : Nat) (data : Bytes) : Core :=
  { c with
    charts := (List.range 16641).foldl (fun (k : Kv Nat) (n : Nat) => Kv.put 0 k ((bank * 64 + ch) * 16641 + n) (fieldLE data (8 * n) 8)) c.charts }

/-- The nodes of one bank are copied to the other: a chart staged as geometry alone keeps its nodes. -/
def Core.copyNodes (c : Core) (src dst ch : Nat) : Core :=
  let at_ := fun b n => (b * 64 + ch) * 16641 + n
  { c with
    charts := (List.range 16641).foldl (fun (k : Kv Nat) (n : Nat) => Kv.put 0 k (at_ dst n) (Kv.get 0 c.charts (at_ src n))) c.charts }

/-- A chart object enters the inactive bank of its channel. -/
def Core.stageBank (c : Core) (o : SetObj) : Core :=
  if o.obj = idChtGeom ∨ o.obj = idChtNodes then
    let cur := c.rd CHT_BANK.CURRENT o.inst
    let c := if o.obj = idChtNodes then c.putNodes (1 - cur) o.inst o.data
      else if c.rd CHT_BANK.INACTIVE_STATE o.inst = bankEmpty then c.copyNodes cur (1 - cur) o.inst
      else c
    c.wr CHT_BANK.INACTIVE_STATE bankStaged o.inst
  else c

/-! ### OBJ_STAGE, STAGE_READ (R206, R211, R212) -/

def setLimit : Nat := 16384

/-- The staged object of an ID and instance. -/
def Core.stagedObj (c : Core) (obj inst : Nat) : Option SetObj :=
  c.pilot.staged.find? (fun o => o.obj == obj && o.inst == inst)

/-- A stage would need a further instance beyond the limit (R212). -/
def Core.setFull (c : Core) (obj inst : Nat) : Bool :=
  (c.stagedObj obj inst).isNone && decide (setLimit ≤ c.pilot.staged.length)

/-- The staging of a chart object is refused while the inactive bank holds a committed chart (R71, R76). -/
def Core.chartBlocked (c : Core) (obj inst : Nat) : Bool :=
  (obj == idChtGeom || obj == idChtNodes) && c.rd CHT_BANK.INACTIVE_STATE inst == bankCommitted

/-- An object enters the set in place of an earlier one; the set's check state is OPEN again (R212). -/
def Core.enterSet (c : Core) (o : SetObj) : Core :=
  let c := c.stageBank o
  let l := c.pilot.staged.filter (fun x => !(x.obj == o.obj && x.inst == o.inst)) ++ [o]
  let c := c.modPilot (fun p => { p with staged := l, check := [] })
  (c.wr PLT_STAGE.STATE sgOpen).wr PLT_STAGE.OBJECTS l.length

def Core.checkRuns (c : Core) : Bool := c.rd PLT_STAGE.STATE == sgChecking

/-- OBJ_STAGE past the tests of R205 that come before its payload. -/
def Core.objStage (c : Core) (obj inst : Nat) (payload : Bytes) : Core × Answer :=
  let image := if obj = idPset then payload.take 16 else payload
  let v := leNat image
  if c.chartBlocked obj inst then (c, err stBadMode)
  else match c.descriptorFault obj v with
  | some off => (c, err stBadField off)
  | none =>
    if c.checkRuns then (c, err stBusy)
    else if c.setFull obj inst then (c, err stSetFull)
    else if copiesDram obj then (c, .wait .stageCopy)
    else (c.enterSet ⟨obj, inst, image, if obj = idPset then payload.drop 16 else []⟩, ok)

/-- The DRAM copy of a staged object ends and its command completes (R208); `bad` names a burst in error
by its index in the copied data, and says whether it was corrected (R370, R371). -/
def Core.copyOne (c : Core) (m : Mem) (l : LongCmd) (bad : Option (Nat × Bool)) : Core :=
  let obj := l.cmd.object
  let inst := l.cmd.inst
  let image := l.cmd.payload.take l.cmd.length
  let v := leNat image
  let (a, n) := copySpan obj v
  let c := c.modPilot (fun p => { p with long := p.long.filter (fun x => x != l) })
  let c := c.dramHazard a n
  let data := c.dramRead m a n
  let (c, ue) := c.readErr 2 (burstIn a n bad)
  if ue then c.respond l.cmd (errReply stBadField 16)
  else
    if c.chartBlocked obj inst then c.respond l.cmd (errReply stBadMode)
    else match dataFault obj v data with
    | some off => c.respond l.cmd (errReply stBadField off)
    | none =>
      if c.setFull obj inst then c.respond l.cmd (errReply stSetFull)
      else (c.enterSet ⟨obj, inst, image, data⟩).respond l.cmd okReply

/-- STAGE_COPY_DONE: the copy under way longest ends. -/
def Core.stageCopyDone (c : Core) (m : Mem) (bad : Option (Nat × Bool)) : Core :=
  match c.pilot.long.find? (fun l => l.kind == .stageCopy) with
  | none => c
  | some l => if c.held domMEM then c else c.copyOne m l bad

/-- STAGE_READ: the staged value with DETAIL 1, else the value in force with DETAIL 0 (R206). -/
def Core.stageRead (c : Core) (d : ObjDesc) (inst : Nat) : Answer :=
  match c.stagedObj d.id inst with
  | some o => .done ⟨stOk, 1, if d.id = idPset then o.image ++ o.data else o.image⟩
  | none => ok (c.imageBytes d inst)

/-! ### CHECK (R214, R215) -/

/-- CHECK begins; one that finds another running, or a copy under way, completes with BUSY. -/
def Core.checkStart (c : Core) : Core × Answer :=
  if c.checkRuns || c.anyLong (fun k => k == .stageCopy) then (c, err stBusy)
  else ((c.wr PLT_STAGE.STATE sgChecking).wr PLT_STAGE.TILES_DONE 0, .wait .check)

/-- A check that failed leaves the inactive banks it staged EMPTY; the chart objects leave the set with them (R75). -/
def Core.dropCharts (c : Core) : Core :=
  let c := c.emptyBanks bankStaged
  let l := c.pilot.staged.filter (fun o => !(o.obj == idChtGeom || o.obj == idChtNodes))
  (c.modPilot (fun p => { p with staged := l })).wr PLT_STAGE.OBJECTS l.length

/-- What a unit of a pair compares at the end of a CHECK: the staged set and every tile read (R318). -/
def Core.mirrorCrc (c : Core) (m : Mem) : Nat :=
  let set := c.pilot.staged.flatMap (fun o => leBytes 2 o.obj ++ leBytes 2 o.inst ++ o.image ++ o.data)
  let tiles := match manifestOf c.pilot.staged with
    | some b => ((List.range 64).filter (fun ch => !c.listUnread b ch)).flatMap
        (fun ch => c.dramRead m (manAddr b ch) (4096 * manCount b ch))
    | none => []
  crc32c (set ++ tiles)

/-- The check ends: PLT_STAGE shows its result and CHECK completes. `ue` is the address of a burst in error met in a tile,
and whether it was corrected; `partner` the value of R318 that the other unit of a pair sent. -/
def Core.checkDone (c : Core) (m : Mem) (ue : Option (Nat × Bool)) (partner : Option Nat) : Core :=
  if !c.checkRuns || c.held domMEM then c
  else
    let (c, bad) := c.readErr 3 ue
    let r := c.checkAll m (if bad then ue.map Prod.fst else none)
    let differs := match partner with | some x => c.inPair && x != c.mirrorCrc m | none => false
    let l := r.1 ++ (if differs then [⟨0x62, 0xFF, 0, 0, 0⟩] else [])
    let c := ((c.wr PLT_STAGE.STATE (if l.isEmpty then sgPassed else sgFailed)).wr PLT_STAGE.FAILS
      (satNat 32 l.length)).wr PLT_STAGE.TILES_DONE (satNat 32 r.2)
    let c := c.modPilot (fun p => { p with check := l })
    let c := if l.isEmpty then c else c.dropCharts
    c.completeLong (fun x => x.kind == .check) (checkReply l)

/-! ### COMMIT (R216, R217) -/

/-- Elapsed ticks to the fourth control tick boundary after the present one. -/
def commitLead : Nat := 80

/-- COMMIT of a set whose check stands; `nb` is NOT_BEFORE. -/
def Core.commit (c : Core) (nb : Option Time) : Core × Answer :=
  if c.rd PLT_STAGE.STATE ≠ sgPassed then (c, err stNotChecked)
  else
    let fails := c.commitTests
    if !fails.isEmpty then
      let c := ((c.wr PLT_STAGE.STATE sgFailed).wr PLT_STAGE.FAILS fails.length).modPilot (fun p => { p with check := fails })
      (c, .done (checkReply fails))
    else
      let os := c.pilot.staged
      let man := manifestOf os
      let id := c.rd PLT_QUEUE.NEXT_SET_ID
      let pos := c.pilot.queue.length
      let layer := match man with | some b => manLayer b | none => 0xFFFFFFFF
      let pending := match man with | some b => manLayer b | none => (Config.pendingNone id).toNat
      let c := (chartChans os).foldl (fun c ch =>
        (c.wr CHT_BANK.INACTIVE_STATE bankCommitted ch).wr CHT_BANK.PENDING_LAYER pending ch) c
      let c := c.modPilot (fun p => { p with
        staged := [], check := [], queue := p.queue ++ [⟨id, os, nb, c.ticks + commitLead, man⟩],
        freeNumber := p.freeNumber && man.isNone })
      let c := (c.wr PLT_STAGE.STATE sgEmpty).wr PLT_STAGE.OBJECTS 0
      let c := (c.wr PLT_QUEUE.NEXT_SET_ID (if id = 65535 then 1 else id + 1)).showQueue
      (c, ok (leBytes 2 id ++ leBytes 1 pos ++ leBytes 1 (b2n man.isSome) ++ leBytes 4 layer))

end Sys2Proof.Machine
end

