-- ==== Sys2Proof/Machine/Opcodes.lean ====
section
/-!
DEFINITION. Machine/Opcodes.lean: what each mailbox opcode does once the tests that come before it are passed (R206, R233,
R262, R311, R345, R381, R401, R418, R427, R433), and the reading of objects (R9, R211).
-/
namespace Sys2Proof.Machine

/-! ### Payload fields -/

/-- The field of `n` bytes at a byte offset of the slot (R200: the payload runs from byte 16). -/
def Cmd.at_ (x : Cmd) (off n : Nat) : Nat := fieldLE x.payload (off - 16) n
def Cmd.atI (x : Cmd) (off n : Nat) : Int := fieldLEs x.payload (off - 16) n

def fgImmediate : Nat := 1
def fgForce : Nat := 2
def fgUrgent : Nat := 4

def Cmd.immediate (x : Cmd) : Bool := bitOf x.flags 0
def Cmd.force (x : Cmd) : Bool := bitOf x.flags 1
def Cmd.urgent (x : Cmd) : Bool := bitOf x.flags 2

/-- BAD_FIELD at the first offending offset of a list of tests, else go on. -/
def payloadTests (c : Core) (l : List (Nat × Bool)) (go : Core × Answer) : Core × Answer :=
  match firstOffset l with
  | some off => (c, err stBadField off)
  | none => go

/-! ### Sessions, token, events (R202, R206, R209) -/

def opSessionOpen (c : Core) (x : Cmd) : Core × Answer :=
  let c := (c.sessionGone x.master).forgetResponses x.master
  let boot := c.rd HBR_STATE.BOOT_COUNT % 65536
  let e := match c.pilot.prevEpoch.getD x.master none with
    | none => if boot = 0 then 1 else boot
    | some e => if e = 65535 then 1 else e + 1
  let c := c.modPilot (fun p => { p with
    prevEpoch := setAt none p.prevEpoch x.master (some e),
    ethPeer := if x.master = 2 then some (c.mbox 2 x.mailbox).peer else p.ethPeer })
  (c.wr (epochField x.master) e, ok (leBytes 2 e))

def opSessionClose (c : Core) (x : Cmd) : Core × Answer :=
  let c := c.modPilot (fun p => { p with ethPeer := if x.master = 2 then none else p.ethPeer })
  (c.closeSession x.master, ok)

/-- TOKEN_TAKE; `h` is the holder at the boundary (R207, R209). -/
def opTokenTake (c : Core) (x : Cmd) (h : Nat) : Core × Answer :=
  let take := fun (c : Core) (cause : Nat) =>
    if c.holder = x.master then c
    else (c.moveToken x.master cause).modPilot (fun p => { p with holderSince := c.ticks })
  if x.force then (take c 2, ok)
  else if h = x.master then (c, ok)
  else if h = noHolder then (take c 0, ok)
  else (c, err stTokenHeld h)

def opTokenRelease (c : Core) : Core × Answer := (c.moveToken noHolder 0, ok)
def opKeepalive (c : Core) : Core × Answer := (c, ok (leBytes 1 c.holder))

/-- EVENT_READ: COUNT records from EV_SEQ; one that is no longer in the ring, or not yet written, is a BAD_FIELD. -/
def opEventRead (c : Core) (x : Cmd) : Core × Answer :=
  let seq := x.at_ 16 4
  let n := x.at_ 20 1
  let there := (List.range (if n < 1 ∨ 3 < n then 1 else n)).all (fun i =>
    let d := (c.rd BAR0.EV_PROD + 2 * 2 ^ 32 - (seq + i)) % 2 ^ 32
    decide (1 ≤ d) && decide (d ≤ 1024) && fieldLE (c.ringRecordAt ((seq + i) % 2 ^ 32)) 4 4 == (seq + i) % 2 ^ 32)
  payloadTests c [(20, decide (n < 1) || decide (3 < n)), (21, x.at_ 21 3 != 0), (16, !there)]
    (c, ok ((List.range n).flatMap (fun i => c.ringRecordAt ((seq + i) % 2 ^ 32))))

/-! ### Reading objects (R9, R211) -/

/-- The counts of an RC object are cleared by a read. -/
def Core.clearCounts (c : Core) (d : ObjDesc) (i : Nat) : Core :=
  d.fields.foldl (fun c f => if f.access = .rc then c.wr f 0 i else c) c

/-- OBJ_READ: the whole object; TIM_NOW as it stands, TIM_TXQ by its queue, RC fields cleared by the read. -/
def Core.readObject (c : Core) (d : ObjDesc) (i : Nat) : Core × Bytes :=
  if d.id = 0x6010 then
    let r := c.txqRead
    (r.2, r.1.take d.size)
  else
    let c := if d.id = 0x6003 then c.showNow else if d.id = 0x6002 then c.showRate else c
    let b := c.imageBytes d i
    (c.clearCounts d i, b)

def opObjRead (c : Core) (d : ObjDesc) (i : Nat) : Core × Answer :=
  let r := c.readObject d i
  (r.1, ok r.2)

/-- OBJ_WRITE: mode conditions, then the fields, then the effect (R211). -/
def opObjWrite (c : Core) (m : Mem) (d : ObjDesc) (i : Nat) (bs : Bytes) : Core × Answer :=
  let v := leNat bs
  if c.writeModeBad d i v then (c, err stBadMode)
  else match c.writeFault m d i v with
  | some off => (c, err stBadField off)
  | none => (c.writeObject m d i v, ok)

/-! ### The staged set (R211 to R216) -/

/-- The modes in which OBJ_STAGE and DISCARD are allowed (R213). -/
def Mode.mayStage : Mode → Bool
  | .standby | .armed | .expose | .slack | .hold | .calibrate | .service | .safe => true
  | _ => false

/-- The modes in which COMMIT is allowed (R216). -/
def Mode.mayCommit : Mode → Bool
  | .standby | .armed | .expose | .slack | .hold | .service => true
  | _ => false

def opObjStage (c : Core) (x : Cmd) : Core × Answer :=
  if c.cmdMode.mayStage then c.objStage x.object x.inst (x.payload.take x.length) else (c, err stBadMode)

def opStageRead (c : Core) (d : ObjDesc) (i : Nat) : Core × Answer := (c, c.stageRead d i)
def opCheck (c : Core) : Core × Answer := c.checkStart

def opCommit (c : Core) (x : Cmd) : Core × Answer :=
  let sec := x.at_ 16 8
  let ns := x.at_ 24 4
  if !c.cmdMode.mayCommit then (c, err stBadMode)
  else payloadTests c [(24, decide (999999999 < ns))]
    (c.commit (if sec = 0 ∧ ns = 0 then none else some (mkTime sec ns 0)))

def opDiscard (c : Core) : Core × Answer :=
  if c.cmdMode.mayStage then (c.discardStaged, ok) else (c, err stBadMode)

/-! ### Axes (R290 to R297, R311) -/

/-- While the recoat sequence runs, a command for one of its axes completes with BUSY (R292). -/
def Core.recoatHolds (c : Core) (n : Nat) : Bool :=
  c.mot.recoat.step != 0 && !c.mot.recoat.done &&
  (c.rd MOT_RECOAT.PLAT_AXIS == n || c.rd MOT_RECOAT.RC_AXIS == n)

/-- A position in steps kept to 32 bits: one outside them is a value the spec does not state. -/
def Core.steps32 (c : Core) (g : Int) : Int × Core :=
  if -(2 ^ 31 : Int) ≤ g ∧ g < 2 ^ 31 then (g, c)
  else
    let f := c.drawFresh
    (toSigned 32 (Config.axisOverflow f.1).toNat, f.2)

/-- The modes in which MOT_MOVE and MOT_CONTINUE are allowed (R292). -/
def Mode.mayMove : Mode → Bool
  | .standby | .armed | .slack | .service => true
  | _ => false

def Core.axisUp (c : Core) (n : Nat) : Bool := c.axState n != axDisabled && c.axState n != axFault

/-- MOT_MOVE (R290 to R292). -/
def opMotMove (c : Core) (x : Cmd) : Core × Answer :=
  let n := x.at_ 16 1
  let rel := x.at_ 24 1
  if !c.cmdMode.mayMove then (c, err stBadMode)
  else if 7 < n then (c, err stBadField 16)
  else if !c.axisUp n then (c, err stBadMode)
  else payloadTests c [(17, x.at_ 17 3 != 0), (24, decide (1 < rel)), (25, x.at_ 25 3 != 0)] (
    if c.recoatHolds n then (c, err stBusy)
    else
      let a := c.axis n
      let base := if rel = 0 then 0 else match a.target, a.kept with
        | some g, _ => g
        | none, some g => g
        | none, none => c.posCmd n
      let r := c.steps32 (base + x.atI 20 4)
      if r.2.beyondLimit n r.1 then (r.2.inc MOT_STAT.LIMIT_REFUSED n, err stLimit)
      else (r.2.latchTarget n r.1, ok))

/-- MOT_HALT (R293). -/
def opMotHalt (c : Core) (x : Cmd) : Core × Answer :=
  let n := x.at_ 16 1
  payloadTests c [(16, decide (7 < n)), (17, decide (1 < x.at_ 17 1)), (18, x.at_ 18 2 != 0)] (
    if c.recoatHolds n then (c, err stBusy) else (c.stopAxis n (x.at_ 17 1 == 1), ok))

/-- MOT_CONTINUE (R294). -/
def opMotContinue (c : Core) (x : Cmd) : Core × Answer :=
  let n := x.at_ 16 1
  if !c.cmdMode.mayMove then (c, err stBadMode)
  else if 7 < n then (c, err stBadField 16)
  else match (c.axis n).kept with
  | none => (c, err stBadMode)
  | some g =>
    if !c.axisUp n then (c, err stBadMode)
    else payloadTests c [(17, x.at_ 17 3 != 0)] (
      if c.recoatHolds n then (c, err stBusy)
      else if c.beyondLimit n g then (c, err stLimit)
      else (c.continueAxis n, ok))

/-- The commanded position is set, with dev = 0 (R296, R311). -/
def Core.setPos (c : Core) (n : Nat) (p : Int) : Core :=
  let c := c.modAxis n (fun a => { a with p := F64.ofInt p, target := a.target.map (fun _ => p) })
  ((c.wr MOT_STATE.POS_CMD (ofSigned 32 p) n).zeroDev n).showTarget n

/-- MOT_SET_POS: IDLE axes only; a position outside the enabled limits is refused with LIMIT. -/
def opMotSetPos (c : Core) (x : Cmd) : Core × Answer :=
  let n := x.at_ 16 1
  if 7 < n then (c, err stBadField 16)
  else if c.axState n ≠ axIdle then (c, err stBadMode)
  else payloadTests c [(17, x.at_ 17 3 != 0)] (
    if c.recoatHolds n then (c, err stBusy)
    else if c.beyondLimit n (x.atI 20 4) then (c, err stLimit)
    else (c.setPos n (x.atI 20 4), ok))

/-- The cause of an axis fault has gone: the driver input is inactive, the input no longer faulted. A stall's deviation
ends with MOT_CLEAR itself (R296, R297). -/
def Core.faultGone (c : Core) (n : Nat) : Bool :=
  let src := c.rd MOT_CONFIG.ENC_SRC n
  let bad := if src < 8 then c.flag PFI_INC_STATE.FAULT src else decide (src < 12) && c.flag PFI_SSI_STATE.FAULT (src - 8)
  let x := c.axis n
  !(x.causes.contains 2 && x.mflt) && !(x.causes.contains 3 && bad)

/-- MOT_CLEAR (R297). -/
def opMotClear (c : Core) (x : Cmd) : Core × Answer :=
  let n := x.at_ 16 1
  if 7 < n then (c, err stBadField 16)
  else if c.axState n ≠ axFault ∨ !c.faultGone n then (c, err stBadMode)
  else payloadTests c [(17, x.at_ 17 3 != 0)] (
    if c.recoatHolds n then (c, err stBusy)
    else
      let src := c.rd MOT_CONFIG.ENC_SRC n
      let d := posDiff (c.inputPos src) (c.axis n).e0
      let r := c.steps32 (scaleRound d (c.rd MOT_CONFIG.ENC_DEN n) (c.rd MOT_CONFIG.ENC_NUM n))
      let c := if src < 12 then
          (r.2.modAxis n (fun a => { a with p := F64.ofInt r.1 })).wr MOT_STATE.POS_CMD (ofSigned 32 r.1) n
        else c
      let c := ((c.zeroDev n).modAxis n (fun a => { a with causes := [] })).wr MOT_STATE.FAULT_CAUSE 0 n
      let st := if !c.flag MOT_CONFIG.ENABLE n then axDisabled else if (c.axis n).kept.isSome then axKept else axIdle
      ((c.setAx n st).showTarget n, ok))

/-! ### Captures (R262) -/

/-- IPL_CAPTURE_DARK and IPL_CAPTURE_FLAT; the context is the header's INSTANCE. -/
def opCapture (c : Core) (flat : Bool) (x : Cmd) : Core × Answer :=
  c.captureStart flat x.inst (x.at_ 16 8) (x.at_ 24 2) (x.at_ 26 6)

/-! ### Calibration and the harbour (R381, R401 to R409, R445) -/

def opCalRun (c : Core) (x : Cmd) : Core × Answer := c.calRun (x.at_ 16 1) (x.at_ 18 2) (x.at_ 17 1) x.urgent

def opUpdStage (c : Core) (m : Mem) (x : Cmd) : Core × Answer :=
  if !c.dramOk (x.at_ 16 8) 4096 then (c, err stBadField 16)
  else if c.anyLong (fun k => k == .updStage) then (c, err stBusy) else c.updStage m (x.at_ 16 8)

def Mode.mayUpdate (m : Mode) : Bool := m == .standby || m == .service

def opUpdActivate (c : Core) : Core × Answer := if c.cmdMode.mayUpdate then c.updActivate else (c, err stBadMode)
def opUpdConfirm (c : Core) : Core × Answer := if c.cmdMode.mayUpdate then c.updConfirm else (c, err stBadMode)

/-- The offsets of a KIND and INSTANCE that name no cassette. -/
def cassTests (x : Cmd) : List (Nat × Bool) :=
  [(16, x.at_ 16 1 != 1 && x.at_ 16 1 != 2), (17, (cassOf (x.at_ 16 1) (x.at_ 17 1)).isNone)]

/-- CON_REAUTH: the cassette is authenticated anew (R405). -/
def opConReauth (c : Core) (x : Cmd) : Core × Answer :=
  payloadTests c (cassTests x ++ [(18, x.at_ 18 2 != 0)]) (
    match cassOf (x.at_ 16 1) (x.at_ 17 1) with
    | none => (c, err stBadField 17)
    | some k =>
      if c.anyLong (fun l => l == .reauth k) then (c, err stBusy)
      else ((c.modCass k (fun a => { a with authDue := true })).cassGo, .wait (.reauth k)))

def opConOverride (c : Core) (x : Cmd) : Core × Answer :=
  if c.cmdMode ≠ .service then (c, err stBadMode)
  else match firstOffset (cassTests x), cassOf (x.at_ 16 1) (x.at_ 17 1) with
  | none, some k =>
    if c.con k CON_WINDOW.STATE ≠ csExhausted then (c, err stBadMode)
    else payloadTests c [(18, decide (1 < x.at_ 18 1)), (19, x.at_ 19 1 != 0)] (c.conOverride k (x.at_ 18 1))
  | off, _ => (c, err stBadField (off.getD 17))

def opConIssuer (c : Core) (x : Cmd) : Core × Answer :=
  if c.cmdMode ≠ .service then (c, err stBadMode)
  else payloadTests c [(16, decide (c.hbr.otp.issuerKeys.length ≤ x.at_ 16 1)), (17, decide (1 < x.at_ 17 1)),
      (18, x.at_ 18 2 != 0)] (c.conIssuer (x.at_ 16 1) (x.at_ 17 1) (beNat (slice x.payload 4 32)))

def opTrimWrite (c : Core) (x : Cmd) : Core × Answer :=
  if c.cmdMode ≠ .service then (c, err stBadMode)
  else payloadTests c ([(16, decide (28 < x.at_ 16 1)), (17, x.at_ 17 3 != 0)] ++
      (List.range (x.at_ 16 1)).map (fun i => (22 + 8 * i, x.at_ (22 + 8 * i) 2 != 0)))
    (c.trimWrite (slice x.payload 4 (8 * x.at_ 16 1)), ok)

/-! ### Device reset and shutdown test (R427, R433, R445) -/

/-- DEV_RESET: the reset begins at the second control tick boundary after admission. -/
def opDevReset (c : Core) : Core × Answer :=
  if c.cmdMode == .standby || c.cmdMode == .service || c.cmdMode == .safe then
    (c.modPilot (fun p => { p with resetDue := some 2 }), ok)
  else (c, err stBadMode)

def opBstShutdown (c : Core) (x : Cmd) : Core × Answer :=
  if c.cmdMode ≠ .standby ∨ c.layerActive then (c, err stBadMode)
  else payloadTests c [(16, decide (3 < x.at_ 16 1)), (17, x.at_ 17 3 != 0)]
    (c, .wait (.shutdown (bitOf (x.at_ 16 1) 0) (bitOf (x.at_ 16 1) 1)))

def opFuseRepair (c : Core) : Core × Answer := if c.cmdMode = .service then c.fuseRepair else (c, err stBadMode)

/-! ### Logbook and machine time (R345, R418, R419) -/

/-- The modes from BRINGUP to SERVICE. -/
def Mode.upToService (m : Mode) : Bool := decide (2 ≤ m.code) && decide (m.code ≤ 9)

def opRecClear (c : Core) : Core × Answer :=
  if !c.cmdMode.upToService then (c, err stBadMode)
  else (c.modLog (fun l => { l with clearing := true }), .wait .recClear)

def opSummaryRead (c : Core) (x : Cmd) : Core × Answer :=
  let off := x.at_ 16 2
  let n := x.at_ 18 2
  if !c.cmdMode.upToService then (c, err stBadMode)
  else payloadTests c [(16, decide (4095 < off)), (18, decide (n < 1) || decide (224 < n) || decide (4096 < off + n))]
    (c, ok (match c.newerCopy 0x4100000 0x4101000 4096 summaryMagic with
      | some (_, b) => slice b off n
      | none => []))

def opTimSet (c : Core) (x : Cmd) : Core × Answer :=
  if !c.stepAllowed || c.effSrcNow == srcLink then (c, err stBadMode)
  else payloadTests c [(24, decide (999999999 < x.at_ 24 4)), (28, x.at_ 28 4 != 0)] (
    let r := c.timSet (x.at_ 16 8) (x.at_ 24 4)
    (r.1, ok (leBytes 4 (ofSigned 32 r.2))))

def opTimRestep (c : Core) : Core × Answer :=
  if c.effSrcNow = srcLink then (c, err stBadMode) else (c.restep, ok)

end Sys2Proof.Machine
end

