-- ==== Sys2Proof/Machine/Admission.lean ====
section
/-!
DEFINITION. Machine/Admission.lean: the admission of commands at a control tick boundary: the tests of R205 in order, the
order and the contradictions of R207, repeats (R203, R204), and how commands arrive: doorbells (R199), datagrams (R227 to
R229) and forwarded commands of a pair (R316).
-/
namespace Sys2Proof.Machine

/-! ### The opcodes (R206, R470) -/

/-- What an opcode asks for before it is executed: whether it is an object command, whether it needs a session and the
token, the flags it allows, its priority (R207), and the payload lengths it takes (none listed: judged with the object, or
by its count). -/
structure OpInfo where
  obj : Bool
  session : Bool
  token : Bool
  flags : Nat
  prio : Nat
  lens : List Nat
  deriving DecidableEq, Repr

def plainOp (token : Bool) (len : Nat) : OpInfo := ⟨false, true, token, 0, 4, [len]⟩

/-- The table of opcodes; none for an opcode that is not defined. -/
def opInfo : Nat → Option OpInfo
  | 0x0001 => some ⟨false, false, false, 0, 4, [0]⟩
  | 0x0002 => some (plainOp false 0)
  | 0x0003 => some ⟨false, true, false, fgForce, 4, [0]⟩
  | 0x0004 => some (plainOp true 0)
  | 0x0005 => some (plainOp false 0)
  | 0x0006 => some (plainOp false 8)
  | 0x1001 => some ⟨true, true, false, 0, 4, [0]⟩
  | 0x1002 => some ⟨true, true, true, 0, 4, []⟩
  | 0x1003 => some ⟨true, true, true, 0, 4, []⟩
  | 0x1004 => some ⟨true, true, false, 0, 4, [0]⟩
  | 0x2001 => some (plainOp true 0)
  | 0x2002 => some (plainOp true 12)
  | 0x2003 => some (plainOp true 0)
  | 0x3001 => some ⟨false, false, false, 0, 1, [0]⟩
  | 0x3002 => some ⟨false, false, false, fgImmediate, 2, [0]⟩
  | 0x3003 => some ⟨false, true, true, 0, 3, [0]⟩
  | 0x3004 => some (plainOp true 0)
  | 0x3005 => some (plainOp true 0)
  | 0x3006 => some (plainOp true 0)
  | 0x3007 => some (plainOp true 0)
  | 0x3008 => some (plainOp true 0)
  | 0x3009 => some (plainOp true 0)
  | 0x5001 => some (plainOp true 12)
  | 0x5002 => some (plainOp true 4)
  | 0x5003 => some (plainOp true 4)
  | 0x5004 => some (plainOp true 8)
  | 0x5005 => some (plainOp true 4)
  | 0x6001 => some (plainOp true 16)
  | 0x6002 => some (plainOp true 16)
  | 0x7001 => some ⟨false, true, true, fgUrgent, 4, [4]⟩
  | 0x7010 => some (plainOp true 8)
  | 0x7011 => some (plainOp true 0)
  | 0x7012 => some (plainOp true 0)
  | 0x7020 => some (plainOp true 4)
  | 0x7021 => some (plainOp true 4)
  | 0x7022 => some (plainOp true 36)
  | 0x7030 => some ⟨false, true, true, 0, 4, []⟩
  | 0x7040 => some (plainOp true 0)
  | 0x7050 => some (plainOp true 4)
  | 0x7051 => some (plainOp true 0)
  | 0x8001 => some (plainOp true 0)
  | 0x8002 => some (plainOp false 4)
  | 0x9001 => some (plainOp true 16)
  | 0x9002 => some (plainOp true 0)
  | 0xA001 => some (plainOp true 0)
  | _ => none

/-- The header INSTANCE names the context of a capture (R262). -/
def isCapture (op : Nat) : Bool := op == 0x6001 || op == 0x6002

/-! ### Tests ahead of execution (R202, R205, R211) -/

/-- LENGTH is one the opcode takes. -/
def lengthOk (x : Cmd) (i : OpInfo) : Bool :=
  decide (x.length ≤ 240) &&
  (if x.op = 0x7030 then x.length == 4 + 8 * x.at_ 16 1
   else i.lens.isEmpty || i.lens.contains x.length)

/-- The first offending header field (R200, R205). -/
def headerFault (x : Cmd) (i : OpInfo) : Option Nat :=
  firstOffset [(6, (x.flags &&& i.flags) != x.flags || (x.op == 0x0003 && x.force && x.master == 2)),
    (10, !i.obj && x.object != 0), (12, !i.obj && !isCapture x.op && x.inst != 0), (14, x.reserved != 0)]

/-- A field of the object applies at tide mark (R211). -/
def ObjDesc.tideMark (d : ObjDesc) : Bool := d.fields.any (fun f => f.applies == .tideMark)
/-- A field of the object can be written directly. -/
def ObjDesc.writable (d : ObjDesc) : Bool :=
  d.fields.any (fun f => f.access == .rw || f.access == .wo || f.access == .w1c)

/-- The tests of an object command from BAD_OBJECT to NOT_STAGEABLE. -/
def objectFault (x : Cmd) : Option Reply :=
  match findObj x.object with
  | none => some (errReply stBadObject)
  | some d =>
    let size := if d.id = idPset then 16 + 16 * x.at_ 17 1 else d.size
    let carries := x.op == 0x1002 || x.op == 0x1003
    if carries && x.length != size then some (errReply stBadLength 8)
    else if x.inst < d.instLo ∨ d.instHi < x.inst then some (errReply stBadInstance)
    else if x.op = 0x1002 ∧ !d.writable then some (errReply stReadOnly)
    else if x.op = 0x1002 ∧ d.tideMark then some (errReply stStageOnly)
    else if x.op = 0x1003 ∧ !d.tideMark then some (errReply stNotStageable)
    else none

/-- The tests of R205 that come before CONFLICT_LOST, in order. -/
def Core.preTests (c : Core) (x : Cmd) : Option Reply :=
  match opInfo x.op with
  | none => some (errReply stBadOpcode)
  | some i =>
    if i.session && c.epoch x.master == 0 then some (errReply stNoSession)
    else if i.session && x.epoch != c.epoch x.master then some (errReply stBadEpoch)
    else if !lengthOk x i then some (errReply stBadLength 8)
    else match headerFault x i with
    | some off => some (errReply stBadField off)
    | none =>
      if i.obj then objectFault x
      else if isCapture x.op && decide (31 < x.inst) then some (errReply stBadInstance)
      else none

/-- A repeat of the mailbox's last completed command (R203, R204). -/
def Core.isRepeat (c : Core) (x : Cmd) : Bool := (c.mbox x.master x.mailbox).last == some (x.seq, x.op, x.epoch)

/-! ### Targets and contradictions (R207) -/

/-- The target of a command. -/
inductive Target where
  | object (obj inst : Nat)
  | stagedSet
  | token
  | hold (immediate : Bool)
  | modeController
  | axis (n : Nat)
  | context (k : Nat)
  | calQueue
  | harbour
  | device
  | logbook
  | machineTime
  | roles
  deriving DecidableEq, Repr

/-- The target of a command; none where it never contradicts: reads, REC_SUMMARY_READ among them (R207). -/
def targetOf (x : Cmd) : Option Target :=
  match x.op with
  | 0x0003 | 0x0004 => some .token
  | 0x1002 => some (.object x.object x.inst)
  | 0x1003 | 0x2001 | 0x2002 | 0x2003 => some .stagedSet
  | 0x3002 => some (.hold x.immediate)
  | 0x3004 | 0x3005 | 0x3006 | 0x3007 | 0x3008 | 0x3009 => some .modeController
  | 0x5001 | 0x5002 | 0x5003 | 0x5004 | 0x5005 => some (.axis (x.at_ 16 1))
  | 0x6001 | 0x6002 => some (.context x.inst)
  | 0x7001 => some .calQueue
  | 0x7010 | 0x7011 | 0x7012 | 0x7020 | 0x7021 | 0x7022 | 0x7030 => some .harbour
  | 0x7040 | 0x7050 | 0x7051 => some .device
  | 0x8001 => some .logbook
  | 0x9001 | 0x9002 => some .machineTime
  | 0xA001 => some .roles
  | _ => none

/-- Two targets meet: the same one, or two HOLDs that differ in IMMEDIATE. -/
def targetsMeet : Option Target → Option Target → Bool
  | some (.hold a), some (.hold b) => a != b
  | some a, some b => a == b
  | _, _ => false

def prioOf (x : Cmd) : Nat := match opInfo x.op with | some i => i.prio | none => 4

/-- Two commands contradict. -/
def contradict (a b : Cmd) : Bool := a.master != b.master && prioOf a == prioOf b && targetsMeet (targetOf a) (targetOf b)

/-- `x` yields to `y`, where they contradict and `h` holds the token: only the holder's command, or of two HOLDs without a
holder the one with IMMEDIATE, goes on. -/
def yields (h : Nat) (x y : Cmd) : Bool :=
  contradict x y && x.master != h && !(y.master != h && x.op == 0x3002 && x.immediate)

/-- The winner of a contradiction, if there is one. -/
def wins (h : Nat) (y : Cmd) : Bool := y.master == h || (y.op == 0x3002 && y.immediate)

/-- The reply of a command that lost, with DETAIL the winner's ID. -/
def Core.lostReply (c : Core) (h : Nat) (x : Cmd) (contest : List Cmd) : Option (Core × Reply) :=
  match contest.filter (yields h x) with
  | [] => none
  | y :: l =>
    match (y :: l).find? (wins h) with
    | some w => some (c, errReply stConflictLost w.master)
    | none =>
      let f := c.drawFresh
      some (f.2, errReply stConflictLost (Config.noWinner f.1).toNat)

/-- R207's keys in turn: priority, token holder, master, mailbox. -/
def orderKey (h : Nat) (x : Cmd) : List Nat := [prioOf x, if x.master = h then 0 else 1, x.master, x.mailbox]

def insertCmd (h : Nat) (x : Cmd) : List Cmd → List Cmd
  | [] => [x]
  | y :: l => if orderKey h x < orderKey h y then x :: y :: l else y :: insertCmd h x l

/-- The commands of one boundary in the order of R207. -/
def orderCmds (h : Nat) (l : List Cmd) : List Cmd := l.foldl (fun acc x => insertCmd h x acc) []

/-! ### Execution -/

/-- An opcode with every test before BAD_MODE passed; `h` is the token's holder at the boundary. -/
def Core.runOp (c : Core) (m : Mem) (h : Nat) (x : Cmd) : Core × Answer :=
  match x.op with
  | 0x0001 => opSessionOpen c x
  | 0x0002 => opSessionClose c x
  | 0x0003 => opTokenTake c x h
  | 0x0004 => opTokenRelease c
  | 0x0005 => opKeepalive c
  | 0x0006 => opEventRead c x
  | 0x1001 => match findObj x.object with | some d => opObjRead c d x.inst | none => (c, err stBadObject)
  | 0x1002 => match findObj x.object with
      | some d => opObjWrite c m d x.inst (x.payload.take x.length)
      | none => (c, err stBadObject)
  | 0x1003 => opObjStage c x
  | 0x1004 => match findObj x.object with | some d => opStageRead c d x.inst | none => (c, err stBadObject)
  | 0x2001 => opCheck c
  | 0x2002 => opCommit c x
  | 0x2003 => opDiscard c
  | 0x3001 => c.cmdStop
  | 0x3002 => c.cmdHold x.immediate
  | 0x3003 => c.cmdAbort
  | 0x3004 => c.cmdArm
  | 0x3005 => c.cmdDisarm
  | 0x3006 => c.cmdResume
  | 0x3007 => c.cmdSafeClear
  | 0x3008 => c.cmdServiceEnter
  | 0x3009 => c.cmdServiceExit
  | 0x5001 => opMotMove c x
  | 0x5002 => opMotHalt c x
  | 0x5003 => opMotContinue c x
  | 0x5004 => opMotSetPos c x
  | 0x5005 => opMotClear c x
  | 0x6001 => opCapture c false x
  | 0x6002 => opCapture c true x
  | 0x7001 => opCalRun c x
  | 0x7010 => opUpdStage c m x
  | 0x7011 => opUpdActivate c
  | 0x7012 => opUpdConfirm c
  | 0x7020 => opConReauth c x
  | 0x7021 => opConOverride c x
  | 0x7022 => opConIssuer c x
  | 0x7030 => opTrimWrite c x
  | 0x7040 => opDevReset c
  | 0x7050 => opBstShutdown c x
  | 0x7051 => opFuseRepair c
  | 0x8001 => opRecClear c
  | 0x8002 => opSummaryRead c x
  | 0x9001 => opTimSet c x
  | 0x9002 => opTimRestep c
  | 0xA001 => c.cmdHandover
  | _ => (c, err stBadOpcode)

/-- What an answer does: a reply is stored and delivered, a long command waits (R199, R208). -/
def Core.answer (c : Core) (x : Cmd) : Answer → Core
  | .done r => c.respond x r
  | .wait k =>
    let c := c.modPilot (fun p => { p with long := p.long ++ [⟨x, k, c.ticks⟩] })
    if k = .recClear then c.logGo else c

/-- A repeat is answered from store (R203). -/
def Core.answerRepeat (c : Core) (x : Cmd) : Core :=
  let c := c.inc PLT_MB_STAT.REPEATS x.master
  (c.modMbox x.master x.mailbox (fun b => { b with busy := none })).deliver x.master x.mailbox

/-- One command is executed in its turn: a repeat is answered from store; else the first test of R205 that fails decides,
contradictions by `contest`, and the token as it stood at the boundary. -/
def Core.execCmd (c : Core) (m : Mem) (h : Nat) (contest : List Cmd) (x : Cmd) : Core :=
  if c.isRepeat x then c.answerRepeat x
  else match c.preTests x with
  | some r => c.respond x r
  | none =>
    match c.lostReply h x contest with
    | some (c, r) => (c.inc PLT_MB_STAT.CONFLICTS x.master).respond x r
    | none =>
      if (match opInfo x.op with | some i => i.token | none => false) && x.master != h then
        c.respond x (errReply stNoToken h)
      else
        let r := c.runOp m h x
        r.1.answer x r.2

/-- A command is admitted: counted, its mailbox busy; one of the token's holder restarts TOKEN_TIMEOUT (R209). -/
def Core.admitOne (c : Core) (x : Cmd) : Core :=
  let c := (c.inc PLT_MB_STAT.COMMANDS x.master).modMbox x.master x.mailbox (fun b => { b with busy := some x, posted := false })
  if c.holder = x.master then c.modPilot (fun p => { p with holderSince := c.ticks }) else c

/-- The commands of one boundary are admitted and executed (R207). -/
def Core.admitAll (c : Core) (m : Mem) (l : List Cmd) : Core :=
  let h := c.holder
  let l := orderCmds h l
  let c := l.foldl (fun (c : Core) x => c.admitOne x) c
  let contest := l.filter (fun x => !c.isRepeat x && (c.preTests x).isNone)
  l.foldl (fun (c : Core) x => c.execCmd m h contest x) c

/-! ### Posted commands -/

/-- The command a slot holds (R200). -/
def parseSlot (master mailbox : Nat) (b : Bytes) : Cmd :=
  let len := fieldLE b 8 2
  ⟨master, mailbox, fieldLE b 0 2, fieldLE b 2 2, fieldLE b 4 2, fieldLE b 6 2, len, fieldLE b 10 2, fieldLE b 12 2,
   fieldLE b 14 2, (b.drop 16).take 240⟩

/-- Mailboxes are served: PLT runs and the shutdown test has not begun (R420, R433). -/
def Core.serves (c : Core) : Bool := !c.held domPLT && c.mode != .shutdownTest

/-- The commands posted in this device's own mailboxes, outside a pair. -/
def Core.postedCmds (c : Core) : List Cmd :=
  (List.range 24).filterMap (fun k =>
    let b := c.mbox (k / 8) (k % 8)
    if b.posted then some (parseSlot (k / 8) (k % 8) b.cmdSlot) else none)

/-- The forwarded commands of a pair whose admission tick has come (R316). -/
def Core.forwardedCmds (c : Core) : List Cmd :=
  (c.twin.cmds.filter (fun f => c.tickReached f.tick)).map (fun f => parseSlot f.master f.mailbox f.slot)

/-- A command of the token's holder is to be admitted at this boundary, so the token does not lapse here (R209). -/
def Core.holderPosted (c : Core) (l : List Cmd) : Bool := l.any (fun x => x.master == c.holder)

/-- Everything admitted at the present control tick boundary; the token lapses first where its time is up (R207, R209). -/
def Core.admission (c : Core) (m : Mem) : Core :=
  let l := if c.inPair then c.forwardedCmds else c.postedCmds
  let c := if c.holderPosted l then c else c.tokenLapse
  let c := if c.inPair then c.modTwin (fun t => { t with cmds := t.cmds.filter (fun f => !c.tickReached f.tick) }) else c
  c.admitAll m l

/-- TOKEN_LAPSE by itself: nothing of the holder is posted. -/
def Core.tokenLapseDue (c : Core) : Core :=
  let l := if c.inPair then c.forwardedCmds else c.postedCmds
  if !c.serves || c.holderPosted l then c else c.tokenLapse

/-! ### Arrival (R199, R227 to R229, R316) -/

/-- The first control tick boundary at least 5 µs on, as a tick index (R316). -/
def Core.pairBoundary (c : Core) : Nat :=
  let ctl := 20 * tickU
  tickIndex ((c.now + 5 * usU + ctl - 1) / ctl * ctl)

/-- A mailbox is posted; in a pair its slot is forwarded and waits for its boundary on both units. -/
def Core.postMailbox (c : Core) (master mailbox : Nat) : Core :=
  let c := c.modMbox master mailbox (fun b => { b with posted := true })
  if c.inPair then
    let t := c.pairBoundary
    let slot := (c.mbox master mailbox).cmdSlot
    let c := c.modTwin (fun w => { w with cmds := w.cmds ++ [⟨t, master, mailbox, slot⟩] })
    c.sendTwin 0 0x51 t (leBytes 1 master ++ leBytes 1 mailbox ++ zeros 2 ++ slot)
  else c

/-- One bit of a doorbell (R199). -/
def Core.ring (c : Core) (n : Nat) : Core :=
  if bitOf (c.rd BAR0.MB_BUSY) n then c.inc PLT_MB_STAT.DB_IGNORED c.localMaster
  else (c.wr BAR0.MB_BUSY (orBit (c.rd BAR0.MB_BUSY) n)).postMailbox c.localMaster n

/-- A write of DOORBELL; ignored before ID_BOOT reads RUNNING, while PLT is held, and in the shutdown test (R420, R433,
R463). -/
def Core.doorbell (c : Core) (bitsV : Nat) : Core :=
  if !c.serves || c.rd BAR0.ID_BOOT != 0 then c
  else c.forEach 8 (fun c n => if bitOf bitsV n then c.ring n else c)

/-- The service of master 2 runs: enabled, with a peer listed (R227); only the active unit of a pair answers (R316). -/
def Core.mgmtOn (c : Core) : Bool := c.flag PLT_MGMT.MGMT_EN && c.actsActive && !c.held domHBR

/-- The peers listed (R227). -/
def Core.peers (c : Core) : List Nat :=
  [c.rd PLT_MGMT.PEER0, c.rd PLT_MGMT.PEER1, c.rd PLT_MGMT.PEER2, c.rd PLT_MGMT.PEER3].filter (fun a => a != 0)

def Core.dropDatagram (c : Core) : Core := c.inc PLT_MB_STAT.DROPPED 2

/-- A UDP datagram to the management service from an address and port (R227 to R229). -/
def Core.mgmtDatagram (c : Core) (ip port : Nat) (b : Bytes) : Core :=
  if !c.serves || !c.mgmtOn || c.peers.isEmpty then c
  else if !c.peers.contains ip then c.dropDatagram
  else
    let box := fieldLE b 4 1
    let good := fieldLE b 0 2 == 0x5AC3 && fieldLE b 2 1 == 1 && fieldLE b 3 1 == 0 && decide (box < 8) &&
      fieldLE b 5 3 == 0 && decide (24 ≤ b.length) && decide (b.length = 24 + fieldLE b 16 2)
    if !good then c.dropDatagram
    else
      let slot := padTo 256 (b.drop 8)
      let x := parseSlot 2 box slot
      let q := c.mbox 2 box
      if q.posted || q.busy.isSome then
        let seq := match q.busy with | some y => y.seq | none => fieldLE q.cmdSlot 2 2
        if seq = x.seq then c else c.dropDatagram
      else
        (c.modMbox 2 box (fun b => { b with cmdSlot := slot, peer := (ip, port) })).postMailbox 2 box

/-- An ARP request for the device's address is answered (R227). -/
def Core.arpRequest (c : Core) (ip : Nat) : Core :=
  if c.mgmtOn && !c.peers.isEmpty && ip == c.rd PLT_MGMT.MGMT_IP then c.emit (.ethReply 0 (leBytes 4 ip)) else c

/-- An ICMP echo request to the device's address is answered (R227). -/
def Core.icmpEcho (c : Core) (ip : Nat) (data : Bytes) : Core :=
  if c.mgmtOn && !c.peers.isEmpty && ip == c.rd PLT_MGMT.MGMT_IP then c.emit (.ethReply 1 data) else c

/-! ### A command taken by itself -/

/-- The command that an image gives with its opcode. -/
def cmdOf (i : CmdImage) (op : Nat) : Cmd :=
  ⟨i.master.val, i.mailbox.val, op, i.seq.toNat, i.epoch.toNat, i.flags.toNat, i.length.toNat, i.object.toNat,
   i.inst.toNat, i.reserved.toNat, i.payload⟩

/-- A command admitted at the present boundary and alone there: the slot it was posted in holds it. -/
def Core.runCmd (c : Core) (m : Mem) (x : Cmd) : Core :=
  if !c.serves then c else c.admitAll m [x]

end Sys2Proof.Machine
end

