-- ==== Sys2Proof/Machine/HostAccess.lean ====
section
/-!
DEFINITION. Machine/HostAccess.lean: the PCIe host's accesses: BAR0 (R199, R223, R462, R463, R466), BAR2 (R357, R361, R369)
and the tile staging window (R466 to R468).
-/
namespace Sys2Proof.Machine

/-- The endpoint answers the bus: PERST_N is high, and the device is not DORMANT (R463). -/
def Core.onBus (c : Core) : Bool := !c.pcie.perst && !c.held domAON

/-! ### The tile staging window (R466 to R468) -/

def tswRing : Nat := 0x1000000
def tswBytes : Nat := 0x8000

/-- Put bytes into the descriptor ring; unlisted bytes read as zero. -/
def ringWrite (r : List Host.Cell) (a : Nat) : Bytes → List Host.Cell
  | [] => r
  | b :: bs => ringWrite (Kv.put (0#8) r (a % tswBytes) b) (a + 1) bs

def ringRead (r : List Host.Cell) (a n : Nat) : Bytes := (List.range n).map (fun i => Kv.get (0#8) r ((a + i) % tswBytes))

/-- TSW_PROD is written: ignored where the ring would hold more than 1,024 descriptors. -/
def Core.tswProd (c : Core) (v : Nat) : Core :=
  if !c.onBus ∨ 1024 < (v + 2 ^ 32 - c.rd BAR0.TSW_CONS) % 2 ^ 32 then c else c.wr BAR0.TSW_PROD v

def tswDone : Nat := 1
def tswBadDesc : Nat := 2
def tswBadAddr : Nat := 3
def tswHostErr : Nat := 4
def tswCrcBad : Nat := 5

/-- The first 4,096-byte block of a copy that fails T_CRC. -/
def badBlock (bs : Bytes) : Option Nat :=
  (List.range (bs.length / 4096)).find? (fun i =>
    let t := slice bs (4096 * i) 4096
    crc32c (t.take 4080) != fieldLE t 4080 4)

/-- A descriptor's LENGTH or an alignment is out of range. -/
def descBad (d : Bytes) : Bool :=
  let n := fieldLE d 16 4
  fieldLE d 0 8 % 4096 != 0 || fieldLE d 8 8 % 4096 != 0 || n % 4096 != 0 || decide (n < 4096) || decide (16777216 < n)

/-- The status a descriptor ends with, and the bytes of it that are written: `data` is what the host's memory gave, and
`hostErr` says that the read after it failed. -/
def Core.tswOutcome (c : Core) (d data : Bytes) (hostErr : Bool) : Nat × Bytes :=
  let a := fieldLE d 8 8
  let n := fieldLE d 16 4
  if descBad d then (tswBadDesc, [])
  else if !c.dramOk a n then (tswBadAddr, [])
  else if hostErr then (tswHostErr, data.take (min (data.length / 4096 * 4096) (n - 4096)))
  else
    let bs := padTo n data
    match (if bitOf (fieldLE d 20 1) 0 then badBlock bs else none) with
    | some k => (tswCrcBad + k * 65536, bs)
    | none => (tswDone, bs)

/-- The descriptor at TSW_CONS is processed: the copy is accepted, TSW_STATUS is written, then TSW_CONS advances; it waits
while Bus Master Enable is clear or MEM is held. -/
def Core.tswDescriptor (c : Core) (data : Bytes) (hostErr : Bool) : Core :=
  let cons := c.rd BAR0.TSW_CONS
  if !c.onBus || !c.pcie.busMaster || c.held domMEM || c.rd BAR0.TSW_PROD == cons then c
  else
    let at_ := 32 * (cons % 1024)
    let d := ringRead c.pcie.ring at_ 32
    let r := c.tswOutcome d data hostErr
    let c := if r.2.isEmpty then c else c.dramWrite (fieldLE d 8 8) r.2
    let c := { c with pcie := { c.pcie with ring := ringWrite c.pcie.ring (at_ + 24) (leBytes 4 r.1) } }
    c.wr BAR0.TSW_CONS ((cons + 1) % 2 ^ 32)

/-- Bus Master Enable is written. -/
def Core.busMasterWrite (c : Core) (on : Bool) : Core :=
  if c.onBus then { c with pcie := { c.pcie with busMaster := on } } else c

/-! ### BAR0 (R462) -/

/-- The 32-bit value that a write brings to a word: bytes the write does not cover keep `old`. -/
def wordOf (off : Nat) (data : Bytes) (base old : Nat) : Nat :=
  leNat ((List.range 4).map (fun i =>
    if off ≤ base + i ∧ base + i < off + data.length then data.getD (base + i - off) 0#8
    else BitVec.ofNat 8 (old / 256 ^ i)))

/-- The write covers a byte of a word. -/
def touches (off : Nat) (data : Bytes) (base : Nat) : Bool := decide (off < base + 4) && decide (base < off + data.length)

/-- Bits written 1 are cleared. -/
def Core.clearOnes (c : Core) (f : Field) (v : Nat) : Core :=
  c.wr f (c.rd f - (c.rd f &&& v % 2 ^ f.width))

/-- The command slots' part of a write (R199): each mailbox's first 256 bytes; the response slots ignore writes. -/
def Core.slotWrite (c : Core) (off : Nat) (data : Bytes) : Core :=
  (List.range data.length).foldl (fun c i =>
    let a := off + i
    if 0x10000 ≤ a ∧ a < 0x11000 ∧ a % 0x200 < 0x100 then
      c.modMbox c.localMaster ((a - 0x10000) / 0x200) (fun b => { b with
        cmdSlot := b.cmdSlot.set (a % 0x200) (data.getD i 0#8) })
    else c) c

/-- The registers of R199 take a write, each by its access code (R9). -/
def Core.doorRegs (c : Core) (off : Nat) (data : Bytes) : Core :=
  let v := wordOf off data
  let c := if touches off data 0x1000 then c.doorbell (v 0x1000 0) else c
  let c := if touches off data 0x1008 then c.clearOnes BAR0.MB_DONE (v 0x1008 0) else c
  let c := if touches off data 0x100C then c.clearOnes BAR0.INT_STATUS (v 0x100C 0) else c
  let c := if touches off data 0x1010 then c.wr BAR0.INT_MASK (v 0x1010 (c.rd BAR0.INT_MASK)) else c
  if touches off data 0x1018 then c.evConsWrite (v 0x1018 (c.rd BAR0.EV_CONS)) else c

/-- The descriptor ring's part of a write. -/
def Core.descWrite (c : Core) (off : Nat) (data : Bytes) : Core :=
  (List.range data.length).foldl (fun c i =>
    let a := off + i
    if tswRing ≤ a ∧ a < tswRing + tswBytes then
      { c with pcie := { c.pcie with ring := ringWrite c.pcie.ring (a - tswRing) [data.getD i 0#8] } }
    else c) c

/-- A write to BAR0: what no region covers is ignored (R462); PLT's registers ignore it while PLT is held (R420). -/
def Core.bar0Write (c : Core) (off : Nat) (data : Bytes) : Core :=
  if !c.onBus then c
  else
    let c := c.descWrite off data
    let c := if touches off data 0x1008000 then c.tswProd (wordOf off data 0x1008000 (c.rd BAR0.TSW_PROD)) else c
    if c.held domPLT then c else (c.slotWrite off data).doorRegs off data

/-! ### BAR2 (R357, R369, R371) -/

/-- A BAR2 write: bytes beyond the host part are discarded, all of them while MEM is held. -/
def Core.bar2Write (c : Core) (a : Nat) (data : Bytes) : Core :=
  if c.pcie.perst || c.held domMEM then c
  else
    let bs := data.take (c.hostBytes - a)
    if bs.isEmpty then c else c.dramWrite a bs

/-- A BAR2 read: Unsupported Request where a byte lies beyond the host part or MEM is held; a burst in error is named by its
index, and an uncorrectable one poisons the completion. -/
def Core.bar2Read (c : Core) (m : Mem) (a n : Nat) (bad : Option (Nat × Bool)) : Core :=
  if c.pcie.perst then c
  else if c.held domMEM || decide (c.hostBytes < a + n) then c.emit .busUR
  else
    let c := c.dramHazard a n
    let bs := c.dramRead m a n
    let r := c.readErr 2 (burstIn a n bad)
    r.1.emit (if r.2 then .busPoisoned bs else .busData bs)

/-- STAT_READ_CLEAR: an RC object is read and its counts cleared (R9). -/
def Core.statRead (c : Core) (obj inst : Nat) : Core :=
  match findObj obj with
  | some d =>
    if d.fields.any (fun f => f.access == .rc) && decide (d.instLo ≤ inst) && decide (inst ≤ d.instHi) then
      let r := c.readObject d inst
      r.1.emit (.busData r.2)
    else c
  | none => c

end Sys2Proof.Machine
end

