-- ==== Sys2Proof/Machine/Tick.lean ====
section
/-!
DEFINITION. Machine/Tick.lean: what comes about at a tick boundary and at a control tick boundary (R18): the data plane's
steps in their order, and the pilot's work.
-/
namespace Sys2Proof.Machine

/-! ### Tick boundary (R14, R18) -/

/-- Do something for each channel armed for the layer in progress and not failed. -/
def Core.liveChans (c : Core) (f : Core → Nat → Core) : Core :=
  c.forEach 64 (fun (c : Core) (ch : Nat) => if c.live ch then f c ch else c)

/-- Gating follows a channel armed for the latest layer and not failed, past the layer's end, while the measured position
comes to its last edges (R91, R231). -/
def Core.followed (c : Core) (ch : Nat) : Bool := (c.ch ch).armed && !c.failed ch
def Core.gatedChans (c : Core) (f : Core → Nat → Core) : Core :=
  c.forEach 64 (fun (c : Core) (ch : Nat) => if c.followed ch then f c ch else c)

/-- The exposure path runs: EXP and FAB are out of reset, and no shutdown test is under way (R420, R433). -/
def Core.exposureOn (c : Core) : Bool :=
  !c.held domEXP && !c.held domFAB && decide (c.mode ≠ .shutdownTest)

/-- Samples and reports latched at the boundary, and the failures that follow from them, those of the lowest CAUSE first, so that
it is the one recorded (R86 to R90, R102 to R104, R143, R172). -/
def Core.latchStep (c : Core) : Core :=
  let c := c.forEach 64 (fun (c : Core) (ch : Nat) => c.latchSamples ch)
  let c := c.forEach 16 (fun (c : Core) (p : Nat) => (c.ackDue p).ackLost p)
  let c := c.forEach 16 (fun (c : Core) (p : Nat) => c.sourceFaults p)
  let c := c.liveChans (fun (c : Core) (ch : Nat) => c.gateMismatch ch)
  let c := c.liveChans (fun (c : Core) (ch : Nat) => c.followingError ch)
  let c := c.forEach 16 (fun (c : Core) (p : Nat) => c.cassetteFaults p)
  c.forEach 64 (fun (c : Core) (ch : Nat) => c.feedbackLost ch)

/-- Every sequencer's step, the barriers, what a long wait at one raises, and the setpoints of the boundary's frames (R36 to
R40, R61 to R69, R79 to R83, R87, R99, R135). -/
def Core.sequencerStep (c : Core) : Core :=
  let c := c.forEach 64 (fun (c : Core) (ch : Nat) => c.trimLatch ch)
  let c := c.liveChans (fun (c : Core) (ch : Nat) => c.yieldDue ch)
  let c := c.liveChans (fun (c : Core) (ch : Nat) => c.seqStep ch)
  let c := Core.releaseBarriers 65 c
  let c := c.liveChans (fun (c : Core) (ch : Nat) => c.syncTimeout ch)
  c.forEach 64 (fun (c : Core) (ch : Nat) => c.setpoint ch)

/-- The breakwater of the boundary: border traffic, the local round, the lead's round (R129, R138 to R140). -/
def Core.breakwaterStep (c : Core) : Core :=
  c.borderSend.borderSendRel.borderAnswers.bwkRound.fenceExpiry.borderRound

/-- Gating decisions of the boundary, and the GATE runs of laser-off intervals (R91 to R93, R378, R379). -/
def Core.gatingStep (c : Core) : Core :=
  (c.gatedChans (fun (c : Core) (ch : Nat) => c.placeEdges ch)).gateAbandon.gateRunsStart

/-- The power word of a channel's frame: 0 at rest (R98, R169). -/
def Core.powerWord (c : Core) (ch : Nat) : Nat := if c.followed ch then c.framePower ch else 0

/-- The gate of a channel is driven on at the boundary: the LG level, or the GATE_LEVEL of the frame (R406). -/
def Core.drivenOn (c : Core) (ch : Nat) : Bool := (c.ch ch).gat.lgHigh || (c.ch ch).gat.wordLevel

/-- The factor by which a channel's power is scaled for its life count (R406). -/
def Core.lifeFactor (c : Core) (ch : Nat) : Nat :=
  if c.flag RFX_STATE.ACTIVE ch then c.rd RFX_STATE.FACTOR ch else 0x8000

/-- The 12-byte block of a channel in TICK_DN (R169). -/
def Core.tickBlock (c : Core) (ch gate power : Nat) : Bytes :=
  leBytes 3 (c.rd SEQ_AXIS_SETPOINT.SETPOINT (3 * ch)) ++ leBytes 3 (c.rd SEQ_AXIS_SETPOINT.SETPOINT (3 * ch + 1)) ++
  leBytes 3 (c.rd SEQ_AXIS_SETPOINT.SETPOINT (3 * ch + 2)) ++ leBytes 2 power ++ leBytes 1 gate

/-- The block of a k that the node does not serve. -/
def emptyBlock : Bytes := zeros 11 ++ [0x7F#8]

/-- One channel's part of the frame built at the boundary: its gate word and power word; its life accrues. The
result carries (gate word, power word) for every channel so far. -/
def Core.frameChan (s : Core × List (Nat × Nat)) (ch : Nat) : Core × List (Nat × Nat) :=
  let (c, g) := s.1.gateWord ch
  let p := c.powerWord ch
  let c := if c.layerActive && c.drivenOn ch then c.accrue ch p (c.lifeFactor ch) else c
  (c, s.2 ++ [(g, p)])

/-- The words of every channel's frame; rest frames while EXP is held (R420). -/
def Core.frameWords (c : Core) : Core × List (Nat × Nat) :=
  if c.held domEXP then (c, List.replicate 64 (127, 0)) else (List.range 64).foldl Core.frameChan (c, [])

/-- TICK_DN to the head node of each UP head port (R169): BELL_LATE of the bell before it, TAG the tick at which the node
applies it. -/
def Core.sendTicks (c : Core) (w : List (Nat × Nat)) : Core :=
  c.forEach 16 (fun (c : Core) (p : Nat) =>
    if c.isUp p then
      let block (k : Nat) : Bytes :=
        let x := w.getD (4 * p + k) (127, 0)
        if c.served (4 * p + k) then c.tickBlock (4 * p + k) x.1 x.2 else emptyBlock
      let c := c.sendTick p 0x01 ((c.port p).bellLate) (tickIndex (c.now + 2 * tickU))
        (block 0 ++ block 1 ++ block 2 ++ block 3)
      c.modPort p (fun q => { q with bellLate := 0 })
    else c)

/-- The decision digest over every channel's words (R319). -/
def Core.digestStep (c : Core) (w : List (Nat × Nat)) : Core :=
  if c.inPair then
    (c.sendDecision ((List.range 64).flatMap (fun ch =>
      let x := w.getD ch (127, 0)
      c.digestChan ch x.1 x.2))).compareDigests
  else c

/-- The frames of the boundary (R79, R87, R96, R98, R169, R319, R406). -/
def Core.frameStep (c : Core) : Core :=
  let (c, w) := c.frameWords
  (c.sendTicks w).digestStep w

/-- A tick of the layer in progress has passed in EXPOSE, for the layer's time and for waits at barriers (R39, R40). -/
def Core.layerTick (c : Core) : Core :=
  if c.mode = .expose then
    let c := { c with
      layer := { c.layer with elapsed := c.layer.elapsed + 1 } }
    c.liveChans (fun (c : Core) (ch : Nat) => c.syncCount ch)
  else c

/-- The data plane at a tick boundary (R14, R18). -/
def Core.dataPlane (c : Core) : Core :=
  if !c.exposureOn then c.forEach 16 (fun (c : Core) (p : Nat) => c.cassetteFaults p)
  else
    (c.latchStep.borderLatch.sequencerStep.breakwaterStep.gatingStep.frameStep).forEach 64
      (fun (c : Core) (ch : Nat) => c.starve ch)

/-- Rest frames and digests of a device whose fabric runs while EXP does not (R420). -/
def Core.restPlane (c : Core) : Core :=
  if c.held domEXP && !c.held domFAB && decide (c.mode ≠ .shutdownTest) then c.frameStep else c

/-- Everything outside the exposure path that a tick boundary brings about: pulses, emulation, lamps, twins, cascades, the
mode controller, time outputs, calibration and the harbour. -/
def Core.tickRest (c : Core) : Core :=
  let c := c.unlessStopped domCAM Core.softPulses
  let c := c.unlessHeld domMEM Core.drainTaps
  let c := (c.forEach 8 Core.indexDue).unlessHeld domMOT Core.emuFollow
  let c := c.lampChecks.countSince
  let c := if c.held domPLT then c.safHighFor.discrepancy else c.twinAtTick.cascAtTick.bootEnd.bstAtTick.unlessHeld domPLT Core.modeAtTick
  let c := c.unlessHeld domTIM (fun (c : Core) => c.sourceLost.ppsRise.ppsFall)
  let c := c.unlessHeld domFAB Core.phyApply
  let c := c.unlessHeld domHBR (fun (c : Core) => c.calExpired.lifeLimit.cassGo)
  c.holdoffExpiry

/-- Edges that fall before or at the new boundary take place (R95). -/
def Core.driveDue (c : Core) : Core := c.forEach 64 (fun (c : Core) (ch : Nat) => c.driveUpTo ch c.now)

/-- The boundary is a control tick boundary of machine time, and the pilot serves it. -/
def Core.pilotServes (c : Core) : Bool :=
  c.serves && !c.held domTIM && decide (c.now % (10 * usU) = 0)

/-- Adoptions whose tiles have all ended complete (R153), and the layer ends on what the boundaries before have reported
(R23). -/
def Core.completionDue (c : Core) : Core :=
  Core.layerEndDue (c.forEach 64 (fun (c : Core) (ch : Nat) => c.adoptionDone ch))

/-- The data plane of the present boundary and everything after it. -/
def Core.boundaryRest (c : Core) : Core :=
  let c := { c with
    planeDue := false }
  (c.unlessHeld domPLT Core.completionDue).dataPlane.restPlane.tickRest

/-- The data plane that has waited for the pilot, if any. -/
def Core.boundaryLeft (c : Core) : Core := if c.planeDue then c.boundaryRest else c

/-- What a tick boundary of machine time brings about. At a control tick boundary the commands admitted and the tide mark
come before the data plane (R218, R220), which waits for the pilot's part. -/
def Core.tickBoundary (c : Core) : Core :=
  let c := { c with
    now := c.now + tickU, surgeOrder := 0 }
  let c := c.layerTick.driveDue
  let c := c.unlessHeld domPLT (fun (c : Core) => c.twinEscalations.shutdownDue.holdLatch)
  let c := c.tickWrites
  if c.pilotServes then { c with
    planeDue := true } else c.boundaryRest

/-- Without machine time only what counts elapsed time goes on: the interlock block and the mode controller's own work. -/
def Core.tickStopped (c : Core) : Core :=
  let c := c.safHighFor.discrepancy
  let c := c.unlessHeld domPLT (fun (c : Core) => c.actEscalations.shutdownDue.bootEnd.bstAtTick)
  c.holdoffExpiry

/-- TICK (R18): 500 ns pass; machine time runs while TIM is out of reset (R420). -/
def Core.tick (c : Core) : Core :=
  let c := c.boundaryLeft
  let c := { c with
    ticks := c.ticks + 1 }
  let c := c.internalRelease
  if c.held domTIM then c.tickStopped else c.tickBoundary

/-! ### Control tick boundary (R18, R199, R223, R464) -/

/-- CONTROL_TICK (R18): the pilot's work, in its order: Slack writes (R8), admission (R207), the queue and tide
marks (R155, R218 to R220), cascade boundaries (R330), modes (R233, R238 to R240), a due step of time (R342), losses (R153),
events (R223) and the mirror (R464); then the data plane of the boundary. -/
def Core.controlTick (c : Core) (m : Mem) : Core :=
  if !c.pilotServes then c
  else
    let c := c.modPilot (fun p => { p with wdogMissed := 0 })
    let c := c.modTwin (fun t => { t with withheld := none })
    let c := c.resetTick
    if c.held domPLT then c
    else
    let c := c.planBegin
    let c := if c.mode = .slack then c.applySlackW else c
    let c := (c.admission m).haltLayers
    let c := (c.showApplied.announcedBoundary).tideMark false
    let c := c.modeTick
    let c := c.timeSrcWrite.cscReadySend.leadAnnounce.stepIfDue
    let c := Core.planEmpty m c.losses.length c
    c.postTrip.postEvents.refreshMirror.boundaryLeft

/-- WATCHDOG_MISS (R241, R326): the pilot misses the control tick; its heartbeats are withheld with it. -/
def Core.missTick (c : Core) : Core :=
  if c.held domPLT then c
  else
    let c := c.watchdogMiss.modTwin (fun t => { t with withheld := some (t.withheld.getD c.ticks) })
    c.boundaryLeft

end Sys2Proof.Machine
end

