-- ==== Sys2Proof/Machine/Single.lean ====
section
/-!
DEFINITION. Machine/Single.lean: what a single row of the table does that is not one operation of another file: the guards of
rows that a tick boundary also runs, frames received on a control stream, and writes with an effect taken by themselves.
-/
namespace Sys2Proof.Machine

/-- GATE_EDGE: the next placed edge of a channel takes place, if its instant falls before the next tick boundary (R95). -/
def Core.nextEdge (c : Core) (ch : Nat) : Core :=
  let due := (c.ch ch).gat.placed.filter (fun e => decide (e.at_ < c.now + tickU))
  match due with
  | [] => c
  | e :: es => c.driveUpTo ch (es.foldl (fun t x => min t x.at_) e.at_)

/-- FIRST_TILE_RECHECK falls due at whole milliseconds (R53). -/
def Core.recheckDue (c : Core) (m : Mem) (ch : Nat) (ue : Option (Nat × Bool)) : Core :=
  if c.now % (1000 * usU) = 0 then c.recheckFirst m ch ue else c

/-- A frame of a control stream arrives: lane 1 of a head port, lane 0 of an aux port (R165). -/
def Core.rxCtl (c : Core) (p ftype : Nat) (h : FrameHdr) (b : Bytes) (act : Core → Core) : Core :=
  c.rxFrame p (if isHead p then 1 else 0) ftype h b act

/-- A tide mark by itself: the head of the queue carries a manifest, or does not, as the row says (R218, R219). -/
def Core.tideRow (c : Core) (man : Bool) : Core :=
  if c.pilotServes && (c.pilot.queue.head?.map (fun q => q.manifest.isSome) == some man) then c.tideMark false else c

/-- ADP_RESTORE: RESTORE is written, which SERVICE alone allows (R156). -/
def Core.restoreWrite (c : Core) (ch : Nat) : Core :=
  if c.held domEXP || decide (c.mode ≠ .service) then c else c.restore ch

/-- LEVEL of a sink is written: it takes force, and its fade starts, at the next tick boundary (R8, R273). -/
def Core.levelWrite (c : Core) (n v : Nat) : Core :=
  c.unlessHeld domLUM (fun c => { c with
    tickW := c.tickW ++ [(LUM_SINK.LEVEL, n, v)] })

/-- GLOBAL is written: the same for the global level. -/
def Core.globalWrite (c : Core) (v : Nat) : Core :=
  c.unlessHeld domLUM (fun c => { c with
    tickW := c.tickW ++ [(LUM_GLOBAL.GLOBAL, 0, v)] })

/-- COMPARE_ARM: ARM goes from 0 to 1 where the list passes its tests (R307). -/
def Core.armWrite (c : Core) (m : Mem) (u : Nat) : Core :=
  if c.held domMOT || c.flag PFI_CMP.ARM u then c
  else
    match c.cmpArm m u with
    | some d => d
    | none => c

/-- TIM_TXQ is read: its oldest entry is returned and leaves the queue (R351). -/
def Core.txqPop (c : Core) : Core :=
  c.unlessHeld domTIM (fun c =>
    let r := c.txqRead
    r.2.emit (.busData r.1))

/-- RESET_N is acted on as a device reset (R422); a device without power is in reset already. -/
def Core.resetnAssert (c : Core) : Core := if c.rst.asserted = some 0 then c else c.assertReset 1

/-- DRAM training or verification ends; where it succeeds every byte of DRAM reads zero (R359, R361). -/
def State.train (s : State) (t : TrainResult) : State :=
  let r := s.core.begin.trainingDone t
  { s with dram := if r.2 then [] else s.dram }.finish r.1

end Sys2Proof.Machine
end

