-- ==== Sys2Proof/Machine/AxisRows.lean ====
section
/-!
DEFINITION. Machine/AxisRows.lean: one meaning for each row of the table that belongs to
bed axes, encoders and compare units.
-/
namespace Sys2Proof.Machine

/-- MFLT_N_FAULT (R297): A driver fault input goes active; the axis faults, posts AXIS_FAULT and escalates to HOLD. -/
def execMfltNFault (n : Fin 8) (active : Bool) (s : State) : Host.Outcome State Fault Refusal :=
  s.run (fun c _ => c.driverFault n.val active)

/-- AXIS_STALL (R296): dev exceeds DEV_WIN on DEV_TICKS consecutive evaluations, and the axis faults. -/
def execAxisStall (n : Fin 8) (s : State) : Host.Outcome State Fault Refusal :=
  s.run (fun c _ => c.unlessHeld domMOT (fun c => c.stallDue n.val))

/-- RECOAT_STEP (R298): An axis of the recoat sequence reaches IDLE, and the sequence advances or reports done. -/
def execRecoatStep (s : State) : Host.Outcome State Fault Refusal :=
  s.run (fun c _ => c.recoatAdvance)

/-- RC_SETTLE_EXPIRY (R298): The RC_SETTLE wait after the platform move ends, and the recoater stroke starts. -/
def execRcSettleExpiry (s : State) : Host.Outcome State Fault Refusal :=
  s.run (fun c _ => c.settleExpiry)

/-- ENCODER_COUNT (R300): An incremental input counts a quadrature transition. -/
def execEncoderCount (enc : Fin 8) (levels : EncLevels) (lasts : BitVec 8) (off : SubTick) (s : State) :
    Host.Outcome State Fault Refusal :=
  s.run (fun c _ => c.encoderCount enc.val levels.a levels.b levels.z lasts.toNat (c.now + off.val))

/-- INDEX_EVENT (R301): An index event is checked against LINES and may re-zero the count or fault the input. -/
def execIndexEvent (enc : Fin 8) (s : State) : Host.Outcome State Fault Refusal :=
  s.run (fun c _ => c.indexDue enc.val)

/-- SSI_READING_START (R304): At every RATE_DIV-th profile tick an SSI input starts a reading. -/
def execSsiReadingStart (j : Fin 4) (s : State) : Host.Outcome State Fault Refusal :=
  s.run (fun c _ => c.ssiStart j.val)

/-- SSI_READING_DONE (R305): An SSI frame completes and updates the position, or is counted in error and may fault the
input. -/
def execSsiReadingDone (j : Fin 4) (raw : BitVec 32) (ends : SsiEnds) (off : SubTick) (s : State) :
    Host.Outcome State Fault Refusal :=
  s.run (fun c _ => c.ssiDone j.val raw.toNat ends.first ends.last (c.now + off.val))

/-- COMPARE_ARM (R307): Writing ARM copies the compare list on-die, clears the log and arms entry 0. -/
def execCompareArm (u : Fin 8) (s : State) : Host.Outcome State Fault Refusal :=
  s.run (fun c m => c.armWrite m u.val)

/-- INC_STICKY_CLEAR (R302): Writing PFI_CLEAR INC_STICKY clears IDX_STICKY of an input. -/
def execIncStickyClear (enc : Fin 8) (s : State) : Host.Outcome State Fault Refusal :=
  s.run (fun c _ => c.unlessHeld domMOT (fun c => c.clearIncSticky enc.val))

/-- INC_FAULT_CLEAR (R302): Writing PFI_CLEAR INC_FAULT clears an input's fault and MISS_RUN. -/
def execIncFaultClear (enc : Fin 8) (s : State) : Host.Outcome State Fault Refusal :=
  s.run (fun c _ => c.unlessHeld domMOT (fun c => c.clearIncFault enc.val))

/-- SSI_FAULT_CLEAR (R305): Writing PFI_CLEAR SSI_FAULT clears an SSI input's fault. -/
def execSsiFaultClear (j : Fin 4) (s : State) : Host.Outcome State Fault Refusal :=
  s.run (fun c _ => c.unlessHeld domMOT (fun c => c.clearSsiFault j.val))

/-- CMP_STICKY_CLEAR (R308): Writing PFI_CLEAR CMP_STICKY clears MISSED_STICKY of a compare unit. -/
def execCmpStickyClear (u : Fin 8) (s : State) : Host.Outcome State Fault Refusal :=
  s.run (fun c _ => c.unlessHeld domMOT (fun c => c.clearCmpSticky u.val))

end Sys2Proof.Machine
end

