-- ==== Sys2Proof/Machine/BreakwaterRows.lean ====
section
/-!
DEFINITION. Machine/BreakwaterRows.lean: one meaning for each row of the table that belongs to
reservations and border traffic.
-/
namespace Sys2Proof.Machine

/-- RESERVATION_RELEASE (R130): A reservation's LINGER after its gate-off ends, and it is released at the tick
boundary. -/
def execReservationRelease (s : State) : Host.Outcome State Fault Refusal :=
  s.run (fun c _ => c.releaseDue)

/-- REQUEST_CAPPED (R132): A request's wait count reaches WAIT_CAP, and the request is capped. -/
def execRequestCapped (ch : Fin 64) (s : State) : Host.Outcome State Fault Refusal :=
  s.run (fun c _ => c.capRequest ch.val)

/-- BWK_WAIT_LONG (R134): A request's wait count reaches WAIT_ALARM, and BWK_WAIT_LONG is posted once. -/
def execBwkWaitLong (ch : Fin 64) (s : State) : Host.Outcome State Fault Refusal :=
  s.run (fun c _ => c.waitLong ch.val)

/-- YIELD (R135): After YIELD_AFTER refusals a channel suspends its tile and runs a checked REORDERABLE tile ahead. -/
def execYield (ch : Fin 64) (s : State) : Host.Outcome State Fault Refusal :=
  s.run (fun c _ => c.yieldDue ch.val)

/-- BORDER_REQ (R138): The lead device receives a border request frame for a border round. -/
def execBorderReq (p : Fin 21) (lane : Fin 2) (h : FrameHdr) (b : Bytes) (s : State) : Host.Outcome State Fault
    Refusal :=
  s.run (fun c _ => c.rxFrame p.val lane.val 0x41 h b (fun c => c.borderReqRx h.tag.toNat b))

/-- BORDER_ROUND (R138): At T_{k+4} the lead device decides every border request of origin tick T_k and sends the
answers. -/
def execBorderRound (s : State) : Host.Outcome State Fault Refusal :=
  s.run (fun c _ => c.borderRound)

/-- BORDER_ANS (R138): A border answer frame is received from the lead device. -/
def execBorderAns (p : Fin 21) (lane : Fin 2) (h : FrameHdr) (b : Bytes) (s : State) : Host.Outcome State Fault
    Refusal :=
  s.run (fun c _ => c.rxFrame p.val lane.val 0x42 h b (fun c => c.borderAnsRx h.tag.toNat b))

/-- BORDER_ANSWER_LATCH (R139): At T_{k+8} a border answer is latched as a grant or a refusal; a missing answer counts
BORDER_LATE and sends a release. -/
def execBorderAnswerLatch (s : State) : Host.Outcome State Fault Refusal :=
  s.run (fun c _ => c.borderLatch)

/-- BORDER_REL (R140): The lead device receives a border release and removes the entry four ticks after its origin. -/
def execBorderRel (p : Fin 21) (lane : Fin 2) (h : FrameHdr) (b : Bytes) (s : State) : Host.Outcome State Fault
    Refusal :=
  s.run (fun c _ => c.rxFrame p.val lane.val 0x43 h b (fun c => c.borderRelRx h.tag.toNat b))

/-- BORDER_FENCE_EXPIRY (R140): A capped border fence lapses after 16 ticks. -/
def execBorderFenceExpiry (s : State) : Host.Outcome State Fault Refusal :=
  s.run (fun c _ => c.fenceExpiry)

end Sys2Proof.Machine
end

