-- ==== Sys2Proof/Machine/CameraRows.lean ====
section
/-!
DEFINITION. Machine/CameraRows.lean: one meaning for each row of the table that belongs to
cameras, pipelines and triggers.
-/
namespace Sys2Proof.Machine

/-- CSI_FRAME_START (R253): A frame-start packet is received; the frame is stamped, takes a ring slot or is dropped,
or is counted as an orphan. -/
def execCsiFrameStart (port : Fin 8) (vc : Fin 16) (fn : BitVec 16) (ecc : Fin 3) (off : SubTick) (s : State) :
    Host.Outcome State Fault Refusal :=
  s.run (fun c _ => c.frameStart port.val vc.val fn.toNat ecc.val (c.now + off.val))

/-- CSI_LONG_PACKET (R250): A long packet, a line of pixels, is received, checked and stored in the ring. -/
def execCsiLongPacket (port : Fin 8) (vc : Fin 16) (dt : BitVec 6) (ecc : Fin 3) (crcOk : Bool) (data : Bytes) (s :
    State) : Host.Outcome State Fault Refusal :=
  s.run (fun c _ => c.longPacket port.val vc.val dt.toNat ecc.val crcOk data)

/-- CSI_FRAME_END (R254): A frame-end packet is received; the frame is judged SHORT or LONG and becomes ready. -/
def execCsiFrameEnd (port : Fin 8) (vc : Fin 16) (ecc : Fin 3) (s : State) : Host.Outcome State Fault Refusal :=
  s.run (fun c _ => c.frameEnd port.val vc.val ecc.val)

/-- FRAME_TIMEOUT (R255): A frame's watchdog expires before its frame end; the frame ends with TIMEOUT. -/
def execFrameTimeout (k : Fin 32) (s : State) : Host.Outcome State Fault Refusal :=
  s.run (fun c _ => c.frameTimeout k.val)

/-- FRAME_MISSING (R255): No frame start arrives within the watchdog time, and MISSING is counted. -/
def execFrameMissing (k : Fin 32) (s : State) : Host.Outcome State Fault Refusal :=
  s.run (fun c _ => c.frameMissing k.val)

/-- PIPELINE_TAKE (R256): A pipeline takes the first ready frame in key order and loads its context. -/
def execPipelineTake (pipe : Fin 2) (s : State) : Host.Outcome State Fault Refusal :=
  s.run (fun c _ => c.pipelineTake pipe.val)

/-- FEATURE_RECORD_DONE (R265): A pipeline has processed a frame and writes its feature record to the trim loop and
the feature ring. -/
def execFeatureRecordDone (pass : PipelinePass) (s : State) : Host.Outcome State Fault Refusal :=
  s.run (fun c m => c.frameDone m pass.pipe.val (pass.bad.map (fun e => (e.1.toNat, e.2))))

/-- CTRIG_PERIODIC (R266): A periodic camera trigger falls due, and CTRIG starts a pulse, with any strobe. -/
def execCtrigPeriodic (p : Fin 8) (off : SubTick) (s : State) : Host.Outcome State Fault Refusal :=
  s.run (fun c _ => c.periodicTrigger p.val (c.now + off.val))

/-- PULSE (R266): Writing PULSE starts one software trigger pulse at the next tick boundary. -/
def execPulse (p : Fin 8) (s : State) : Host.Outcome State Fault Refusal :=
  s.run (fun c _ => c.unlessStopped domCAM (fun c => c.askPulse p.val))

end Sys2Proof.Machine
end

