-- ==== Sys2Proof/Machine/CascadeRows.lean ====
section
/-!
DEFINITION. Machine/CascadeRows.lean: one meaning for each row of the table that belongs to
cascades.
-/
namespace Sys2Proof.Machine

/-- CSC_HB_SEND (R329): Every 50 µs a member sends CSC_HB toward the lead, or the lead toward each member. -/
def execCscHbSend (s : State) : Host.Outcome State Fault Refusal :=
  s.run (fun c _ => c.cscHbSend)

/-- CSC_HB (R329): A cascade heartbeat is received; the lead sets FORMED once every member is heard. -/
def execCscHb (p : Fin 21) (h : FrameHdr) (b : Bytes) (s : State) : Host.Outcome State Fault Refusal :=
  s.run (fun c _ => c.cscHb p.val h b)

/-- CSC_READY (R330): The lead receives a member's readiness for a tide mark, SLACK or resume. -/
def execCscReady (p : Fin 21) (h : FrameHdr) (b : Bytes) (s : State) : Host.Outcome State Fault Refusal :=
  s.run (fun c _ => c.rxFrame p.val 1 0x59 h b (fun c => c.cscReady (h.aux.toNat / 4096) b))

/-- CSC_ANNOUNCE (R330): A member receives an announced boundary from the lead. -/
def execCscAnnounce (p : Fin 21) (h : FrameHdr) (b : Bytes) (s : State) : Host.Outcome State Fault Refusal :=
  s.run (fun c _ => c.rxFrame p.val 1 0x5A h b (fun c => c.cscAnnounce h.tag.toNat b))

/-- ANNOUNCED_BOUNDARY (R330): The announced tide mark, SLACK start or resume boundary is reached on every member. -/
def execAnnouncedBoundary (s : State) : Host.Outcome State Fault Refusal :=
  s.run (fun c _ => c.announcedBoundary)

/-- CSC_HOLD (R330): A cascade hold frame is received, and the member holds at end. -/
def execCscHold (p : Fin 21) (h : FrameHdr) (b : Bytes) (s : State) : Host.Outcome State Fault Refusal :=
  s.run (fun c _ => c.rxFrame p.val 1 0x5B h b (fun c => c.cscHold b))

/-- CSC_MEMBER_LOST (R329): The lead has not heard a member for 151 µs and sends CSC_HOLD to every member. -/
def execCscMemberLost (s : State) : Host.Outcome State Fault Refusal :=
  s.run (fun c _ => c.memberLost)

/-- CSC_LEAD_LOST (R329): A member has not heard the lead for 151 µs and raises a HOLD escalation. -/
def execCscLeadLost (s : State) : Host.Outcome State Fault Refusal :=
  s.run (fun c _ => c.leadLost)

end Sys2Proof.Machine
end

