-- ==== Sys2Proof/Machine/ClockRows.lean ====
section
/-!
DEFINITION. Machine/ClockRows.lean: one meaning for each row of the table that belongs to
the periods of machine time (R18, R174, R175, R286).
-/
namespace Sys2Proof.Machine

/-- TICK (R18): At every 500 ns tick boundary the device latches its inputs and runs the data plane: sequencers,
breakwater round, gating decisions, setpoints and the TICK_DN build. -/
def execTick (s : State) : Host.Outcome State Fault Refusal :=
  s.run (fun c _ => c.tick)

/-- CONTROL_TICK (R18): At every 10 µs control tick boundary the pilot admits posted commands, posts events and
refreshes the status mirror. -/
def execControlTick (s : State) : Host.Outcome State Fault Refusal :=
  s.run (fun c m => c.controlTick m)

/-- PROFILE_TICK (R286): At every 16 µs profile tick boundary each bed axis chooses its jerk, advances its profile and
emits its steps. -/
def execProfileTick (s : State) : Host.Outcome State Fault Refusal :=
  s.run (fun c _ => c.profileTick)

/-- BELL (R174): At every whole microsecond the device sends a BELL on lane 0 of each UP head port and on each UP aux
port. -/
def execBell (inTx : List (Fin 7)) (s : State) : Host.Outcome State Fault Refusal :=
  s.run (fun c _ => c.bells (inTx.map (fun k => k.val)))

/-- TIME_SET (R175): At least once per millisecond, and after any step, the device sends TIME_SET on each UP head and
aux port. -/
def execTimeSet (s : State) : Host.Outcome State Fault Refusal :=
  s.run (fun c _ => c.timeSetAll)

end Sys2Proof.Machine
end

