-- ==== Sys2Proof/Machine/CommandRows.lean ====
section
/-!
DEFINITION. Machine/CommandRows.lean: one meaning for each row of the table that belongs to
the opcodes of mailbox commands (R206, R469 to R471), each admitted by itself, and the two long steps of staging.
-/
namespace Sys2Proof.Machine

/-- SESSION_OPEN (R202): The command gives the master a new epoch and releases its token and stored responses. -/
def execSessionOpen (x : CmdImage) (s : State) : Host.Outcome State Fault Refusal :=
  s.run (fun c m => c.runCmd m (cmdOf x 0x0001))

/-- SESSION_CLOSE (R202): The command sets the master's epoch to 0. -/
def execSessionClose (x : CmdImage) (s : State) : Host.Outcome State Fault Refusal :=
  s.run (fun c m => c.runCmd m (cmdOf x 0x0002))

/-- TOKEN_TAKE (R209): The command takes the control token, or forces it from a PCIe host. -/
def execTokenTake (x : CmdImage) (s : State) : Host.Outcome State Fault Refusal :=
  s.run (fun c m => c.runCmd m (cmdOf x 0x0003))

/-- TOKEN_RELEASE (R209): The command gives up the control token and discards the staged set. -/
def execTokenRelease (x : CmdImage) (s : State) : Host.Outcome State Fault Refusal :=
  s.run (fun c m => c.runCmd m (cmdOf x 0x0004))

/-- KEEPALIVE (R206): The command returns the token holder. -/
def execKeepalive (x : CmdImage) (s : State) : Host.Outcome State Fault Refusal :=
  s.run (fun c m => c.runCmd m (cmdOf x 0x0005))

/-- EVENT_READ (R206): The command returns up to 3 event records from the ring. -/
def execEventRead (x : CmdImage) (s : State) : Host.Outcome State Fault Refusal :=
  s.run (fun c m => c.runCmd m (cmdOf x 0x0006))

/-- OBJ_READ (R211): The command returns the whole of an object. -/
def execObjRead (x : CmdImage) (s : State) : Host.Outcome State Fault Refusal :=
  s.run (fun c m => c.runCmd m (cmdOf x 0x1001))

/-- OBJ_WRITE (R211): The command writes an object that does not apply at tide mark, each field by its Applies value.
-/
def execObjWrite (x : CmdImage) (s : State) : Host.Outcome State Fault Refusal :=
  s.run (fun c m => c.runCmd m (cmdOf x 0x1002))

/-- OBJ_STAGE (R212): The command enters an object into the staged set, with descriptor tests and a DRAM copy where
the object names one. -/
def execObjStage (x : CmdImage) (s : State) : Host.Outcome State Fault Refusal :=
  s.run (fun c m => c.runCmd m (cmdOf x 0x1003))

/-- STAGE_COPY_DONE (R208): The DRAM copy of a staged object completes, and the stage command completes. -/
def execStageCopyDone (bad : Option (BitVec 32 × Bool)) (s : State) : Host.Outcome State Fault Refusal :=
  s.run (fun c m => c.stageCopyDone m (bad.map (fun e => (e.1.toNat, e.2))))

/-- STAGE_READ (R206): The command returns the staged value, or the value in force. -/
def execStageRead (x : CmdImage) (s : State) : Host.Outcome State Fault Refusal :=
  s.run (fun c m => c.runCmd m (cmdOf x 0x1004))

/-- CHECK (R214): The command starts the consistency check of the staged set. -/
def execCheck (x : CmdImage) (s : State) : Host.Outcome State Fault Refusal :=
  s.run (fun c m => c.runCmd m (cmdOf x 0x2001))

/-- CHECK_DONE (R215): The consistency check ends, and CHECK completes with its result entries. -/
def execCheckDone (ue : Option (BitVec 48 × Bool)) (partner : Option (BitVec 32)) (s : State) : Host.Outcome State Fault
    Refusal :=
  s.run (fun c m => c.checkDone m (ue.map (fun e => (e.1.toNat, e.2))) (partner.map BitVec.toNat))

/-- COMMIT (R216): The command repeats the queue and mask tests and moves a passed set into the commit queue. -/
def execCommit (x : CmdImage) (s : State) : Host.Outcome State Fault Refusal :=
  s.run (fun c m => c.runCmd m (cmdOf x 0x2002))

/-- DISCARD (R213): The command empties the staged set. -/
def execDiscard (x : CmdImage) (s : State) : Host.Outcome State Fault Refusal :=
  s.run (fun c m => c.runCmd m (cmdOf x 0x2003))

/-- STOP (R206): The command requests entry into SAFE. -/
def execStop (x : CmdImage) (s : State) : Host.Outcome State Fault Refusal :=
  s.run (fun c m => c.runCmd m (cmdOf x 0x3001))

/-- HOLD (R237): The command requests HOLD, as a hold at end or, with IMMEDIATE, a stop in path. -/
def execHold (x : CmdImage) (s : State) : Host.Outcome State Fault Refusal :=
  s.run (fun c m => c.runCmd m (cmdOf x 0x3002))

/-- ABORT (R240): The command abandons the present layer and discards the commit queue, by mode. -/
def execAbort (x : CmdImage) (s : State) : Host.Outcome State Fault Refusal :=
  s.run (fun c m => c.runCmd m (cmdOf x 0x3003))

/-- ARM (R233): The command enters ARMED when the arming conditions hold. -/
def execArm (x : CmdImage) (s : State) : Host.Outcome State Fault Refusal :=
  s.run (fun c m => c.runCmd m (cmdOf x 0x3004))

/-- DISARM (R233): The command returns to STANDBY from ARMED, or from SLACK once the Slack work has ended. -/
def execDisarm (x : CmdImage) (s : State) : Host.Outcome State Fault Refusal :=
  s.run (fun c m => c.runCmd m (cmdOf x 0x3005))

/-- RESUME (R238): The command leaves HOLD for RETURN, and every channel and axis restarts at one boundary. -/
def execResume (x : CmdImage) (s : State) : Host.Outcome State Fault Refusal :=
  s.run (fun c m => c.runCmd m (cmdOf x 0x3006))

/-- SAFE_CLEAR (R247): The command leaves SAFE for RETURN when the inputs have been inactive, DISC is clear and no
cause remains. -/
def execSafeClear (x : CmdImage) (s : State) : Host.Outcome State Fault Refusal :=
  s.run (fun c m => c.runCmd m (cmdOf x 0x3007))

/-- SERVICE_ENTER (R233): The command enters SERVICE from STANDBY. -/
def execServiceEnter (x : CmdImage) (s : State) : Host.Outcome State Fault Refusal :=
  s.run (fun c m => c.runCmd m (cmdOf x 0x3008))

/-- SERVICE_EXIT (R233): The command returns from SERVICE to STANDBY. -/
def execServiceExit (x : CmdImage) (s : State) : Host.Outcome State Fault Refusal :=
  s.run (fun c m => c.runCmd m (cmdOf x 0x3009))

/-- IPL_CAPTURE_DARK (R262): The command starts a dark reference capture over the next frames. -/
def execIplCaptureDark (x : CmdImage) (s : State) : Host.Outcome State Fault Refusal :=
  s.run (fun c m => c.runCmd m (cmdOf x 0x6001))

/-- IPL_CAPTURE_FLAT (R262): The command starts a flat reference capture over the next frames. -/
def execIplCaptureFlat (x : CmdImage) (s : State) : Host.Outcome State Fault Refusal :=
  s.run (fun c m => c.runCmd m (cmdOf x 0x6002))

/-- MOT_MOVE (R290): The command gives an axis a target, latched at the next tick boundary. -/
def execMotMove (x : CmdImage) (s : State) : Host.Outcome State Fault Refusal :=
  s.run (fun c m => c.runCmd m (cmdOf x 0x5001))

/-- MOT_HALT (R293): The command stops an axis, keeping or discarding its target. -/
def execMotHalt (x : CmdImage) (s : State) : Host.Outcome State Fault Refusal :=
  s.run (fun c m => c.runCmd m (cmdOf x 0x5002))

/-- MOT_CONTINUE (R294): The command restarts an axis towards its kept target. -/
def execMotContinue (x : CmdImage) (s : State) : Host.Outcome State Fault Refusal :=
  s.run (fun c m => c.runCmd m (cmdOf x 0x5003))

/-- MOT_SET_POS (R311): The command sets the position of an idle axis. -/
def execMotSetPos (x : CmdImage) (s : State) : Host.Outcome State Fault Refusal :=
  s.run (fun c m => c.runCmd m (cmdOf x 0x5004))

/-- MOT_CLEAR (R297): The command clears an axis fault whose cause has gone and realigns POS_CMD to the encoder. -/
def execMotClear (x : CmdImage) (s : State) : Host.Outcome State Fault Refusal :=
  s.run (fun c m => c.runCmd m (cmdOf x 0x5005))

/-- TWN_HANDOVER (R327): The command requests an exchange of roles between the two units. -/
def execTwnHandover (x : CmdImage) (s : State) : Host.Outcome State Fault Refusal :=
  s.run (fun c m => c.runCmd m (cmdOf x 0xA001))

/-- TIM_SET (R345): The command steps machine time towards the given value, rounded to 80 µs. -/
def execTimSet (x : CmdImage) (s : State) : Host.Outcome State Fault Refusal :=
  s.run (fun c m => c.runCmd m (cmdOf x 0x9001))

/-- TIM_RESTEP (R342): The command sets STEP_ARMED and begins an acquisition. -/
def execTimRestep (x : CmdImage) (s : State) : Host.Outcome State Fault Refusal :=
  s.run (fun c m => c.runCmd m (cmdOf x 0x9002))

/-- CAL_RUN (R382): The command requests calibration runs of groups, by mode and URGENT. -/
def execCalRun (x : CmdImage) (s : State) : Host.Outcome State Fault Refusal :=
  s.run (fun c m => c.runCmd m (cmdOf x 0x7001))

/-- UPD_STAGE (R401): The command checks an image in DRAM and programs it into the inactive slot. -/
def execUpdStage (x : CmdImage) (s : State) : Host.Outcome State Fault Refusal :=
  s.run (fun c m => c.runCmd m (cmdOf x 0x7010))

/-- UPD_ACTIVATE (R402): The command sets TRIAL to the staged slot for the next boot. -/
def execUpdActivate (x : CmdImage) (s : State) : Host.Outcome State Fault Refusal :=
  s.run (fun c m => c.runCmd m (cmdOf x 0x7011))

/-- UPD_CONFIRM (R402): The command makes the trial image active and blows security counter fuses. -/
def execUpdConfirm (x : CmdImage) (s : State) : Host.Outcome State Fault Refusal :=
  s.run (fun c m => c.runCmd m (cmdOf x 0x7012))

/-- CON_REAUTH (R405): The command re-authenticates a cassette. -/
def execConReauth (x : CmdImage) (s : State) : Host.Outcome State Fault Refusal :=
  s.run (fun c m => c.runCmd m (cmdOf x 0x7020))

/-- CON_OVERRIDE (R408): The command overrides an exhausted cassette in SERVICE. -/
def execConOverride (x : CmdImage) (s : State) : Host.Outcome State Fault Refusal :=
  s.run (fun c m => c.runCmd m (cmdOf x 0x7021))

/-- CON_ISSUER (R405): The command programs or revokes an OTP issuer key slot. -/
def execConIssuer (x : CmdImage) (s : State) : Host.Outcome State Fault Refusal :=
  s.run (fun c m => c.runCmd m (cmdOf x 0x7022))

/-- HBR_TRIM_WRITE (R409): The command replaces the field trim list in part 9. -/
def execHbrTrimWrite (x : CmdImage) (s : State) : Host.Outcome State Fault Refusal :=
  s.run (fun c m => c.runCmd m (cmdOf x 0x7030))

/-- REC_CLEAR (R418): The command restarts the logbook region with a START record. -/
def execRecClear (x : CmdImage) (s : State) : Host.Outcome State Fault Refusal :=
  s.run (fun c m => c.runCmd m (cmdOf x 0x8001))

/-- REC_SUMMARY_READ (R419): The command returns bytes of the flash logbook summary. -/
def execRecSummaryRead (x : CmdImage) (s : State) : Host.Outcome State Fault Refusal :=
  s.run (fun c m => c.runCmd m (cmdOf x 0x8002))

/-- DEV_RESET (R427): The command completes and a device reset begins two control ticks later. -/
def execDevReset (x : CmdImage) (s : State) : Host.Outcome State Fault Refusal :=
  s.run (fun c m => c.runCmd m (cmdOf x 0x7040))

/-- BST_SHUTDOWN (R434): The command enters SHUTDOWN_TEST, which flushes the logbook, clears secrets, marches memory,
tests logic and loops back the fabric. -/
def execBstShutdown (x : CmdImage) (s : State) : Host.Outcome State Fault Refusal :=
  s.run (fun c m => c.runCmd m (cmdOf x 0x7050))

/-- BST_FUSE_REPAIR (R445): The command blows the soft repair map into OTP repair fuses. -/
def execBstFuseRepair (x : CmdImage) (s : State) : Host.Outcome State Fault Refusal :=
  s.run (fun c m => c.runCmd m (cmdOf x 0x7051))

end Sys2Proof.Machine
end

