-- ==== Sys2Proof/Machine/ExposureRows.lean ====
section
/-!
DEFINITION. Machine/ExposureRows.lean: one meaning for each row of the table that belongs to
the exposure path: tiles, gating, feedback, reflex loops and adoption.
-/
namespace Sys2Proof.Machine

/-- GATE_EDGE (R95): At its placed instant a gate edge appears on the LG pair; a gate-on starts the reflex loop's
active period. -/
def execGateEdge (ch : Fin 64) (s : State) : Host.Outcome State Fault Refusal :=
  s.run (fun c _ => c.nextEdge ch.val)

/-- TILE_CHECK_AT_USE (R51): A tile moved into the idle half of the double buffer passes or fails the tile check and
is planned. -/
def execTileCheckAtUse (ch : Fin 64) (corr : BitVec 16) (bad : Bool) (s : State) : Host.Outcome State Fault Refusal :=
  s.run (fun c _ => c.moveAndCheck ch.val corr.toNat bad)

/-- TILE_REREAD (R51): A tile that failed its check at use is re-read from DRAM and checked again; a second failure
posts TILE_BAD and escalates to HOLD. -/
def execTileReread (ch : Fin 64) (ue : Option (Fin 64 × Bool)) (s : State) : Host.Outcome State Fault Refusal :=
  s.run (fun c m => c.reread m ch.val (ue.map (fun e => (e.1.val, e.2))))

/-- FIRST_TILE_RECHECK (R53): Before a layer starts, a first tile that failed is fetched and checked again at each
whole millisecond. -/
def execFirstTileRecheck (ch : Fin 64) (ue : Option (Fin 64 × Bool)) (s : State) : Host.Outcome State Fault Refusal :=
  s.run (fun c m => c.recheckDue m ch.val (ue.map (fun e => (e.1.val, e.2))))

/-- VST_FETCH (R373): A fetch completes: one whole tile from DRAM fills a free slot of a channel's ring. -/
def execVstFetch (ns : BitVec 32) (ue : Option (Fin 64 × Bool)) (s : State) : Host.Outcome State Fault Refusal :=
  s.run (fun c m => c.fetchTile m ns.toNat (ue.map (fun e => (e.1.val, e.2))))

/-- SYNC_TIMEOUT (R40): A barrier that has waited longer than SYNC_TIMEOUT raises a HOLD fault and posts SYNC_TIMEOUT.
-/
def execSyncTimeout (ch : Fin 64) (s : State) : Host.Outcome State Fault Refusal :=
  s.run (fun c _ => c.syncTimeout ch.val)

/-- TICK_UP (R170): A TICK_UP frame from a head node is received: its samples are projected, and it acknowledges the
tick and may report a source fault or a cassette change. -/
def execTickUp (p : Fin 21) (h : FrameHdr) (b : Bytes) (s : State) : Host.Outcome State Fault Refusal :=
  s.run (fun c _ => c.rxFrame p.val 0 0x81 h b (fun c => c.tickUp p.val h b))

/-- ACK_LOST (R143): The fourth consecutive missing tick acknowledgement declares every armed channel of the node
failed. -/
def execAckLost (p : Fin 16) (s : State) : Host.Outcome State Fault Refusal :=
  s.run (fun c _ => c.ackLost p.val)

/-- FEEDBACK_LOST (R104): The third consecutive missing sample puts the channel in FALLBACK, requests a hold at end
and posts FEEDBACK_LOST. -/
def execFeedbackLost (ch : Fin 64) (s : State) : Host.Outcome State Fault Refusal :=
  s.run (fun c _ => c.feedbackLost ch.val)

/-- FOLLOWING_ERROR_LIMIT (R90): FE_TICKS consecutive samples beyond FE_CROSS_MAX or LAG_MAX declare the channel
failed. -/
def execFollowingErrorLimit (ch : Fin 64) (s : State) : Host.Outcome State Fault Refusal :=
  s.run (fun c _ => c.followingError ch.val)

/-- GATE_MISMATCH (R102): GATE_SEEN disagrees with the level driven on two consecutive samples, which declares the
channel failed. -/
def execGateMismatch (ch : Fin 64) (s : State) : Host.Outcome State Fault Refusal :=
  s.run (fun c _ => c.gateMismatch ch.val)

/-- ADOPTION_PLANNING_DONE (R153): The pilot has assigned every unit of the failed channel to an adopter or to the
residue. -/
def execAdoptionPlanningDone (s : State) : Host.Outcome State Fault Refusal :=
  s.run (fun c m => c.planFirst m)

/-- ADOPTION_DONE (R153): Every adoption tile of a loss has ended or passed on; the device sets DONE and posts
ADOPTION_DONE. -/
def execAdoptionDone (ch : Fin 64) (s : State) : Host.Outcome State Fault Refusal :=
  s.run (fun c _ => c.adoptionDone ch.val)

/-- SAMPLE (R108): A SAMPLE surge word is received and accepted, discarded or gap-counted, and runs the hysteretic law
and the integrator. -/
def execSample (p : Fin 16) (lane : Fin 2) (word : BitVec 32) (codeError : Bool) (lead : BitVec 32) (off : SubTick) (s
    : State) : Host.Outcome State Fault Refusal :=
  s.run (fun c _ => c.rxSample p.val lane.val word.toNat codeError lead.toNat off.val)

/-- SURGE_WORD_TX (R118): A waiting FACTOR or OFF word wins the lane and is transmitted. -/
def execSurgeWordTx (p : Fin 16) (lane : Fin 2) (off : SubTick) (s : State) : Host.Outcome State Fault Refusal :=
  s.run (fun c _ => c.surgeTx p.val lane.val (c.now + off.val))

/-- STARVE (R123): No sample arrived within STARVE sample periods; the channel starts a starved period. -/
def execStarve (ch : Fin 64) (s : State) : Host.Outcome State Fault Refusal :=
  s.run (fun c _ => c.starve ch.val)

end Sys2Proof.Machine
end

