-- ==== Sys2Proof/Machine/HarbourRows.lean ====
section
/-!
DEFINITION. Machine/HarbourRows.lean: one meaning for each row of the table that belongs to
calibration, housekeeping, updates and cassettes.
-/
namespace Sys2Proof.Machine

/-- CASS_RSP (R404): A cassette response is received for READ_ID, CHALLENGE, READ_LIFE or WRITE_LIFE. -/
def execCassRsp (p : Fin 21) (h : FrameHdr) (b : Bytes) (issuerKey : Bytes) (s : State) : Host.Outcome State Fault
    Refusal :=
  s.run (fun c _ => c.rxCtl p.val 0x86 h b (fun c => c.cassRsp h.tag.toNat b issuerKey))

/-- CASSETTE_AUTH_DONE (R405): Authentication of a cassette ends OK or AUTH_FAIL; a failed window cassette declares
its channel failed. -/
def execCassetteAuthDone (k : Fin 68) (s : State) : Host.Outcome State Fault Refusal :=
  s.run (fun c _ => c.authDone k.val)

/-- CAL_GROUP_DONE (R380): A calibration run ends passed, failed or abandoned; values are scheduled and CAL_DONE
posted. -/
def execCalGroupDone (chan : Option (Fin 64)) (passed : Bool) (values : Bytes) (s : State) : Host.Outcome State Fault
    Refusal :=
  s.run (fun c _ => c.calGroupDone (chan.map (fun k => k.val)) passed values)

/-- CAL_EXPIRED (R383): A deferred request's deadline passes with no SLACK, and CAL_EXPIRED is posted. -/
def execCalExpired (s : State) : Host.Outcome State Fault Refusal :=
  s.run (fun c _ => c.unlessHeld domHBR Core.calExpired)

/-- CAL_RECORD_WRITE (R387): The harbour writes a marked record part to the copy holding the older generation. -/
def execCalRecordWrite (part : Fin 9) (failed : Fin 3) (s : State) : Host.Outcome State Fault Refusal :=
  s.run (fun c _ => c.calRecordWrite part.val failed.val)

/-- HK_SLOT_CONVERSION (R393): Every 250 µs the housekeeping sequencer converts one slot and judges it against its
limits. -/
def execHkSlotConversion (reading : Option (BitVec 16)) (s : State) : Host.Outcome State Fault Refusal :=
  s.run (fun c _ => c.hkConvert (reading.map BitVec.toInt))

/-- LOCKSTEP_MISMATCH (R392): The harbour's two cores disagree, and both restart from the booted image. -/
def execLockstepMismatch (s : State) : Host.Outcome State Fault Refusal :=
  s.run (fun c _ => c.lockstepMismatch)

/-- HBR_RESTART (R392): The harbour's restart ends, and HBR_RESTART is posted. -/
def execHbrRestart (s : State) : Host.Outcome State Fault Refusal :=
  s.run (fun c _ => c.harbourBack)

/-- UPD_STAGE_DONE (R401): Programming and read-back of a staged image end, and UPD_STAGE completes. -/
def execUpdStageDone (good : Bool) (s : State) : Host.Outcome State Fault Refusal :=
  s.run (fun c m => c.updStageDone m good)

/-- CASS_RSP_TIMEOUT (R404): A cassette request gets no answer within 20 ms; authentication ends in AUTH_FAIL, or
write-back keeps PENDING and counts WB_FAILS. -/
def execCassRspTimeout (k : Fin 68) (s : State) : Host.Outcome State Fault Refusal :=
  s.run (fun c _ => c.cassTimeout k.val)

end Sys2Proof.Machine
end

