-- ==== Sys2Proof/Machine/HostRows.lean ====
section
/-!
DEFINITION. Machine/HostRows.lean: one meaning for each row of the table that belongs to
what the host does over PCIe and Ethernet beside the mailbox commands.
-/
namespace Sys2Proof.Machine

/-- DOORBELL (R199): A write to DOORBELL posts mailboxes, setting MB_BUSY for admission at the next control tick
boundary. -/
def execDoorbell (v : BitVec 32) (s : State) : Host.Outcome State Fault Refusal :=
  s.run (fun c _ => if c.onBus then c.doorbell v.toNat else c)

/-- MGMT_DATAGRAM (R229): A UDP datagram on ETH0 posts a command of master 2, repeats a stored response, or is
dropped. -/
def execMgmtDatagram (ip : BitVec 32) (port : BitVec 16) (data : Bytes) (s : State) : Host.Outcome State Fault Refusal
    :=
  s.run (fun c _ => c.mgmtDatagram ip.toNat port.toNat data)

/-- ARP_REQUEST (R227): The harbour answers an ARP request for its management address. -/
def execArpRequest (ip : BitVec 32) (s : State) : Host.Outcome State Fault Refusal :=
  s.run (fun c _ => c.arpRequest ip.toNat)

/-- ICMP_ECHO (R227): The harbour answers an ICMP echo request. -/
def execIcmpEcho (ip : BitVec 32) (data : Bytes) (s : State) : Host.Outcome State Fault Refusal :=
  s.run (fun c _ => c.icmpEcho ip.toNat data)

/-- EV_CONS_WRITE (R223): Host software advances EV_CONS, freeing room in the event ring; EVQ_OVERFLOW follows if
events were lost. -/
def execEvConsWrite (v : BitVec 32) (s : State) : Host.Outcome State Fault Refusal :=
  s.run (fun c _ => if c.onBus then c.evConsWrite v.toNat else c)

/-- EV_HOLDOFF_EXPIRY (R226): EV_HOLDOFF ends, and vector 8 is sent again if events entered meanwhile. -/
def execEvHoldoffExpiry (s : State) : Host.Outcome State Fault Refusal :=
  s.run (fun c _ => c.holdoffExpiry)

/-- MSIX_UNMASK (R226): A vector is unmasked in the MSI-X table, and its held-back message is sent. -/
def execMsixUnmask (v : Fin 64) (masked : Bool) (s : State) : Host.Outcome State Fault Refusal :=
  s.run (fun c _ => if c.onBus then c.msixMask v.val masked else c)

/-- REGISTER_WRITE (R9): A write to a register with no row of its own takes effect by its Access code. -/
def execRegisterWrite (off : BitVec 32) (data : Bytes) (s : State) : Host.Outcome State Fault Refusal :=
  s.run (fun c _ => c.bar0Write off.toNat data)

/-- STAT_READ_CLEAR (R9): A read of an RC object returns its counts and clears them. -/
def execStatReadClear (obj : BitVec 16) (inst : BitVec 16) (s : State) : Host.Outcome State Fault Refusal :=
  s.run (fun c _ => c.statRead obj.toNat inst.toNat)

/-- BAR2_READ (R357): A PCIe read of the BAR2 window is served from DRAM. -/
def execBar2Read (addr : BitVec 48) (n : BitVec 16) (bad : Option (BitVec 16 × Bool)) (s : State) :
    Host.Outcome State Fault Refusal :=
  s.run (fun c m => c.bar2Read m addr.toNat n.toNat (bad.map (fun e => (e.1.toNat, e.2))))

/-- BAR2_WRITE (R357): A PCIe write to the BAR2 window is applied within the host part. -/
def execBar2Write (addr : BitVec 48) (data : Bytes) (s : State) : Host.Outcome State Fault Refusal :=
  s.run (fun c _ => c.bar2Write addr.toNat data)

/-- TSW_PROD_WRITE (R466): A write to TSW_PROD hands descriptors of the tile staging ring to the device. -/
def execTswProdWrite (v : BitVec 32) (s : State) : Host.Outcome State Fault Refusal :=
  s.run (fun c _ => c.tswProd v.toNat)

/-- TSW_DESCRIPTOR_DONE (R467): A staging descriptor's copy ends; TSW_STATUS is written and TSW_CONS advances. -/
def execTswDescriptorDone (data : Bytes) (hostErr : Bool) (s : State) : Host.Outcome State Fault Refusal :=
  s.run (fun c _ => c.tswDescriptor data hostErr)

/-- PERST_N (R454): PERST_N low resets the PCIe endpoint, empties the staging ring and closes that master's session.
-/
def execPerstN (low : Bool) (s : State) : Host.Outcome State Fault Refusal :=
  s.run (fun c _ => c.perst low)

/-- BUS_MASTER_ENABLE (R467): Host software sets Bus Master Enable in PCIe configuration space, and descriptor
processing of the tile staging ring resumes. -/
def execBusMasterEnable (on : Bool) (s : State) : Host.Outcome State Fault Refusal :=
  s.run (fun c _ => c.busMasterWrite on)

end Sys2Proof.Machine
end

