-- ==== Sys2Proof/Machine/LightRows.lean ====
section
/-!
DEFINITION. Machine/LightRows.lean: one meaning for each row of the table that belongs to
bed lighting.
-/
namespace Sys2Proof.Machine

/-- SINK_PERIOD_START (R270): At each period start a steady sink recomputes its current and drives it, analogue or
pulsed. -/
def execSinkPeriodStart (n : Fin 16) (off : SubTick) (openLamps : BitVec 16) (s : State) : Host.Outcome State Fault
    Refusal :=
  s.run (fun c _ => c.unlessStopped domLUM (fun c => (c.seeLamps openLamps.toNat).sinkPeriod n.val (c.now + off.val)))

/-- FADE_STEP (R273): At each 100 µs multiple every running fade advances one step. -/
def execFadeStep (s : State) : Host.Outcome State Fault Refusal :=
  s.run (fun c _ => c.fadeStep)

/-- LEVEL_WRITE (R273): A write to LEVEL starts a fade from the present B over FADE ms. -/
def execLevelWrite (n : Fin 16) (v : BitVec 16) (s : State) : Host.Outcome State Fault Refusal :=
  s.run (fun c _ => c.levelWrite n.val v.toNat)

/-- GLOBAL_WRITE (R273): A write to GLOBAL starts a fade of the global level over GLOBAL_FADE ms. -/
def execGlobalWrite (v : BitVec 16) (s : State) : Host.Outcome State Fault Refusal :=
  s.run (fun c _ => c.globalWrite v.toNat)

/-- SHORT_DETECT (R275): A neighbour pin stays below SHORT_V for 4 µs; both sinks go off and LUM_SHORT is posted. -/
def execShortDetect (lower : Fin 15) (s : State) : Host.Outcome State Fault Refusal :=
  s.run (fun c _ => c.shortDetect lower.val)

/-- CLEAR_SHORT (R275): Writing CLEAR_SHORT releases a sink and its shorted neighbour. -/
def execClearShort (n : Fin 16) (s : State) : Host.Outcome State Fault Refusal :=
  s.run (fun c _ => c.unlessHeld domLUM (fun c => c.clearShort n.val))

/-- OPENCHK_MAXDEFER (R278): SINCE_CHECK reaches OPENCHK_MAXDEFER; DIAG_DUE is set and a diagnostic item is queued. -/
def execOpenchkMaxdefer (n : Fin 16) (s : State) : Host.Outcome State Fault Refusal :=
  s.run (fun c _ => c.diagDue n.val)

/-- DIAG_PULSE (R278): A window is found in the Slack, and a 4 µs diagnostic pulse starts to check the sink. -/
def execDiagPulse (n : Fin 16) (off : SubTick) (heldUA : BitVec 32) (openLamps : BitVec 16) (s : State) :
    Host.Outcome State Fault Refusal :=
  s.run (fun c _ => c.unlessStopped domLUM (fun c =>
    (c.seeLamps (c.lampsAt n.val heldUA.toNat openLamps.toNat)).diagPulse n.val (c.now + off.val)))

/-- SHW_FRAME_START (R282): A Shingle wire frame starts at a REFRESH multiple or after an UPDATE. -/
def execShwFrameStart (chain : Fin 2) (s : State) : Host.Outcome State Fault Refusal :=
  s.run (fun c m => c.shwStart m (16 + chain.val))

/-- SHW_FRAME_DONE (R283): A frame ends, and its returned bits are judged for RTN_STATE. -/
def execShwFrameDone (chain : Fin 2) (returned : Bytes) (s : State) : Host.Outcome State Fault Refusal :=
  s.run (fun c _ => c.shwDone (16 + chain.val) returned)

/-- UPDATE (R282): Writing UPDATE requests a new snapshot of the value table. -/
def execUpdate (chain : Fin 2) (s : State) : Host.Outcome State Fault Refusal :=
  s.run (fun c _ => c.unlessHeld domLUM (fun c => c.shwUpdate (16 + chain.val)))

end Sys2Proof.Machine
end

