-- ==== Sys2Proof/Machine/MemoryRows.lean ====
section
/-!
DEFINITION. Machine/MemoryRows.lean: one meaning for each row of the table that belongs to
DRAM and the logbook.
-/
namespace Sys2Proof.Machine

/-- DRAM_TRAINING_DONE (R359): Full training, or verification of the stored values, ends on the subchannels. -/
def execDramTrainingDone (t : TrainResult) (s : State) : Host.Outcome State Fault Refusal := .next (s.train t)

/-- DRC_INIT_DONE (R361): Background zeroing of every block ends; INIT_DONE is set and DRC_INIT_DONE posted. -/
def execDrcInitDone (s : State) : Host.Outcome State Fault Refusal :=
  s.run (fun c _ => c.initDone)

/-- REFRESH (R363): A same-bank refresh falls due and is issued, postponed by at most two intervals. -/
def execRefresh (sub : Fin 4) (bank : Fin 64) (hits : Bool) (s : State) : Host.Outcome State Fault Refusal :=
  s.run (fun c _ => c.refresh sub.val bank.val hits)

/-- MR4_POLL (R355): Every 16 ms MR4 is polled on each rank to set the refresh rate. -/
def execMr4Poll (rank : Fin 2) (raised : Bool) (s : State) : Host.Outcome State Fault Refusal :=
  s.run (fun c _ => c.mr4Poll rank.val raised)

/-- ROW_ACT_THRESHOLD (R365): An activate counter reaches ACT_TH, and a neighbour refresh is queued: the row of an address is
activated. -/
def execRowActThreshold (sub : Fin 4) (bank : Fin 64) (row : BitVec 18) (s : State) : Host.Outcome State Fault Refusal :=
  s.run (fun c _ => c.activate (rowAddress c.drc.x4 c.drc.dual sub.val bank.val row.toNat))

/-- PATROL_SCRUB (R371): The patrol scrub reads the next burst and writes back any correction. -/
def execPatrolScrub (result : Fin 3) (s : State) : Host.Outcome State Fault Refusal :=
  s.run (fun c _ => c.patrolScrub result.val)

/-- DRAM_CAL_SLICE (R362): A slice of a DRAM calibration run stops DRAM access for at most 20 µs. -/
def execDramCalSlice (sub : Fin 4) (fifosLow : Bool) (last : Bool) (passed : Bool) (s : State) : Host.Outcome State
    Fault Refusal :=
  s.run (fun c _ => c.calSlice sub.val fifosLow last passed)

/-- RECORD_SEAL (R413): The logbook writer seals a record, merges its pending repeats and advances SEAL_PTR. -/
def execRecordSeal (s : State) : Host.Outcome State Fault Refusal :=
  s.run (fun c _ => c.recordSeal)

/-- SUMMARY_BATCH_DONE (R415): The summary records of an ended layer are all written, and the bank is cleared. -/
def execSummaryBatchDone (s : State) : Host.Outcome State Fault Refusal :=
  s.run (fun c _ => c.batchDone)

end Sys2Proof.Machine
end

