-- ==== Sys2Proof/Machine/ModeRows.lean ====
section
/-!
DEFINITION. Machine/ModeRows.lean: one meaning for each row of the table that belongs to
the mode controller and the interlock.
-/
namespace Sys2Proof.Machine

/-- TOKEN_LAPSE (R209): TOKEN_TIMEOUT passes without a command from the holder; the token lapses and the staged set is
discarded. -/
def execTokenLapse (s : State) : Host.Outcome State Fault Refusal :=
  s.run (fun c _ => if c.pilotServes then c.tokenLapseDue else c)

/-- TIDE_MARK (R218): A committed set with a manifest takes effect, and the device enters EXPOSE for its layer. -/
def execTideMark (s : State) : Host.Outcome State Fault Refusal :=
  s.run (fun c _ => c.tideRow true)

/-- TIDE_MARK_NO_MANIFEST (R219): A committed set without a manifest takes effect while no layer is active. -/
def execTideMarkNoManifest (s : State) : Host.Outcome State Fault Refusal :=
  s.run (fun c _ => c.tideRow false)

/-- SLACK_ENTRY (R235): The layer ends; the device enters SLACK, discards reservations, applies Slack fields, posts
LAYER_DONE, starts the recoat and admits Slack work. -/
def execSlackEntry (s : State) : Host.Outcome State Fault Refusal :=
  s.run (fun c _ => c.layerEndDue)

/-- SLACK_LONG (R236): SLACK has lasted SLACK_WARN without ending, and SLACK_LONG is posted once. -/
def execSlackLong (s : State) : Host.Outcome State Fault Refusal :=
  s.run (fun c _ => c.slackLong)

/-- HOLD_SETTLED (R237): Every channel rests at its hold point and every axis is at rest; PHASE becomes HELD. -/
def execHoldSettled (s : State) : Host.Outcome State Fault Refusal :=
  s.run (fun c _ => c.holdSettled)

/-- SAFETY_INPUT_TRIP (R243): A safety input goes active: SAF forces the LG pairs low, the mode becomes SAFE, and
SAFETY_TRIP is posted. -/
def execSafetyInputTrip (inp : Fin 3) (gateNs : BitVec 16) (s : State) : Host.Outcome State Fault Refusal :=
  s.run (fun c _ => c.unlessHeld domAON (fun c => c.safetyTrip inp.val gateNs.toNat))

/-- SAFETY_INPUT_RELEASE (R247): A safety input goes inactive, and HIGH_FOR starts counting once all three are
inactive. -/
def execSafetyInputRelease (inp : Fin 3) (s : State) : Host.Outcome State Fault Refusal :=
  s.run (fun c _ => c.unlessHeld domAON (fun c => c.safetyRelease inp.val))

/-- SAFETY_DISCREPANCY (R245): LSAF_A_N and LSAF_B_N disagree for more than 10 ms; DISC is latched. -/
def execSafetyDiscrepancy (s : State) : Host.Outcome State Fault Refusal :=
  s.run (fun c _ => c.unlessHeld domAON Core.discrepancy)

/-- WATCHDOG_MISS (R241): The pilot firmware misses a control tick, which requests SAFE. -/
def execWatchdogMiss (s : State) : Host.Outcome State Fault Refusal :=
  s.run (fun c _ => c.missTick)

/-- WATCHDOG_RESET (R427): The pilot has missed control ticks for WDOG_RESET_MS, and a device reset follows. -/
def execWatchdogReset (s : State) : Host.Outcome State Fault Refusal :=
  s.run (fun c _ => c.watchdogReset)

/-- ADP_RESTORE (R156): Writing RESTORE in SERVICE returns a failed channel to service and clears its reports. -/
def execAdpRestore (ch : Fin 64) (s : State) : Host.Outcome State Fault Refusal :=
  s.run (fun c _ => c.restoreWrite ch.val)

end Sys2Proof.Machine
end

