-- ==== Sys2Proof/Machine/ResetRows.lean ====
section
/-!
DEFINITION. Machine/ResetRows.lean: one meaning for each row of the table that belongs to
power, reset, boot and self-test.
-/
namespace Sys2Proof.Machine

/-- POWER_ON (R456): Every rail has stood above 92 % for 100 µs; the power-on reset is released. -/
def execPowerOn (percent : BitVec 8) (us : BitVec 16) (s : State) : Host.Outcome State Fault Refusal :=
  s.run (fun c _ => if railsUp percent.toNat us.toNat then c.powerOn else c)

/-- POWER_FAIL (R456): A rail falls below 88 % for 1 µs, and a power-on reset follows. -/
def execPowerFail (s : State) : Host.Outcome State Fault Refusal :=
  s.run (fun c _ => c.powerFail)

/-- RESET_N_ASSERT (R422): A low pulse on RESET_N is acted on as a device reset. -/
def execResetNAssert (s : State) : Host.Outcome State Fault Refusal :=
  s.run (fun c _ => c.resetnAssert)

/-- RESET_N_RELEASE (R422): RESET_N has been high for 3.0 µs, and the device reset is released. -/
def execResetNRelease (s : State) : Host.Outcome State Fault Refusal :=
  s.run (fun c _ => c.resetnRelease)

/-- CLOCK_QUALIFIED (R423): A domain clock's frequency count passes, and its clock is qualified. -/
def execClockQualified (d : Fin 10) (s : State) : Host.Outcome State Fault Refusal :=
  s.run (fun c _ => c.clockQualified d.val)

/-- DOMAIN_RELEASE (R424): A domain is released in bit order, GAP after the latest release, once its clock is
qualified; AON takes the straps as its pins show them. -/
def execDomainRelease (r : ReleaseStep) (s : State) : Host.Outcome State Fault Refusal :=
  s.run (fun c _ => c.domainRelease r.domain.val r.twPref r.casc.val)

/-- CLOCK_QUAL_LOST (R425): A released domain's clock leaves qualification; the domain is forced into reset and may
escalate to SAFE. -/
def execClockQualLost (d : Fin 10) (reason : Fin 2) (s : State) : Host.Outcome State Fault Refusal :=
  s.run (fun c _ => c.clockLost d.val reason.val)

/-- SW_RESET_SET (R426): Writing 1 to a SW_RESET bit puts its domain into reset and restarts its PLL. -/
def execSwResetSet (d : Fin 10) (s : State) : Host.Outcome State Fault Refusal :=
  s.run (fun c _ => c.swBit d.val true)

/-- SW_RESET_CLEAR (R426): Writing 0 to a SW_RESET bit allows the domain's release. -/
def execSwResetClear (d : Fin 10) (s : State) : Host.Outcome State Fault Refusal :=
  s.run (fun c _ => c.swBit d.val false)

/-- BOOT_IMAGE_SELECT (R400): After the trim load the harbour's start-up code picks and verifies an image and
increments the boot count. -/
def execBootImageSelect (t : BistResult) (s : State) : Host.Outcome State Fault Refusal :=
  s.run (fun c _ => c.bootImageSelect t)

/-- BRINGUP_DONE (R232): DRAM is trained, enabled ports are UP or FAILED and chains are enumerated; the device enters
STANDBY. -/
def execBringupDone (s : State) : Host.Outcome State Fault Refusal :=
  s.run (fun c _ => c.bringupDone)

/-- SHUTDOWN_TEST_DONE (R440): The shutdown test ends; the repair map and result record are written, then a reset or
DORMANT follows. -/
def execShutdownTestDone (t : BistResult) (s : State) : Host.Outcome State Fault Refusal :=
  s.run (fun c _ => c.shutdownDone t)

/-- JTAG_INSTRUCTION (R439): An IEEE 1149.1 instruction is loaded, and private and EXTEST instructions are accepted
only with TEST_OPEN. -/
def execJtagInstruction (instr : JtagInstr) (s : State) : Host.Outcome State Fault Refusal :=
  s.run (fun c _ => c.jtag instr)

/-- INTERNAL_RESET_RELEASE (R422): The 4.0 µs internal reset asserted by DEV_RESET, the watchdog or the end of the
shutdown test is released as though RESET_N had risen. -/
def execInternalResetRelease (s : State) : Host.Outcome State Fault Refusal :=
  s.run (fun c _ => c.internalRelease)

end Sys2Proof.Machine
end

