-- ==== Sys2Proof/Machine/StrandRows.lean ====
section
/-!
DEFINITION. Machine/StrandRows.lean: one meaning for each row of the table that belongs to
ports, frames and link management.
-/
namespace Sys2Proof.Machine

/-- ALIGNMENT_LOSS (R162): A receiver declares loss of alignment, by what it saw on a lane, and the port retrains. -/
def execAlignmentLoss (sight : LinkSight) (s : State) : Host.Outcome State Fault Refusal :=
  s.run (fun c _ =>
    if alignmentLost sight.noIdleNs.toNat sight.errors.toNat sight.noClockNs.toNat then c.linkLost sight.port.val else c)

/-- TS1 (R183): A TS1 training set is received during port bring-up. -/
def execTs1 (p : Fin 21) (lane : Fin 2) (p0 : BitVec 8) (p1 : BitVec 8) (p2 : BitVec 8) (p3 : BitVec 8) (s : State) :
    Host.Outcome State Fault Refusal :=
  s.run (fun c _ => c.rxTs1 p.val lane.val p0.toNat p1.toNat p2.toNat p3.toNat)

/-- TS2 (R183): A TS2 training set is received; the link runs at the trained rate once enough are exchanged. -/
def execTs2 (p : Fin 21) (lane : Fin 2) (p0 : BitVec 8) (p1 : BitVec 8) (p2 : BitVec 8) (p3 : BitVec 8) (s : State) :
    Host.Outcome State Fault Refusal :=
  s.run (fun c _ => c.rxTs2 p.val lane.val p0.toNat p1.toNat p2.toNat p3.toNat)

/-- RATE (R183): A RATE set is received, and both sides change to 8.0 Gb/s. -/
def execRate (p : Fin 21) (lane : Fin 2) (p0 : BitVec 8) (s : State) : Host.Outcome State Fault Refusal :=
  s.run (fun c _ => c.rxRate p.val lane.val p0.toNat)

/-- EQ_REQ (R185): An equalisation request is received; the transmitter changes its taps and answers EQ_ACK. -/
def execEqReq (p : Fin 21) (lane : Fin 2) (p0 : BitVec 8) (p1 : BitVec 8) (p2 : BitVec 8) (p3 : BitVec 8) (s : State)
    : Host.Outcome State Fault Refusal :=
  s.run (fun c _ => c.rxEqReq p.val lane.val p0.toNat p1.toNat p2.toNat p3.toNat)

/-- EQ_ACK (R185): An equalisation acknowledgement reports the far taps now in force. -/
def execEqAck (p : Fin 21) (lane : Fin 2) (p1 : BitVec 8) (p2 : BitVec 8) (p3 : BitVec 8) (verdict : Fin 3) (actions :
    BitVec 8) (s : State) : Host.Outcome State Fault Refusal :=
  s.run (fun c _ => c.rxEqAck p.val lane.val p1.toNat p2.toNat p3.toNat verdict.val actions.toNat)

/-- EQ_DONE (R185): The far receiver ends equalisation, done or gave up. -/
def execEqDone (p : Fin 21) (lane : Fin 2) (p0 : BitVec 8) (p1 : BitVec 8) (s : State) : Host.Outcome State Fault
    Refusal :=
  s.run (fun c _ => c.rxEqDone p.val lane.val p0.toNat p1.toNat)

/-- EQ_TIMEOUT (R186): Equalisation passes 2.5 ms, and the port falls back to 4.0 Gb/s. -/
def execEqTimeout (p : Fin 21) (s : State) : Host.Outcome State Fault Refusal :=
  s.run (fun c _ => c.eqTimeout p.val)

/-- ECHO_REQ (R187): An echo request is received and answered with ECHO_RSP and its turnaround. -/
def execEchoReq (p : Fin 21) (lane : Fin 2) (p0 : BitVec 8) (p1 : BitVec 8) (turnaround : BitVec 16) (s : State) :
    Host.Outcome State Fault Refusal :=
  s.run (fun c _ => c.rxEchoReq p.val lane.val p0.toNat p1.toNat turnaround.toNat)

/-- ECHO_RSP (R187): An echo response is received, and after 64 of them LINK_DELAY is set. -/
def execEchoRsp (p : Fin 21) (lane : Fin 2) (p0 : BitVec 8) (p1 : BitVec 8) (p2 : BitVec 8) (p3 : BitVec 8) (rtt :
    BitVec 32) (s : State) : Host.Outcome State Fault Refusal :=
  s.run (fun c _ => c.rxEchoRsp p.val lane.val p0.toNat p1.toNat p2.toNat p3.toNat rtt.toNat)

/-- LINK_UP (R183): LINK_UP is exchanged; the port becomes UP and the device sends CFG_WR, TIME_SET and ENUM. -/
def execLinkUp (p : Fin 21) (lane : Fin 2) (p0 : BitVec 8) (s : State) : Host.Outcome State Fault Refusal :=
  s.run (fun c _ => c.rxLinkUp p.val lane.val p0.toNat)

/-- RETRAIN (R188): A RETRAIN set is received, and the port retrains from step 1. -/
def execRetrain (p : Fin 21) (lane : Fin 2) (s : State) : Host.Outcome State Fault Refusal :=
  s.run (fun c _ => c.rxLm p.val lane.val 0x0D 0 0 0 0 (fun c => c.linkLost p.val))

/-- PORT_TRAIN_TIMEOUT (R188): A port has not come UP within 5 ms; it sets FAILED and posts PORT_DOWN. -/
def execPortTrainTimeout (p : Fin 21) (s : State) : Host.Outcome State Fault Refusal :=
  s.run (fun c _ => c.trainTimeout p.val)

/-- PORT_RETRY (R188): A FAILED port tries bring-up again after 100 ms. -/
def execPortRetry (p : Fin 21) (s : State) : Host.Outcome State Fault Refusal :=
  s.run (fun c _ => c.portRetry p.val)

/-- NEAP_REQ (R189): A NEAP_REQ received from the far end is refused with NEAP_ACK 1. -/
def execNeapReq (p : Fin 21) (lane : Fin 2) (s : State) : Host.Outcome State Fault Refusal :=
  s.run (fun c _ => c.rxNeapReq p.val lane.val)

/-- NEAP_ACK (R190): The node accepts Neap; the device sends NEAP symbols, goes to electrical idle and stops its
clock. -/
def execNeapAck (p : Fin 21) (lane : Fin 2) (p0 : BitVec 8) (s : State) : Host.Outcome State Fault Refusal :=
  s.run (fun c _ => c.rxNeapAck p.val lane.val p0.toNat)

/-- WAKE (R190): WAKE sets are exchanged on Neap exit; the port is UP and TIME_SET is sent. -/
def execWake (p : Fin 21) (lane : Fin 2) (s : State) : Host.Outcome State Fault Refusal :=
  s.run (fun c _ => c.rxWake p.val lane.val)

/-- NEAP_WAKE_DETECT (R190): The device detects the node restarting its forwarded clock and begins Neap exit. -/
def execNeapWakeDetect (p : Fin 21) (s : State) : Host.Outcome State Fault Refusal :=
  s.run (fun c _ => c.neapExit p.val)

/-- NEAP_EXIT_TIMEOUT (R190): Alignment is not regained within 20 µs of Neap exit, and the port retrains. -/
def execNeapExitTimeout (p : Fin 21) (s : State) : Host.Outcome State Fault Refusal :=
  s.run (fun c _ => c.neapTimeout p.val)

/-- RETRAIN_WRITE (R188): Writing RETRAIN in STR_PORT_CTRL retrains the port. -/
def execRetrainWrite (p : Fin 21) (s : State) : Host.Outcome State Fault Refusal :=
  s.run (fun c _ => c.hostRetrain p.val)

/-- NEAP_ENTER (R189): Writing NEAP_ENTER puts the port into Neap if R189 allows it. -/
def execNeapEnter (p : Fin 21) (s : State) : Host.Outcome State Fault Refusal :=
  s.run (fun c _ => c.neapEnter p.val)

/-- NEAP_EXIT (R190): Writing NEAP_EXIT starts the Neap exit sequence. -/
def execNeapExit (p : Fin 21) (s : State) : Host.Outcome State Fault Refusal :=
  s.run (fun c _ => c.neapExit p.val)

/-- CLEAR_STATS (R188): Writing CLEAR_STATS zeroes STR_PORT_STAT. -/
def execClearStats (p : Fin 21) (s : State) : Host.Outcome State Fault Refusal :=
  s.run (fun c _ => c.unlessHeld domFAB (fun c => c.clearPortStats p.val))

/-- CFG_WR_RSP (R193): A node's answer to a CFG_WR is received; a LATE answer counts CFG_LATE and may escalate to
HOLD. -/
def execCfgWrRsp (p : Fin 21) (h : FrameHdr) (b : Bytes) (s : State) : Host.Outcome State Fault Refusal :=
  s.run (fun c _ => c.rxCtl p.val 0x83 h b (fun c => c.cfgWrRsp p.val h b))

/-- CFG_RD_RSP (R193): A node's answer to a CFG_RD is received. -/
def execCfgRdRsp (p : Fin 21) (h : FrameHdr) (b : Bytes) (s : State) : Host.Outcome State Fault Refusal :=
  s.run (fun c _ => c.rxCtl p.val 0x84 h b (fun c => c.cfgRdRsp p.val h b))

/-- CFG_RETRANSMIT (R193): A node has not answered within 50 µs; the device retransmits, and after 3 retries posts
NODE_LOST. -/
def execCfgRetransmit (p : Fin 21) (s : State) : Host.Outcome State Fault Refusal :=
  s.run (fun c _ => c.cfgRetransmit p.val)

/-- ENUM_RSP (R192): The last node of an aux chain returns ENUM_RSP, and CHAIN_ENUMERATED is posted. -/
def execEnumRsp (p : Fin 21) (h : FrameHdr) (b : Bytes) (s : State) : Host.Outcome State Fault Refusal :=
  s.run (fun c _ => c.rxCtl p.val 0x85 h b (fun c => c.enumRsp p.val b))

/-- AUX_DATA_UP (R164): An aux data frame is received from an aux node. -/
def execAuxDataUp (p : Fin 21) (h : FrameHdr) (b : Bytes) (s : State) : Host.Outcome State Fault Refusal :=
  s.run (fun c _ => c.rxCtl p.val 0x87 h b (fun c => c))

/-- EVENT (R195): A node EVENT frame is received, acknowledged with EVENT_ACK and posted as NODE_EVENT. -/
def execNodeEvent (p : Fin 21) (h : FrameHdr) (b : Bytes) (s : State) : Host.Outcome State Fault Refusal :=
  s.run (fun c _ => c.rxCtl p.val 0x88 h b (fun c => c.nodeEvent p.val h b))

/-- FRAME_DISCARDED (R166): A Strand frame with a bad check word, wrong length, undefined FTYPE, reserved value,
forbidden symbol or ERR abort is discarded and counted. -/
def execFrameDiscarded (p : Fin 21) (positive : Bool) (groups : List (BitVec 10)) (ending : BitVec 10) (s : State) :
    Host.Outcome State Fault Refusal :=
  s.run (fun c _ => c.frameDiscarded p.val positive (groups ++ [ending]))

/-- LM_SET_BAD (R182): An LM set with a bad check word is ignored and counted in LM_BAD. -/
def execLmSetBad (at_ : PortLane) (set : BitVec 72) (s : State) : Host.Outcome State Fault Refusal :=
  s.run (fun c _ => c.lmBad at_.port.val at_.lane.val (leBytes 9 set.toNat))

end Sys2Proof.Machine
end

