-- ==== Sys2Proof/Machine/TimeRows.lean ====
section
/-!
DEFINITION. Machine/TimeRows.lean: one meaning for each row of the table that belongs to
machine time and network timing.
-/
namespace Sys2Proof.Machine

/-- PPS_IN_EDGE (R352): A rising edge on PPS_IN is stamped and, under PPS, gives a servo measurement. -/
def execPpsInEdge (quarter : Fin 2000) (s : State) : Host.Outcome State Fault Refusal :=
  s.run (fun c _ => c.ppsEdge quarter.val)

/-- PLANT_SYNC (R349): A plant-domain Sync is received on ETH0 and gives a servo measurement under PLANT. -/
def execPlantSync (ident : BitVec 64) (sec : BitVec 48) (ns : BitVec 32) (corr : BitVec 64) (logInt : BitVec 8) (off :
    SubTick) (s : State) : Host.Outcome State Fault Refusal :=
  s.run (fun c _ => c.plantSync ident.toNat (mkTime sec.toNat ns.toNat 0) corr.toInt logInt.toInt off.val)

/-- LINK_MEASUREMENT (R337): At each whole millisecond under LINK, the mean bell offset gives a servo measurement: for each
bell of the millisecond its link port and its arrival less its nominal instant, in 2⁻¹⁶ ns. -/
def execLinkMeasurement (bells : List (Fin 3 × BitVec 32)) (s : State) : Host.Outcome State Fault Refusal :=
  s.run (fun c _ => c.linkMeasurement (bells.map (fun b => (b.1.val, b.2.toInt))))

/-- SOURCE_LOST (R338): No measurement arrives for three intervals, and the servo enters HOLDOVER. -/
def execSourceLost (s : State) : Host.Outcome State Fault Refusal :=
  s.run (fun c _ => c.sourceLost)

/-- SRC_WRITE (R342): A write that changes SRC begins a new acquisition. -/
def execSrcWrite (v : Fin 3) (s : State) : Host.Outcome State Fault Refusal :=
  s.run (fun c _ => c.unlessHeld domTIM (fun c => (c.writeSrc v.val).refreshSrc.refreshUtc))

/-- PTP_SYNC_TX (R347): As grandmaster the device sends Sync, and Follow_Up when TWO_STEP is set, every 2^LOG_SYNC s.
-/
def execPtpSyncTx (off : SubTick) (s : State) : Host.Outcome State Fault Refusal :=
  s.run (fun c _ => c.ptpSyncTx off.val)

/-- PTP_ANNOUNCE_TX (R347): As grandmaster the device sends Announce every 2^LOG_ANNOUNCE s. -/
def execPtpAnnounceTx (off : SubTick) (s : State) : Host.Outcome State Fault Refusal :=
  s.run (fun c _ => c.ptpAnnounceTx off.val)

/-- DELAY_REQ (R347): A Delay_Req or Pdelay_Req is received and answered within 1 ms. -/
def execDelayReq (port : Fin 2) (ty : BitVec 4) (dom : BitVec 8) (seq : BitVec 16) (off : SubTick) (s : State) :
    Host.Outcome State Fault Refusal :=
  s.run (fun c _ => c.delayReq port.val ty.toNat dom.toNat seq.toNat off.val)

/-- FOREIGN_ANNOUNCE (R347): An Announce from another clock in MACH_DOM is ignored and counted. -/
def execForeignAnnounce (port : Fin 2) (ident : BitVec 64) (s : State) : Host.Outcome State Fault Refusal :=
  s.run (fun c _ => c.foreignAnnounce port.val ident.toNat)

/-- TC_FORWARD (R348): A plant-domain message is forwarded as a transparent clock, with its residence added to the
correctionField. -/
def execTcForward (port : Fin 2) (ty : BitVec 4) (dom : BitVec 8) (ident : BitVec 80) (seq : BitVec 16) (twoStep :
    Bool) (corr : BitVec 64) (off : SubTick) (residence : BitVec 32) (s : State) : Host.Outcome State Fault Refusal :=
  s.run (fun c _ => c.tcForward port.val ty.toNat dom.toNat ident.toNat seq.toNat twoStep corr.toInt off.val (off.val + residence.toNat))

/-- TIM_TXQ_READ (R351): A read of TIM_TXQ returns and removes the oldest transmit time-stamp entry. -/
def execTimTxqRead (s : State) : Host.Outcome State Fault Refusal :=
  s.run (fun c _ => c.txqPop)

/-- PPS_OUT_SECOND (R353): PPS_OUT rises at each whole second of machine time for PPS_W ms. -/
def execPpsOutSecond (s : State) : Host.Outcome State Fault Refusal :=
  s.run (fun c _ => c.ppsRise)

/-- PLANT_ANNOUNCE (R349): A plant-domain Announce is received on ETH0; best master selection picks the plant master
and UTC_NOW is taken from it. -/
def execPlantAnnounce (ident : BitVec 64) (utc : BitVec 16) (rank : List (BitVec 64)) (s : State) : Host.Outcome State
    Fault Refusal :=
  s.run (fun c _ => c.plantAnnounce ident.toNat utc.toNat (rank.map BitVec.toNat))

/-- PTP_DELAY_RESP (R349): A Delay_Resp or Pdelay_Resp is received as a slave clock and completes the path delay used
for θ. -/
def execPtpDelayResp (port : Fin 2) (seq : BitVec 16) (sec : BitVec 48) (ns : BitVec 32) (turn : BitVec 32) (corr :
    BitVec 64) (off : SubTick) (s : State) : Host.Outcome State Fault Refusal :=
  s.run (fun c _ => c.delayResp port.val seq.toNat (mkTime sec.toNat ns.toNat 0) turn.toNat corr.toInt off.val)

/-- PTP_DELAY_REQ_TX (R347): As a slave clock the device sends Delay_Req or Pdelay_Req at the LOG_DELAY interval. -/
def execPtpDelayReqTx (port : Fin 2) (off : SubTick) (s : State) : Host.Outcome State Fault Refusal :=
  s.run (fun c _ => c.delayReqTx port.val off.val)

/-- MACH_SYNC_RX (R337): Under LINK, a machine-domain Sync is received on ETH1 and sets the whole microseconds of θ.
-/
def execMachSyncRx (sec : BitVec 48) (ns : BitVec 32) (corr : BitVec 64) (off : SubTick) (s : State) : Host.Outcome
    State Fault Refusal :=
  s.run (fun c _ => c.machSync (mkTime sec.toNat ns.toNat 0) corr.toInt off.val)

end Sys2Proof.Machine
end

