-- ==== Sys2Proof/Machine/TwinRows.lean ====
section
/-!
DEFINITION. Machine/TwinRows.lean: one meaning for each row of the table that belongs to
twin pairs.
-/
namespace Sys2Proof.Machine

/-- HEARTBEAT_SEND (R322): Every 50 µs a unit sends TWN_HB on LP2 and a role pulse on TWHB_O. -/
def execHeartbeatSend (s : State) : Host.Outcome State Fault Refusal :=
  s.run (fun c _ => c.heartbeatSend)

/-- TWN_HB (R322): A heartbeat frame from the partner is received on LP2. -/
def execTwnHb (h : FrameHdr) (b : Bytes) (s : State) : Host.Outcome State Fault Refusal :=
  s.run (fun c _ => c.rxFrame lp2 0 0x50 h b (fun c => c.twinHb b))

/-- HEARTBEAT_PULSE (R322): A heartbeat pulse from the partner is received on TWHB_I and classified by width. -/
def execHeartbeatPulse (width : BitVec 16) (s : State) : Host.Outcome State Fault Refusal :=
  s.run (fun c _ => c.twinPulse width.toNat)

/-- PARTNER_FAILED (R323): No heartbeat arrives on either path for 151 µs; the partner is declared failed and the
standby takes over or enters SAFE. -/
def execPartnerFailed (s : State) : Host.Outcome State Fault Refusal :=
  s.run (fun c _ => c.partnerFailed)

/-- PATH_ALARM (R323): Heartbeats are lost on one path only for 151 µs, and TWN_PATH_ALARM is posted. -/
def execPathAlarm (s : State) : Host.Outcome State Fault Refusal :=
  s.run (fun c _ => c.pathAlarm)

/-- SOLO_TIMEOUT (R313): No partner heartbeat arrives within 151 µs after BRINGUP, and the unit becomes ACTIVE alone.
-/
def execSoloTimeout (s : State) : Host.Outcome State Fault Refusal :=
  s.run (fun c _ => c.soloTimeout)

/-- HEARTBEAT_WITHHELD (R326): A unit's heartbeats have been withheld for 500 µs, and it stops acting as ACTIVE. -/
def execHeartbeatWithheld (s : State) : Host.Outcome State Fault Refusal :=
  s.run (fun c _ => c.heartbeatWithheld)

/-- TWN_CMD (R316): A forwarded command from the partner is received, to be admitted at its admission tick. -/
def execTwnCmd (h : FrameHdr) (b : Bytes) (s : State) : Host.Outcome State Fault Refusal :=
  s.run (fun c _ => c.rxFrame lp2 0 0x51 h b (fun c => c.twinCmd h.tag.toNat b))

/-- TWN_INPUT (R315): A forwarded feature record, escalation, trip or life state is received, to be admitted at its
admission tick. -/
def execTwnInput (h : FrameHdr) (b : Bytes) (s : State) : Host.Outcome State Fault Refusal :=
  s.run (fun c _ => c.rxFrame lp2 0 0x52 h b (fun c => c.twinInput h.tag.toNat b))

/-- TWN_TICK (R319): The partner's decision digest is received, for comparison. -/
def execTwnTick (h : FrameHdr) (b : Bytes) (s : State) : Host.Outcome State Fault Refusal :=
  s.run (fun c _ => c.rxFrame lp2 0 0x53 h b (fun c => c.twinTick h.tag.toNat (fieldLE b 0 4)))

/-- STATE_DIGEST (R319): At each 1 ms boundary a unit forms its state digest and sends it in TWN_DIGEST. -/
def execStateDigest (s : State) : Host.Outcome State Fault Refusal :=
  s.run (fun c _ => c.stateDigestSend)

/-- TWN_DIGEST (R319): The partner's state digest is received and compared. -/
def execTwnDigest (h : FrameHdr) (b : Bytes) (s : State) : Host.Outcome State Fault Refusal :=
  s.run (fun c _ => c.rxFrame lp2 1 0x54 h b (fun c => c.twinDigest h.tag.toNat (fieldLE b 0 4)))

/-- TWN_SYNC (R321): A snapshot block of a resynchronisation is received. -/
def execTwnSync (h : FrameHdr) (b : Bytes) (s : State) : Host.Outcome State Fault Refusal :=
  s.run (fun c _ => c.rxFrame lp2 1 0x55 h b (fun c => c.twinSync b))

/-- TWN_ROLE (R327): A take-back proposal, acceptance, refusal or resync boundary is received. -/
def execTwnRole (h : FrameHdr) (b : Bytes) (s : State) : Host.Outcome State Fault Refusal :=
  s.run (fun c _ => c.rxFrame lp2 0 0x56 h b (fun c => c.twinRole h.tag.toNat b))

/-- RESYNC_BOUNDARY (R321): At the named boundary the standby adopts the snapshot and becomes eligible. -/
def execResyncBoundary (snap : Snapshot) (s : State) : Host.Outcome State Fault Refusal :=
  s.run (fun c _ => c.resyncBoundary snap)

/-- TAKEBACK_PROPOSAL (R327): The preferred standby has been eligible for TAKEBACK_HOLDOFF and proposes take-back. -/
def execTakebackProposal (s : State) : Host.Outcome State Fault Refusal :=
  s.run (fun c _ => c.takebackProposal)

/-- ROLE_EXCHANGE (R327): At the agreed boundary both units exchange roles together. -/
def execRoleExchange (s : State) : Host.Outcome State Fault Refusal :=
  s.run (fun c _ => c.roleExchange)

end Sys2Proof.Machine
end

