-- ==== Sys2Proof/Machine/Dispatch.lean ====
section
/-!
DEFINITION. Machine/Dispatch.lean: one arm for each row of the table of operations and events.
-/
namespace Sys2Proof.Machine

def exec (i : Instr) (s : State) : Host.Outcome State Fault Refusal :=
  match i with
  | .tick => Sys2Proof.Machine.execTick s
  | .controlTick => Sys2Proof.Machine.execControlTick s
  | .profileTick => Sys2Proof.Machine.execProfileTick s
  | .bell inTx => Sys2Proof.Machine.execBell inTx s
  | .gateEdge ch => Sys2Proof.Machine.execGateEdge ch s
  | .tileCheckAtUse ch corr bad => Sys2Proof.Machine.execTileCheckAtUse ch corr bad s
  | .tileReread ch ue => Sys2Proof.Machine.execTileReread ch ue s
  | .firstTileRecheck ch ue => Sys2Proof.Machine.execFirstTileRecheck ch ue s
  | .vstFetch ns ue => Sys2Proof.Machine.execVstFetch ns ue s
  | .syncTimeout ch => Sys2Proof.Machine.execSyncTimeout ch s
  | .tickUp p h b => Sys2Proof.Machine.execTickUp p h b s
  | .ackLost p => Sys2Proof.Machine.execAckLost p s
  | .feedbackLost ch => Sys2Proof.Machine.execFeedbackLost ch s
  | .followingErrorLimit ch => Sys2Proof.Machine.execFollowingErrorLimit ch s
  | .gateMismatch ch => Sys2Proof.Machine.execGateMismatch ch s
  | .adoptionPlanningDone => Sys2Proof.Machine.execAdoptionPlanningDone s
  | .adoptionDone ch => Sys2Proof.Machine.execAdoptionDone ch s
  | .sample p lane word codeError lead off => Sys2Proof.Machine.execSample p lane word codeError lead off s
  | .surgeWordTx p lane off => Sys2Proof.Machine.execSurgeWordTx p lane off s
  | .starve ch => Sys2Proof.Machine.execStarve ch s
  | .reservationRelease => Sys2Proof.Machine.execReservationRelease s
  | .requestCapped ch => Sys2Proof.Machine.execRequestCapped ch s
  | .bwkWaitLong ch => Sys2Proof.Machine.execBwkWaitLong ch s
  | .yield_ ch => Sys2Proof.Machine.execYield ch s
  | .borderReq p lane h b => Sys2Proof.Machine.execBorderReq p lane h b s
  | .borderRound => Sys2Proof.Machine.execBorderRound s
  | .borderAns p lane h b => Sys2Proof.Machine.execBorderAns p lane h b s
  | .borderAnswerLatch => Sys2Proof.Machine.execBorderAnswerLatch s
  | .borderRel p lane h b => Sys2Proof.Machine.execBorderRel p lane h b s
  | .borderFenceExpiry => Sys2Proof.Machine.execBorderFenceExpiry s
  | .doorbell v => Sys2Proof.Machine.execDoorbell v s
  | .mgmtDatagram ip port data => Sys2Proof.Machine.execMgmtDatagram ip port data s
  | .arpRequest ip => Sys2Proof.Machine.execArpRequest ip s
  | .icmpEcho ip data => Sys2Proof.Machine.execIcmpEcho ip data s
  | .sessionOpen x => Sys2Proof.Machine.execSessionOpen x s
  | .sessionClose x => Sys2Proof.Machine.execSessionClose x s
  | .tokenTake x => Sys2Proof.Machine.execTokenTake x s
  | .tokenRelease x => Sys2Proof.Machine.execTokenRelease x s
  | .keepalive x => Sys2Proof.Machine.execKeepalive x s
  | .eventRead x => Sys2Proof.Machine.execEventRead x s
  | .objRead x => Sys2Proof.Machine.execObjRead x s
  | .objWrite x => Sys2Proof.Machine.execObjWrite x s
  | .objStage x => Sys2Proof.Machine.execObjStage x s
  | .stageCopyDone bad => Sys2Proof.Machine.execStageCopyDone bad s
  | .stageRead x => Sys2Proof.Machine.execStageRead x s
  | .check x => Sys2Proof.Machine.execCheck x s
  | .checkDone ue partner => Sys2Proof.Machine.execCheckDone ue partner s
  | .commit x => Sys2Proof.Machine.execCommit x s
  | .discard x => Sys2Proof.Machine.execDiscard x s
  | .stop x => Sys2Proof.Machine.execStop x s
  | .hold x => Sys2Proof.Machine.execHold x s
  | .abort x => Sys2Proof.Machine.execAbort x s
  | .arm x => Sys2Proof.Machine.execArm x s
  | .disarm x => Sys2Proof.Machine.execDisarm x s
  | .resume x => Sys2Proof.Machine.execResume x s
  | .safeClear x => Sys2Proof.Machine.execSafeClear x s
  | .serviceEnter x => Sys2Proof.Machine.execServiceEnter x s
  | .serviceExit x => Sys2Proof.Machine.execServiceExit x s
  | .tokenLapse => Sys2Proof.Machine.execTokenLapse s
  | .tideMark => Sys2Proof.Machine.execTideMark s
  | .tideMarkNoManifest => Sys2Proof.Machine.execTideMarkNoManifest s
  | .evConsWrite v => Sys2Proof.Machine.execEvConsWrite v s
  | .evHoldoffExpiry => Sys2Proof.Machine.execEvHoldoffExpiry s
  | .msixUnmask v masked => Sys2Proof.Machine.execMsixUnmask v masked s
  | .registerWrite off data => Sys2Proof.Machine.execRegisterWrite off data s
  | .statReadClear obj inst => Sys2Proof.Machine.execStatReadClear obj inst s
  | .slackEntry => Sys2Proof.Machine.execSlackEntry s
  | .slackLong => Sys2Proof.Machine.execSlackLong s
  | .holdSettled => Sys2Proof.Machine.execHoldSettled s
  | .safetyInputTrip inp gateNs => Sys2Proof.Machine.execSafetyInputTrip inp gateNs s
  | .safetyInputRelease inp => Sys2Proof.Machine.execSafetyInputRelease inp s
  | .safetyDiscrepancy => Sys2Proof.Machine.execSafetyDiscrepancy s
  | .watchdogMiss => Sys2Proof.Machine.execWatchdogMiss s
  | .watchdogReset => Sys2Proof.Machine.execWatchdogReset s
  | .adpRestore ch => Sys2Proof.Machine.execAdpRestore ch s
  | .alignmentLoss sight => Sys2Proof.Machine.execAlignmentLoss sight s
  | .ts1 p lane p0 p1 p2 p3 => Sys2Proof.Machine.execTs1 p lane p0 p1 p2 p3 s
  | .ts2 p lane p0 p1 p2 p3 => Sys2Proof.Machine.execTs2 p lane p0 p1 p2 p3 s
  | .rate p lane p0 => Sys2Proof.Machine.execRate p lane p0 s
  | .eqReq p lane p0 p1 p2 p3 => Sys2Proof.Machine.execEqReq p lane p0 p1 p2 p3 s
  | .eqAck p lane p1 p2 p3 verdict actions => Sys2Proof.Machine.execEqAck p lane p1 p2 p3 verdict actions s
  | .eqDone p lane p0 p1 => Sys2Proof.Machine.execEqDone p lane p0 p1 s
  | .eqTimeout p => Sys2Proof.Machine.execEqTimeout p s
  | .echoReq p lane p0 p1 turnaround => Sys2Proof.Machine.execEchoReq p lane p0 p1 turnaround s
  | .echoRsp p lane p0 p1 p2 p3 rtt => Sys2Proof.Machine.execEchoRsp p lane p0 p1 p2 p3 rtt s
  | .linkUp p lane p0 => Sys2Proof.Machine.execLinkUp p lane p0 s
  | .retrain p lane => Sys2Proof.Machine.execRetrain p lane s
  | .portTrainTimeout p => Sys2Proof.Machine.execPortTrainTimeout p s
  | .portRetry p => Sys2Proof.Machine.execPortRetry p s
  | .neapReq p lane => Sys2Proof.Machine.execNeapReq p lane s
  | .neapAck p lane p0 => Sys2Proof.Machine.execNeapAck p lane p0 s
  | .wake p lane => Sys2Proof.Machine.execWake p lane s
  | .neapWakeDetect p => Sys2Proof.Machine.execNeapWakeDetect p s
  | .neapExitTimeout p => Sys2Proof.Machine.execNeapExitTimeout p s
  | .retrainWrite p => Sys2Proof.Machine.execRetrainWrite p s
  | .neapEnter p => Sys2Proof.Machine.execNeapEnter p s
  | .neapExit p => Sys2Proof.Machine.execNeapExit p s
  | .clearStats p => Sys2Proof.Machine.execClearStats p s
  | .timeSet => Sys2Proof.Machine.execTimeSet s
  | .cfgWrRsp p h b => Sys2Proof.Machine.execCfgWrRsp p h b s
  | .cfgRdRsp p h b => Sys2Proof.Machine.execCfgRdRsp p h b s
  | .cfgRetransmit p => Sys2Proof.Machine.execCfgRetransmit p s
  | .enumRsp p h b => Sys2Proof.Machine.execEnumRsp p h b s
  | .auxDataUp p h b => Sys2Proof.Machine.execAuxDataUp p h b s
  | .nodeEvent p h b => Sys2Proof.Machine.execNodeEvent p h b s
  | .cassRsp p h b issuerKey => Sys2Proof.Machine.execCassRsp p h b issuerKey s
  | .cassetteAuthDone k => Sys2Proof.Machine.execCassetteAuthDone k s
  | .csiFrameStart port vc fn ecc off => Sys2Proof.Machine.execCsiFrameStart port vc fn ecc off s
  | .csiLongPacket port vc dt ecc crcOk data => Sys2Proof.Machine.execCsiLongPacket port vc dt ecc crcOk data s
  | .csiFrameEnd port vc ecc => Sys2Proof.Machine.execCsiFrameEnd port vc ecc s
  | .frameTimeout k => Sys2Proof.Machine.execFrameTimeout k s
  | .frameMissing k => Sys2Proof.Machine.execFrameMissing k s
  | .pipelineTake pipe => Sys2Proof.Machine.execPipelineTake pipe s
  | .featureRecordDone pass => Sys2Proof.Machine.execFeatureRecordDone pass s
  | .iplCaptureDark x => Sys2Proof.Machine.execIplCaptureDark x s
  | .iplCaptureFlat x => Sys2Proof.Machine.execIplCaptureFlat x s
  | .ctrigPeriodic p off => Sys2Proof.Machine.execCtrigPeriodic p off s
  | .pulse p => Sys2Proof.Machine.execPulse p s
  | .sinkPeriodStart n off openLamps => Sys2Proof.Machine.execSinkPeriodStart n off openLamps s
  | .fadeStep => Sys2Proof.Machine.execFadeStep s
  | .levelWrite n v => Sys2Proof.Machine.execLevelWrite n v s
  | .globalWrite v => Sys2Proof.Machine.execGlobalWrite v s
  | .shortDetect lower => Sys2Proof.Machine.execShortDetect lower s
  | .clearShort n => Sys2Proof.Machine.execClearShort n s
  | .openchkMaxdefer n => Sys2Proof.Machine.execOpenchkMaxdefer n s
  | .diagPulse n off heldUA openLamps => Sys2Proof.Machine.execDiagPulse n off heldUA openLamps s
  | .shwFrameStart chain => Sys2Proof.Machine.execShwFrameStart chain s
  | .shwFrameDone chain returned => Sys2Proof.Machine.execShwFrameDone chain returned s
  | .update chain => Sys2Proof.Machine.execUpdate chain s
  | .motMove x => Sys2Proof.Machine.execMotMove x s
  | .motHalt x => Sys2Proof.Machine.execMotHalt x s
  | .motContinue x => Sys2Proof.Machine.execMotContinue x s
  | .motSetPos x => Sys2Proof.Machine.execMotSetPos x s
  | .motClear x => Sys2Proof.Machine.execMotClear x s
  | .mfltNFault n active => Sys2Proof.Machine.execMfltNFault n active s
  | .axisStall n => Sys2Proof.Machine.execAxisStall n s
  | .recoatStep => Sys2Proof.Machine.execRecoatStep s
  | .rcSettleExpiry => Sys2Proof.Machine.execRcSettleExpiry s
  | .encoderCount enc levels lasts off => Sys2Proof.Machine.execEncoderCount enc levels lasts off s
  | .indexEvent enc => Sys2Proof.Machine.execIndexEvent enc s
  | .ssiReadingStart j => Sys2Proof.Machine.execSsiReadingStart j s
  | .ssiReadingDone j raw ends off => Sys2Proof.Machine.execSsiReadingDone j raw ends off s
  | .compareArm u => Sys2Proof.Machine.execCompareArm u s
  | .incStickyClear enc => Sys2Proof.Machine.execIncStickyClear enc s
  | .incFaultClear enc => Sys2Proof.Machine.execIncFaultClear enc s
  | .ssiFaultClear j => Sys2Proof.Machine.execSsiFaultClear j s
  | .cmpStickyClear u => Sys2Proof.Machine.execCmpStickyClear u s
  | .twnHandover x => Sys2Proof.Machine.execTwnHandover x s
  | .heartbeatSend => Sys2Proof.Machine.execHeartbeatSend s
  | .twnHb h b => Sys2Proof.Machine.execTwnHb h b s
  | .heartbeatPulse width => Sys2Proof.Machine.execHeartbeatPulse width s
  | .partnerFailed => Sys2Proof.Machine.execPartnerFailed s
  | .pathAlarm => Sys2Proof.Machine.execPathAlarm s
  | .soloTimeout => Sys2Proof.Machine.execSoloTimeout s
  | .heartbeatWithheld => Sys2Proof.Machine.execHeartbeatWithheld s
  | .twnCmd h b => Sys2Proof.Machine.execTwnCmd h b s
  | .twnInput h b => Sys2Proof.Machine.execTwnInput h b s
  | .twnTick h b => Sys2Proof.Machine.execTwnTick h b s
  | .stateDigest => Sys2Proof.Machine.execStateDigest s
  | .twnDigest h b => Sys2Proof.Machine.execTwnDigest h b s
  | .twnSync h b => Sys2Proof.Machine.execTwnSync h b s
  | .twnRole h b => Sys2Proof.Machine.execTwnRole h b s
  | .resyncBoundary snap => Sys2Proof.Machine.execResyncBoundary snap s
  | .takebackProposal => Sys2Proof.Machine.execTakebackProposal s
  | .roleExchange => Sys2Proof.Machine.execRoleExchange s
  | .cscHbSend => Sys2Proof.Machine.execCscHbSend s
  | .cscHb p h b => Sys2Proof.Machine.execCscHb p h b s
  | .cscReady p h b => Sys2Proof.Machine.execCscReady p h b s
  | .cscAnnounce p h b => Sys2Proof.Machine.execCscAnnounce p h b s
  | .announcedBoundary => Sys2Proof.Machine.execAnnouncedBoundary s
  | .cscHold p h b => Sys2Proof.Machine.execCscHold p h b s
  | .cscMemberLost => Sys2Proof.Machine.execCscMemberLost s
  | .cscLeadLost => Sys2Proof.Machine.execCscLeadLost s
  | .ppsInEdge quarter => Sys2Proof.Machine.execPpsInEdge quarter s
  | .plantSync ident sec ns corr logInt off => Sys2Proof.Machine.execPlantSync ident sec ns corr logInt off s
  | .linkMeasurement bells => Sys2Proof.Machine.execLinkMeasurement bells s
  | .sourceLost => Sys2Proof.Machine.execSourceLost s
  | .srcWrite v => Sys2Proof.Machine.execSrcWrite v s
  | .timSet x => Sys2Proof.Machine.execTimSet x s
  | .timRestep x => Sys2Proof.Machine.execTimRestep x s
  | .ptpSyncTx off => Sys2Proof.Machine.execPtpSyncTx off s
  | .ptpAnnounceTx off => Sys2Proof.Machine.execPtpAnnounceTx off s
  | .delayReq port ty dom seq off => Sys2Proof.Machine.execDelayReq port ty dom seq off s
  | .foreignAnnounce port ident => Sys2Proof.Machine.execForeignAnnounce port ident s
  | .tcForward port ty dom ident seq twoStep corr off residence => Sys2Proof.Machine.execTcForward port ty dom ident seq twoStep corr off residence s
  | .timTxqRead => Sys2Proof.Machine.execTimTxqRead s
  | .ppsOutSecond => Sys2Proof.Machine.execPpsOutSecond s
  | .dramTrainingDone t => Sys2Proof.Machine.execDramTrainingDone t s
  | .drcInitDone => Sys2Proof.Machine.execDrcInitDone s
  | .refresh sub bank hits => Sys2Proof.Machine.execRefresh sub bank hits s
  | .mr4Poll rank raised => Sys2Proof.Machine.execMr4Poll rank raised s
  | .rowActThreshold sub bank row => Sys2Proof.Machine.execRowActThreshold sub bank row s
  | .patrolScrub result => Sys2Proof.Machine.execPatrolScrub result s
  | .dramCalSlice sub fifosLow last passed => Sys2Proof.Machine.execDramCalSlice sub fifosLow last passed s
  | .bar2Read addr n bad => Sys2Proof.Machine.execBar2Read addr n bad s
  | .bar2Write addr data => Sys2Proof.Machine.execBar2Write addr data s
  | .tswProdWrite v => Sys2Proof.Machine.execTswProdWrite v s
  | .tswDescriptorDone data hostErr => Sys2Proof.Machine.execTswDescriptorDone data hostErr s
  | .perstN low => Sys2Proof.Machine.execPerstN low s
  | .calRun x => Sys2Proof.Machine.execCalRun x s
  | .calGroupDone chan passed values => Sys2Proof.Machine.execCalGroupDone chan passed values s
  | .calExpired => Sys2Proof.Machine.execCalExpired s
  | .calRecordWrite part failed => Sys2Proof.Machine.execCalRecordWrite part failed s
  | .hkSlotConversion reading => Sys2Proof.Machine.execHkSlotConversion reading s
  | .lockstepMismatch => Sys2Proof.Machine.execLockstepMismatch s
  | .hbrRestart => Sys2Proof.Machine.execHbrRestart s
  | .updStage x => Sys2Proof.Machine.execUpdStage x s
  | .updStageDone good => Sys2Proof.Machine.execUpdStageDone good s
  | .updActivate x => Sys2Proof.Machine.execUpdActivate x s
  | .updConfirm x => Sys2Proof.Machine.execUpdConfirm x s
  | .conReauth x => Sys2Proof.Machine.execConReauth x s
  | .conOverride x => Sys2Proof.Machine.execConOverride x s
  | .conIssuer x => Sys2Proof.Machine.execConIssuer x s
  | .hbrTrimWrite x => Sys2Proof.Machine.execHbrTrimWrite x s
  | .recordSeal => Sys2Proof.Machine.execRecordSeal s
  | .summaryBatchDone => Sys2Proof.Machine.execSummaryBatchDone s
  | .recClear x => Sys2Proof.Machine.execRecClear x s
  | .recSummaryRead x => Sys2Proof.Machine.execRecSummaryRead x s
  | .powerOn percent us => Sys2Proof.Machine.execPowerOn percent us s
  | .powerFail => Sys2Proof.Machine.execPowerFail s
  | .resetNAssert => Sys2Proof.Machine.execResetNAssert s
  | .resetNRelease => Sys2Proof.Machine.execResetNRelease s
  | .clockQualified d => Sys2Proof.Machine.execClockQualified d s
  | .domainRelease r => Sys2Proof.Machine.execDomainRelease r s
  | .clockQualLost d reason => Sys2Proof.Machine.execClockQualLost d reason s
  | .swResetSet d => Sys2Proof.Machine.execSwResetSet d s
  | .swResetClear d => Sys2Proof.Machine.execSwResetClear d s
  | .devReset x => Sys2Proof.Machine.execDevReset x s
  | .bootImageSelect t => Sys2Proof.Machine.execBootImageSelect t s
  | .bringupDone => Sys2Proof.Machine.execBringupDone s
  | .bstShutdown x => Sys2Proof.Machine.execBstShutdown x s
  | .shutdownTestDone t => Sys2Proof.Machine.execShutdownTestDone t s
  | .bstFuseRepair x => Sys2Proof.Machine.execBstFuseRepair x s
  | .jtagInstruction instr => Sys2Proof.Machine.execJtagInstruction instr s
  | .cassRspTimeout k => Sys2Proof.Machine.execCassRspTimeout k s
  | .internalResetRelease => Sys2Proof.Machine.execInternalResetRelease s
  | .busMasterEnable on => Sys2Proof.Machine.execBusMasterEnable on s
  | .frameDiscarded p positive groups ending => Sys2Proof.Machine.execFrameDiscarded p positive groups ending s
  | .lmSetBad at_ set => Sys2Proof.Machine.execLmSetBad at_ set s
  | .plantAnnounce ident utc rank => Sys2Proof.Machine.execPlantAnnounce ident utc rank s
  | .ptpDelayResp port seq sec ns turn corr off => Sys2Proof.Machine.execPtpDelayResp port seq sec ns turn corr off s
  | .ptpDelayReqTx port off => Sys2Proof.Machine.execPtpDelayReqTx port off s
  | .machSyncRx sec ns corr off => Sys2Proof.Machine.execMachSyncRx sec ns corr off s

end Sys2Proof.Machine
end

