-- ==== Sys2Proof/Safety.lean ====
section
/-!
DEFINITION. Safety.lean: the words the statements use. A footprint says what a command may change: the fields of the register
file, the other parts of the core, what it emits and what it writes to DRAM. `Runs` says that a command completes, with an
effect and within a footprint.
-/
namespace Sys2Proof.Machine

/-- The parts of the core, but for its register file and what belongs to the present command alone. -/
inductive Part where
  | bootRegs | now | ticks | fresh | events | escHold | escSafe | tickW | slackW | psets | charts | pilot | ports
  | seq | layer | bwk | losses | surgeOrder | resWrite | log | twin | casc | drc | img | lum | mot | tim | hbr | rst
  | bst | pcie | planeDue
  deriving DecidableEq, Repr

/-- A part is the same in two cores. -/
def Part.same (p : Part) (c d : Core) : Prop :=
  match p with
  | .bootRegs => d.bootRegs = c.bootRegs
  | .now => d.now = c.now
  | .ticks => d.ticks = c.ticks
  | .fresh => d.fresh = c.fresh
  | .events => d.events = c.events
  | .escHold => d.escHold = c.escHold
  | .escSafe => d.escSafe = c.escSafe
  | .tickW => d.tickW = c.tickW
  | .slackW => d.slackW = c.slackW
  | .psets => d.psets = c.psets
  | .charts => d.charts = c.charts
  | .pilot => d.pilot = c.pilot
  | .ports => d.ports = c.ports
  | .seq => d.seq = c.seq
  | .layer => d.layer = c.layer
  | .bwk => d.bwk = c.bwk
  | .losses => d.losses = c.losses
  | .surgeOrder => d.surgeOrder = c.surgeOrder
  | .resWrite => d.resWrite = c.resWrite
  | .log => d.log = c.log
  | .twin => d.twin = c.twin
  | .casc => d.casc = c.casc
  | .drc => d.drc = c.drc
  | .img => d.img = c.img
  | .lum => d.lum = c.lum
  | .mot => d.mot = c.mot
  | .tim => d.tim = c.tim
  | .hbr => d.hbr = c.hbr
  | .rst => d.rst = c.rst
  | .bst => d.bst = c.bst
  | .pcie => d.pcie = c.pcie
  | .planeDue => d.planeDue = c.planeDue

/-- What a command may change: the keys of register fields, parts of the core; and what it emits, and the DRAM writes that it
makes, oldest first. -/
structure Footprint where
  keys : List Nat := []
  parts : List Part := []
  outs : List Output := []
  writes : List (Nat × Bytes) := []

/-- A core differs from another only within a footprint's register fields and parts. -/
def Only (fp : Footprint) (c d : Core) : Prop :=
  (∀ (f : Field) (k : Nat), f.key k ∉ fp.keys → d.rd f k = c.rd f k) ∧ (∀ p : Part, p ∉ fp.parts → p.same c d)

/-- A command completes: it answers a next state in which `P` holds of the core, the waiting commands are as they were, what it
emitted is what the footprint says and the lanes carry it, every byte of DRAM outside the footprint's writes reads as before
and every byte within reads as written, and no register field and no other part of the core outside the footprint has
changed. -/
def Runs (i : Instr) (s : State) (fp : Footprint) (P : Core → Prop) : Prop :=
  ∃ t : State, exec i s = .next t ∧ t.pending = s.pending ∧ t.core.out = fp.outs ∧ t.core.wq = [] ∧
    t.wire = s.wireAfter t.core ∧
    (∀ a : Nat, t.dram.read a = readUnder s.dram fp.writes a) ∧ Only fp s.core t.core ∧ P t.core

/-- A command completes and changes nothing at all. -/
def Idles (i : Instr) (s : State) : Prop := Runs i s { } (fun _ => True)

/-- A saturating counter field has counted one. -/
def Counts (c t : Core) (f : Field) (i : Nat := 0) : Prop := t.rd f i = min (c.rd f i + 1) (2 ^ f.width - 1)

/-- A good LM set of the given code acts on a lane (R182): the port is not held down, and in training the set agrees with the
one before it on its lane. -/
abbrev Core.lmActs (c : Core) (p lane code : Nat) : Prop :=
  c.held domFAB = false ∧ lane < laneCount p ∧ c.ptState p ≠ ptDown ∧ c.ptState p ≠ ptFailed ∧
    (c.inTraining p = true → Kv.get 0 (c.port p).lastLm lane = code)

/-- A frame arrives that R166 does not discard: the port is UP, the type belongs on it, and check word, length, header and body
are good. -/
abbrev Core.accepts (c : Core) (p ftype : Nat) (h : FrameHdr) (b : Bytes) : Prop :=
  c.held domFAB = false ∧ c.isUp p = true ∧ frameGood p ftype h b = true

/-- The rows of a node's control frames on a head or aux port (R164), each with its type. -/
def controlRows (p : Fin 18) (h : FrameHdr) (b : Bytes) : List (Nat × Instr) :=
  let q : Fin 21 := ⟨p.val, by omega⟩
  [(0x83, .cfgWrRsp q h b), (0x84, .cfgRdRsp q h b), (0x85, .enumRsp q h b), (0x87, .auxDataUp q h b),
    (0x88, .nodeEvent q h b)]

/-- A frame is new in its series (R179), judged against what was kept of it (SEQ + 1, 0 before the first). -/
abbrev newIn (h : FrameHdr) (last : Nat) : Prop := seqJudge last (bitOf h.flags.toNat 6) h.seq.toNat = 0

/-- The series of a node's control frames on a port, and of a stream of a link port. -/
def Core.ctlLast (c : Core) (p : Nat) (h : FrameHdr) : Nat := Kv.get 0 (c.port p).rxCtl h.node.toNat
def Core.linkLast (c : Core) (k : Nat) : Nat := Kv.get 0 c.casc.rx k

/-- What a port sends when it starts step 1 of bring-up (R183): the clock at 4.0 Gb/s and, on each lane, TS1 with 16 IDLE
again and again. -/
def Core.startOuts (c : Core) (p : Nat) : List Output :=
  .portClock p false :: (lanesOf p).map (fun l => .fill p l (.train (lmBytes 0x01 l (c.ownRates p) 0 1)))

/-- A link management set on a lane, or on each with 0xFF, twice while the port trains (R182). -/
def Core.lmOn (c : Core) (p lane type p0 p1 p2 p3 : Nat) : Output :=
  .lm p lane type p0 p1 p2 p3 (if c.inTraining p then 2 else 1)

/-- The first ECHO_REQ, its port idle between sets (R183, R187). -/
def Core.echoOuts (c : Core) (p : Nat) : List Output :=
  (lanesOf p).map (fun l => .fill p l .idle) ++ [c.lmOn p 0 0x07 0 0 0 0]

/-- The register fields that a start of bring-up writes. -/
def trainKeys (p : Nat) : List Nat :=
  [STR_PORT_STATE.STATE.key p, STR_PORT_STATE.RATE.key p, STR_PORT_STATE.FALLBACK.key p, STR_PORT_STATE.TX_PRE0.key p,
    STR_PORT_STATE.TX_POST0.key p, STR_PORT_STATE.TX_PRE1.key p, STR_PORT_STATE.TX_POST1.key p]

/-- An enabled port retrains from step 1 of R183 (R188): it is TRAINING at 4.0 Gb/s, counted, and PORT_DOWN is posted where it
was UP. -/
def Retrains (i : Instr) (s : State) (p : Nat) : Prop :=
  Runs i s
    { keys := STR_PORT_STAT.RETRAINS.key p :: trainKeys p, parts := [.ports, .casc, .events],
      outs := s.core.startOuts p }
    (fun t => t.ptState p = ptTraining ∧ t.rd STR_PORT_STATE.RATE p = 0 ∧ t.rd STR_PORT_STATE.FALLBACK p = 0 ∧
      Counts s.core t STR_PORT_STAT.RETRAINS p ∧ (t.port p).since = s.core.ticks ∧ t.casc = (s.core.forgetLink p).casc ∧
      t.events = s.core.events ++ (if s.core.isUp p then [⟨evPortDown, p, some s.core.now, [], s.core.ticks⟩] else []))

/-- A frame sent on a control stream of a port (R165, R178, R181): RESYNC in a node's first frame since the port came UP. -/
def Core.ctlFrame (c : Core) (p ftype flags node seq tag : Nat) (payload : Bytes) : Output :=
  .frame p (if p < 16 then 1 else 0) ftype (flags + c.unitFlag + (if (c.port p).sentTo.contains node then 0 else 64)) node
    seq tag 0 payload

/-- A diagnostic pulse of a sink may start at an instant (R278): in the Slack, at the start of the first diagnostic item's
sink's period, within a window, with no other diagnostic pulse under way and the sink enabled, not shorted and not lit by a
strobe. -/
abbrev Core.pulseFits (c : Core) (n : Nat) (at_ : Time) : Prop :=
  c.stopped domLUM = false ∧ c.held domTIM = false ∧ c.mode = .slack ∧ c.firstDiag = some n ∧
    (∀ k : Fin 16, (c.sink k).diag = false) ∧ ((c.sink n).strobe = true → (c.sink n).conducts at_ = false) ∧
    c.rd LUM_SINK.ENABLE n ≠ 0 ∧ c.rd LUM_SINK_STATE.SHORT_LO n = 0 ∧ c.rd LUM_SINK_STATE.SHORT_HI n = 0 ∧
    periodStart at_ (c.rd LUM_SINK.PERIOD n) (c.rd LUM_SINK.PHASE n) = true ∧ c.diagWindow n at_ = true

/-- The write-queue matches that a read of DRAM may count (R368). -/
def rawKeys : List Nat := (List.range 4).map DRC_STAT.RAW_DRAINS.key

/-- What declaring a live channel failed may change (R143 to R146): its loss report, what its motion, gating, reflex loop and
reservations show, and the parts that keep them; its LG pair goes low where it was high. -/
def Core.lossFp (c : Core) (ch : Nat) : Footprint :=
  { keys := (Obj.ADP_REPORT.fields ++ Obj.ADP_RESIDUE.fields ++ [ADP_STATE.STATE, ADP_STATE.QUEUED, GAT_STATE.GATE,
      RFX_STATE.ACTIVE, RFX_STATE.STARVING, RFX_STATE.SEQ_OUT, RFX_STAT.SUPERSEDED, SEQ_MOTION.STATE,
      BWK_STATE.STATE, BWK_STATE.CAPPED, BWK_STATE.WAIT_NOW, BWK_STATE.YIELD_RUN]).map (fun f => f.key ch),
    parts := [.seq, .log, .surgeOrder, .bwk, .losses, .events],
    outs := if (c.ch ch).gat.lgHigh then [.lg ch false c.now] else [] }

/-- A channel has been declared failed (R143, R154): STATE 1, its gate low, the report's cause, layer and instant, and
CHANNEL_LOST posted. -/
def Lost (c t : Core) (ch cause : Nat) : Prop :=
  t.rd ADP_STATE.STATE ch = 1 ∧ t.rd GAT_STATE.GATE ch = 0 ∧ t.rd RFX_STATE.ACTIVE ch = 0 ∧
    t.rd ADP_REPORT.CAUSE ch = cause ∧ t.rd ADP_REPORT.LAYER ch = c.rd SEQ_LAYER_STATE.LAYER_NOW % 2 ^ 32 ∧
    t.rd ADP_REPORT.FAIL_SEC ch = timeSec c.now % 2 ^ 32 ∧ t.rd ADP_REPORT.FAIL_NS ch = timeNs c.now ∧
    (t.ch ch).exec = none ∧ (t.ch ch).adoptQ = [] ∧
    t.events = c.events ++ [⟨evChannelLost, ch, some c.now, leBytes 2 (c.globalCh ch) ++ leBytes 1 cause ++ zeros 1 ++
      leBytes 4 (c.rd SEQ_LAYER_STATE.LAYER_NOW), c.ticks⟩]

/-- A cascade frame arrives by a link port and acts here (R179, R328): it is addressed to this device, and new in its series;
over LP2 the partner has judged it. -/
abbrev Core.linkActs (c : Core) (p lane ftype : Nat) (h : FrameHdr) (b : Bytes) : Prop :=
  c.accepts p ftype h b ∧ 18 ≤ p ∧ h.node.toNat / 4096 = c.cascId ∧
    (p = 20 ∨ newIn h (c.linkLast (linkKey (if ftype < 0x50 then lane else 2) (h.aux.toNat / 4096))))

/-- A unit of a pair hands a cascade frame on to its partner over LP2 (R328). -/
def Core.linkCopy (c : Core) (p ftype : Nat) (h : FrameHdr) (b : Bytes) : List Output :=
  if p ≠ 20 ∧ c.inPair = true then [linkFrame 20 1 ftype h b] else []

/-- A twin frame arrives by a link port and is new in its lane's series (R179). -/
abbrev Core.twinActs (c : Core) (p lane ftype : Nat) (h : FrameHdr) (b : Bytes) : Prop :=
  c.accepts p ftype h b ∧ 18 ≤ p ∧ newIn h (c.linkLast (linkKey (3 + lane) 0))

/-- Every test that comes before a command's own is passed (R205): mailboxes are served, it is no repeat, no test up to
NOT_STAGEABLE fails, and its master holds the token where the opcode asks for it. -/
abbrev Core.Ready (c : Core) (x : Cmd) : Prop :=
  c.serves = true ∧ c.isRepeat x = false ∧ c.preTests x = none ∧
    ((opInfo x.op).map OpInfo.token = some true → x.master = c.holder)

/-- What the delivery of a stored response emits (R199, R229): a datagram to the peer of master 2, an MSI-X message to this
device's own host, nothing for the other unit's. -/
def Core.delivery (c : Core) (x : Cmd) (slot : Bytes) : List Output :=
  if x.master = 2 then
    if c.actsActive && !c.held domHBR then
      [.datagram (c.mbox 2 x.mailbox).peer.1 (c.mbox 2 x.mailbox).peer.2
        (udpBytes 1 x.mailbox (slot.take (16 + fieldLE slot 8 2)))]
    else []
  else if x.master = c.localMaster ∧ bitOf (c.rd BAR0.INT_MASK) x.mailbox = false ∧
      bitOf c.pilot.msixMasked x.mailbox = false then [.msix x.mailbox]
  else []

/-- The response slot that a reply fills (R201). -/
def Core.slotOf (c : Core) (x : Cmd) (r : Reply) : Bytes := padTo 256 (c.responseBytes x r)

/-- The response of a command is delivered (R199, R203): its mailbox keeps it and is free, this device's own host sees MB_DONE
and no MB_BUSY; the pilot is `p` but for that mailbox, messages held back and the token's timeout. -/
def Responds (i : Instr) (s : State) (x : Cmd) (slot : Bytes) (fp : Footprint) (p : Pilot) (P : Core → Prop) : Prop :=
  Runs i s
    { fp with keys := BAR0.MB_BUSY.key 0 :: BAR0.MB_DONE.key 0 :: fp.keys, parts := .pilot :: fp.parts,
              outs := fp.outs ++ s.core.delivery x slot }
    (fun t =>
      t.pilot = { p with
        mboxes := t.pilot.mboxes, msixHeld := t.pilot.msixHeld, holderSince := t.pilot.holderSince } ∧
      (∀ k : Nat, k ≠ mbIx x.master x.mailbox →
        t.pilot.mboxes.getD k Mbox.init = p.mboxes.getD k Mbox.init) ∧
      t.mbox x.master x.mailbox = { p.mboxes.getD (mbIx x.master x.mailbox) Mbox.init with
        posted := false, respSlot := slot, busy := none, last := some (x.seq, x.op, x.epoch) } ∧
      (x.master ≠ 2 → x.master = s.core.localMaster →
        bitOf (t.rd BAR0.MB_DONE) x.mailbox = true ∧ bitOf (t.rd BAR0.MB_BUSY) x.mailbox = false) ∧ P t)

/-- A command is admitted and answered at once (R199, R206). -/
def Answers (i : Instr) (s : State) (x : Cmd) (slot : Bytes) (fp : Footprint) (p : Pilot) (P : Core → Prop) : Prop :=
  Responds i s x slot { fp with keys := PLT_MB_STAT.COMMANDS.key x.master :: fp.keys } p (fun t =>
    Counts s.core t PLT_MB_STAT.COMMANDS x.master ∧ P t)

/-- A command is admitted and goes on as a long command (R208): its mailbox is busy with it. -/
def Waits (i : Instr) (s : State) (x : Cmd) (k : LongKind) (fp : Footprint) (p : Pilot) (P : Core → Prop) : Prop :=
  Runs i s { fp with keys := PLT_MB_STAT.COMMANDS.key x.master :: fp.keys, parts := .pilot :: fp.parts }
    (fun t =>
      t.pilot = { p with
        mboxes := t.pilot.mboxes, holderSince := t.pilot.holderSince,
        long := p.long ++ [⟨x, k, s.core.ticks⟩] } ∧
      (∀ k : Nat, k ≠ mbIx x.master x.mailbox →
        t.pilot.mboxes.getD k Mbox.init = p.mboxes.getD k Mbox.init) ∧
      t.mbox x.master x.mailbox = { p.mboxes.getD (mbIx x.master x.mailbox) Mbox.init with
        posted := false, busy := some x } ∧
      Counts s.core t PLT_MB_STAT.COMMANDS x.master ∧ P t)

/-- What emptying the staged set writes (R213). -/
def discardKeys : List Nat :=
  [PLT_STAGE.STATE.key 0, PLT_STAGE.OBJECTS.key 0] ++
    (List.range 64).flatMap (fun ch => [CHT_BANK.INACTIVE_STATE.key ch, CHT_BANK.PENDING_LAYER.key ch])

/-- No check and no copy is under way. -/
abbrev Core.setQuiet (c : Core) : Prop :=
  (c.pilot.long.any (fun l => l.kind == .check || l.kind == .stageCopy)) = false

/-- The rows that a mailbox command is, by opcode (R470). -/
def mailboxRows : List (Nat × (CmdImage → Instr)) :=
  [(0x0001, .sessionOpen), (0x0002, .sessionClose), (0x0003, .tokenTake), (0x0004, .tokenRelease), (0x0005, .keepalive),
    (0x0006, .eventRead), (0x1001, .objRead), (0x1002, .objWrite), (0x1003, .objStage), (0x1004, .stageRead),
    (0x2001, .check), (0x2002, .commit), (0x2003, .discard), (0x3001, .stop), (0x3002, .hold), (0x3003, .abort),
    (0x3004, .arm), (0x3005, .disarm), (0x3006, .resume), (0x3007, .safeClear), (0x3008, .serviceEnter),
    (0x3009, .serviceExit), (0x5001, .motMove), (0x5002, .motHalt), (0x5003, .motContinue), (0x5004, .motSetPos),
    (0x5005, .motClear), (0x6001, .iplCaptureDark), (0x6002, .iplCaptureFlat), (0x7001, .calRun), (0x7010, .updStage),
    (0x7011, .updActivate), (0x7012, .updConfirm), (0x7020, .conReauth), (0x7021, .conOverride), (0x7022, .conIssuer),
    (0x7030, .hbrTrimWrite), (0x7040, .devReset), (0x7050, .bstShutdown), (0x7051, .bstFuseRepair), (0x8001, .recClear),
    (0x8002, .recSummaryRead), (0x9001, .timSet), (0x9002, .timRestep), (0xA001, .twnHandover)]

/-- The pilot once a command has asked something of the mode controller (R14). -/
def Core.asks (c : Core) (r : ModeReq) : Pilot := { c.pilot with modeReqs := c.pilot.modeReqs ++ [r] }

/-- What CAL_STATE shows of requests and runs (object 0x8003). -/
def calKeys : List Nat := (List.range 5).flatMap (fun g => [CAL_STATE.STATE.key g, CAL_STATE.PENDING.key g])

/-- No cassette but `k` is waiting for the harbour (R405). -/
abbrev Core.cassQuiet (c : Core) (k : Nat) : Prop :=
  ∀ j : Fin 68, j.val ≠ k → (c.cass j).step ≠ 0 ∨ (c.cass j).authDue = false ∧ j.val ∉ c.hbr.lifeDue

/-- A command of many effects completes: it answers a next state in which `P` holds, the waiting commands are as they were,
every byte of DRAM reads as before, every register of an object that `objs` does not list holds what it held, and every part
that `parts` does not list is the same. -/
def Completes (i : Instr) (s : State) (objs : List Nat) (parts : List Part) (P : Core → Prop) : Prop :=
  ∃ t : State, exec i s = .next t ∧ t.pending = s.pending ∧ t.core.wq = [] ∧
    t.wire = s.wireAfter t.core ∧ (∀ a : Nat, t.dram.read a = s.dram.read a) ∧
    (∀ (f : Field) (k : Nat), f.obj ∉ objs → k < 2 ^ 16 → f.lsb < 2 ^ 16 → t.core.rd f k = s.core.rd f k) ∧
    (∀ p : Part, p ∉ parts → p.same s.core t.core) ∧ P t.core

/-- A command completes with an effect `P`, whatever else the state asks of it: it answers a next state in which `P` holds, the
waiting commands are as they were, the lanes carry what was emitted and no DRAM write is outstanding. -/
def Acts (i : Instr) (s : State) (P : Core → Prop) : Prop :=
  ∃ t : State, exec i s = .next t ∧ t.pending = s.pending ∧ t.core.wq = [] ∧ t.wire = s.wireAfter t.core ∧ P t.core

/-- The MODE_CHANGED event of a change to mode `m` at the present instant (R248). -/
def Core.modeEvent (c : Core) (m : Mode) (phase cause src : Nat) : Ev :=
  ⟨evModeChanged, 0, some c.now, [BitVec.ofNat 8 (c.rd PLT_MODE.MODE), BitVec.ofNat 8 m.code, BitVec.ofNat 8 phase,
    BitVec.ofNat 8 cause] ++ leBytes 2 src, c.ticks⟩

/-- A mode has been entered at the present instant (R248). -/
def Entered (c t : Core) (m : Mode) : Prop :=
  t.mode = m ∧ t.rd PLT_MODE.PREV_MODE = c.rd PLT_MODE.MODE % 16 ∧ t.rd PLT_MODE.ENTRY_SEC = timeSec c.now % 2 ^ 32 ∧
    t.rd PLT_MODE.ENTRY_NS = timeNs c.now ∧ t.pilot.modeSince = c.ticks

/-- The SEQ that the next frame of a link stream takes (R165). -/
def Core.linkSeq (c : Core) (k : Nat) : Nat := Kv.get 0 c.casc.tx k

/-- What a unit sends its partner on LP2 (R165, R315): RESYNC in the first frame of the stream since LP2 came UP. -/
def Core.twinOut (c : Core) (lane ftype tag : Nat) (payload : Bytes) : List Output :=
  if c.isUp lp2 then
    [.frame lp2 lane ftype (c.unitFlag + c.linkFlag lp2 (linkKey (3 + lane) 0)) (c.cascId * 4096)
      (c.linkSeq (linkKey (3 + lane) 0)) tag (c.cascId * 4096) payload]
  else []

/-- A device reset is asserted (R421, R422, R430): every domain is held in DORMANT with its cause latched and machine time at
0; a register that no value waits for until BOOT reads its Reset value, but for straps and the cause latch; a value that waits
for BOOT is in force; DRAM is not touched. -/
def ResetBy (i : Instr) (s : State) (cause : Nat) (P : Core → Prop) : Prop :=
  ∃ t : State, exec i s = .next t ∧ t.pending = s.pending ∧ t.core.wq = [] ∧
    t.wire = s.wireAfter t.core ∧ (∀ a : Nat, t.dram.read a = s.dram.read a) ∧
    t.core.mode = .dormant ∧ t.core.rd RST_STATE.IN_RESET = 0x3FF ∧ t.core.rd RST_STATE.LAST_CAUSE = cause ∧
    t.core.rst.asserted = some cause ∧ t.core.bootRegs = s.core.bootRegs ∧ t.core.tickW = [] ∧ t.core.slackW = [] ∧
    t.core.now = 0 ∧ t.core.ticks = s.core.ticks ∧ t.core.events = [] ∧ t.core.escSafe = [] ∧ t.core.escHold = [] ∧
    t.core.drc = Drc.init ∧ t.core.ports = List.replicate 21 Port.init ∧ t.core.seq = List.replicate 64 SeqCh.init ∧
    (∀ (f : Field) (k : Nat),
      f.key k ∉ [RST_STATE.IN_RESET.key 0, PLT_MODE.MODE.key 0, RST_STATE.LAST_CAUSE.key 0] →
      f.key k ∉ s.core.bootRegs.map Prod.fst →
      t.core.rd f k = if strapKey (f.key k) = true ∨ (latchKey (f.key k) = true ∧ cause ≠ 0) then s.core.rd f k
        else f.resetVal k) ∧
    (∀ v : Nat, s.core.bootRegs = [(TWN_CONFIG.TWIN_EN.key 0, v)] → t.core.rd TWN_CONFIG.TWIN_EN = v) ∧ P t.core

/-- Bit `e` of RST_PEND as R424 gives it, from what it was: the domain is held, not by software, and waits for its clock or for
a domain before it. -/
def Core.pends (c old : Core) (e : Nat) : Bool :=
  c.held e && !c.swHeld e && (bitOf (old.rd RST_STATE.RST_PEND) e || !c.clkQual e || c.heldBefore e)

/-- The objects of a reset domain (R420), and of it and every later one. -/
def domainObjs (d : Nat) : List Nat := (objTable.filter (fun o => o.domain == d)).map ObjDesc.id
def laterObjs (d : Nat) : List Nat := (objTable.filter (fun o => decide (d ≤ o.domain))).map ObjDesc.id

/-- What domains 6 to 9 hold beside their registers. -/
def laterParts : List Part :=
  [.img, .mot, .lum, .seq, .layer, .bwk, .losses, .psets, .charts, .surgeOrder, .resWrite, .tickW, .slackW]

/-- A register of domain `d` reads its Reset value (R420): straps, the cause latch and what BOOT has read stay. -/
def Core.cleared (c : Core) (d : Nat) : Prop :=
  ∀ (f : Field) (k : Nat), k < 2 ^ 16 → f.lsb < 2 ^ 16 → domainOfObj f.obj = d → strapKey (f.key k) = false →
    latchKey (f.key k) = false → bootKey (f.key k) = false → c.rd f k = f.resetVal k

/-- At the coming tick boundary only the pilot and machine time run, in STANDBY and alone, it is no control tick boundary, and
nothing has fallen due but what a statement names: writes that wait for a tick, requests and escalations. -/
abbrev Core.tickQuiet (c : Core) : Prop :=
  c.planeDue = false ∧ c.rst.dueAt = none ∧ c.held domTIM = false ∧ c.held domPLT = false ∧ c.held domFAB = true ∧
    c.held domCAM = true ∧ c.held domMOT = true ∧ c.held domLUM = true ∧ c.held domHBR = true ∧ c.mode = .standby ∧
    (c.now + tickU) % (10 * usU) ≠ 0 ∧ c.inPair = false ∧ c.inCascade = false ∧ c.casc.holdLatched = none ∧
    c.pilot.long = [] ∧ c.pilot.discSince = none ∧ c.pilot.eventSince = false ∧ c.rd TIM_STATE.EFF_SRC = 0 ∧
    c.rd TIM_CONFIG.PPS_OUT_EN = 0 ∧ c.tim.ppsAt = none ∧ c.hbr.cal.due = 0 ∧ c.hbr.cal.reqs = [] ∧ c.hbr.cal.run = none ∧
    c.rd CAL_GATE.DUE = 0 ∧ c.layerActive = false ∧ (∀ ch : Fin 64, (c.ch ch).gat.placed = [])

/-- The core at the coming tick boundary, before anything acts on it. -/
def Core.nextTick (c : Core) : Core := { c with now := c.now + tickU, ticks := c.ticks + 1 }

/-- HIGH_FOR at an instant (R247). -/
def Core.highFor (c : Core) (ticks : Nat) : Nat :=
  if c.safHigh then min ((ticks - c.pilot.highSince) / ticksPerMs) (2 ^ 16 - 1) else c.rd SAF_STATUS.HIGH_FOR

/-- At a control tick boundary that the pilot serves, in STANDBY and alone, no command, set, step or report is due. -/
abbrev Core.pilotQuiet (c : Core) : Prop :=
  c.pilotServes = true ∧ c.planeDue = false ∧ c.pilot.resetDue = none ∧ c.mode = .standby ∧ c.inPair = false ∧
    c.inCascade = false ∧ c.postedCmds = [] ∧ c.holder = noHolder ∧ c.pilot.queue = [] ∧ c.pilot.applied = none ∧
    c.casc.announced = none ∧ c.pilot.disarmDue = none ∧ c.pilot.long = [] ∧ c.twin.timeSrcDue = false ∧
    c.tim.stepDue = none ∧ c.losses = [] ∧ c.pilot.tripAt = none ∧ c.pilot.lostNew = 0

/-- A measurement of θ would be used by rate alone, and the servo stays in LOCKING (R339, R341, R342). -/
abbrev Core.byRateAlone (c : Core) (theta : Int) : Prop :=
  c.held domTIM = false ∧ c.rd TIM_STATE.EFF_SRC ≠ 0 ∧ c.timState = tsLocking ∧ c.tim.measured = true ∧
    c.tim.stepAt = none ∧ c.tim.stepDue = none ∧ theta.natAbs ≤ c.rd TIM_CONFIG.STEP_THRESH * usU ∧ c.tim.goodRun < 15

/-- A command gives the servo a measurement of θ at an instant, which rate alone uses (R339 to R341): OFFSET and its instant are
shown, the integrator and the rate follow from θ, and the run of good measurements goes on or ends. -/
def ServoRuns (i : Instr) (s : State) (theta : Int) (at_ : Time) (P : Core → Prop) : Prop :=
  let good := theta.natAbs ≤ s.core.rd TIM_CONFIG.LOCK_THRESH * nsU
  let integ := clampInt (-rateMax) rateMax (s.core.tim.integ + (s.core.rd TIM_CONFIG.KI : Int) * theta)
  let rate := clampInt (-rateMax) rateMax (-((s.core.rd TIM_CONFIG.KP : Int) * theta + integ))
  Runs i s
    { keys := [TIM_STATE.OFFSET.key 0, TIM_STATE.MEAS_SEC.key 0, TIM_STATE.MEAS_NS.key 0, TIM_STATE.RATE.key 0],
      parts := [.tim] }
    (fun t => t.rd TIM_STATE.OFFSET = ofSigned 32 (satSigned 32 (roundDiv theta 4096)) ∧
      t.rd TIM_STATE.MEAS_SEC = timeSec at_ % 2 ^ 32 ∧ t.rd TIM_STATE.MEAS_NS = timeNs at_ ∧ t.tim.integ = integ ∧
      t.tim.ramp = ⟨s.core.rateNow, rate, s.core.ticks, rampLen (rate - s.core.rateNow)⟩ ∧
      t.tim.measAt = s.core.ticks ∧ t.tim.largePosted = false ∧ t.tim.stepDue = none ∧
      (good → t.tim.goodRun = s.core.tim.goodRun + 1 ∧ t.tim.badRun = 0) ∧
      (¬ good → t.tim.goodRun = 0 ∧ t.tim.badRun = s.core.tim.badRun + 1) ∧ P t)

/-- What the transmit time-stamp queue is after an event message is sent (R351). -/
def Tim.queued (m : Tim) (c : Core) (port ty dom seq : Nat) (at_ : Time) : Tim :=
  if c.rd TIM_CONFIG.LEGACY_TXQ = 0 then m
  else { m with txqId := (m.txqId + 1) % 65536, txq := m.txq ++ [⟨m.txqId, port, ty, dom, seq, at_⟩] }

/-- The invariant that every step keeps: DRAM is in canonical form, and no accepted write is outstanding between commands. -/
def State.Inv (s : State) : Prop := Memory.wf s.dram = true ∧ s.core.wq = []

end Sys2Proof.Machine
end

