-- ==== Sys2Proof/WellFormed.lean ====
section
/-!
DEFINITION. WellFormed.lean: what a command must satisfy to be one that the outside can send. Most operands are bounded by
their types; the checks here bound the byte strings and lists an event brings.
-/
namespace Sys2Proof

/-- The longest payload of a bulk frame: a TWN_SYNC block of 4,096 bytes behind its 8-byte head (R164, R332). -/
def maxFrame : Nat := 4104
/-- The most code-groups of a frame with the surge words and bells inside it: every symbol of the longest frame behind a surge
word and a bell. -/
def maxGroups : Nat := 8 * (maxFrame + 17)
/-- The longest UDP or ICMP payload in one Ethernet frame: fragments are not supported (R227). -/
def maxDatagram : Nat := 1472
/-- The longest single PCIe read or write. -/
def maxBus : Nat := 4096
/-- The longest CSI-2 packet or returned Shingle stream, whose length fields have 16 bits. -/
def maxPacket : Nat := 65535
/-- The longest copy of a staging descriptor: 16 MiB (R466). -/
def maxCopy : Nat := 16777216
/-- The values a calibration run brings: one part of the calibration record (R386). -/
def maxValues : Nat := 224

/-- A mailbox command: its payload fits the slot (R200). -/
def CmdImage.wellFormed (x : CmdImage) : Bool := decide (x.payload.length ≤ 240)

/-- A snapshot: numbers of streams have 16 bits, ports are the device's, and no string is longer than a frame. -/
def Snapshot.wellFormed (s : Snapshot) : Bool :=
  s.portSeq.all (fun e => decide (e.1 < 21) && decide (e.2.1 < 65536) && decide (e.2.2 < 65536)) &&
  s.linkSeq.all (fun e => decide (e.2 < 65536)) && s.border.all (fun e => decide (e.2.length ≤ maxFrame))

/-- A self-test result: no lane and no failing cell is listed twice. -/
def BistResult.wellFormed (t : BistResult) : Bool := decide t.lanesBad.Nodup && decide t.cells.Nodup

/-- A command that the outside can send. -/
def wellFormed : Instr → Bool
  | .tick | .controlTick | .profileTick | .gateEdge _ | .tileCheckAtUse _ _ _ | .tileReread _ _ |
    .firstTileRecheck _ _ | .vstFetch _ _ | .syncTimeout _ | .ackLost _ | .feedbackLost _ | .followingErrorLimit _ |
    .gateMismatch _ | .adoptionPlanningDone | .adoptionDone _ | .sample _ _ _ _ _ _ | .surgeWordTx _ _ _ | .starve _ |
    .reservationRelease | .requestCapped _ | .bwkWaitLong _ | .yield_ _ | .borderRound | .borderAnswerLatch |
    .borderFenceExpiry | .doorbell _ | .arpRequest _ | .stageCopyDone _ | .checkDone _ _ | .tokenLapse | .tideMark |
    .tideMarkNoManifest | .evConsWrite _ | .evHoldoffExpiry | .msixUnmask _ _ | .statReadClear _ _ | .slackEntry |
    .slackLong | .holdSettled | .safetyInputTrip _ _ | .safetyInputRelease _ | .safetyDiscrepancy | .watchdogMiss |
    .watchdogReset | .adpRestore _ | .alignmentLoss _ | .ts1 _ _ _ _ _ _ | .ts2 _ _ _ _ _ _ | .rate _ _ _ |
    .eqReq _ _ _ _ _ _ | .eqAck _ _ _ _ _ _ _ | .eqDone _ _ _ _ | .eqTimeout _ | .echoReq _ _ _ _ _ |
    .echoRsp _ _ _ _ _ _ _ | .linkUp _ _ _ | .retrain _ _ | .portTrainTimeout _ | .portRetry _ | .neapReq _ _ |
    .neapAck _ _ _ | .wake _ _ | .neapWakeDetect _ | .neapExitTimeout _ | .retrainWrite _ | .neapEnter _ |
    .neapExit _ | .clearStats _ | .timeSet | .cfgRetransmit _ | .cassetteAuthDone _ | .csiFrameStart _ _ _ _ _ |
    .csiFrameEnd _ _ _ | .frameTimeout _ | .frameMissing _ | .pipelineTake _ | .featureRecordDone _ |
    .ctrigPeriodic _ _ | .pulse _ | .sinkPeriodStart _ _ _ | .fadeStep | .levelWrite _ _ | .globalWrite _ |
    .shortDetect _ | .clearShort _ | .openchkMaxdefer _ | .diagPulse _ _ _ _ | .shwFrameStart _ | .update _ |
    .mfltNFault _ _ | .axisStall _ | .recoatStep | .rcSettleExpiry | .encoderCount _ _ _ _ | .indexEvent _ |
    .ssiReadingStart _ | .ssiReadingDone _ _ _ _ | .compareArm _ | .incStickyClear _ | .incFaultClear _ |
    .ssiFaultClear _ | .cmpStickyClear _ | .heartbeatSend | .heartbeatPulse _ | .partnerFailed | .pathAlarm |
    .soloTimeout | .heartbeatWithheld | .stateDigest | .takebackProposal | .roleExchange | .cscHbSend |
    .announcedBoundary | .cscMemberLost | .cscLeadLost | .ppsInEdge _ | .plantSync _ _ _ _ _ _ | .linkMeasurement _ |
    .sourceLost | .srcWrite _ | .ptpSyncTx _ | .ptpAnnounceTx _ | .delayReq _ _ _ _ _ | .foreignAnnounce _ _ |
    .tcForward _ _ _ _ _ _ _ _ _ | .timTxqRead | .ppsOutSecond | .dramTrainingDone _ | .drcInitDone | .refresh _ _ _ |
    .mr4Poll _ _ | .rowActThreshold _ _ _ | .patrolScrub _ | .dramCalSlice _ _ _ _ | .tswProdWrite _ | .perstN _ |
    .calExpired | .calRecordWrite _ _ | .hkSlotConversion _ | .lockstepMismatch | .hbrRestart | .updStageDone _ |
    .recordSeal | .summaryBatchDone | .powerOn _ _ | .powerFail | .resetNAssert | .resetNRelease | .clockQualified _ |
    .domainRelease _ | .clockQualLost _ _ | .swResetSet _ | .swResetClear _ | .bringupDone | .jtagInstruction _ |
    .cassRspTimeout _ | .internalResetRelease | .busMasterEnable _ | .lmSetBad _ _ |
    .ptpDelayResp _ _ _ _ _ _ _ | .ptpDelayReqTx _ _ | .machSyncRx _ _ _ _ => true
  | .bell inTx => decide (inTx.length ≤ 21)
  | .frameDiscarded _ _ g _ => decide (g.length ≤ maxGroups)
  | .tickUp _ _ b | .borderReq _ _ _ b | .borderAns _ _ _ b | .borderRel _ _ _ b | .cfgWrRsp _ _ b | .cfgRdRsp _ _ b |
    .enumRsp _ _ b | .auxDataUp _ _ b | .nodeEvent _ _ b | .twnHb _ b | .twnCmd _ b | .twnInput _ b | .twnTick _ b |
    .twnDigest _ b | .twnSync _ b | .twnRole _ b | .cscHb _ _ b | .cscReady _ _ b | .cscAnnounce _ _ b |
    .cscHold _ _ b => decide (b.length ≤ maxFrame)
  | .mgmtDatagram _ _ data | .icmpEcho _ data => decide (data.length ≤ maxDatagram)
  | .sessionOpen x | .sessionClose x | .tokenTake x | .tokenRelease x | .keepalive x | .eventRead x | .objRead x |
    .objWrite x | .objStage x | .stageRead x | .check x | .commit x | .discard x | .stop x | .hold x | .abort x |
    .arm x | .disarm x | .resume x | .safeClear x | .serviceEnter x | .serviceExit x | .iplCaptureDark x |
    .iplCaptureFlat x | .motMove x | .motHalt x | .motContinue x | .motSetPos x | .motClear x | .twnHandover x |
    .timSet x | .timRestep x | .calRun x | .updStage x | .updActivate x | .updConfirm x | .conReauth x |
    .conOverride x | .conIssuer x | .hbrTrimWrite x | .recClear x | .recSummaryRead x | .devReset x | .bstShutdown x |
    .bstFuseRepair x => x.wellFormed
  | .registerWrite _ data | .bar2Write _ data => decide (0 < data.length) && decide (data.length ≤ maxBus)
  | .cassRsp _ _ b issuerKey => decide (b.length ≤ maxFrame) && decide (issuerKey.length = 64)
  | .csiLongPacket _ _ _ _ _ data => decide (data.length ≤ maxPacket)
  | .shwFrameDone _ returned => decide (returned.length ≤ maxPacket)
  | .resyncBoundary snap => snap.wellFormed
  | .bar2Read _ n _ => decide (0 < n.toNat) && decide (n.toNat ≤ maxBus)
  | .tswDescriptorDone data _ => decide (data.length ≤ maxCopy)
  | .calGroupDone _ _ values => decide (values.length ≤ maxValues)
  | .bootImageSelect t | .shutdownTestDone t => t.wellFormed
  | .plantAnnounce _ _ rank => decide (rank.length ≤ 8)

/-- A command that the outside can send, as a proposition. -/
def WellFormed (i : Instr) : Prop := wellFormed i = true

/-- How many bytes a command carries in its byte strings, or code-groups of a frame. -/
def Instr.carried : Instr → Nat
  | .tick | .controlTick | .profileTick | .bell _ | .gateEdge _ | .tileCheckAtUse _ _ _ | .tileReread _ _ |
    .firstTileRecheck _ _ | .vstFetch _ _ | .syncTimeout _ | .ackLost _ | .feedbackLost _ | .followingErrorLimit _ |
    .gateMismatch _ | .adoptionPlanningDone | .adoptionDone _ | .sample _ _ _ _ _ _ | .surgeWordTx _ _ _ | .starve _ |
    .reservationRelease | .requestCapped _ | .bwkWaitLong _ | .yield_ _ | .borderRound | .borderAnswerLatch |
    .borderFenceExpiry | .doorbell _ | .arpRequest _ | .stageCopyDone _ | .checkDone _ _ | .tokenLapse | .tideMark |
    .tideMarkNoManifest | .evConsWrite _ | .evHoldoffExpiry | .msixUnmask _ _ | .statReadClear _ _ | .slackEntry |
    .slackLong | .holdSettled | .safetyInputTrip _ _ | .safetyInputRelease _ | .safetyDiscrepancy | .watchdogMiss |
    .watchdogReset | .adpRestore _ | .alignmentLoss _ | .ts1 _ _ _ _ _ _ | .ts2 _ _ _ _ _ _ | .rate _ _ _ |
    .eqReq _ _ _ _ _ _ | .eqAck _ _ _ _ _ _ _ | .eqDone _ _ _ _ | .eqTimeout _ | .echoReq _ _ _ _ _ |
    .echoRsp _ _ _ _ _ _ _ | .linkUp _ _ _ | .retrain _ _ | .portTrainTimeout _ | .portRetry _ | .neapReq _ _ |
    .neapAck _ _ _ | .wake _ _ | .neapWakeDetect _ | .neapExitTimeout _ | .retrainWrite _ | .neapEnter _ |
    .neapExit _ | .clearStats _ | .timeSet | .cfgRetransmit _ | .cassetteAuthDone _ | .csiFrameStart _ _ _ _ _ |
    .csiFrameEnd _ _ _ | .frameTimeout _ | .frameMissing _ | .pipelineTake _ | .featureRecordDone _ |
    .ctrigPeriodic _ _ | .pulse _ | .sinkPeriodStart _ _ _ | .fadeStep | .levelWrite _ _ | .globalWrite _ |
    .shortDetect _ | .clearShort _ | .openchkMaxdefer _ | .diagPulse _ _ _ _ | .shwFrameStart _ | .update _ |
    .mfltNFault _ _ | .axisStall _ | .recoatStep | .rcSettleExpiry | .encoderCount _ _ _ _ | .indexEvent _ |
    .ssiReadingStart _ | .ssiReadingDone _ _ _ _ | .compareArm _ | .incStickyClear _ | .incFaultClear _ |
    .ssiFaultClear _ | .cmpStickyClear _ | .heartbeatSend | .heartbeatPulse _ | .partnerFailed | .pathAlarm |
    .soloTimeout | .heartbeatWithheld | .stateDigest | .resyncBoundary _ | .takebackProposal | .roleExchange |
    .cscHbSend | .announcedBoundary | .cscMemberLost | .cscLeadLost | .ppsInEdge _ | .plantSync _ _ _ _ _ _ |
    .linkMeasurement _ | .sourceLost | .srcWrite _ | .ptpSyncTx _ | .ptpAnnounceTx _ | .delayReq _ _ _ _ _ |
    .foreignAnnounce _ _ | .tcForward _ _ _ _ _ _ _ _ _ | .timTxqRead | .ppsOutSecond | .dramTrainingDone _ |
    .drcInitDone | .refresh _ _ _ | .mr4Poll _ _ | .rowActThreshold _ _ _ | .patrolScrub _ | .dramCalSlice _ _ _ _ |
    .bar2Read _ _ _ | .tswProdWrite _ | .perstN _ | .calExpired | .calRecordWrite _ _ | .hkSlotConversion _ |
    .lockstepMismatch | .hbrRestart | .updStageDone _ | .recordSeal | .summaryBatchDone | .powerOn _ _ | .powerFail |
    .resetNAssert | .resetNRelease | .clockQualified _ | .domainRelease _ | .clockQualLost _ _ | .swResetSet _ |
    .swResetClear _ | .bootImageSelect _ | .bringupDone | .shutdownTestDone _ | .jtagInstruction _ |
    .cassRspTimeout _ | .internalResetRelease | .busMasterEnable _ | .lmSetBad _ _ |
    .plantAnnounce _ _ _ | .ptpDelayResp _ _ _ _ _ _ _ | .ptpDelayReqTx _ _ | .machSyncRx _ _ _ _ => 0
  | .tickUp _ _ b | .borderReq _ _ _ b | .borderAns _ _ _ b | .borderRel _ _ _ b | .cfgWrRsp _ _ b | .cfgRdRsp _ _ b |
    .enumRsp _ _ b | .auxDataUp _ _ b | .nodeEvent _ _ b | .twnHb _ b | .twnCmd _ b | .twnInput _ b | .twnTick _ b |
    .twnDigest _ b | .twnSync _ b | .twnRole _ b | .cscHb _ _ b | .cscReady _ _ b | .cscAnnounce _ _ b |
    .cscHold _ _ b => b.length
  | .mgmtDatagram _ _ data | .icmpEcho _ data | .registerWrite _ data | .csiLongPacket _ _ _ _ _ data |
    .bar2Write _ data | .tswDescriptorDone data _ => data.length
  | .sessionOpen x | .sessionClose x | .tokenTake x | .tokenRelease x | .keepalive x | .eventRead x | .objRead x |
    .objWrite x | .objStage x | .stageRead x | .check x | .commit x | .discard x | .stop x | .hold x | .abort x |
    .arm x | .disarm x | .resume x | .safeClear x | .serviceEnter x | .serviceExit x | .iplCaptureDark x |
    .iplCaptureFlat x | .motMove x | .motHalt x | .motContinue x | .motSetPos x | .motClear x | .twnHandover x |
    .timSet x | .timRestep x | .calRun x | .updStage x | .updActivate x | .updConfirm x | .conReauth x |
    .conOverride x | .conIssuer x | .hbrTrimWrite x | .recClear x | .recSummaryRead x | .devReset x | .bstShutdown x |
    .bstFuseRepair x => x.payload.length
  | .cassRsp _ _ b issuerKey => b.length + issuerKey.length
  | .shwFrameDone _ returned => returned.length
  | .frameDiscarded _ _ groups _ => groups.length
  | .calGroupDone _ _ values => values.length

end Sys2Proof
end

