-- ==== Sys2Proof/Certificates/Slice0/Obligations.lean ====
section
/-! DEFINITION. Certificates/Slice0/Obligations.lean: the statements for the provers, chapter by chapter. A statement gathers
the clauses of one subject, each for every state and all operands that meet its hypotheses; a clause says with `Runs` that the
command answers a next state, what that state holds, and that everything it does not list is as it was. -/
open Sys2Proof Sys2Proof.Machine

/-- The queue of commands: a step runs the command at its front on the state with the queue's rest. The model's choice
(assumption log 2): on an empty queue the block idles. No row of the table gives bits, so no word spells a command. -/
def Obligations.StepRunsTheFrontCommand : Prop :=
  (∀ (i : Instr) (rest : List Instr) (s : State), s.pending = i :: rest → step s = exec i { s with pending := rest }) ∧
  (∀ s : State, s.pending = [] → step s = .next s) ∧
  (∀ (s : State) (nbits w : Nat), decodeTableWord nbits w = none ∧ s.withFetchWord nbits w = s)

/-- Every command completes: in every state it answers a next state, leaves the waiting commands as they are, leaves no DRAM
write outstanding and keeps the DRAM's canonical form. No rule of the spec stops the block. -/
def Obligations.EveryCommandCompletes : Prop :=
  ∀ (i : Instr) (s : State), ∃ t : State, exec i s = .next t ∧ t.pending = s.pending ∧ t.core.wq = [] ∧
    (Memory.wf s.dram = true → Memory.wf t.dram = true)

/-- The invariant: DRAM is in its canonical form, no accepted write is outstanding between commands. From every state that
meets it, not only from reset, a step gives a state that meets it, and with one command fewer waiting where one waited. -/
def Obligations.EveryStepKeepsTheInvariant : Prop :=
  ∀ s : State, s.Inv → ∃ t : State, step s = .next t ∧ t.Inv ∧ t.pending = s.pending.tail

/-- R230, R420, R424, R432: right after reset. Only AON is released, the mode is BOOT, every register reads its Reset value but
PREFERRED, which the strap TW_PREF sets (the model's choice: a device alone, assumption log 5), DRAM lists nothing, no command
waits, and the invariant holds. -/
def Obligations.ResetAsSpecified : Prop :=
  State.reset.Inv ∧ State.reset.pending = [] ∧ State.reset.dram = [] ∧ State.reset.core.mode = .boot ∧
  State.reset.core.now = 0 ∧ State.reset.core.rd TWN_STATE.PREFERRED = 1 ∧
  (∀ d : Fin 10, State.reset.core.held d = decide (d.val ≠ 0)) ∧
  (∀ (f : Field) (k : Nat), f.key k ≠ TWN_STATE.PREFERRED.key 0 → State.reset.core.rd f k = f.resetVal k)

/-- R5: serial numbers of 16 bits, and surge numbers of 6 bits, compare as newer, duplicate or stale. -/
def Obligations.SerialNumbersCompare : Prop :=
  (∀ a b : BitVec 16,
    seqNewer 16 a.toNat b.toNat = decide (1 ≤ (a - b).toNat ∧ (a - b).toNat ≤ 32767) ∧
    seqSame 16 a.toNat b.toNat = decide ((a - b).toNat = 0) ∧
    seqStale 16 a.toNat b.toNat = decide (32768 ≤ (a - b).toNat ∧ (a - b).toNat ≤ 65535)) ∧
  (∀ a b : BitVec 6,
    seqNewer 6 a.toNat b.toNat = decide (1 ≤ (a - b).toNat ∧ (a - b).toNat ≤ 31) ∧
    seqSame 6 a.toNat b.toNat = decide ((a - b).toNat = 0) ∧
    seqStale 6 a.toNat b.toNat = decide (32 ≤ (a - b).toNat ∧ (a - b).toNat ≤ 63))

/-- R126: the zone of a reservation is its box grown by KEEPOUT on all sides, extended downstream by SHADOW_LEN and widened by
SHADOW_WIDE on each side across the flow; it reaches no further than the rule says, and with KEEPOUT of at least one grain none
is degenerate. -/
def Obligations.ZonesGrowDownstream : Prop :=
  ∀ (c : Core) (b : Box),
    let ko : Int := (c.rd BWK_GEOM.KEEPOUT : Nat)
    let sl : Int := (c.rd BWK_GEOM.SHADOW_LEN : Nat)
    let sw : Int := (c.rd BWK_GEOM.SHADOW_WIDE : Nat)
    let z := c.zoneOf b
    (c.rd BWK_GEOM.FLOW = 0 → z = ⟨b.xlo - ko, b.xhi + ko + sl, b.ylo - ko - sw, b.yhi + ko + sw⟩) ∧
    (c.rd BWK_GEOM.FLOW = 1 → z = ⟨b.xlo - ko - sl, b.xhi + ko, b.ylo - ko - sw, b.yhi + ko + sw⟩) ∧
    (c.rd BWK_GEOM.FLOW = 2 → z = ⟨b.xlo - ko - sw, b.xhi + ko + sw, b.ylo - ko, b.yhi + ko + sl⟩) ∧
    (c.rd BWK_GEOM.FLOW = 3 → z = ⟨b.xlo - ko - sw, b.xhi + ko + sw, b.ylo - ko - sl, b.yhi + ko⟩) ∧
    b.xlo - (ko + max sl sw) ≤ z.xlo ∧ z.xhi ≤ b.xhi + (ko + max sl sw) ∧ b.ylo - (ko + max sl sw) ≤ z.ylo ∧
    z.yhi ≤ b.yhi + (ko + max sl sw) ∧
    (1 ≤ ko → b.xlo ≤ b.xhi → b.ylo ≤ b.yhi → z.xlo < z.xhi ∧ z.ylo < z.yhi)

/-- R127: two reservations conflict exactly when they belong to different global channels and the box of one meets the zone of
the other; rectangles meet when they overlap in both directions, so that those which only touch do not; and a channel never
conflicts with itself. -/
def Obligations.ReservationsConflictByGeometry : Prop :=
  (∀ u v : Box, u.meets v = true ↔ u.xlo < v.xhi ∧ v.xlo < u.xhi ∧ u.ylo < v.yhi ∧ v.ylo < u.yhi) ∧
  (∀ (g h : Nat) (p pz q qz : Box),
    (conflicts g p pz h q qz = true ↔ g ≠ h ∧ (p.meets qz = true ∨ q.meets pz = true)) ∧
    conflicts g p pz h q qz = conflicts h q qz g p pz ∧ conflicts g p pz g q qz = false) ∧
  (∀ u v : Box, (u.xhi = v.xlo ∨ v.xhi = u.xlo ∨ u.yhi = v.ylo ∨ v.yhi = u.ylo) → u.meets v = false)

/-- R420: a domain in reset ignores its inputs. What arrives for a unit whose domain is held changes nothing at all: commands
of every opcode and doorbells while PLT is held, frames while FAB is, samples while EXP is, camera packets, counts and
readings, lamps, time messages, DRAM work and the harbour's own while theirs are. -/
def Obligations.HeldDomainsIgnoreInputs : Prop :=
  (∀ (s : State) (r : Nat × (CmdImage → Instr)) (x : CmdImage) (v : BitVec 32), s.core.held domPLT = true →
    r ∈ mailboxRows → Idles (r.2 x) s ∧ Idles (.doorbell v) s ∧ Idles .watchdogMiss s ∧ Idles .controlTick s) ∧
  (∀ (s : State) (p : Fin 21) (lane : Fin 2) (h : FrameHdr) (b : Bytes), s.core.held domFAB = true →
    Idles (.tickUp p h b) s ∧ Idles (.nodeEvent p h b) s ∧ Idles (.auxDataUp p h b) s ∧ Idles (.cfgWrRsp p h b) s ∧
    Idles (.enumRsp p h b) s ∧ Idles (.borderReq p lane h b) s ∧ Idles (.twnHb h b) s ∧ Idles (.cscReady p h b) s) ∧
  (∀ (s : State) (p : Fin 16) (lane : Fin 2) (w lead : BitVec 32) (e : Bool) (off : SubTick), s.core.held domEXP = true →
    Idles (.sample p lane w e lead off) s) ∧
  (∀ (s : State) (p : Fin 8) (vc : Fin 16) (fn : BitVec 16) (dt : BitVec 6) (ecc : Fin 3) (ok : Bool) (b : Bytes)
      (off : SubTick), s.core.held domCAM = true →
    Idles (.csiFrameStart p vc fn ecc off) s ∧ Idles (.csiLongPacket p vc dt ecc ok b) s ∧
    Idles (.csiFrameEnd p vc ecc) s ∧ Idles (.pulse p) s) ∧
  (∀ (s : State) (n : Fin 8) (j : Fin 4) (lv : EncLevels) (ends : SsiEnds) (k : BitVec 8) (raw : BitVec 32) (off : SubTick),
      s.core.held domMOT = true →
    Idles (.encoderCount n lv k off) s ∧ Idles (.indexEvent n) s ∧ Idles (.ssiReadingDone j raw ends off) s ∧
    Idles .profileTick s) ∧
  (∀ (s : State) (n : Fin 16) (off : SubTick) (lamps : BitVec 16), s.core.held domLUM = true →
    Idles .fadeStep s ∧ Idles (.clearShort n) s ∧ Idles (.sinkPeriodStart n off lamps) s) ∧
  (∀ (s : State) (q : Fin 2000) (v : Fin 3), s.core.held domTIM = true →
    Idles (.ppsInEdge q) s ∧ Idles .timTxqRead s ∧ Idles (.srcWrite v) s ∧ Idles .sourceLost s) ∧
  (∀ (s : State) (sub : Fin 4) (bank fields : Fin 64) (row : BitVec 18) (hits : Bool) (k : Fin 3), s.core.held domMEM = true →
    Idles (.refresh sub bank hits) s ∧ Idles (.rowActThreshold sub fields row) s ∧ Idles (.patrolScrub k) s ∧
    Idles .drcInitDone s) ∧
  (∀ (s : State) (r : BistResult) (x : Option (BitVec 16)), s.core.held domHBR = true →
    Idles (.bootImageSelect r) s ∧ Idles (.hkSlotConversion x) s)

/-- R14, R18, R241, R243, R244, R247, R420: a tick boundary, in every state at which it can fall. Elapsed time goes on by a
tick, machine time by 500 ns unless TIM is held; writes that wait for a tick take force; a mode change that was asked for is
entered at the boundary; an escalation to SAFE enters SAFE there, with every gate off; and while EXP is held every head port
that is UP carries rest frames. Clauses with `Acts` say that a command completes under its rule's own conditions alone. -/
def Obligations.TicksLatchAndAdvance : Prop :=
  (∀ s : State, s.core.rst.dueAt = none → Acts .tick s (fun t =>
    t.ticks = s.core.ticks + 1 ∧ t.now = (if s.core.held domTIM then s.core.now else s.core.now + tickU))) ∧
  (∀ s : State, s.core.held domTIM = true → s.core.held domPLT = true → s.core.planeDue = false →
    s.core.rst.dueAt = none → s.core.pilot.discSince = none → s.core.pilot.eventSince = false →
    Runs .tick s { keys := [SAF_STATUS.HIGH_FOR.key 0], parts := [.ticks] } (fun t =>
      t.ticks = s.core.ticks + 1 ∧ t.now = s.core.now ∧
      t.rd SAF_STATUS.HIGH_FOR = s.core.highFor (s.core.ticks + 1))) ∧
  (∀ (s : State) (ch : Fin 64) (v : Fin 2), s.core.tickQuiet → s.core.escSafe = [] → s.core.escHold = [] →
    s.core.pilot.modeReqs = [] → s.core.tickW = [(RFX_SELECT.SEL, ch.val, v.val)] →
    Runs .tick s
      { keys := [SAF_STATUS.HIGH_FOR.key 0, CSC_STATE.LEAD.key 0, RFX_SELECT.SEL.key ch],
        parts := [.now, .ticks, .surgeOrder, .tickW, .seq] }
      (fun t => t.now = s.core.now + tickU ∧ t.ticks = s.core.ticks + 1 ∧ t.tickW = [] ∧ t.rd RFX_SELECT.SEL ch = v ∧
        t.rd SAF_STATUS.HIGH_FOR = s.core.highFor (s.core.ticks + 1) ∧
        (v.val ≠ s.core.rd RFX_SELECT.SEL ch → (t.ch ch).rfx.prevSel = s.core.rd RFX_SELECT.SEL ch ∧
          (t.ch ch).rfx.selFrom = s.core.now + tickU))) ∧
  (∀ s : State, s.core.tickQuiet → s.core.escSafe = [] → s.core.escHold = [] → s.core.tickW = [] →
    s.core.pilot.modeReqs = [.serviceEnter] →
    Completes .tick s [0x0106, 0xB001, CSC_STATE.LEAD.obj] [.now, .ticks, .surgeOrder, .pilot, .events] (fun t =>
      Entered s.core.nextTick t .service ∧ t.now = s.core.now + tickU ∧ t.ticks = s.core.ticks + 1 ∧
      t.pilot.modeReqs = [] ∧
      t.events = s.core.events ++ [s.core.nextTick.modeEvent .service 0 0 (s.core.rd PLT_MODE.ESC_SOURCE)])) ∧
  (∀ (s : State) (src : BitVec 16), s.core.tickQuiet → s.core.escSafe = [src.toNat] → s.core.escHold = [] →
    s.core.tickW = [] → s.core.pilot.modeReqs = [] → src.toNat ≠ evSafetyTrip → s.core.bwk.table = [] →
    (∀ n : Fin 8, s.core.axState n = axDisabled) → s.core.mot.recoat.step = 0 → s.core.hbr.cal.gateRuns = [] →
    (∀ ch : Fin 64, (s.core.ch ch).armed = false) →
    Completes .tick s
      [0x0106, 0xB001, CSC_STATE.LEAD.obj, GAT_STATE.GATE.obj, RFX_STATE.ACTIVE.obj, RFX_STAT.SUPERSEDED.obj,
        CAL_STATE.STATE.obj, 0x8003]
      [.now, .ticks, .surgeOrder, .pilot, .events, .escSafe, .seq, .log]
      (fun t => Entered s.core.nextTick t .safe ∧ t.rd PLT_MODE.RETURN = Mode.standby.code ∧
        t.rd PLT_MODE.ESC_SOURCE = src.toNat ∧ t.rd SAF_STATUS.CAUSE = s.core.rd SAF_STATUS.CAUSE % 8 + 8 ∧
        t.escSafe = [] ∧ (∀ ch : Fin 64, t.rd GAT_STATE.GATE ch = 0 ∧ (t.ch ch).gat.lgHigh = false ∧
          (t.ch ch).gat.placed = []) ∧
        t.events = s.core.events ++ [s.core.nextTick.modeEvent .safe 0 0 src.toNat])) ∧
  (∀ s : State, s.core.held domTIM = false → s.core.held domPLT = true → s.core.held domFAB = false →
    s.core.held domEXP = true → s.core.held domCAM = true → s.core.held domMOT = true → s.core.held domLUM = true →
    s.core.held domHBR = true → s.core.mode ≠ .shutdownTest → s.core.mode ≠ .expose → s.core.muted = false →
    s.core.inPair = false → s.core.planeDue = false → s.core.rst.dueAt = none → s.core.tickW = [] →
    s.core.pilot.discSince = none → s.core.pilot.eventSince = false → s.core.rd TIM_STATE.EFF_SRC = 0 →
    s.core.rd TIM_CONFIG.PPS_OUT_EN = 0 → s.core.tim.ppsAt = none → s.core.hbr.cal.phyDue = none →
    (∀ ch : Fin 64, (s.core.ch ch).gat.placed = []) → (∀ p : Fin 16, (s.core.port p).cassFaults = 0) →
    Runs .tick s
      { keys := [SAF_STATUS.HIGH_FOR.key 0], parts := [.now, .ticks, .surgeOrder, .ports],
        outs := ((List.range 16).filter s.core.isUp).map (fun p =>
          .frame p 0 0x01 ((s.core.port p).bellLate + s.core.unitFlag + (if (s.core.port p).resyncTick then 64 else 0))
            (s.core.headAddr p) (s.core.port p).txTick (tickIndex (s.core.now + 3 * tickU)) 0
            ((List.range 4).flatMap (fun k =>
              if s.core.served (4 * p + k) then s.core.tickBlock (4 * p + k) 127 0 else emptyBlock))) }
      (fun t => t.now = s.core.now + tickU ∧ t.ticks = s.core.ticks + 1 ∧
        (∀ p : Fin 16, s.core.isUp p = true → (t.port p).txTick = ((s.core.port p).txTick + 1) % 65536 ∧
          (t.port p).bellLate = 0 ∧ (t.port p).resyncTick = false)))

/-- R18, R174, R175, R223 to R226, R286, R288, R464: the longer periods. A control tick posts the events raised before it in
the event ring, with INT_STATUS and vector 8, and refreshes the status mirror between two equal words; a profile tick advances
a moving axis and emits its steps; bells go out at whole microseconds; TIME_SET goes to every head and aux port that is UP.
Clauses with `Acts` say that a command completes under its rule's own conditions alone. -/
def Obligations.PeriodsBringTheirWork : Prop :=
  (∀ s : State, s.core.pilotServes = true → s.core.pilot.resetDue ≠ some 0 → Acts .controlTick s (fun t =>
    t.pilot.wdogMissed = 0 ∧ t.pilot.mirSeq = (s.core.pilot.mirSeq + 2) % 2 ^ 32 ∧ t.planeDue = false)) ∧
  (∀ s : State, s.core.pilotQuiet → s.core.events = [] →
    let seq := (s.core.pilot.mirSeq + 2) % 2 ^ 32
    Runs .controlTick s
      { keys := [TIM_NOW.SEC.key 0, TIM_NOW.NS.key 0, TIM_NOW.FRAC.key 0], parts := [.pilot, .twin] }
      (fun t => t.pilot.wdogMissed = 0 ∧ t.twin = { s.core.twin with withheld := none } ∧ t.pilot.mirSeq = seq ∧
        fieldLE t.pilot.mirror 0 4 = seq ∧ fieldLE t.pilot.mirror 0x1FFC 4 = seq ∧ t.pilot.mirror.length = 0x2000 ∧
        t.rd TIM_NOW.NS = timeNs s.core.now ∧
        { t.pilot with wdogMissed := 0, mirror := [], mirSeq := 0 } =
          { s.core.pilot with wdogMissed := 0, mirror := [], mirSeq := 0 })) ∧
  (∀ (s : State) (e : Ev), s.core.pilotQuiet → s.core.events = [e] → e.tick < s.core.ticks → e.code ≠ evModeChanged →
    s.core.evWaiting < 1024 → s.core.rd BAR0.EV_PROD < 2 ^ 32 → s.core.log.rec_ = none → s.core.logReady = false →
    s.core.log.fifo.length < 64 → s.core.pilot.ethPeer = none → s.core.pilot.holdoffUntil ≤ s.core.ticks →
    bitOf s.core.pilot.msixMasked 8 = false →
    Runs .controlTick s
      { keys := [TIM_NOW.SEC.key 0, TIM_NOW.NS.key 0, TIM_NOW.FRAC.key 0, BAR0.EV_PROD.key 0, BAR0.INT_STATUS.key 0,
          REC_STATE.FIFO_HWM.key 0],
        parts := [.pilot, .twin, .events, .log], outs := if bitOf (s.core.rd BAR0.INT_MASK) 8 then [] else [.msix 8] }
      (fun t => t.events = [] ∧ t.rd BAR0.EV_PROD = (s.core.rd BAR0.EV_PROD + 1) % 2 ^ 32 ∧
        bitOf (t.rd BAR0.INT_STATUS) 0 = true ∧
        t.ringRecordAt (s.core.rd BAR0.EV_PROD) = s.core.eventBytes e (e.at_.getD s.core.now) ∧
        t.pilot.holdoffUntil = s.core.ticks + s.core.rd PLT_EVQ.EV_HOLDOFF * ticksPerUs ∧
        t.log.fifo = s.core.log.fifo ++ [⟨e.code, e.inst, e.at_.getD s.core.now, e.data⟩])) ∧
  (∀ (s : State) (n : Fin 8) (g : Int),
    let a := s.core.axis n
    let x : Axis := match a.latch with
      | some (g, t) => if t ≤ s.core.ticks then
          { a with target := some g, latch := none, kept := none, stopping := false } else a
      | none => a
    let j := chooseJerk (s.core.axLimits n) (F64.ofNat (s.core.rd MOT_CONFIG.VMAX n)) x.pva (F64.ofInt g)
    let y := x.withPva (tickOn x.pva j)
    let after := y.p.nearest
    let m := after - s.core.posCmd n
    let dir := if m = 0 then s.core.flag MOT_STATE.DIR n else decide (0 < m)
    let level := dir != s.core.flag MOT_CONFIG.DIR_INV n
    let v := x.v.abs
    let slow := v.lt (F64.ofNat (s.core.rd MOT_CONFIG.CUR_DN n)) || v.isZero
    let fast := (F64.ofNat (s.core.rd MOT_CONFIG.CUR_UP n)).le v
    s.core.held domMOT = false → s.core.held domTIM = false → s.core.now % (16 * usU) = 0 →
    (∀ k : Fin 8, k ≠ n → s.core.axState k = axDisabled ∧ (s.core.axis k).v = F64.zero ∧
      s.core.rd MOT_STATE.CUR_MODE k = 0 ∧
      (s.core.axis k).mdir = (s.core.flag MOT_STATE.DIR k != s.core.flag MOT_CONFIG.DIR_INV k)) →
    s.core.axState n ∈ [axMoving, axIdle, axKept] → 12 ≤ s.core.rd MOT_CONFIG.ENC_SRC n → x.stopping = false →
    x.target = some g → s.core.moveDone n g = false → (∀ k : Fin 4, s.core.rd PFI_SSI.ENABLE k = 0) →
    s.core.mot.recoat.step = 0 → s.core.mot.recoat.settleAt = none →
    Runs .profileTick s
      { keys := [MOT_STATE.POS_CMD, MOT_STATE.VEL, MOT_STATE.DIR, MOT_STATE.STATE, MOT_STATE.TARGET, MOT_STATE.REMAIN,
          MOT_STATE.CUR_MODE, MOT_STAT.CUR_SWITCHES].map (fun f => f.key n),
        parts := [.mot],
        outs := (if level = (s.core.axis n).mdir then [] else [.mdir n level]) ++
          if m = 0 then [] else [.steps n m
            (stepStarts m.natAbs (level != (s.core.axis n).mdir) (s.core.rd MOT_CONFIG.DIR_SETUP n))
            (s.core.rd MOT_CONFIG.STEP_W n)] }
      (fun t => t.axis n = { y with mdir := level } ∧ t.rd MOT_STATE.POS_CMD n = ofSigned 32 after ∧ t.axState n = axMoving ∧
        (m ≠ 0 → t.rd MOT_STATE.DIR n = b2n (decide (0 < m))) ∧
        t.rd MOT_STATE.CUR_MODE n = (if slow then 0 else if fast then 1 else s.core.rd MOT_STATE.CUR_MODE n) ∧
        (∀ k : Fin 4, (t.ssi k).fresh = false ∧ (t.ssi k).div = (s.core.ssi k).div + 1))) ∧
  (∀ (s : State) (inTx : List (Fin 7)),
    let at_ := s.core.now / tickU * tickU + tickU
    let late (p : Nat) : Nat := s.core.bellDelay p ((inTx.map (fun k => k.val)).getD p 0)
    s.core.held domFAB = false → s.core.held domTIM = false → s.core.muted = false → at_ % usU = 0 →
    Runs (.bell inTx) s
      { parts := [.ports],
        outs := ((List.range 21).filter (fun p => s.core.isUp p && (isHead p || isAux p ||
          (s.core.flag STR_PORT_CFG.BELL_TX p && (p != lp2 || s.core.actsActive))))).map (fun p =>
            .bell p (if isHead p then late p else 0)) }
      (fun t => ∀ p : Fin 21, (t.port p) = (if s.core.isUp p = true ∧ isHead p = true then
          { s.core.port p with bellLate := late p, bellAt := some at_ }
        else if s.core.isUp p = true ∧ (isAux p = true ∨
            (s.core.flag STR_PORT_CFG.BELL_TX p = true ∧ (p.val ≠ lp2 ∨ s.core.actsActive = true))) then
          { s.core.port p with bellAt := some at_ }
        else s.core.port p))) ∧
  (∀ s : State,
    let at_ := nextMultiple s.core.now usU
    s.core.held domFAB = false → s.core.held domTIM = false → s.core.muted = false →
    Runs .timeSet s
      { parts := [.ports],
        outs := ((List.range 18).filter s.core.isUp).map (fun p =>
          s.core.ctlFrame p 0x02 0 (s.core.firstNode p) (Kv.get 0 (s.core.port p).txCtl (s.core.firstNode p)) 0
            (leBytes 8 (timeSec at_) ++ leBytes 4 (timeNs at_) ++ zeros 4)) }
      (fun t => ∀ p : Fin 18, s.core.isUp p = true → Kv.get 0 (t.port p).txCtl (s.core.firstNode p) =
        (Kv.get 0 (s.core.port p).txCtl (s.core.firstNode p) + 1) % 65536)) ∧
  (∀ (s : State) (n : Fin 8) (g : Int),
    let a := s.core.axis n
    let j := chooseJerk (s.core.axLimits n) (F64.ofNat (s.core.rd MOT_CONFIG.VMAX n)) a.pva (F64.ofInt g)
    let y := a.withPva (tickOn a.pva j)
    s.core.held domMOT = false → s.core.held domTIM = false → s.core.now % (16 * usU) = 0 →
    s.core.axState n ∈ [axMoving, axIdle, axKept] → 12 ≤ s.core.rd MOT_CONFIG.ENC_SRC n → a.latch = none →
    a.stopping = false → a.target = some g → s.core.moveDone n g = false → s.core.mot.recoat.step = 0 →
    Acts .profileTick s (fun t => (t.axis n).pva = y.pva ∧ t.rd MOT_STATE.POS_CMD n = ofSigned 32 y.p.nearest ∧
      t.axState n = axMoving))

/-- R209, R219, R220, R46, R75, R235 to R237: what the mode controller brings about by itself. The token lapses with the staged
set; a set without a manifest takes effect, a register object as its image says, a chart by swapping banks; a layer's tide mark
enters EXPOSE; the layer's end enters SLACK; SLACK_LONG is posted once; HOLD becomes HELD. Clauses with `Acts` say that a
command completes under its rule's own conditions alone. -/
def Obligations.ModeControllerActs : Prop :=
  (∀ s : State, s.core.pilotServes = true → s.core.inPair = false → s.core.holder ≠ noHolder → s.core.setQuiet →
    (∀ x ∈ s.core.postedCmds, x.master ≠ s.core.holder) →
    s.core.pilot.holderSince + s.core.rd PLT_TOKEN.TOKEN_TIMEOUT * ticksPerMs ≤ s.core.ticks →
    Runs .tokenLapse s { keys := PLT_TOKEN.HOLDER.key 0 :: discardKeys, parts := [.pilot, .events] } (fun t =>
      t.holder = noHolder ∧ t.rd PLT_STAGE.STATE = sgEmpty ∧ t.rd PLT_STAGE.OBJECTS = 0 ∧
      t.pilot = { s.core.pilot with staged := [], check := [] } ∧
      t.events = s.core.events ++ [⟨evTokenLost, s.core.holder, none, [1#8], s.core.ticks⟩])) ∧
  (∀ (s : State) (q : CommSet) (rest : List CommSet) (o : SetObj) (d : ObjDesc), s.core.pilotServes = true →
    s.core.pilot.queue = q :: rest → q.manifest = none → s.core.plainModeOk = true → s.core.setMature q = true →
    q.objs = [o] → o.obj = d.id → o.inst < 64 →
    d ∈ [Obj.SEQ_DYN, Obj.GAT_CONFIG, Obj.GAT_TRIM, Obj.BWK_GEOM, Obj.BWK_WAIT, Obj.ADP_CONFIG, Obj.MOT_RECOAT] →
    Completes .tideMarkNoManifest s [d.id, 0x1002] [.pilot, .events, .tickW] (fun t =>
      (∀ f ∈ d.fields, f.access = .rw → t.rd f o.inst = imgField (leNat o.image) f) ∧
      (∀ (f : Field) (k : Nat), k ≠ o.inst → k < 2 ^ 16 → f.lsb < 2 ^ 16 → f.obj = d.id → t.rd f k = s.core.rd f k) ∧
      t.pilot = { s.core.pilot with queue := rest, nodePlan := none, applied := some (q.id, s.core.now) } ∧
      t.events = s.core.events ++
        [⟨evSetApplied, 0, some s.core.now, leBytes 2 q.id ++ zeros 2 ++ leBytes 4 0xFFFFFFFF, s.core.ticks⟩])) ∧
  (∀ (s : State) (q : CommSet) (rest : List CommSet) (ch : Fin 64) (image data : Bytes), s.core.pilotServes = true →
    s.core.pilot.queue = q :: rest → q.manifest = none → s.core.plainModeOk = true → s.core.setMature q = true →
    q.objs = [⟨idChtNodes, ch, image, data⟩] →
    Runs .tideMarkNoManifest s
      { keys := [CHT_BANK.CURRENT.key ch, CHT_BANK.INACTIVE_STATE.key ch, CHT_BANK.PENDING_LAYER.key ch,
          SEQ_LAYER_STATE.QUEUE_DEPTH.key 0],
        parts := [.pilot, .events, .tickW] }
      (fun t => t.rd CHT_BANK.CURRENT ch = (1 - s.core.rd CHT_BANK.CURRENT ch) % 2 ∧
        t.rd CHT_BANK.INACTIVE_STATE ch = bankEmpty ∧ t.rd CHT_BANK.PENDING_LAYER ch = 0 ∧
        t.rd SEQ_LAYER_STATE.QUEUE_DEPTH = min 4 (rest.filterMap CommSet.manifest).length)) ∧
  (∀ (s : State) (q : CommSet) (rest : List CommSet) (m : Bytes), s.core.pilotServes = true →
    s.core.pilot.queue = q :: rest → q.manifest = some m → q.objs = [⟨idManifest, 0, m, []⟩] → s.core.inCascade = false →
    s.core.entryOk m = true → s.core.setMature q = true → (∀ ch : Fin 64, s.core.failed ch = false) →
    (∀ k : Fin 32, (s.core.ictx k).capture = none) →
    (∀ n : Fin 8, s.core.axBusy n = false ∧ (s.core.axis n).latch = none) →
    Completes .tideMark s ([0x1002, 0x0106] ++ tideCounts.map Field.obj ++ [SEQ_AXIS_SETPOINT.SAT_COUNT.obj,
        GAT_TRIM_STATE.K_NOW.obj, RFX_STATE.BASE.obj])
      [.pilot, .events, .tickW, .layer, .seq, .log]
      (fun t => Entered s.core t .expose ∧ t.rd SEQ_LAYER_STATE.LAYER_NOW = manLayer m ∧ t.layerActive = true ∧
        t.layer = ⟨manMask m, manTimeout m, manLists m, 0, []⟩ ∧
        t.rd SEQ_LAYER_STATE.QUEUE_DEPTH = min 4 (rest.filterMap CommSet.manifest).length ∧
        t.pilot.queue = rest ∧ t.pilot.applied = some (q.id, s.core.now) ∧ t.pilot.freeNumber = false ∧
        t.events = s.core.events ++
          [⟨evSetApplied, 0, some s.core.now, leBytes 2 q.id ++ zeros 2 ++ leBytes 4 (manLayer m), s.core.ticks⟩,
            s.core.modeEvent .expose 0 0 (s.core.rd PLT_MODE.ESC_SOURCE)] ∧
        (∀ ch : Fin 64, (t.ch ch).armed = bitOf (manMask m) ch ∧ (t.ch ch).ended = !bitOf (manMask m) ch ∧
          (t.ch ch).listAddr = manAddr m ch ∧ (t.ch ch).listCount = manCount m ch ∧
          (∀ f ∈ tideCounts, t.rd f ch = 0)))) ∧
  (∀ (s : State) (v : Nat), s.core.inCascade = false → s.core.layerDone = true → s.core.mode = .expose →
    (∀ r ∈ s.core.bwk.table, r.border = false) → s.core.rd ADP_POLICY.NEXT_LAYER ≠ 0 → s.core.logWriting = true →
    s.core.slackW = [(PLT_SLACK.SLACK_MIN, 0, v)] → v < 2 ^ 32 → s.core.rd MOT_RECOAT.RC_EN = 0 →
    (∀ k : Fin 68, s.core.con k CON_WINDOW.STATE ≠ csOk) →
    s.core.hbr.cal.reqs = [] → s.core.hbr.cal.due = 0 → s.core.rd CAL_GATE.DUE = 0 → s.core.hbr.cal.run = none →
    s.core.pilot.slackWork = [] →
    Completes .slackEntry s [0x1002, 0x0106, 0x0107, BWK_STATE.HELD_NOW.obj, CAL_STATE.STATE.obj]
      [.pilot, .events, .seq, .bwk, .log, .slackW, .mot]
      (fun t => Entered s.core t .slack ∧ t.layerActive = false ∧ t.bwk.table = [] ∧ t.slackW = [] ∧
        t.rd PLT_SLACK.SLACK_MIN = v ∧ t.rd PLT_SLACK.SLACK_WARN = s.core.rd PLT_SLACK.SLACK_WARN ∧
        t.pilot.slackSince = s.core.ticks ∧ t.pilot.slackWarned = false ∧
        t.mot.recoat = ⟨0, false, false, none, true⟩ ∧ (∀ ch : Fin 64, (t.ch ch).halt = .none) ∧
        t.events = s.core.events ++ [s.core.modeEvent .slack 0 0 (s.core.rd PLT_MODE.ESC_SOURCE),
          ⟨evLayerDone, 0, some s.core.now, leBytes 4 (s.core.rd SEQ_LAYER_STATE.LAYER_NOW), s.core.ticks⟩] ∧
        t.log.due.length = s.core.log.due.length + 1 + 3 * ((List.range 64).filter (bitOf s.core.layer.mask)).length)) ∧
  (∀ s : State, s.core.mode = .slack → s.core.rd PLT_SLACK.SLACK_WARN ≠ 0 → s.core.pilot.slackWarned = false →
    s.core.pilot.slackSince + s.core.rd PLT_SLACK.SLACK_WARN * ticksPerUs ≤ s.core.ticks → s.core.slackEnded = false →
    Runs .slackLong s { parts := [.pilot, .events] } (fun t =>
      t.pilot = { s.core.pilot with slackWarned := true } ∧
      t.events = s.core.events ++ [⟨evSlackLong, 0, none, leBytes 2 s.core.slackItemCode, s.core.ticks⟩])) ∧
  (∀ s : State, s.core.mode = .hold → s.core.rd PLT_MODE.PHASE = phSettling →
    (∀ ch : Fin 64, s.core.channelSettled ch = true) → s.core.anyAxisBusy = false →
    Runs .holdSettled s { keys := [PLT_MODE.PHASE.key 0] } (fun t => t.rd PLT_MODE.PHASE = phHeld)) ∧
  (∀ s : State, s.core.pilotServes = true → s.core.holder ≠ noHolder →
    s.core.holderPosted (if s.core.inPair then s.core.forwardedCmds else s.core.postedCmds) = false →
    s.core.pilot.holderSince + s.core.rd PLT_TOKEN.TOKEN_TIMEOUT * ticksPerMs ≤ s.core.ticks →
    Acts .tokenLapse s (fun t => t.holder = noHolder ∧ t.pilot.staged = [] ∧ t.rd PLT_STAGE.STATE = sgEmpty ∧
      t.events = s.core.events ++ [⟨evTokenLost, s.core.holder, none, [1#8], s.core.ticks⟩])) ∧
  (∀ (s : State) (q : CommSet) (rest : List CommSet), s.core.pilotServes = true → s.core.pilot.queue = q :: rest →
    q.manifest = none → s.core.plainModeOk = true → s.core.setMature q = true → s.core.nodesReady q = true →
    Acts .tideMarkNoManifest s (fun t => t.pilot.queue = rest ∧ t.pilot.applied = some (q.id, s.core.now) ∧
      t.mode = s.core.mode)) ∧
  (∀ (s : State) (q : CommSet) (rest : List CommSet) (m : Bytes), s.core.pilotServes = true →
    s.core.pilot.queue = q :: rest → q.manifest = some m → s.core.inCascade = false → s.core.entryOk m = true →
    s.core.setMature q = true → s.core.nodesReady q = true →
    Acts .tideMark s (fun t => t.mode = .expose ∧ t.rd SEQ_LAYER_STATE.LAYER_NOW = manLayer m ∧ t.layerActive = true ∧
      t.layer = ⟨manMask m, manTimeout m, manLists m, 0, []⟩ ∧ t.pilot.queue = rest ∧
      t.pilot.applied = some (q.id, s.core.now))) ∧
  (∀ s : State, s.core.inCascade = false → s.core.layerDone = true → s.core.mode = .expose →
    Acts .slackEntry s (fun t => t.mode = .slack ∧ t.layerActive = false ∧ t.pilot.slackSince = s.core.ticks ∧
      t.rd PLT_MODE.PREV_MODE = Mode.expose.code ∧
      ⟨evLayerDone, 0, some s.core.now, leBytes 4 (s.core.rd SEQ_LAYER_STATE.LAYER_NOW), s.core.ticks⟩ ∈ t.events))

/-- R241 to R247, R326, R427, R156: the interlock and the watchdog. An input that goes active forces the LG pairs low, latches
its cause and asks for SAFE; the first since SAFE_CLEAR is counted with its time. A release restarts HIGH_FOR; a long
discrepancy is latched and reported. A missed control tick asks for SAFE, and WDOG_RESET_MS of them end in a reset. RESTORE in
SERVICE clears a failed channel. -/
def Obligations.InterlockAndWatchdogAct : Prop :=
  (∀ (s : State) (n : Fin 3) (ns : BitVec 16),
    let lvl (j : Nat) : Nat := if j = n then 0 else s.core.rd (safLevel j)
    let first := s.core.rd SAF_STATUS.CAUSE % 8 = 0
    let clears := lvl 0 ≠ 0 ∧ lvl 1 ≠ 0 ∧ s.core.pilot.discClear = true
    let cause := orBit (s.core.rd SAF_STATUS.CAUSE) n % 16
    s.core.held domAON = false → bitOf (s.core.rd SAF_STATUS.CAUSE) n = false →
    Runs (.safetyInputTrip n ns) s
      { keys := [(safLevel n).key 0, SAF_STATUS.HIGH_FOR.key 0, SAF_STATUS.DISC.key 0, SAF_STATUS.CAUSE.key 0,
          SAF_STATUS.TRIPS.key 0, SAF_STATUS.LAST_GATE_NS.key 0],
        parts := [.pilot, .seq, .escSafe, .bst, .casc, .ports],
        outs := ((List.range 64).filter (fun ch => (s.core.ch ch).gat.lgHigh)).map (fun ch => .lg ch false s.core.now) ++
          (if s.core.inPair then
            s.core.twinOut 0 0x52 (tickIndex s.core.now) (twinInputBytes 2 (leBytes 1 (2 ^ (4 + n.val)) ++ zeros 3))
          else []) }
      (fun t => t.rd (safLevel n) = 0 ∧ t.rd SAF_STATUS.HIGH_FOR = 0 ∧ t.rd SAF_STATUS.CAUSE = cause ∧
        t.rd SAF_STATUS.DISC = (if clears then 0 else s.core.rd SAF_STATUS.DISC) ∧
        (∀ ch : Fin 64, (t.ch ch).gat.lgHigh = false) ∧ t.pilot.highSince = s.core.ticks ∧
        (first → Counts s.core t SAF_STATUS.TRIPS ∧ t.rd SAF_STATUS.LAST_GATE_NS = ns.toNat ∧
          t.pilot.tripAt = some (s.core.ticks + 1, s.core.now + tickU)) ∧
        (¬ first → t.rd SAF_STATUS.TRIPS = s.core.rd SAF_STATUS.TRIPS ∧
          t.rd SAF_STATUS.LAST_GATE_NS = s.core.rd SAF_STATUS.LAST_GATE_NS ∧ t.pilot.tripAt = s.core.pilot.tripAt) ∧
        t.bst = (if s.core.mode = .shutdownTest then { s.core.bst with abandoned := true } else s.core.bst) ∧
        t.escSafe = s.core.escSafe ++
          (if s.core.mode ∈ [.shutdownTest, .dormant, .boot] then [] else [evSafetyTrip]))) ∧
  (∀ (s : State) (n : Fin 3),
    let lvl (j : Nat) : Nat := if j = n then 1 else s.core.rd (safLevel j)
    let clears := lvl 0 ≠ 0 ∧ lvl 1 ≠ 0 ∧ s.core.pilot.discClear = true
    s.core.held domAON = false →
    Runs (.safetyInputRelease n) s
      { keys := [(safLevel n).key 0, SAF_STATUS.HIGH_FOR.key 0, SAF_STATUS.DISC.key 0], parts := [.pilot] }
      (fun t => t.rd (safLevel n) = 1 ∧ t.rd SAF_STATUS.HIGH_FOR = 0 ∧ t.pilot.highSince = s.core.ticks ∧
        t.rd SAF_STATUS.DISC = (if clears then 0 else s.core.rd SAF_STATUS.DISC))) ∧
  (∀ (s : State) (since : Nat), s.core.held domAON = false → s.core.pilot.discSince = some since →
    since + 10 * ticksPerMs ≤ s.core.ticks → s.core.rd SAF_STATUS.LEVEL_A ≠ s.core.rd SAF_STATUS.LEVEL_B →
    s.core.rd SAF_STATUS.DISC = 0 →
    Runs .safetyDiscrepancy s { keys := [SAF_STATUS.DISC.key 0], parts := [.pilot, .events] } (fun t =>
      t.rd SAF_STATUS.DISC = 1 ∧ t.pilot = { s.core.pilot with discClear := false } ∧
      t.events = s.core.events ++ [⟨evSafetyDiscrepancy, 0, none,
        leBytes 1 (s.core.rd SAF_STATUS.LEVEL_A + 2 * s.core.rd SAF_STATUS.LEVEL_B), s.core.ticks⟩])) ∧
  (∀ s : State, s.core.held domPLT = false → s.core.planeDue = false →
    Runs .watchdogMiss s { parts := [.pilot, .escSafe, .twin] } (fun t =>
      t.pilot = { s.core.pilot with wdogMissed := s.core.pilot.wdogMissed + 1 } ∧ t.escSafe = s.core.escSafe ++ [0] ∧
      t.twin = { s.core.twin with withheld := some (s.core.twin.withheld.getD s.core.ticks) })) ∧
  (∀ s : State, s.core.held domPLT = false → s.core.rd RST_CONFIG.WDOG_RESET_MS ≠ 0 →
    100 * s.core.rd RST_CONFIG.WDOG_RESET_MS ≤ s.core.pilot.wdogMissed →
    ResetBy .watchdogReset s 3 (fun t => t.rst.dueAt = some (s.core.ticks + 8, 3))) ∧
  (∀ (s : State) (ch : Fin 64), s.core.held domEXP = false → s.core.mode = .service →
    Runs (.adpRestore ch) s
      { keys := (Obj.ADP_REPORT.fields ++ Obj.ADP_RESIDUE.fields ++ [ADP_STATE.STATE]).map (fun f => f.key ch),
        parts := [.losses, .seq] }
      (fun t => (t.ch ch).restored = true ∧ (∀ f ∈ Obj.ADP_REPORT.fields ++ Obj.ADP_RESIDUE.fields ++ [ADP_STATE.STATE], t.rd f ch = 0) ∧
        t.losses = s.core.losses.filter (fun l => l.chan != ch.val)))

/-- R9, R421, R422, R440, R456: device resets. A fallen rail or a pulse on RESET_N puts the whole device into reset; the end of
a shutdown test asked to restart does so too; at its release BOOT begins and its cause is counted; a test that is not to
restart ends in DORMANT. -/
def Obligations.ResetsAreAssertedAndReleased : Prop :=
  (∀ s : State,
    ResetBy .powerFail s 0 (fun t => t.rst.dueAt = none ∧ t.pcie = Pcie.init)) ∧
  (∀ s : State, s.core.rst.asserted ≠ some 0 →
    ResetBy .resetNAssert s 1 (fun t => t.rst.dueAt = none ∧ t.pcie = s.core.pcie)) ∧
  (∀ (s : State) (percent : BitVec 8) (us : BitVec 16), 92 < percent.toNat → 100 ≤ us.toNat →
    s.core.rst.asserted = some 0 →
    Runs (.powerOn percent us) s { keys := [PLT_MODE.MODE.key 0], parts := [.rst] } (fun t => t.mode = .boot ∧
        t.rst = { s.core.rst with asserted := none, dueAt := none, bootStart := s.core.ticks })) ∧
  (∀ (s : State) (percent : BitVec 8) (us : BitVec 16), percent.toNat ≤ 92 ∨ us.toNat < 100 →
    Idles (.powerOn percent us) s) ∧
  (∀ s : State, s.core.rst.asserted = some 1 →
    Runs .resetNRelease s { keys := [RST_HIST.RESETN_COUNT.key 0, PLT_MODE.MODE.key 0], parts := [.rst] } (fun t =>
      t.mode = .boot ∧ Counts s.core t RST_HIST.RESETN_COUNT ∧
      t.rst = { s.core.rst with asserted := none, dueAt := none, bootStart := s.core.ticks })) ∧
  (∀ (s : State) (due k cause : Nat), s.core.rst.dueAt = some (due, k) → due ≤ s.core.ticks →
    s.core.rst.asserted = some cause → cause ∈ [2, 3, 4] →
    Runs .internalResetRelease s
      { keys := [RST_HIST.DEVRESET_COUNT.key 0, RST_HIST.WDOG_COUNT.key 0, PLT_MODE.MODE.key 0], parts := [.rst] }
      (fun t => t.mode = .boot ∧ (cause = 2 → Counts s.core t RST_HIST.DEVRESET_COUNT) ∧
        (cause ≠ 2 → t.rd RST_HIST.DEVRESET_COUNT = s.core.rd RST_HIST.DEVRESET_COUNT) ∧
        (cause = 3 → Counts s.core t RST_HIST.WDOG_COUNT) ∧
        (cause ≠ 3 → t.rd RST_HIST.WDOG_COUNT = s.core.rd RST_HIST.WDOG_COUNT) ∧
        t.rst = { s.core.rst with asserted := none, dueAt := none, bootStart := s.core.ticks })) ∧
  (∀ (s : State) (r : BistResult), s.core.mode = .shutdownTest → s.core.bst.restart = true →
    s.core.bst.abandoned = false →
    ResetBy (.shutdownTestDone r) s 4 (fun t => t.rst.dueAt = some (s.core.ticks + 8, 4))) ∧
  (∀ (s : State) (r : BistResult), s.core.mode = .shutdownTest → s.core.bst.restart = false →
    s.core.bst.abandoned = false →
    ∃ t : State, exec (.shutdownTestDone r) s = .next t ∧ t.pending = s.pending ∧
      (∀ a : Nat, t.dram.read a = s.dram.read a) ∧ t.core.mode = .dormant ∧
      (∀ d : Fin 10, d.val ≠ 0 → t.core.held d = true) ∧ t.core.pilot.staged = [] ∧
      t.core.rd BST_REPAIR.TEST_OPEN = b2n (s.core.bst.jtagOpen && !r.secretBad)) ∧
  (∀ (s : State) (r : BistResult), s.core.mode ≠ .shutdownTest ∨ s.core.bst.abandoned = true →
    Idles (.shutdownTestDone r) s) ∧
  (∀ (s : State) (n : Fin 8),
    let l : List JtagInstr := [.bypass, .idcode, .samplePreload, .extest, .clamp, .extestPulse, .extestTrain, .privateInstr]
    Runs (.jtagInstruction (l.getD n .bypass)) s { parts := [.bst] } (fun t =>
      t.bst = { s.core.bst with
        jtagIr := if n.val < 3 ∨ s.core.rd BST_REPAIR.TEST_OPEN ≠ 0 then n.val else 0 }))

/-- R420, R423 to R426: domains. A qualified clock is shown, with what waits in RST_PEND; a domain is released in its order and
starts at its Reset values; one whose clock leaves qualification is forced into reset, EXP with an escalation to SAFE; SW_RESET
holds a domain and every later one, where the mode allows it. Clauses with `Acts` say that a command completes under its rule's
own conditions alone. -/
def Obligations.DomainsAreHeldAndReleased : Prop :=
  (∀ (s : State) (d : Fin 10), s.core.rst.asserted = none → (d.val = 0 ∨ s.core.held domAON = false) →
    Runs (.clockQualified d) s { keys := [RST_STATE.CLK_QUAL.key 0, RST_STATE.RST_PEND.key 0] } (fun t =>
      (∀ e : Fin 10, t.clkQual e = (s.core.clkQual e || e == d)) ∧
      (∀ e : Fin 10, bitOf (t.rd RST_STATE.RST_PEND) e = t.pends s.core e))) ∧
  (∀ (s : State) (d : Fin 10), 6 ≤ d.val → s.core.rst.asserted = none → s.core.mode ≠ .dormant →
    s.core.held d = true → (∀ e : Fin 10, e.val < d.val → s.core.held e = false) → s.core.clkQual d = true →
    s.core.swHeld d = false → s.core.rd RST_CONFIG.GAP ≤ 50 * (s.core.ticks - s.core.rst.lastRelease) →
    Completes (.domainRelease ⟨d, false, 0⟩) s (0xA001 :: domainObjs d) (.rst :: laterParts) (fun t =>
      t.held d = false ∧ t.cleared d ∧ t.rst = { s.core.rst with lastRelease := s.core.ticks } ∧
      (∀ e : Fin 10, e ≠ d → t.held e = s.core.held e))) ∧
  (∀ s : State, s.core.rst.asserted = none → s.core.mode ≠ .dormant → s.core.held domTIM = true →
    (∀ e : Fin 5, s.core.held e = false) → s.core.clkQual domTIM = true → s.core.swHeld domTIM = false →
    s.core.rd RST_CONFIG.GAP ≤ 50 * (s.core.ticks - s.core.rst.lastRelease) → s.core.isStandby = false →
    s.core.inCascade = false →
    Completes (.domainRelease ⟨5, false, 0⟩) s (0xA001 :: domainObjs 5) [.rst, .tim, .now, .tickW, .slackW] (fun t =>
      t.held domTIM = false ∧ t.now = 0 ∧ t.timState = tsFree ∧ t.rd TIM_STATE.EFF_SRC = 0)) ∧
  (∀ (s : State) (d : Fin 10) (reason : Fin 2), s.core.rst.asserted = none → s.core.held d = true →
    Runs (.clockQualLost d reason) s { keys := [RST_STATE.CLK_QUAL.key 0, RST_STATE.RST_PEND.key 0] } (fun t =>
      (∀ e : Fin 10, t.clkQual e = (s.core.clkQual e && e != d)) ∧
      (∀ e : Fin 10, bitOf (t.rd RST_STATE.RST_PEND) e = t.pends s.core e))) ∧
  (∀ (s : State) (d : Fin 10) (reason : Fin 2), 6 ≤ d.val → s.core.rst.asserted = none → s.core.held d = false →
    s.core.held domPLT = false → (∀ k : Fin 32, (s.core.ictx k).capture = none) →
    Completes (.clockQualLost d reason) s (0xA001 :: 0xA004 :: domainObjs d) (.events :: .escSafe :: laterParts)
      (fun t => t.held d = true ∧ t.cleared d ∧ t.clkQual d = false ∧ Counts s.core t RST_HIST.CLK_DROPS ∧
        t.events = s.core.events ++ [⟨evRstClkLost, 0, none, [BitVec.ofNat 8 d, BitVec.ofNat 8 reason], s.core.ticks⟩] ∧
        t.escSafe = s.core.escSafe ++ (if d.val = 9 then [evRstClkLost] else []))) ∧
  (∀ (s : State) (d : Fin 2) (reason : Fin 2), s.core.rst.asserted = none → s.core.held d = false →
    ∃ t : State, exec (.clockQualLost ⟨d.val, by omega⟩ reason) s = .next t ∧ t.pending = s.pending ∧
      (∀ a : Nat, t.dram.read a = s.dram.read a) ∧ t.core.mode = .boot ∧ t.core.rd RST_STATE.LAST_CAUSE = 5 ∧
      t.core.rd RST_STATE.IN_RESET = 0x3FF ∧ t.core.rst.asserted = none) ∧
  (∀ (s : State) (d : Fin 10), 6 ≤ d.val → s.core.held domPLT = false → s.core.mode = .service →
    s.core.layerActive = false → s.core.anyAxisBusy = false → s.core.swHeld d = false →
    (∀ k : Fin 32, (s.core.ictx k).capture = none) →
    Completes (.swResetSet d) s (0xA001 :: 0xA002 :: laterObjs d) laterParts (fun t =>
      t.swHeld d = true ∧ t.clkQual d = false ∧
      (∀ e : Fin 10, t.held e = (s.core.held e || decide (d.val ≤ e.val))) ∧
      (∀ e : Fin 10, d.val ≤ e.val → s.core.held e = false → t.cleared e))) ∧
  (∀ (s : State) (d : Fin 10), 3 ≤ d.val → s.core.mode = .armed → s.core.swHeld d = false → Idles (.swResetSet d) s) ∧
  (∀ (s : State) (d : Fin 10), 3 ≤ d.val → s.core.rst.asserted = none → s.core.held domPLT = false →
    s.core.mode = .service → s.core.layerActive = false → s.core.swHeld d = true →
    Runs (.swResetClear d) s { keys := [RST_SW.SW_RESET.key 0, RST_STATE.RST_PEND.key 0] } (fun t =>
      (∀ e : Fin 10, t.swHeld e = (s.core.swHeld e && e != d)) ∧
      (∀ e : Fin 10, bitOf (t.rd RST_STATE.RST_PEND) e = t.pends s.core e))) ∧
  (∀ (s : State) (d : Fin 10) (pref : Bool) (casc : Fin 16), s.core.rst.asserted = none → s.core.mode ≠ .dormant →
    s.core.held d = true → (∀ e : Fin 10, e.val < d.val → s.core.held e = false) → s.core.clkQual d = true →
    s.core.swHeld d = false → (d.val = 0 ∨ s.core.rd RST_CONFIG.GAP ≤ 50 * (s.core.ticks - s.core.rst.lastRelease)) →
    (d.val = domPLT → s.core.imageRuns = true) →
    Acts (.domainRelease ⟨d, pref, casc⟩) s (fun t => t.held d = false ∧ t.rst.lastRelease = s.core.ticks ∧
      (∀ e : Fin 10, d.val < e.val → t.held e = (s.core.held e || decide (d.val = 0))) ∧
      (d.val = 0 → t.rd TWN_STATE.UNIT = b2n (!pref) ∧ t.rd TWN_STATE.PREFERRED = b2n pref ∧
        t.rd CSC_STATE.CASC_ID = casc))) ∧
  (∀ (s : State) (d : Fin 10) (reason : Fin 2), 2 ≤ d.val → s.core.rst.asserted = none → s.core.held d = false →
    Acts (.clockQualLost d reason) s (fun t => t.held d = true ∧ t.clkQual d = false ∧
      Counts s.core t RST_HIST.CLK_DROPS)) ∧
  (∀ (s : State) (d : Fin 10), 3 ≤ d.val → s.core.held domPLT = false → s.core.swHeld d = false →
    s.core.swAllowed [d] [d] = true →
    Acts (.swResetSet d) s (fun t => t.swHeld d = true ∧ t.clkQual d = false ∧
      (∀ e : Fin 10, t.held e = (s.core.held e || decide (d.val ≤ e.val)))))

/-- R232, R389, R400, R428: the way to STANDBY. The start-up code loads the trims, picks the active image where it verifies and
counts the boot, or halts the boot where neither slot does; BRINGUP ends in STANDBY with BOOT_DONE once DRAM, ports and chains
are ready. Clauses with `Acts` say that a command completes under its rule's own conditions alone. -/
def Obligations.BootReachesStandby : Prop :=
  (∀ (s : State) (r : BistResult),
    let u := s.core.updState
    s.core.held domHBR = false → s.core.held domPLT = true → s.core.mode = .boot → s.core.hbr.booted = false →
    u.trial = 0xFF → u.active < 2 →
    Completes (.bootImageSelect r) s
      [0x8002, 0x8010, 0xA003, 0x0201, 0x8301, 0xA101, 0xA102, 0x30004, 0x30008] [.hbr, .bst, .rst, .fresh]
      (fun t => t.rd CAL_TRIM.TRIM_VALID = 1 ∧ t.rd HBR_STATE.BOOT_COUNT = (u.boots + 1) % 2 ^ 32 ∧
        (s.core.slotOk u.active = true → t.hbr.booted = true ∧ t.rd UPD_STATE.RUNNING = u.active ∧
          t.hbr.fallback = none) ∧
        (s.core.slotOk 0 = false → s.core.slotOk 1 = false → t.hbr.booted = false ∧ t.rd BAR0.ID_BOOT = 2 ∧
          t.hbr.fallback = some 3))) ∧
  (∀ s : State,
    let fast := s.core.rst.fastRecord && s.core.rst.fastDram
    let ms := min ((s.core.ticks - s.core.rst.bootStart) / ticksPerMs) (2 ^ 16 - 1)
    s.core.mode = .bringup → s.core.rst.dramTrained = true → (∀ p : Fin 21, s.core.portReady p = true) →
    s.core.inPair = false → s.core.rst.degraded = [] → s.core.rd CAL_TRIM.OTP_SRC = 0 →
    s.core.rd CAL_TRIM.FALLBACK = 0 → s.core.rd CAL_TRIM.DEFAULT = 0 → s.core.hbr.fallback = none →
    Completes .bringupDone s [0xA001, 0x0106, 0x8002, 0x8003] [.hbr, .pilot, .events] (fun t =>
      Entered s.core t .standby ∧ t.rd RST_STATE.BOOT_MS = ms ∧ t.rd RST_STATE.FAST_BOOT = b2n fast ∧
      (∀ k : Fin 68, s.core.cassFitted k = true → (t.cass k).authDue = true) ∧
      t.events = s.core.events ++ [s.core.modeEvent .standby 0 0 (s.core.rd PLT_MODE.ESC_SOURCE),
        ⟨evBootDone, 0, none, leBytes 1 (s.core.rd RST_STATE.LAST_CAUSE) ++ leBytes 1 (b2n fast) ++ leBytes 2 ms,
          s.core.ticks⟩])) ∧
  (∀ (s : State) (r : BistResult), s.core.held domHBR = false → s.core.held domPLT = true → s.core.mode = .boot →
    s.core.hbr.booted = false →
    Acts (.bootImageSelect r) s (fun t => t.rd CAL_TRIM.TRIM_VALID = 1 ∧
      t.rd HBR_STATE.BOOT_COUNT = (s.core.updState.boots + 1) % 2 ^ 32 ∧
      t.hbr.booted = decide (t.rd BAR0.ID_BOOT < 2))) ∧
  (∀ s : State, s.core.mode = .bringup → s.core.rst.dramTrained = true → (∀ p : Fin 21, s.core.portReady p = true) →
    Acts .bringupDone s (fun t => Entered s.core t .standby ∧
      t.rd RST_STATE.BOOT_MS = min ((s.core.ticks - s.core.rst.bootStart) / ticksPerMs) (2 ^ 16 - 1) ∧
      t.rd RST_STATE.FAST_BOOT = b2n (s.core.rst.fastRecord && s.core.rst.fastDram)))

/-- R203 to R206, R420: what every mailbox command meets before its own tests. While mailboxes are not served nothing happens;
a repeat of the mailbox's last command is counted and answered from store; the first test of R205 that fails is its answer; and
one that needs the token without holding it completes with NO_TOKEN and the holder's ID. -/
def Obligations.CommandsAreTestedInOrder : Prop :=
  (∀ (s : State) (q : Nat × (CmdImage → Instr)) (i : CmdImage), q ∈ mailboxRows → s.core.serves = false →
    Idles (q.2 i) s) ∧
  (∀ (s : State) (q : Nat × (CmdImage → Instr)) (i : CmdImage), q ∈ mailboxRows →
    let x := cmdOf i q.1
    s.core.serves = true → s.core.isRepeat x = true →
    Responds (q.2 i) s x (s.core.mbox x.master x.mailbox).respSlot
      { keys := [PLT_MB_STAT.COMMANDS.key x.master, PLT_MB_STAT.REPEATS.key x.master] } s.core.pilot
      (fun t => Counts s.core t PLT_MB_STAT.COMMANDS x.master ∧ Counts s.core t PLT_MB_STAT.REPEATS x.master)) ∧
  (∀ (s : State) (q : Nat × (CmdImage → Instr)) (i : CmdImage) (r : Reply), q ∈ mailboxRows →
    let x := cmdOf i q.1
    s.core.serves = true → s.core.isRepeat x = false → s.core.preTests x = some r →
    Answers (q.2 i) s x (s.core.slotOf x r) { } s.core.pilot (fun _ => True)) ∧
  (∀ (s : State) (q : Nat × (CmdImage → Instr)) (i : CmdImage), q ∈ mailboxRows →
    let x := cmdOf i q.1
    s.core.serves = true → s.core.isRepeat x = false → s.core.preTests x = none →
    (opInfo q.1).map OpInfo.token = some true → x.master ≠ s.core.holder →
    Answers (q.2 i) s x (s.core.slotOf x ⟨stNoToken, s.core.holder, []⟩) { } s.core.pilot (fun _ => True))

/-- R202, R206, R209: sessions, the token and event records. SESSION_OPEN gives its master the next epoch and forgets its
stored responses; SESSION_CLOSE sets it to 0; TOKEN_TAKE takes a free token and is refused one that is held; TOKEN_RELEASE
gives it up, empties the staged set and posts TOKEN_LOST; KEEPALIVE answers with the holder; EVENT_READ with the records.
Clauses with `Acts` say that a command completes under its rule's own conditions alone. -/
def Obligations.SessionsTokenAndEvents : Prop :=
  (∀ (s : State) (i : CmdImage),
    let x := cmdOf i 0x0001
    let boot := s.core.rd HBR_STATE.BOOT_COUNT % 65536
    let e := match s.core.pilot.prevEpoch.getD x.master none with
      | none => if boot = 0 then 1 else boot
      | some e => if e = 65535 then 1 else e + 1
    s.core.Ready x → s.core.holder ≠ x.master →
    Answers (.sessionOpen i) s x ((s.core.wr (epochField x.master) e).slotOf x (okReply (leBytes 2 e)))
      { keys := [(epochField x.master).key 0] }
      { (s.core.forgetResponses x.master).pilot with
        prevEpoch := setAt none s.core.pilot.prevEpoch x.master (some e),
        ethPeer := if x.master = 2 then some (s.core.mbox 2 x.mailbox).peer else s.core.pilot.ethPeer }
      (fun t => t.epoch x.master = e % 65536)) ∧
  (∀ (s : State) (i : CmdImage),
    let x := cmdOf i 0x0002
    s.core.Ready x → s.core.holder ≠ x.master →
    Answers (.sessionClose i) s x ((s.core.wr (epochField x.master) 0).slotOf x okReply)
      { keys := [(epochField x.master).key 0] }
      { s.core.pilot with ethPeer := if x.master = 2 then none else s.core.pilot.ethPeer }
      (fun t => t.epoch x.master = 0)) ∧
  (∀ (s : State) (i : CmdImage),
    let x := cmdOf i 0x0003
    s.core.Ready x → s.core.holder = noHolder →
    Answers (.tokenTake i) s x (s.core.slotOf x okReply) { keys := [PLT_TOKEN.HOLDER.key 0] } s.core.pilot (fun t =>
      t.holder = x.master ∧ t.pilot.holderSince = s.core.ticks)) ∧
  (∀ (s : State) (i : CmdImage),
    let x := cmdOf i 0x0003
    s.core.Ready x → x.force = false → s.core.holder ≠ noHolder → s.core.holder ≠ x.master →
    Answers (.tokenTake i) s x (s.core.slotOf x (errReply stTokenHeld s.core.holder)) { } s.core.pilot
      (fun _ => True)) ∧
  (∀ (s : State) (i : CmdImage),
    let x := cmdOf i 0x0003
    s.core.Ready x → x.force = true → s.core.holder ≠ noHolder → s.core.holder ≠ x.master → s.core.setQuiet →
    Answers (.tokenTake i) s x (s.core.slotOf x okReply)
      { keys := PLT_TOKEN.HOLDER.key 0 :: discardKeys, parts := [.events] }
      { s.core.pilot with staged := [], check := [] }
      (fun t => t.holder = x.master ∧ t.rd PLT_STAGE.STATE = sgEmpty ∧ t.rd PLT_STAGE.OBJECTS = 0 ∧
        t.events = s.core.events ++ [⟨evTokenLost, s.core.holder, none, [2#8], s.core.ticks⟩])) ∧
  (∀ (s : State) (i : CmdImage),
    let x := cmdOf i 0x0004
    s.core.Ready x → s.core.setQuiet →
    Answers (.tokenRelease i) s x (s.core.slotOf x okReply)
      { keys := PLT_TOKEN.HOLDER.key 0 :: discardKeys, parts := [.events] }
      { s.core.pilot with staged := [], check := [] }
      (fun t => t.holder = noHolder ∧ t.rd PLT_STAGE.STATE = sgEmpty ∧ t.rd PLT_STAGE.OBJECTS = 0 ∧
        t.events = s.core.events ++ [⟨evTokenLost, s.core.holder, none, [0#8], s.core.ticks⟩])) ∧
  (∀ (s : State) (i : CmdImage),
    let x := cmdOf i 0x0005
    s.core.Ready x →
    Answers (.keepalive i) s x (s.core.slotOf x (okReply (leBytes 1 s.core.holder))) { } s.core.pilot (fun _ => True)) ∧
  (∀ (s : State) (i : CmdImage),
    let x := cmdOf i 0x0006
    let seq := x.at_ 16 4
    let n := x.at_ 20 1
    let age (j : Nat) : Nat := (s.core.rd BAR0.EV_PROD + 2 * 2 ^ 32 - (seq + j)) % 2 ^ 32
    s.core.Ready x → 1 ≤ n → n ≤ 3 → x.at_ 21 3 = 0 →
    (∀ j : Nat, j < n → 1 ≤ age j ∧ age j ≤ 1024 ∧
      fieldLE (s.core.ringRecordAt ((seq + j) % 2 ^ 32)) 4 4 = (seq + j) % 2 ^ 32) →
    Answers (.eventRead i) s x
      (s.core.slotOf x (okReply ((List.range n).flatMap (fun j => s.core.ringRecordAt ((seq + j) % 2 ^ 32)))))
      { } s.core.pilot (fun _ => True)) ∧
  (∀ (s : State) (i : CmdImage),
    let x := cmdOf i 0x0001
    s.core.Ready x → Acts (.sessionOpen i) s (fun t => t.epoch x.master ≠ 0 ∧ t.epoch x.master < 65536 ∧
      t.holder = (if s.core.holder = x.master then noHolder else s.core.holder) ∧
      (t.mbox x.master x.mailbox).busy = none)) ∧
  (∀ (s : State) (i : CmdImage),
    let x := cmdOf i 0x0002
    s.core.Ready x → Acts (.sessionClose i) s (fun t => t.epoch x.master = 0 ∧
      t.holder = (if s.core.holder = x.master then noHolder else s.core.holder) ∧
      (t.mbox x.master x.mailbox).busy = none)) ∧
  (∀ (s : State) (i : CmdImage),
    let x := cmdOf i 0x0003
    s.core.Ready x → x.force = true ∨ s.core.holder = noHolder ∨ s.core.holder = x.master →
    Acts (.tokenTake i) s (fun t => t.holder = x.master ∧
      (t.mbox x.master x.mailbox).respSlot = s.core.slotOf x okReply)) ∧
  (∀ (s : State) (i : CmdImage),
    let x := cmdOf i 0x0004
    s.core.Ready x → Acts (.tokenRelease i) s (fun t => t.holder = noHolder ∧ t.pilot.staged = [] ∧
      t.rd PLT_STAGE.STATE = sgEmpty ∧ (t.mbox x.master x.mailbox).respSlot = s.core.slotOf x okReply))

/-- R8, R9, R206, R211, R212: objects. OBJ_READ answers with the object's bytes and clears its RC counts, TIM_NOW as machine
time stands; OBJ_WRITE puts each field where its Applies value says; OBJ_STAGE enters an object into the staged set, in place
of an earlier one, or starts the copy of its data from DRAM; STAGE_READ answers with the staged value or the value in force.
Clauses with `Acts` say that a command completes under its rule's own conditions alone. -/
def Obligations.ObjectsAreReadWrittenAndStaged : Prop :=
  (∀ (s : State) (i : CmdImage) (d : ObjDesc),
    let x := cmdOf i 0x1001
    s.core.Ready x → findObj x.object = some d → d.id ∉ [0x6010, 0x6003, 0x6002] →
    Answers (.objRead i) s x (s.core.slotOf x (okReply ((s.core.inc PLT_MB_STAT.COMMANDS x.master).imageBytes d x.inst)))
      { keys := (d.fields.filter (fun f => f.access == .rc)).map (fun f => f.key x.inst) } s.core.pilot
      (fun t => ∀ f ∈ d.fields, f.access = .rc → t.rd f x.inst = 0)) ∧
  (∀ (s : State) (i : CmdImage),
    let x := cmdOf i 0x1001
    s.core.Ready x → x.object = 0x6003 →
    Answers (.objRead i) s x (s.core.slotOf x (okReply (s.core.showNow.imageBytes Obj.TIM_NOW 0)))
      { keys := [TIM_NOW.SEC.key 0, TIM_NOW.NS.key 0, TIM_NOW.FRAC.key 0] } s.core.pilot
      (fun t => t.rd TIM_NOW.NS = timeNs s.core.now ∧ t.rd TIM_NOW.FRAC = timeFrac s.core.now)) ∧
  (∀ (s : State) (i : CmdImage) (d : ObjDesc),
    let x := cmdOf i 0x1002
    let v := leNat (x.payload.take x.length)
    let rw := d.fields.filter (fun f => f.access == .rw)
    let waits (a : Applies) := (rw.filter (fun f => f.applies == a)).map (fun f => (f, x.inst, imgField v f))
    s.core.Ready x → findObj x.object = some d → s.core.writeModeBad d x.inst v = false →
    s.core.writeFault s.dram d x.inst v = none → s.core.held d.domain = false →
    d.id ∉ [0x1504, 0x2001, 0x2002, 0x3001, 0x3002, 0x3101, 0x3204, 0x3210, 0x4001, 0x4105, 0x4110, 0x4120, 0x6001,
      0xA002] →
    Answers (.objWrite i) s x (s.core.slotOf x okReply)
      { keys := (rw.filter (fun f => f.applies == .now || f.applies == .vectorStart)).map (fun f => f.key x.inst),
        parts := [.tickW, .slackW, .bootRegs] }
      s.core.pilot
      (fun t => (∀ f ∈ rw, f.applies = .now → t.rd f x.inst = imgField v f) ∧
        t.tickW = s.core.tickW ++ waits .tick ∧ t.slackW = s.core.slackW ++ waits .slack)) ∧
  (∀ (s : State) (i : CmdImage),
    let x := cmdOf i 0x1003
    let image := x.payload.take x.length
    let l := s.core.pilot.staged.filter (fun o => !(o.obj == x.object && o.inst == x.inst)) ++
      [⟨x.object, x.inst, image, []⟩]
    s.core.Ready x → s.core.cmdMode.mayStage = true → x.object ≠ idPset → x.object ≠ idPsetBlock →
    x.object ≠ idManifest → x.object ≠ idChtNodes → x.object ≠ idChtGeom → s.core.checkRuns = false →
    s.core.setFull x.object x.inst = false →
    Answers (.objStage i) s x (s.core.slotOf x okReply)
      { keys := [PLT_STAGE.STATE.key 0, PLT_STAGE.OBJECTS.key 0] } { s.core.pilot with staged := l, check := [] }
      (fun t => t.rd PLT_STAGE.STATE = sgOpen ∧ t.rd PLT_STAGE.OBJECTS = l.length % 65536)) ∧
  (∀ (s : State) (i : CmdImage),
    let x := cmdOf i 0x1003
    s.core.Ready x → s.core.cmdMode.mayStage = true → copiesDram x.object = true →
    s.core.chartBlocked x.object x.inst = false →
    s.core.descriptorFault x.object (leNat (x.payload.take x.length)) = none → s.core.checkRuns = false →
    s.core.setFull x.object x.inst = false →
    Waits (.objStage i) s x .stageCopy { } s.core.pilot (fun _ => True)) ∧
  (∀ (s : State) (i : CmdImage) (d : ObjDesc) (o : SetObj),
    let x := cmdOf i 0x1004
    s.core.Ready x → findObj x.object = some d → s.core.stagedObj d.id x.inst = some o → d.id ≠ idPset →
    Answers (.stageRead i) s x (s.core.slotOf x ⟨stOk, 1, o.image⟩) { } s.core.pilot (fun _ => True)) ∧
  (∀ (s : State) (i : CmdImage) (d : ObjDesc),
    let x := cmdOf i 0x1004
    s.core.Ready x → findObj x.object = some d → s.core.stagedObj d.id x.inst = none →
    Answers (.stageRead i) s x (s.core.slotOf x (okReply (s.core.imageBytes d x.inst))) { } s.core.pilot
      (fun _ => True)) ∧
  (∀ (s : State) (i : CmdImage) (d : ObjDesc),
    let x := cmdOf i 0x1001
    let bytes := ((s.core.inc PLT_MB_STAT.COMMANDS x.master).readObject d x.inst).2
    s.core.Ready x → findObj x.object = some d →
    Answers (.objRead i) s x (s.core.slotOf x (okReply bytes))
      { keys := (d.fields.filter (fun f => f.access == .rc)).map (fun f => f.key x.inst) ++
          (if d.id = 0x6003 then [TIM_NOW.SEC.key 0, TIM_NOW.NS.key 0, TIM_NOW.FRAC.key 0] else []) ++
          (if d.id = 0x6002 then [TIM_STATE.RATE.key 0] else []),
        parts := if d.id = 0x6010 then [.tim] else [] }
      s.core.pilot (fun t => d.id = 0x6010 → t.tim = { s.core.tim with txq := s.core.tim.txq.tail })) ∧
  (∀ (s : State) (i : CmdImage) (d : ObjDesc),
    let x := cmdOf i 0x1002
    let v := leNat (x.payload.take x.length)
    s.core.Ready x → findObj x.object = some d → s.core.writeModeBad d x.inst v = false →
    s.core.writeFault s.dram d x.inst v = none →
    Acts (.objWrite i) s (fun t => (t.mbox x.master x.mailbox).respSlot = s.core.slotOf x okReply ∧
      (t.mbox x.master x.mailbox).busy = none ∧
      (x.object = 0xA002 → t.rd RST_SW.SW_RESET = imgField v RST_SW.SW_RESET) ∧
      (x.object ≠ 0xA002 → x.object ≠ 0x6001 → s.core.held d.domain = false →
        ∀ f ∈ d.fields, f.access = .rw → f.applies = .now → t.rd f x.inst = imgField v f))) ∧
  (∀ (s : State) (i : CmdImage),
    let x := cmdOf i 0x1003
    let image := x.payload.take x.length
    let o : SetObj := if x.object = idPset then ⟨x.object, x.inst, image.take 16, image.drop 16⟩
      else ⟨x.object, x.inst, image, []⟩
    s.core.Ready x → s.core.cmdMode.mayStage = true → copiesDram x.object = false →
    s.core.chartBlocked x.object x.inst = false → s.core.descriptorFault x.object (leNat o.image) = none →
    s.core.checkRuns = false → s.core.setFull x.object x.inst = false →
    Answers (.objStage i) s x (s.core.slotOf x okReply)
      { keys := [PLT_STAGE.STATE.key 0, PLT_STAGE.OBJECTS.key 0, CHT_BANK.INACTIVE_STATE.key x.inst] }
      { s.core.pilot with
        staged := s.core.pilot.staged.filter (fun p => !(p.obj == x.object && p.inst == x.inst)) ++ [o], check := [] }
      (fun t => t.rd PLT_STAGE.STATE = sgOpen ∧ t.stagedObj x.object x.inst = some o)) ∧
  (∀ (s : State) (i : CmdImage) (d : ObjDesc) (o : SetObj),
    let x := cmdOf i 0x1004
    s.core.Ready x → findObj x.object = some d → s.core.stagedObj d.id x.inst = some o →
    Answers (.stageRead i) s x
      (s.core.slotOf x ⟨stOk, 1, if d.id = idPset then o.image ++ o.data else o.image⟩) { } s.core.pilot
      (fun _ => True))

/-- R208, R212 to R216, R361: the staged set. The copy of a staged object's data ends with the object in the set and its
command answered; CHECK starts the check; its end shows PASSED with no entries or FAILED with them; COMMIT queues a set that
passed, under the next set ID, and empties the staged set; DISCARD empties it. Clauses with `Acts` say that a command completes
under its rule's own conditions alone. -/
def Obligations.StagedSetsAreCheckedAndCommitted : Prop :=
  (∀ (s : State) (l : LongCmd),
    let x := l.cmd
    let image := x.payload.take x.length
    let span := copySpan x.object (leNat image)
    let data := readBytesUnder s.dram [] span.1 span.2
    let staged := s.core.pilot.staged.filter (fun o => !(o.obj == x.object && o.inst == x.inst)) ++
      [⟨x.object, x.inst, image, data⟩]
    s.core.held domMEM = false → s.core.pilot.long = [l] → l.kind = .stageCopy → x.op = 0x1003 →
    (x.object = idManifest ∨ x.object = idPsetBlock) → dataFault x.object (leNat image) data = none →
    s.core.setFull x.object x.inst = false → (s.core.mbox x.master x.mailbox).posted = false → x.mailbox < 8 →
    Responds (.stageCopyDone none) s x (s.core.slotOf x okReply)
      { keys := PLT_STAGE.STATE.key 0 :: PLT_STAGE.OBJECTS.key 0 :: rawKeys, parts := [.drc] }
      { s.core.pilot with staged := staged, check := [], long := [] }
      (fun t => t.rd PLT_STAGE.STATE = sgOpen ∧ t.rd PLT_STAGE.OBJECTS = staged.length % 65536)) ∧
  (∀ (s : State) (i : CmdImage),
    let x := cmdOf i 0x2001
    s.core.Ready x → s.core.checkRuns = false → s.core.anyLong (fun k => k == .stageCopy) = false →
    Waits (.check i) s x .check { keys := [PLT_STAGE.STATE.key 0, PLT_STAGE.TILES_DONE.key 0] } s.core.pilot (fun t =>
      t.rd PLT_STAGE.STATE = sgChecking ∧ t.rd PLT_STAGE.TILES_DONE = 0)) ∧
  (∀ (s : State) (l : LongCmd) (n : Nat),
    let x := l.cmd
    s.core.held domMEM = false → s.core.checkRuns = true → s.core.pilot.long = [l] → l.kind = .check →
    s.core.begin.checkAll s.dram none = ([], n) → (s.core.mbox x.master x.mailbox).posted = false → x.mailbox < 8 →
    Responds (.checkDone none none) s x (s.core.slotOf x (checkReply []))
      { keys := [PLT_STAGE.STATE.key 0, PLT_STAGE.FAILS.key 0, PLT_STAGE.TILES_DONE.key 0] }
      { s.core.pilot with check := [], long := [] }
      (fun t => t.rd PLT_STAGE.STATE = sgPassed ∧ t.rd PLT_STAGE.FAILS = 0 ∧
        t.rd PLT_STAGE.TILES_DONE = min n (2 ^ 32 - 1))) ∧
  (∀ (s : State) (l : LongCmd) (e : Fail) (es : List Fail) (n : Nat),
    let x := l.cmd
    let left := s.core.pilot.staged.filter (fun o => !(o.obj == idChtGeom || o.obj == idChtNodes))
    s.core.held domMEM = false → s.core.checkRuns = true → s.core.pilot.long = [l] → l.kind = .check →
    s.core.begin.checkAll s.dram none = (e :: es, n) → (s.core.mbox x.master x.mailbox).posted = false → x.mailbox < 8 →
    Responds (.checkDone none none) s x (s.core.slotOf x (checkReply (e :: es)))
      { keys := PLT_STAGE.FAILS.key 0 :: PLT_STAGE.TILES_DONE.key 0 :: discardKeys }
      { s.core.pilot with check := e :: es, long := [], staged := left }
      (fun t => t.rd PLT_STAGE.STATE = sgFailed ∧ t.rd PLT_STAGE.FAILS = min (es.length + 1) (2 ^ 32 - 1))) ∧
  (∀ (s : State) (i : CmdImage),
    let x := cmdOf i 0x2002
    let p := s.core.pilot
    let id := s.core.rd PLT_QUEUE.NEXT_SET_ID
    let man := manifestOf p.staged
    let nb := if x.at_ 16 8 = 0 ∧ x.at_ 24 4 = 0 then none else some (mkTime (x.at_ 16 8) (x.at_ 24 4) 0)
    s.core.Ready x → s.core.cmdMode.mayCommit = true → x.at_ 24 4 ≤ 999999999 → s.core.rd PLT_STAGE.STATE = sgPassed →
    s.core.commitTests = [] →
    Answers (.commit i) s x
      (s.core.slotOf x (okReply (leBytes 2 id ++ leBytes 1 p.queue.length ++ leBytes 1 (b2n man.isSome) ++
        leBytes 4 ((man.map manLayer).getD 0xFFFFFFFF))))
      { keys := [PLT_QUEUE.NEXT_SET_ID.key 0, PLT_QUEUE.SETS.key 0, PLT_QUEUE.LAYERS.key 0, PLT_QUEUE.HEAD_SET_ID.key 0,
          SEQ_LAYER_STATE.QUEUE_DEPTH.key 0] ++ discardKeys }
      { p with
        staged := [], check := [], freeNumber := p.freeNumber && man.isNone,
        queue := p.queue ++ [⟨id, p.staged, nb, s.core.ticks + commitLead, man⟩] }
      (fun t => t.rd PLT_STAGE.STATE = sgEmpty ∧ t.rd PLT_STAGE.OBJECTS = 0 ∧
        t.rd PLT_QUEUE.NEXT_SET_ID = (if id = 65535 then 1 else (id + 1) % 65536))) ∧
  (∀ (s : State) (i : CmdImage),
    let x := cmdOf i 0x2003
    s.core.Ready x → s.core.cmdMode.mayStage = true → s.core.setQuiet →
    Answers (.discard i) s x (s.core.slotOf x okReply) { keys := discardKeys }
      { s.core.pilot with staged := [], check := [] }
      (fun t => t.rd PLT_STAGE.STATE = sgEmpty ∧ t.rd PLT_STAGE.OBJECTS = 0)) ∧
  (∀ (s : State) (l : LongCmd), s.core.held domMEM = false →
    s.core.pilot.long.find? (fun y => y.kind == .stageCopy) = some l → l.cmd.mailbox < 8 → l.cmd.master < 3 →
    Acts (.stageCopyDone none) s (fun t => (t.mbox l.cmd.master l.cmd.mailbox).last = some (l.cmd.seq, l.cmd.op, l.cmd.epoch) ∧
      t.pilot.long.length < s.core.pilot.long.length)) ∧
  (∀ (s : State) (partner : Option (BitVec 32)),
    let r := s.core.begin.checkAll s.dram none
    let differs := match partner with
      | some v => s.core.inPair && v.toNat != s.core.mirrorCrc s.dram
      | none => false
    let l := r.1 ++ (if differs then [⟨0x62, 0xFF, 0, 0, 0⟩] else [])
    s.core.held domMEM = false → s.core.checkRuns = true →
    Acts (.checkDone none partner) s (fun t => t.pilot.check = l ∧
      t.rd PLT_STAGE.STATE = (if l.isEmpty then sgPassed else sgFailed) ∧ t.rd PLT_STAGE.FAILS = min l.length (2 ^ 32 - 1) ∧
      t.rd PLT_STAGE.TILES_DONE = min r.2 (2 ^ 32 - 1) ∧ t.anyLong (fun k => k == .check) = false)) ∧
  (∀ (s : State) (i : CmdImage),
    let x := cmdOf i 0x2003
    s.core.Ready x → s.core.cmdMode.mayStage = true → Acts (.discard i) s (fun t => t.pilot.staged = [] ∧
      t.rd PLT_STAGE.STATE = sgEmpty ∧ t.rd PLT_STAGE.OBJECTS = 0 ∧
      (t.mbox x.master x.mailbox).respSlot = s.core.slotOf x okReply))

/-- R206, R233, R237, R238, R240, R247: the commands of the mode controller. STOP asks for SAFE in any mode; HOLD asks for it
from EXPOSE, SLACK and HOLD, is recorded in SAFE (R16) and is a no-op elsewhere; ABORT and DISARM act by mode, waiting for the
Slack's end in SLACK; ARM, RESUME, SAFE_CLEAR and the service commands are taken in their mode when their conditions hold, and
refused with BAD_MODE, or with the condition that fails, elsewhere. -/
def Obligations.ModeCommandsAskOrRefuse : Prop :=
  (∀ (s : State) (i : CmdImage),
    let x := cmdOf i 0x3001
    s.core.Ready x → 
    Answers (.stop i) s x (s.core.slotOf x okReply) { } (s.core.asks .safe)
      (fun _ => True)) ∧
  (∀ (s : State) (i : CmdImage),
    let x := cmdOf i 0x3002
    let m := s.core.cmdMode
    s.core.Ready x → (m = .expose ∨ m = .slack ∨ m = .hold) → 
    Answers (.hold i) s x (s.core.slotOf x okReply) { } (s.core.asks (.hold x.immediate))
      (fun _ => True)) ∧
  (∀ (s : State) (i : CmdImage),
    let x := cmdOf i 0x3002
    let m := s.core.cmdMode
    s.core.Ready x → m ≠ .expose → m ≠ .slack → m ≠ .hold → 
    Answers (.hold i) s x (s.core.slotOf x okReply) { }
      (if m = .safe then s.core.asks (.hold x.immediate) else s.core.pilot) (fun _ => True)) ∧
  (∀ (s : State) (i : CmdImage),
    let x := cmdOf i 0x3003
    let m := s.core.cmdMode
    s.core.Ready x → (m = .armed ∨ m = .hold) → 
    Answers (.abort i) s x (s.core.slotOf x okReply) { } (s.core.asks (.abort s.core.pilot.queue.length))
      (fun _ => True)) ∧
  (∀ (s : State) (i : CmdImage),
    let x := cmdOf i 0x3003
    let m := s.core.cmdMode
    s.core.Ready x → m = .slack → 
    Waits (.abort i) s x .leaveSlack { } s.core.pilot (fun _ => True)) ∧
  (∀ (s : State) (i : CmdImage) (f l : CommSet),
    let x := cmdOf i 0x3003
    let p := s.core.pilot
    s.core.Ready x → s.core.cmdMode = .standby → p.queue.head? = some f → p.queue.getLast? = some l →
    Answers (.abort i) s x (s.core.slotOf x okReply)
      { keys := [PLT_QUEUE.SETS.key 0, PLT_QUEUE.LAYERS.key 0, PLT_QUEUE.HEAD_SET_ID.key 0,
            SEQ_LAYER_STATE.QUEUE_DEPTH.key 0] ++
          (p.queue.flatMap (fun q => chartChans q.objs)).flatMap (fun ch =>
            [CHT_BANK.INACTIVE_STATE.key ch, CHT_BANK.PENDING_LAYER.key ch]) ++
          (List.range 64).map VST_STATE.RESIDENT.key ++
          (List.range 5).flatMap (fun g => [CAL_STATE.STATE.key g, CAL_STATE.PENDING.key g]),
        parts := [.events, .hbr, .seq] }
      { p with queue := [], nodePlan := none, freeNumber := true }
      (fun t => t.rd PLT_QUEUE.SETS = 0 ∧ t.rd PLT_QUEUE.LAYERS = 0 ∧ t.rd PLT_QUEUE.HEAD_SET_ID = 0 ∧
        t.rd SEQ_LAYER_STATE.QUEUE_DEPTH = 0 ∧
        t.hbr.cal.reqs = s.core.hbr.cal.reqs.filter (fun r => !r.deferred) ∧
        t.events = s.core.events ++ [⟨evQueueDiscarded, 0, none, leBytes 2 f.id ++ leBytes 2 l.id, s.core.ticks⟩])) ∧
  (∀ (s : State) (i : CmdImage),
    let x := cmdOf i 0x3003
    s.core.Ready x → s.core.cmdMode = .standby → s.core.pilot.queue = [] →
    Answers (.abort i) s x (s.core.slotOf x okReply)
      { keys := (List.range 5).flatMap (fun g => [CAL_STATE.STATE.key g, CAL_STATE.PENDING.key g]), parts := [.hbr] }
      { s.core.pilot with freeNumber := true }
      (fun t => t.hbr.cal.reqs = s.core.hbr.cal.reqs.filter (fun r => !r.deferred))) ∧
  (∀ (s : State) (i : CmdImage),
    let x := cmdOf i 0x3003
    let m := s.core.cmdMode
    s.core.Ready x → m ≠ .standby → m ≠ .armed → m ≠ .hold → m ≠ .slack → 
    Answers (.abort i) s x (s.core.slotOf x (errReply stBadMode)) { } s.core.pilot
      (fun _ => True)) ∧
  (∀ (s : State) (i : CmdImage),
    let x := cmdOf i 0x3004
    let m := s.core.cmdMode
    s.core.Ready x → m = .standby → s.core.armFails = none → 
    Answers (.arm i) s x (s.core.slotOf x okReply) { } (s.core.asks .arm)
      (fun _ => True)) ∧
  (∀ (s : State) (i : CmdImage) (n : Nat),
    let x := cmdOf i 0x3004
    let m := s.core.cmdMode
    s.core.Ready x → m = .standby → s.core.armFails = some n → 
    Answers (.arm i) s x (s.core.slotOf x (errReply stBadMode n)) { } s.core.pilot
      (fun _ => True)) ∧
  (∀ (s : State) (i : CmdImage),
    let x := cmdOf i 0x3004
    let m := s.core.cmdMode
    s.core.Ready x → m ≠ .standby → 
    Answers (.arm i) s x (s.core.slotOf x (errReply stBadMode)) { } s.core.pilot
      (fun _ => True)) ∧
  (∀ (s : State) (i : CmdImage),
    let x := cmdOf i 0x3005
    let m := s.core.cmdMode
    s.core.Ready x → m = .standby → 
    Answers (.disarm i) s x (s.core.slotOf x okReply) { } s.core.pilot
      (fun _ => True)) ∧
  (∀ (s : State) (i : CmdImage),
    let x := cmdOf i 0x3005
    let m := s.core.cmdMode
    s.core.Ready x → m = .armed → 
    Answers (.disarm i) s x (s.core.slotOf x okReply) { } { s.core.pilot with disarmDue := some s.core.ticks }
      (fun _ => True)) ∧
  (∀ (s : State) (i : CmdImage),
    let x := cmdOf i 0x3005
    let m := s.core.cmdMode
    s.core.Ready x → m = .slack → 
    Waits (.disarm i) s x .leaveSlack { } s.core.pilot (fun _ => True)) ∧
  (∀ (s : State) (i : CmdImage),
    let x := cmdOf i 0x3005
    let m := s.core.cmdMode
    s.core.Ready x → m ≠ .standby → m ≠ .armed → m ≠ .slack → 
    Answers (.disarm i) s x (s.core.slotOf x (errReply stBadMode)) { } s.core.pilot
      (fun _ => True)) ∧
  (∀ (s : State) (i : CmdImage),
    let x := cmdOf i 0x3006
    let m := s.core.cmdMode
    s.core.Ready x → m = .hold → s.core.inCascade = false → s.core.armFirst3 = none → 
    Waits (.resume i) s x .resume { } s.core.pilot (fun _ => True)) ∧
  (∀ (s : State) (i : CmdImage),
    let x := cmdOf i 0x3006
    let m := s.core.cmdMode
    s.core.Ready x → m = .hold → s.core.inCascade = true → s.core.isLead = true → s.core.membersHeld = true → s.core.armFirst3 = none → 
    Waits (.resume i) s x .resume { } s.core.pilot (fun _ => True)) ∧
  (∀ (s : State) (i : CmdImage) (n : Nat),
    let x := cmdOf i 0x3006
    let m := s.core.cmdMode
    s.core.Ready x → m = .hold → (s.core.inCascade = false ∨ s.core.isLead = true) → s.core.armFirst3 = some n → 
    Answers (.resume i) s x (s.core.slotOf x (errReply stBadMode n)) { } s.core.pilot
      (fun _ => True)) ∧
  (∀ (s : State) (i : CmdImage),
    let x := cmdOf i 0x3006
    let m := s.core.cmdMode
    s.core.Ready x → m ≠ .hold → 
    Answers (.resume i) s x (s.core.slotOf x (errReply stBadMode)) { } s.core.pilot
      (fun _ => True)) ∧
  (∀ (s : State) (i : CmdImage),
    let x := cmdOf i 0x3007
    let m := s.core.cmdMode
    s.core.Ready x → m = .safe → s.core.clearOk = true → 
    Answers (.safeClear i) s x (s.core.slotOf x okReply) { } (s.core.asks .clear)
      (fun _ => True)) ∧
  (∀ (s : State) (i : CmdImage),
    let x := cmdOf i 0x3007
    let m := s.core.cmdMode
    s.core.Ready x → ¬(m = .safe ∧ s.core.clearOk = true) → 
    Answers (.safeClear i) s x (s.core.slotOf x (errReply stBadMode)) { } s.core.pilot
      (fun _ => True)) ∧
  (∀ (s : State) (i : CmdImage),
    let x := cmdOf i 0x3008
    let m := s.core.cmdMode
    s.core.Ready x → m = .standby → s.core.layerActive = false → 
    Answers (.serviceEnter i) s x (s.core.slotOf x okReply) { } (s.core.asks .serviceEnter)
      (fun _ => True)) ∧
  (∀ (s : State) (i : CmdImage),
    let x := cmdOf i 0x3008
    let m := s.core.cmdMode
    s.core.Ready x → ¬(m = .standby ∧ s.core.layerActive = false) → 
    Answers (.serviceEnter i) s x (s.core.slotOf x (errReply stBadMode)) { } s.core.pilot
      (fun _ => True)) ∧
  (∀ (s : State) (i : CmdImage),
    let x := cmdOf i 0x3009
    let m := s.core.cmdMode
    s.core.Ready x → m = .service → 
    Answers (.serviceExit i) s x (s.core.slotOf x okReply) { } (s.core.asks .serviceExit)
      (fun _ => True)) ∧
  (∀ (s : State) (i : CmdImage),
    let x := cmdOf i 0x3009
    let m := s.core.cmdMode
    s.core.Ready x → m ≠ .service → 
    Answers (.serviceExit i) s x (s.core.slotOf x (errReply stBadMode)) { } s.core.pilot
      (fun _ => True))

/-- R262, R290 to R297, R311: commands of the bed axes and reference captures. MOT_MOVE latches its target for the next tick
boundary, or is refused with LIMIT and counted; MOT_HALT stops a moving axis and keeps its target where KEEP says so;
MOT_CONTINUE sends an axis on towards the target it kept; MOT_SET_POS sets the position of an idle axis; MOT_CLEAR ends a fault
whose cause has gone; and a capture begins on its context. -/
def Obligations.AxisAndCaptureCommandsAct : Prop :=
  (∀ (s : State) (i : CmdImage) (n : Fin 8),
    let x := cmdOf i 0x5001
    let a := s.core.axis n
    let base : Int := if x.at_ 24 1 = 0 then 0 else (a.target.orElse (fun _ => a.kept)).getD (s.core.posCmd n)
    let g := (s.core.steps32 (base + x.atI 20 4)).1
    s.core.Ready x → s.core.cmdMode.mayMove = true → x.at_ 16 1 = n → s.core.axisUp n = true → x.at_ 17 3 = 0 →
    x.at_ 24 1 ≤ 1 → x.at_ 25 3 = 0 → s.core.recoatHolds n = false → s.core.beyondLimit n g = false →
    Answers (.motMove i) s x (s.core.slotOf x okReply)
      { keys := if a.latch.isSome then [MOT_STAT.MOT_OVERWRITES.key n] else [], parts := [.mot, .fresh] }
      s.core.pilot (fun t => t.axis n = { a with latch := some (g, s.core.ticks + 1) })) ∧
  (∀ (s : State) (i : CmdImage) (n : Fin 8),
    let x := cmdOf i 0x5001
    let a := s.core.axis n
    let base : Int := if x.at_ 24 1 = 0 then 0 else (a.target.orElse (fun _ => a.kept)).getD (s.core.posCmd n)
    let g := (s.core.steps32 (base + x.atI 20 4)).1
    s.core.Ready x → s.core.cmdMode.mayMove = true → x.at_ 16 1 = n → s.core.axisUp n = true → x.at_ 17 3 = 0 →
    x.at_ 24 1 ≤ 1 → x.at_ 25 3 = 0 → s.core.recoatHolds n = false → s.core.beyondLimit n g = true →
    Answers (.motMove i) s x (s.core.slotOf x (errReply stLimit))
      { keys := [MOT_STAT.LIMIT_REFUSED.key n], parts := [.fresh] }
      s.core.pilot (fun t => Counts s.core t MOT_STAT.LIMIT_REFUSED n)) ∧
  (∀ (s : State) (i : CmdImage) (n : Fin 8) (g : Int),
    let x := cmdOf i 0x5002
    let a := s.core.axis n
    s.core.Ready x → x.at_ 16 1 = n → x.at_ 17 1 ≤ 1 → x.at_ 18 2 = 0 → s.core.recoatHolds n = false →
    s.core.axState n = axMoving → a.latch = none → a.target = some g →
    Answers (.motHalt i) s x (s.core.slotOf x okReply)
      { keys := [MOT_STATE.STATE.key n, MOT_STATE.TARGET.key n, MOT_STATE.REMAIN.key n], parts := [.mot] } s.core.pilot
      (fun t => t.axState n = axStopping ∧ t.axis n = { a with
        target := none, stopping := true, kept := if x.at_ 17 1 = 1 then some g else none })) ∧
  (∀ (s : State) (i : CmdImage) (n : Fin 8) (g : Int × Nat),
    let x := cmdOf i 0x5002
    let a := s.core.axis n
    s.core.Ready x → x.at_ 16 1 = n → x.at_ 17 1 ≤ 1 → x.at_ 18 2 = 0 → s.core.recoatHolds n = false →
    s.core.axState n ∈ [axIdle, axMoving, axStopping, axKept] → a.latch = some g →
    Answers (.motHalt i) s x (s.core.slotOf x okReply)
      { keys := [MOT_STATE.STATE.key n, MOT_STATE.TARGET.key n, MOT_STATE.REMAIN.key n], parts := [.mot] } s.core.pilot
      (fun t => t.axis n = { a with
        target := none, latch := none, stopping := a.stopping || decide (s.core.axState n = axMoving),
        kept := if x.at_ 17 1 = 1 then some g.1 else none })) ∧
  (∀ (s : State) (i : CmdImage) (n : Fin 8),
    let x := cmdOf i 0x5002
    let a := s.core.axis n
    s.core.Ready x → x.at_ 16 1 = n → x.at_ 17 1 ≤ 1 → x.at_ 18 2 = 0 → s.core.recoatHolds n = false →
    s.core.axState n ∈ [axIdle, axKept] → a.latch = none →
    Answers (.motHalt i) s x (s.core.slotOf x okReply)
      { keys := [MOT_STATE.STATE.key n, MOT_STATE.TARGET.key n, MOT_STATE.REMAIN.key n], parts := [.mot] } s.core.pilot
      (fun t => t.axis n = { a with kept := if x.at_ 17 1 = 1 then a.kept else none } ∧
        t.axState n = if x.at_ 17 1 = 1 ∧ a.kept.isSome then axKept else axIdle)) ∧
  (∀ (s : State) (i : CmdImage) (n : Fin 8),
    let x := cmdOf i 0x5002
    s.core.Ready x → x.at_ 16 1 = n → x.at_ 17 1 ≤ 1 → x.at_ 18 2 = 0 → s.core.recoatHolds n = false →
    s.core.axState n ∈ [axDisabled, axFault] →
    Answers (.motHalt i) s x (s.core.slotOf x okReply)
      { } s.core.pilot (fun _ => True)) ∧
  (∀ (s : State) (i : CmdImage) (n : Fin 8) (g : Int),
    let x := cmdOf i 0x5003
    s.core.Ready x → s.core.cmdMode.mayMove = true → x.at_ 16 1 = n → (s.core.axis n).kept = some g →
    s.core.axisUp n = true → x.at_ 17 3 = 0 → s.core.recoatHolds n = false → s.core.beyondLimit n g = false →
    Answers (.motContinue i) s x (s.core.slotOf x okReply)
      { keys := [MOT_STATE.STATE.key n, MOT_STATE.TARGET.key n, MOT_STATE.REMAIN.key n], parts := [.mot] } s.core.pilot
      (fun t => t.axState n = axMoving ∧
        t.axis n = { s.core.axis n with kept := none, target := some g, stopping := false } ∧
        t.rd MOT_STATE.TARGET n = ofSigned 32 g)) ∧
  (∀ (s : State) (i : CmdImage) (n : Fin 8),
    let x := cmdOf i 0x5004
    let g := x.atI 20 4
    s.core.Ready x → x.at_ 16 1 = n → s.core.axState n = axIdle → x.at_ 17 3 = 0 → s.core.recoatHolds n = false →
    s.core.beyondLimit n g = false →
    Answers (.motSetPos i) s x (s.core.slotOf x okReply)
      { keys := [MOT_STATE.POS_CMD.key n, MOT_STATE.DEV.key n, MOT_STATE.TARGET.key n, MOT_STATE.REMAIN.key n],
        parts := [.mot] }
      s.core.pilot
      (fun t => t.posCmd n = g ∧ t.rd MOT_STATE.DEV n = 0 ∧ (t.axis n).p = F64.ofInt g ∧ (t.axis n).devRun = 0)) ∧
  (∀ (s : State) (i : CmdImage) (n : Fin 8),
    let x := cmdOf i 0x5005
    let src := s.core.rd MOT_CONFIG.ENC_SRC n
    let g := (s.core.steps32 (scaleRound (posDiff (s.core.inputPos src) (s.core.axis n).e0)
      (s.core.rd MOT_CONFIG.ENC_DEN n) (s.core.rd MOT_CONFIG.ENC_NUM n))).1
    s.core.Ready x → x.at_ 16 1 = n → s.core.axState n = axFault → s.core.faultGone n = true → x.at_ 17 3 = 0 →
    s.core.recoatHolds n = false →
    Answers (.motClear i) s x (s.core.slotOf x okReply)
      { keys := (if src < 12 then [MOT_STATE.POS_CMD.key n] else []) ++ [MOT_STATE.DEV.key n, MOT_STATE.FAULT_CAUSE.key n,
          MOT_STATE.STATE.key n, MOT_STATE.TARGET.key n, MOT_STATE.REMAIN.key n],
        parts := [.mot, .fresh] }
      s.core.pilot
      (fun t => t.axState n = (if s.core.rd MOT_CONFIG.ENABLE n = 0 then axDisabled
          else if (s.core.axis n).kept.isSome then axKept else axIdle) ∧
        t.rd MOT_STATE.FAULT_CAUSE n = 0 ∧ t.rd MOT_STATE.DEV n = 0 ∧ (t.axis n).devRun = 0 ∧
        t.posCmd n = (if src < 12 then g else s.core.posCmd n) ∧
        (t.axis n).p = if src < 12 then F64.ofInt g else (s.core.axis n).p)) ∧
  (∀ (s : State) (i : CmdImage) (flat : Bool),
    let x := cmdOf i (if flat then 0x6002 else 0x6001)
    let k := x.inst
    let st := if flat then IPL_CTX_STATE.FLAT_STATE else IPL_CTX_STATE.DARK_STATE
    s.core.Ready x → s.core.cmdMode ∈ [.standby, .armed, .slack, .hold, .service] → s.core.rd IPL_CTX.ENABLE k ≠ 0 →
    s.core.dramOk (x.at_ 16 8) (4 * (s.core.rd IPL_CTX.WIDTH k * s.core.rd IPL_CTX.HEIGHT k)) = true →
    1 ≤ x.at_ 24 2 → x.at_ 24 2 ≤ 256 → x.at_ 26 6 = 0 → (s.core.ictx k).capture = none →
    Waits (if flat then .iplCaptureFlat i else .iplCaptureDark i) s x (.capture k)
      { keys := [st.key k], parts := [.img] } s.core.pilot
      (fun t => t.rd st k = refCapturing ∧ t.ictx k = { s.core.ictx k with
        capture := some ⟨flat, x.at_ 24 2, x.at_ 16 8, 0, 0,
          if (s.core.ictx k).taken = 0 then none else some (s.core.rd IPL_CTX_STATE.NR_SIG k), s.core.rd st k,
          (s.core.ictx k).taken⟩ }))

/-- R381, R382, R401, R402, R405, R408, R409: commands that the harbour serves. CAL_RUN is deferred in a layer's modes and
waits in STANDBY; UPD_STAGE erases the other slot for an image that verifies and refuses one that does not; UPD_ACTIVATE and
UPD_CONFIRM move the boot selection; CON_REAUTH starts an authentication, CON_OVERRIDE and CON_ISSUER act in SERVICE, and
HBR_TRIM_WRITE replaces part 9. Clauses with `Acts` say that a command completes under its rule's own conditions alone. -/
def Obligations.HarbourCommandsAct : Prop :=
  (∀ (s : State) (i : CmdImage),
    let x := cmdOf i 0x7001
    let m := s.core.cmdMode
    let cal := s.core.hbr.cal
    let deadline := s.core.ticks + (if x.at_ 18 2 = 0 then 60 else x.at_ 18 2) * 1000 * ticksPerMs
    s.core.Ready x → 1 ≤ x.at_ 16 1 → x.at_ 16 1 < 32 → x.at_ 17 1 = 0 → x.at_ 18 2 ≤ 3600 → cal.reqs.length < 16 →
    x.urgent = false → (m = .armed ∨ m = .expose ∨ m = .hold) →
    Answers (.calRun i) s x (s.core.slotOf x ⟨stDeferred, 0, calPayload cal.nextId 0⟩)
      { keys := calKeys, parts := [.hbr] } s.core.pilot
      (fun t => t.hbr.cal = { cal with
        reqs := cal.reqs ++ [⟨cal.nextId, x.at_ 16 1, x.at_ 16 1, 0, deadline, true, false, false, false⟩],
        nextId := nextReqId cal.nextId, holdFailed := cal.holdFailed && cal.reqs.any CalReq.asksHold })) ∧
  (∀ (s : State) (i : CmdImage),
    let x := cmdOf i 0x7001
    let m := s.core.cmdMode
    let cal := s.core.hbr.cal
    let deadline := s.core.ticks + (if x.at_ 18 2 = 0 then 60 else x.at_ 18 2) * 1000 * ticksPerMs
    s.core.Ready x → 1 ≤ x.at_ 16 1 → x.at_ 16 1 < 32 → x.at_ 17 1 = 0 → x.at_ 18 2 ≤ 3600 → cal.reqs.length < 16 →
    x.urgent = false → m = .standby → s.core.layerActive = false →
    (cal.run.isSome = true ∨ s.core.mode = .standby ∧ ∀ g : Fin 5, s.core.isDue g = false) →
    Waits (.calRun i) s x (.cal cal.nextId) { keys := calKeys, parts := [.hbr] } (s.core.asks .calibrate)
      (fun t => t.hbr.cal = { cal with
        reqs := cal.reqs ++ [⟨cal.nextId, x.at_ 16 1, x.at_ 16 1, 0, deadline, false, false, false, true⟩],
        nextId := nextReqId cal.nextId, holdFailed := cal.holdFailed && cal.reqs.any CalReq.asksHold })) ∧
  (∀ (s : State) (i : CmdImage),
    let x := cmdOf i 0x7001
    let m := s.core.cmdMode
    let cal := s.core.hbr.cal
    let deadline := s.core.ticks + (if x.at_ 18 2 = 0 then 60 else x.at_ 18 2) * 1000 * ticksPerMs
    s.core.Ready x → 1 ≤ x.at_ 16 1 → x.at_ 16 1 < 32 → x.at_ 17 1 = 0 → x.at_ 18 2 ≤ 3600 → cal.reqs.length < 16 →
    x.urgent = true → (m = .expose ∨ m = .hold) → cal.run.isSome = true →
    Waits (.calRun i) s x (.cal cal.nextId) { keys := calKeys, parts := [.hbr] }
      (if m = .expose then s.core.asks .urgent else s.core.pilot)
      (fun t => t.hbr.cal = { cal with
        reqs := cal.reqs ++ [⟨cal.nextId, x.at_ 16 1, x.at_ 16 1, 0, deadline, false, true, decide (m = .expose), true⟩],
        nextId := nextReqId cal.nextId, holdFailed := cal.holdFailed && cal.reqs.any CalReq.asksHold })) ∧
  (∀ (s : State) (i : CmdImage),
    let x := cmdOf i 0x7010
    let a := x.at_ 16 8
    let rd := fun b n => readBytesUnder s.dram [] (a + b) n
    let slot := 1 - s.core.updState.active
    s.core.Ready x → s.core.anyLong (fun k => k == .updStage) = false → s.core.dramOk a 4096 = true →
    s.core.dramOk a (4096 + fieldLE (rd 0 4096) 12 4) = true → s.core.imageOk rd = true →
    Waits (.updStage i) s x .updStage { keys := UPD_STATE.STAGED_OK.key 0 :: rawKeys, parts := [.drc, .hbr] }
      s.core.pilot
      (fun t => t.rd UPD_STATE.STAGED_OK = 0 ∧ t.hbr = { s.core.hbr with
        staging := some (slot, a), flash := flashErase s.core.hbr.flash (slotAddr slot) slotSize })) ∧
  (∀ (s : State) (i : CmdImage),
    let x := cmdOf i 0x7010
    let a := x.at_ 16 8
    let rd := fun b n => readBytesUnder s.dram [] (a + b) n
    s.core.Ready x → s.core.anyLong (fun k => k == .updStage) = false → s.core.dramOk a 4096 = true →
    s.core.dramOk a (4096 + fieldLE (rd 0 4096) 12 4) = true → s.core.imageOk rd = false →
    Answers (.updStage i) s x (s.core.slotOf x (errReply stSigFailed)) { keys := rawKeys, parts := [.drc] }
      s.core.pilot (fun _ => True)) ∧
  (∀ (s : State) (i : CmdImage),
    let x := cmdOf i 0x7011
    let u := s.core.updState
    s.core.Ready x → s.core.cmdMode.mayUpdate = true → s.core.rd UPD_STATE.STAGED_OK ≠ 0 →
    Answers (.updActivate i) s x (s.core.slotOf x okReply)
      { keys := [UPD_STATE.ACTIVE.key 0, UPD_STATE.TRIAL.key 0], parts := [.hbr] } s.core.pilot
      (fun t => t.hbr = (s.core.writePart 10 0 0 u.boots 0 (leBytes 1 u.active ++ leBytes 1 (1 - u.active) ++
        leBytes 1 0 ++ zeros 1 ++ leBytes 4 u.svn) true).hbr)) ∧
  (∀ (s : State) (i : CmdImage),
    let x := cmdOf i 0x7011
    s.core.Ready x → s.core.cmdMode.mayUpdate = true → s.core.rd UPD_STATE.STAGED_OK = 0 →
    Answers (.updActivate i) s x (s.core.slotOf x (errReply stBadMode)) { } s.core.pilot (fun _ => True)) ∧
  (∀ (s : State) (i : CmdImage),
    let x := cmdOf i 0x7012
    let u := s.core.updState
    let svn := max s.core.hbr.otp.svn (s.core.rd UPD_STATE.RUN_SVN)
    s.core.Ready x → s.core.cmdMode.mayUpdate = true → u.trial < 2 → u.tried = 1 →
    s.core.rd UPD_STATE.RUNNING = u.trial →
    Answers (.updConfirm i) s x (s.core.slotOf x (okReply (leBytes 1 svn)))
      { keys := [UPD_STATE.ACTIVE.key 0, UPD_STATE.TRIAL.key 0, UPD_STATE.STAGED_OK.key 0, UPD_STATE.SVN_COUNTER.key 0],
        parts := [.hbr] }
      s.core.pilot
      (fun t => t.hbr.otp = { s.core.hbr.otp with svn := svn } ∧
        t.hbr.flash = (s.core.writePart 10 0 0 u.boots 0 (leBytes 1 u.trial ++ leBytes 1 0xFF ++ leBytes 1 0 ++ zeros 1 ++
          leBytes 4 (s.core.rd UPD_STATE.RUN_SVN)) true).hbr.flash)) ∧
  (∀ (s : State) (i : CmdImage) (k : Fin 68),
    let x := cmdOf i 0x7020
    let pl := s.core.cassPlace k
    let st := s.core.con k CON_WINDOW.STATE
    s.core.Ready x → cassOf (x.at_ 16 1) (x.at_ 17 1) = some k.val → x.at_ 18 2 = 0 →
    s.core.anyLong (fun l => l == .reauth k) = false → s.core.harbourRuns = true → (s.core.cass k).step = 0 →
    s.core.cassBusy < 8 → s.core.cassQuiet k →
    Waits (.conReauth i) s x (.reauth k)
      { keys := [(conF k CON_WINDOW.STATE).key (conI k)], parts := [.hbr, .ports],
        outs := if s.core.isUp pl.1 && !s.core.muted then
          [s.core.ctlFrame pl.1 0x06 0 pl.2.1 (Kv.get 0 (s.core.port pl.1).txCtl pl.2.1) s.core.hbr.nextReq
            (leBytes 1 0 ++ leBytes 1 pl.2.2 ++ leBytes 2 0)] else [] }
      s.core.pilot
      (fun t => (t.cass k).step = 1 ∧ (t.cass k).reqId = s.core.hbr.nextReq ∧ (t.cass k).authDue = false ∧
        t.con k CON_WINDOW.STATE = (if st = csOk ∨ st = csExhausted then st else csPending))) ∧
  (∀ (s : State) (i : CmdImage) (k : Fin 68),
    let x := cmdOf i 0x7021
    s.core.Ready x → s.core.cmdMode = .service → cassOf (x.at_ 16 1) (x.at_ 17 1) = some k.val →
    s.core.con k CON_WINDOW.STATE = csExhausted → x.at_ 18 1 ≤ 1 → x.at_ 19 1 = 0 →
    Answers (.conOverride i) s x (s.core.slotOf x okReply) { keys := [(conF k CON_WINDOW.OVERRIDE).key (conI k)] }
      s.core.pilot (fun t => t.con k CON_WINDOW.OVERRIDE = x.at_ 18 1)) ∧
  (∀ (s : State) (i : CmdImage),
    let x := cmdOf i 0x7022
    let n := x.at_ 16 1
    let old := s.core.hbr.otp.issuerKeys.getD n KeySlot.init
    s.core.Ready x → s.core.cmdMode = .service → n < s.core.hbr.otp.issuerKeys.length → x.at_ 17 1 ≤ 1 →
    x.at_ 18 2 = 0 → (x.at_ 17 1 = 0 → old.hash = none) →
    Answers (.conIssuer i) s x (s.core.slotOf x okReply) { parts := [.hbr] } s.core.pilot
      (fun t => t.hbr.otp.issuerKeys = setAt KeySlot.init s.core.hbr.otp.issuerKeys n
          (if x.at_ 17 1 = 0 then { old with hash := some (beNat (slice x.payload 4 32)) }
            else { old with revoked := true }) ∧
        t.hbr = { s.core.hbr with otp := { s.core.hbr.otp with issuerKeys := t.hbr.otp.issuerKeys } })) ∧
  (∀ (s : State) (i : CmdImage),
    let x := cmdOf i 0x7030
    s.core.Ready x → s.core.cmdMode = .service → x.at_ 16 1 ≤ 28 → x.at_ 17 3 = 0 →
    (∀ k : Fin 28, k.val < x.at_ 16 1 → x.at_ (22 + 8 * k) 2 = 0) →
    Answers (.hbrTrimWrite i) s x (s.core.slotOf x okReply) { parts := [.hbr] } s.core.pilot
      (fun t => t.hbr = (s.core.writePart 9 (timeSec s.core.now) (timeNs s.core.now) 0 0
        (slice x.payload 4 (8 * x.at_ 16 1)) true).hbr)) ∧
  (∀ (s : State) (i : CmdImage),
    let x := cmdOf i 0x7001
    let m := s.core.cmdMode
    s.core.Ready x → 1 ≤ x.at_ 16 1 → x.at_ 16 1 < 32 → x.at_ 17 1 = 0 → x.at_ 18 2 ≤ 3600 →
    s.core.hbr.cal.reqs.length < 16 → (m = .standby ∨ m = .service ∨ m = .slack) →
    (m = .standby → s.core.layerActive = false) →
    Acts (.calRun i) s (fun t => t.hbr.cal.nextId = nextReqId s.core.hbr.cal.nextId)) ∧
  (∀ (s : State) (i : CmdImage) (k : Fin 68),
    let x := cmdOf i 0x7020
    s.core.Ready x → cassOf (x.at_ 16 1) (x.at_ 17 1) = some k.val → x.at_ 18 2 = 0 →
    s.core.anyLong (fun l => l == .reauth k) = false →
    Acts (.conReauth i) s (fun t => t.anyLong (fun l => l == .reauth k) = true))

/-- R327, R342, R345, R418, R419, R427, R433, R445: commands on the device, the logbook, machine time and the pair. DEV_RESET
is counted down from STANDBY, SERVICE and SAFE; BST_SHUTDOWN waits in STANDBY; BST_FUSE_REPAIR blows the soft map; REC_CLEAR
waits while the writer is busy; REC_SUMMARY_READ answers from the summary in flash; TIM_SET steps machine time by whole steps
and TIM_RESTEP arms a step, each beginning an acquisition; TWN_HANDOVER plans an exchange of roles. Clauses with `Acts` say
that a command completes under its rule's own conditions alone. -/
def Obligations.DeviceAndTimeCommandsAct : Prop :=
  (∀ (s : State) (i : CmdImage),
    let x := cmdOf i 0x7040
    let m := s.core.cmdMode
    s.core.Ready x → (m = .standby ∨ m = .service ∨ m = .safe) →
    Answers (.devReset i) s x (s.core.slotOf x okReply) { } { s.core.pilot with resetDue := some 2 }
      (fun _ => True)) ∧
  (∀ (s : State) (i : CmdImage),
    let x := cmdOf i 0x7040
    let m := s.core.cmdMode
    s.core.Ready x → m ≠ .standby → m ≠ .service → m ≠ .safe →
    Answers (.devReset i) s x (s.core.slotOf x (errReply stBadMode)) { } s.core.pilot (fun _ => True)) ∧
  (∀ (s : State) (i : CmdImage),
    let x := cmdOf i 0x7050
    s.core.Ready x → s.core.cmdMode = .standby → s.core.layerActive = false → x.at_ 16 1 ≤ 3 → x.at_ 17 3 = 0 →
    Waits (.bstShutdown i) s x (.shutdown (bitOf (x.at_ 16 1) 0) (bitOf (x.at_ 16 1) 1)) { } s.core.pilot
      (fun _ => True)) ∧
  (∀ (s : State) (i : CmdImage),
    let x := cmdOf i 0x7051
    let l := s.core.softMap
    let r := s.core.hbr.otp.repairs ++ l
    s.core.Ready x → s.core.cmdMode = .service → r.length ≤ 128 →
    Answers (.bstFuseRepair i) s x (s.core.slotOf x (okReply (leBytes 2 l.length ++ leBytes 2 (128 - r.length))))
      { keys := [BST_REPAIR.SOFT_ENTRIES.key 0, BST_REPAIR.FUSED.key 0, BST_REPAIR.FUSE_FREE.key 0], parts := [.hbr] }
      s.core.pilot
      (fun t => t.hbr.otp = { s.core.hbr.otp with repairs := r } ∧ t.rd BST_REPAIR.FUSED = r.length ∧
        t.rd BST_REPAIR.FUSE_FREE = 128 - r.length)) ∧
  (∀ (s : State) (i : CmdImage),
    let x := cmdOf i 0x8001
    s.core.Ready x → s.core.cmdMode.upToService = true → (s.core.logWriting = true ∨ s.core.logReady = false) →
    Waits (.recClear i) s x .recClear { parts := [.log] } s.core.pilot
      (fun t => t.log = { s.core.log with clearing := true })) ∧
  (∀ (s : State) (i : CmdImage),
    let x := cmdOf i 0x8002
    let off := x.at_ 16 2
    let n := x.at_ 18 2
    s.core.Ready x → s.core.cmdMode.upToService = true → off ≤ 4095 → 1 ≤ n → n ≤ 224 → off + n ≤ 4096 →
    Answers (.recSummaryRead i) s x
      (s.core.slotOf x (okReply (match s.core.newerCopy 0x4100000 0x4101000 4096 summaryMagic with
        | some (_, b) => slice b off n
        | none => [])))
      { } s.core.pilot (fun _ => True)) ∧
  (∀ (s : State) (i : CmdImage),
    let x := cmdOf i 0x9001
    let want := mkTime (x.at_ 16 8) (x.at_ 24 4) 0
    let d := roundStep ((want : Int) - s.core.now)
    let now := shiftTime s.core.now d
    s.core.Ready x → s.core.stepAllowed = true → s.core.effSrcNow ≠ srcLink → x.at_ 24 4 ≤ 999999999 →
    x.at_ 28 4 = 0 →
    Answers (.timSet i) s x
      (s.core.slotOf x (okReply (leBytes 4 (ofSigned 32 (roundDiv ((want : Int) - now) nsU)))))
      { keys := [TIM_STAT.STEPS.key 0, TIM_STATE.TIME_VALID.key 0, TIM_STATE.STEP_ARMED.key 0, TIM_STATE.STATE.key 0],
        parts := [.now, .tim, .events, .ports, .img, .lum, .mot],
        outs := Core.out (Core.timeSetAll { s.core.begin with now := now }) }
      s.core.pilot
      (fun t => t.now = now ∧ Counts s.core t TIM_STAT.STEPS ∧ t.rd TIM_STATE.TIME_VALID = 1 ∧
        t.rd TIM_STATE.STEP_ARMED = 1 ∧ t.img = s.core.img.stepped d ∧ t.lum = s.core.lum.stepped d ∧
        t.mot = s.core.mot.stepped d ∧
        t.rd TIM_STATE.STATE = (if s.core.rd TIM_STATE.EFF_SRC = 0 then tsFree else tsAcquiring) ∧
        t.events = s.core.events ++ [⟨evTimStepped, 0, none, nsBytes d, s.core.ticks⟩])) ∧
  (∀ (s : State) (i : CmdImage),
    let x := cmdOf i 0x9002
    s.core.Ready x → s.core.effSrcNow ≠ srcLink →
    Answers (.timRestep i) s x (s.core.slotOf x okReply)
      { keys := [TIM_STATE.STEP_ARMED.key 0, TIM_STATE.STATE.key 0], parts := [.tim] } s.core.pilot
      (fun t => t.rd TIM_STATE.STEP_ARMED = 1 ∧
        t.rd TIM_STATE.STATE = (if s.core.rd TIM_STATE.EFF_SRC = 0 then tsFree else tsAcquiring) ∧
        t.tim = { s.core.tim with
          measured := false, stepDue := none, goodRun := 0, badRun := 0, measAt := s.core.ticks })) ∧
  (∀ (s : State) (i : CmdImage),
    let x := cmdOf i 0x9002
    s.core.Ready x → s.core.effSrcNow = srcLink →
    Answers (.timRestep i) s x (s.core.slotOf x (errReply stBadMode)) { } s.core.pilot (fun _ => True)) ∧
  (∀ (s : State) (i : CmdImage),
    let x := cmdOf i 0xA001
    let elig := (s.core.role == roleActive && s.core.flag TWN_STATE.PARTNER_ELIG) ||
      (s.core.role == roleStandby && s.core.eligible)
    let good := s.core.inPair = true ∧ elig = true ∧ s.core.rd TWN_STATE.PATH_LINK ≠ 0
    s.core.Ready x → good →
    Waits (.twnHandover i) s x .handover { parts := [.twin] } s.core.pilot
      (fun t => t.twin = { s.core.twin with exchange := some (s.core.exchangeTick, s.core.nextEpoch, true) })) ∧
  (∀ (s : State) (i : CmdImage),
    let x := cmdOf i 0xA001
    let elig := (s.core.role == roleActive && s.core.flag TWN_STATE.PARTNER_ELIG) ||
      (s.core.role == roleStandby && s.core.eligible)
    let good := s.core.inPair = true ∧ elig = true ∧ s.core.rd TWN_STATE.PATH_LINK ≠ 0
    s.core.Ready x → ¬good →
    Answers (.twnHandover i) s x (s.core.slotOf x (errReply stBadMode)) { } s.core.pilot (fun _ => True)) ∧
  (∀ (s : State) (i : CmdImage),
    let x := cmdOf i 0x8001
    let l := s.core.log
    s.core.Ready x → s.core.cmdMode.upToService = true → s.core.logWriting = false → s.core.logReady = true →
    l.due = [] → l.fifo = [] → l.batchBank = none →
    Acts (.recClear i) s (fun t => t.rd REC_STATE.FULL = 0 ∧ t.rd REC_STATE.SEAL_PTR = 0 ∧ t.log.clearing = false)) ∧
  (∀ (s : State) (i : CmdImage),
    let x := cmdOf i 0x8001
    s.core.Ready x → s.core.cmdMode.upToService = true →
    Acts (.recClear i) s (fun t => t.log.clearing = true ∨ t.rd REC_STATE.FULL = 0))

/-- R51, R53, R373: a tile from DRAM to the double buffer. A fetch fills a slot of the ring with one whole tile; the head of
the ring moves into the idle half and passes or fails the tile check; a tile that failed is read again, and a second failure
posts TILE_BAD and escalates a layer in progress to HOLD; before a layer, a first tile that failed twice is read again at each
whole millisecond. Clauses with `Acts` say that a command completes under its rule's own conditions alone. -/
def Obligations.TilesComeFromDramAndAreChecked : Prop :=
  (∀ (s : State) (ns : BitVec 32) (ch layer a i : Nat),
    s.core.held domMEM = false → s.core.held domEXP = false → s.core.fetchFor = some ch →
    nextWanted (s.core.fetchPlan ch) (s.core.ch ch).fetchAt = some (layer, a, i) →
    Runs (.vstFetch ns none) s
      { keys := [VST_STATE.FETCH_MAX_NS.key ch, VST_STATE.RESIDENT.key ch] ++ rawKeys, parts := [.seq, .drc] }
      (fun t => (t.ch ch).ring = (s.core.ch ch).ring ++ [⟨layer, i, readBytesUnder s.dram [] a 4096, false⟩] ∧
        (t.ch ch).fetchAt = some (layer, i + 1) ∧
        t.rd VST_STATE.RESIDENT ch = min ((s.core.ch ch).ring.length + 1) 511 ∧
        t.rd VST_STATE.FETCH_MAX_NS ch = min (max (s.core.rd VST_STATE.FETCH_MAX_NS ch) ns.toNat) (2 ^ 32 - 1))) ∧
  (∀ (s : State) (ch : Fin 64) (corr : BitVec 16) (bad : Bool) (r : RingTile) (q : List RingTile),
    let x := s.core.ch ch
    let t0 : BufTile := ⟨r.layer, r.index, r.bytes, r.poisoned || bad, .waiting, none⟩
    s.core.held domEXP = false → s.core.held domMEM = false →
    x.idle = none → x.susp = none → x.adoptQ = [] → x.ring = r :: q → s.core.layerActive = true →
    r.layer = s.core.rd SEQ_LAYER_STATE.LAYER_NOW → x.armed = true →
    Runs (.tileCheckAtUse ch corr bad) s
      { keys := [VST_STATE.ECC_CORR.key ch, VST_STATE.RESIDENT.key ch], parts := [.seq] }
      (fun t => (t.ch ch).idle =
          some { t0 with ck := if (s.core.checkIdle ch t0).isNone then .passed else .failedOnce } ∧
        (t.ch ch).ring = q ∧ (t.ch ch).moveNext = x.moveNext + 1 ∧ t.rd VST_STATE.RESIDENT ch = min q.length 511 ∧
        t.rd VST_STATE.ECC_CORR ch = min (s.core.rd VST_STATE.ECC_CORR ch + corr.toNat) 65535)) ∧
  (∀ (s : State) (ch : Fin 64) (b : BufTile),
    let b' : BufTile := { b with bytes := readBytesUnder s.dram [] (s.core.tileAddr ch b) 4096, poisoned := false }
    s.core.held domEXP = false → s.core.held domMEM = false →
    (s.core.ch ch).idle = some b → b.ck = .failedOnce → b.adopt = none → s.core.checkIdle ch b' = none →
    Runs (.tileReread ch none) s { keys := VST_RETRY.VST_RETRY.key 0 :: rawKeys, parts := [.seq, .drc] } (fun t =>
      (t.ch ch).idle = some { b' with ck := .passed } ∧ Counts s.core t VST_RETRY.VST_RETRY)) ∧
  (∀ (s : State) (ch : Fin 64) (b : BufTile) (code : Nat),
    let b' : BufTile := { b with bytes := readBytesUnder s.dram [] (s.core.tileAddr ch b) 4096, poisoned := false }
    s.core.held domEXP = false → s.core.held domMEM = false →
    (s.core.ch ch).idle = some b → b.ck = .failedOnce → b.adopt = none → s.core.checkIdle ch b' = some code →
    Runs (.tileReread ch none) s
      { keys := VST_RETRY.VST_RETRY.key 0 :: VST_RETRY.VST_BAD.key 0 :: rawKeys, parts := [.seq, .drc, .events, .escHold] }
      (fun t => (t.ch ch).idle = some { b' with ck := .failedTwice } ∧ Counts s.core t VST_RETRY.VST_RETRY ∧
        Counts s.core t VST_RETRY.VST_BAD ∧
        t.events = s.core.events ++ [⟨evTileBad, ch, none, leBytes 4 b.layer ++ leBytes 4 b.index ++
          leBytes 4 (tileHdr b'.bytes).planSeq ++ leBytes 1 code, s.core.ticks⟩] ∧
        t.escHold = s.core.escHold ++ (if s.core.layerActive then [evTileBad] else []))) ∧
  (∀ (s : State) (ch : Fin 64) (b : BufTile),
    let b' : BufTile := { b with bytes := readBytesUnder s.dram [] (s.core.tileAddr ch b) 4096, poisoned := false }
    s.core.held domEXP = false → s.core.held domMEM = false →
    s.core.now % (1000 * usU) = 0 → s.core.layerActive = false → (s.core.ch ch).idle = some b → b.ck = .failedTwice →
    s.core.nextFirst ch b = true →
    Runs (.firstTileRecheck ch none) s { keys := rawKeys, parts := [.seq, .drc] } (fun t =>
      (t.ch ch).idle =
        some { b' with ck := if (s.core.checkIdle ch b').isNone then .passed else .failedTwice })) ∧
  (∀ (s : State) (ns : BitVec 32) (ue : Option (Fin 64 × Bool)) (ch layer a i : Nat),
    s.core.held domMEM = false → s.core.held domEXP = false → s.core.fetchFor = some ch →
    nextWanted (s.core.fetchPlan ch) (s.core.ch ch).fetchAt = some (layer, a, i) →
    Acts (.vstFetch ns ue) s (fun t => (t.ch ch).fetchAt = some (layer, i + 1) ∧
      (t.ch ch).ring.map RingTile.index = (s.core.ch ch).ring.map RingTile.index ++ [i])) ∧
  (∀ (s : State) (ch : Fin 64) (corr : BitVec 16) (bad : Bool) (a : AdoptTile) (q : List AdoptTile),
    let x := s.core.ch ch
    let t0 : BufTile :=
      ⟨s.core.rd SEQ_LAYER_STATE.LAYER_NOW, 0xFFFFFFFF, a.bytes, false, .waiting, some a.info⟩
    s.core.held domEXP = false → s.core.held domMEM = false →
    x.idle = none → x.susp = none → x.adoptQ = a :: q →
    Acts (.tileCheckAtUse ch corr bad) s (fun t => (t.ch ch).adoptQ = q ∧ t.rd ADP_STATE.QUEUED ch = min q.length 65535 ∧
      (t.ch ch).idle = some { t0 with ck := if (s.core.checkIdle ch t0).isNone then .passed else .failedOnce })) ∧
  (∀ (s : State) (ch : Fin 64) (corr : BitVec 16) (bad : Bool) (r : RingTile) (q : List RingTile),
    let x := s.core.ch ch
    let t0 : BufTile := ⟨r.layer, r.index, r.bytes, r.poisoned || bad, .waiting, none⟩
    s.core.held domEXP = false → s.core.held domMEM = false →
    x.idle = none → x.susp = none → x.adoptQ = [] → x.ring = r :: q → s.core.layerActive = false →
    s.core.queuedManifests.head?.map manLayer = some r.layer →
    Acts (.tileCheckAtUse ch corr bad) s (fun t => (t.ch ch).ring = q ∧
      (t.ch ch).idle = some { t0 with ck := if (s.core.checkIdle ch t0).isNone then .passed else .failedOnce })) ∧
  (∀ (s : State) (ch : Fin 64) (ue : Option (Fin 64 × Bool)) (b : BufTile),
    s.core.held domEXP = false → s.core.held domMEM = false →
    (s.core.ch ch).idle = some b → b.ck = .failedOnce →
    Acts (.tileReread ch ue) s (fun t => Counts s.core t VST_RETRY.VST_RETRY ∧
      ((t.ch ch).idle.map BufTile.ck = some .passed ∨ (t.ch ch).idle.map BufTile.ck = some .failedTwice ∧
        Counts s.core t VST_RETRY.VST_BAD))) ∧
  (∀ (s : State) (ch : Fin 64) (ue : Option (Fin 64 × Bool)) (b : BufTile),
    s.core.held domEXP = false → s.core.held domMEM = false →
    s.core.now % (1000 * usU) = 0 → s.core.layerActive = false → (s.core.ch ch).idle = some b → b.ck = .failedTwice →
    s.core.nextFirst ch b = true →
    Acts (.firstTileRecheck ch ue) s (fun t => (t.ch ch).idle.map BufTile.ck = some .passed ∨
      (t.ch ch).idle.map BufTile.ck = some .failedTwice))

/-- R90, R102, R143 to R145: what takes a channel out of service. Following error beyond its limits, a gate level that
disagrees twice, and the fourth missing acknowledgement of a head each declare a channel failed with its cause: its gate goes
low at the present boundary, STATE is 1, ADP_REPORT holds cause, layer and instant, and CHANNEL_LOST is posted. Clauses with
`Acts` say that a command completes under its rule's own conditions alone. -/
def Obligations.ChannelsFailWithTheirCause : Prop :=
  (∀ (s : State) (ch : Fin 64), s.core.live ch = true → (s.core.ch ch).fb.feRun ≠ 0 →
    s.core.rd GAT_CONFIG.FE_TICKS ch ≤ (s.core.ch ch).fb.feRun →
    Runs (.followingErrorLimit ch) s (s.core.lossFp ch) (fun t => Lost s.core t ch 3)) ∧
  (∀ (s : State) (ch : Fin 64), s.core.live ch = true → 2 ≤ (s.core.ch ch).fb.mismatchRun →
    Runs (.gateMismatch ch) s
      { s.core.lossFp ch with keys := GAT_STAT.MISMATCH.key ch :: (s.core.lossFp ch).keys }
      (fun t => Lost s.core t ch 2 ∧ Counts s.core t GAT_STAT.MISMATCH ch)) ∧
  (∀ (s : State) (p : Fin 16) (k : Fin 4), 4 ≤ (s.core.port p).missRun →
    (∀ j : Fin 4, s.core.live (4 * p + j) = decide (j = k)) →
    Runs (.ackLost p) s (s.core.lossFp (4 * p + k)) (fun t => Lost s.core t (4 * p + k) 1)) ∧
  (∀ (s : State) (ch : Fin 64), s.core.failed ch = false → 3 ≤ s.core.rd GAT_STATE.MISS_RUN ch →
    s.core.rd GAT_STATE.MODE ch = 0 →
    Runs (.feedbackLost ch) s
      { keys := [GAT_STATE.MODE.key ch, GAT_STAT.FALLBACKS.key ch], parts := [.seq, .events, .escHold] }
      (fun t => t.rd GAT_STATE.MODE ch = 1 ∧ (t.ch ch).fb.frozen = (s.core.ch ch).fb.lag ∧ Counts s.core t GAT_STAT.FALLBACKS ch ∧
        t.events = s.core.events ++ [⟨evFeedbackLost, ch, some s.core.now, [], s.core.ticks⟩] ∧
        t.escHold = s.core.escHold ++ [evFeedbackLost])) ∧
  (∀ (s : State) (ch : Fin 64) (id : Nat), (s.core.ch ch).barrier? = some id → s.core.live ch = true →
    s.core.layer.syncTimeout * ticksPerUs < (s.core.ch ch).syncWait → (s.core.ch ch).syncPosted = false →
    Runs (.syncTimeout ch) s { parts := [.seq, .events, .escHold] } (fun t =>
      (t.ch ch).syncPosted = true ∧ t.escHold = s.core.escHold ++ [evSyncTimeout] ∧
      t.events = s.core.events ++ [⟨evSyncTimeout, 0, some s.core.now, leBytes 4 id ++ zeros 4 ++
        leBytes 8 ((s.core.notArrived id).foldl (fun a k => a + 2 ^ k) 0), s.core.ticks⟩])) ∧
  (∀ (s : State) (p : Fin 16), 4 ≤ (s.core.port p).missRun → (∃ j : Fin 4, s.core.live (4 * p + j) = true) →
    Acts (.ackLost p) s (fun t => ∀ k : Fin 4, s.core.live (4 * p + k) = true →
      t.rd ADP_STATE.STATE (4 * p + k) = 1 ∧ t.rd ADP_REPORT.CAUSE (4 * p + k) = 1 ∧
      t.rd GAT_STATE.GATE (4 * p + k) = 0))

/-- R147 to R153: planning the remaining work of a lost channel. Every unit goes to an adopter or to the residue, which is
written to the residue area 16 bytes an entry as far as it reaches; the report counts both and the tiles built, and STATE
becomes 2. When no adoption tile is out any more the loss is DONE, STATE becomes 3 and ADOPTION_DONE is posted. Clauses with
`Acts` say that a command completes under its rule's own conditions alone. -/
def Obligations.LostWorkIsAdoptedOrLeft : Prop :=
  (∀ (s : State) (l : Loss),
    let more := l.unread.flatMap (fun q => unitsOfTile (s.core.begin.tileFromDram s.dram l.layer q) l.chan)
    let p := (sortUnits (l.units ++ more)).foldl (s.core.assign l) ⟨[], [], 0⟩
    let es := p.residue.flatMap AUnit.entries
    let room := s.core.rd ADP_POLICY.RES_SIZE - s.core.resWrite
    s.core.nextLoss = some l → s.core.rd ADP_RESIDUE.RES_COUNT l.chan = 0 →
    Runs .adoptionPlanningDone s
      { keys := ([ADP_REPORT.ADOPTERS, ADP_REPORT.CHAINS_ADOPTED, ADP_REPORT.CHAINS_RESIDUE, ADP_REPORT.TILES_BUILT,
            ADP_STATE.STATE, ADP_RESIDUE.RES_COUNT, ADP_RESIDUE.RES_FIRST, ADP_RESIDUE.RES_OVERFLOW].map
              (fun f => f.key l.chan)) ++ (List.range 64).map ADP_STATE.QUEUED.key,
        parts := [.seq, .losses, .resWrite, .drc],
        writes := ((es.take room).zipIdx s.core.resWrite).map (fun e =>
          (s.core.rd ADP_POLICY.RES_ADDR + 16 * e.2, e.1)) }
      (fun t => t.rd ADP_STATE.STATE l.chan = 2 ∧ t.rd ADP_REPORT.CHAINS_ADOPTED l.chan = p.adopted % 2 ^ 32 ∧
        t.rd ADP_REPORT.CHAINS_RESIDUE l.chan = p.residue.length % 2 ^ 32 ∧
        t.rd ADP_REPORT.TILES_BUILT l.chan = p.tiles.length % 2 ^ 32 ∧
        t.rd ADP_RESIDUE.RES_COUNT l.chan = min es.length (2 ^ 32 - 1) ∧
        t.resWrite = s.core.resWrite + min room es.length)) ∧
  (∀ (s : State) (ch : Fin 64) (l : Loss),
    s.core.losses.find? (fun x => x.chan == ch.val) = some l → l.planned = true → l.out = 0 →
    s.core.rd ADP_STATE.STATE ch = 2 →
    Runs (.adoptionDone ch) s { keys := [ADP_STATE.STATE.key ch, ADP_REPORT.DONE.key ch], parts := [.events] } (fun t =>
      t.rd ADP_STATE.STATE ch = 3 ∧ t.rd ADP_REPORT.DONE ch = 1 ∧
      t.events = s.core.events ++ [⟨evAdoptionDone, ch, none, leBytes 2 (s.core.globalCh ch) ++ zeros 2 ++
        leBytes 4 (s.core.rd ADP_REPORT.CHAINS_ADOPTED ch) ++ leBytes 4 (s.core.rd ADP_REPORT.CHAINS_RESIDUE ch) ++
        leBytes 4 (s.core.rd ADP_RESIDUE.RES_COUNT ch), s.core.ticks⟩])) ∧
  (∀ (s : State) (l : Loss), s.core.nextLoss = some l →
    Acts .adoptionPlanningDone s (fun t => t.rd ADP_STATE.STATE l.chan = 2))

/-- R95, R105, R118, R119, R121: a gate edge takes place at its instant, on the LG pair unless it goes by gate word or the
pairs are held, and starts or ends the reflex loop's active period; the word that wins a lane is sent, counted, and its latency
kept. Clauses with `Acts` say that a command completes under its rule's own conditions alone. -/
def Obligations.EdgesAndSurgeWordsGoOut : Prop :=
  (∀ (s : State) (ch : Fin 64) (e : Edge),
    (s.core.ch ch).gat.placed = [e] → e.at_ < s.core.now + tickU → e.on = true → e.rfx = true →
    (s.core.ch ch).rfx.dead = false →
    Runs (.gateEdge ch) s
      { keys := [GAT_STATE.GATE, RFX_STATE.ACTIVE, RFX_STATE.STARVING, RFX_STATE.RUNG, RFX_STATE.INTEG,
          RFX_STATE.BASE].map (fun f => f.key ch),
        parts := [.seq],
        outs := if e.word || s.core.lgHeld || (s.core.ch ch).gat.lgHigh then []
          else [.lgLine ch (s.core.lgTaps ch e.at_), .lg ch true e.at_] }
      (fun t => t.rd GAT_STATE.GATE ch = 1 ∧ t.rd RFX_STATE.ACTIVE ch = 1 ∧ t.rd RFX_STATE.INTEG ch = 0 ∧
        t.rd RFX_STATE.STARVING ch = 0 ∧ (t.ch ch).gat.placed = [] ∧
        t.rd RFX_STATE.RUNG ch = s.core.rd (bankField (s.core.bankAt ch e.at_) RFX_BANK0.START_RUNG) ch % 8 ∧
        (t.ch ch).rfx.from_ = some e.at_)) ∧
  (∀ (s : State) (ch : Fin 64) (e : Edge),
    (s.core.ch ch).gat.placed = [e] → e.at_ < s.core.now + tickU → e.on = false →
    s.core.rd RFX_STATE.ACTIVE ch ≠ 0 →
    Runs (.gateEdge ch) s
      { keys := [GAT_STATE.GATE, RFX_STATE.ACTIVE, RFX_STATE.STARVING].map (fun f => f.key ch), parts := [.seq, .log],
        outs := if e.word || !(s.core.ch ch).gat.lgHigh then []
          else [.lgLine ch (s.core.lgTaps ch e.at_), .lg ch false e.at_] }
      (fun t => t.rd GAT_STATE.GATE ch = 0 ∧ t.rd RFX_STATE.ACTIVE ch = 0 ∧ (t.ch ch).gat.placed = [] ∧
        (t.ch ch).rfx.to_ = some e.at_)) ∧
  (∀ (s : State) (p : Fin 16) (lane : Fin 2) (off : SubTick) (ch : Nat) (w : SlotWord),
    s.core.isUp p = true → s.core.laneWinner p lane = some ch → (s.core.ch ch).rfx.slot = some w → w.cause = none →
    Runs (.surgeWordTx p lane off) s
      { keys := [RFX_STAT.WORDS.key ch], parts := [.seq],
        outs := if s.core.muted then [] else [.surge p lane w.payload] }
      (fun t => Counts s.core t RFX_STAT.WORDS ch ∧ (t.ch ch).rfx.slot = none)) ∧
  (∀ (s : State) (p : Fin 16) (lane : Fin 2) (off : SubTick) (ch t0 : Nat) (w : SlotWord),
    let lat := ceilDiv (s.core.now + off.val - t0) quarterNs
    s.core.isUp p = true → s.core.laneWinner p lane = some ch → (s.core.ch ch).rfx.slot = some w → w.cause = some t0 →
    Runs (.surgeWordTx p lane off) s
      { keys := [RFX_STAT.WORDS.key ch, RFX_LATENCY.LAT_MAX.key ch] ++
          (if s.core.latBound p < lat then [RFX_LATENCY.OVER_BOUND.key ch] else []),
        parts := [.seq], outs := if s.core.muted then [] else [.surge p lane w.payload] }
      (fun t => Counts s.core t RFX_STAT.WORDS ch ∧
        t.rd RFX_LATENCY.LAT_MAX ch = min (max (s.core.rd RFX_LATENCY.LAT_MAX ch) lat) 65535 ∧
        (s.core.latBound p < lat → Counts s.core t RFX_LATENCY.OVER_BOUND ch) ∧ (t.ch ch).rfx.slot = none)) ∧
  (∀ (s : State) (ch : Fin 64) (e : Edge),
    e ∈ (s.core.ch ch).gat.placed → e.at_ < s.core.now + tickU →
    (∀ x ∈ (s.core.ch ch).gat.placed, x = e ∨ e.at_ < x.at_) →
    Acts (.gateEdge ch) s (fun t => t.rd GAT_STATE.GATE ch = b2n e.on ∧ e ∉ (t.ch ch).gat.placed ∧
      ∀ x ∈ (s.core.ch ch).gat.placed, x ≠ e → x ∈ (t.ch ch).gat.placed))

/-- R108 to R111, R122, R123: samples and starvation. A sample in order is accepted, with the words missed before it counted;
one not newer is STALE and a malformed one BADWORDS, and neither does more; within an active period a sample below LOW that
completes CONFIRM moves up one rung and emits the FACTOR word of its base and rung; a starved period is flagged and counted,
and where STARVE_ACT says so goes to rung 0. Clauses with `Acts` say that a command completes under its rule's own conditions
alone. -/
def Obligations.SamplesRunTheHystereticLaw : Prop :=
  (∀ (s : State) (p : Fin 16) (lane : Fin 2) (word lead : BitVec 32) (off : SubTick),
    let ch := 4 * p.val + bits word.toNat 0 2
    let d := (bits word.toNat 4 6 + 64 - s.core.rd RFX_STATE.SEQ_IN ch) % 64
    s.core.held domEXP = false → s.core.isUp p = true → sampleBad lane word.toNat false = false →
    (s.core.ch ch).rfx.firstWord = false → d ≠ 0 → d < 32 → s.core.rd RFX_STATE.ACTIVE ch = 0 →
    (s.core.ch ch).gat.placed = [] →
    Runs (.sample p lane word false lead off) s
      { keys := [RFX_STATE.STARVING, RFX_STATE.SEQ_IN, RFX_STATE.LAST_SAMPLE, RFX_STATE.BANK].map (fun g => g.key ch) ++
          (if 2 ≤ d then [RFX_STAT.GAPS.key ch] else []),
        parts := [.seq, .surgeOrder] }
      (fun t => t.rd RFX_STATE.SEQ_IN ch = bits word.toNat 4 6 ∧
        t.rd RFX_STATE.LAST_SAMPLE ch = bits word.toNat 10 16 ∧ t.rd RFX_STATE.STARVING ch = 0 ∧
        (2 ≤ d → t.rd RFX_STAT.GAPS ch = min (s.core.rd RFX_STAT.GAPS ch + (d - 1)) 65535))) ∧
  (∀ (s : State) (p : Fin 16) (lane : Fin 2) (word lead : BitVec 32) (off : SubTick),
    let ch := 4 * p.val + bits word.toNat 0 2
    let d := (bits word.toNat 4 6 + 64 - s.core.rd RFX_STATE.SEQ_IN ch) % 64
    s.core.held domEXP = false → s.core.isUp p = true → sampleBad lane word.toNat false = false →
    (s.core.ch ch).rfx.firstWord = false → (d = 0 ∨ 32 ≤ d) →
    Runs (.sample p lane word false lead off) s { keys := [RFX_STAT.STALE.key ch] } (fun t =>
      Counts s.core t RFX_STAT.STALE ch)) ∧
  (∀ (s : State) (p : Fin 16) (lane : Fin 2) (word lead : BitVec 32) (off : SubTick),
    let ch := 4 * p.val + bits word.toNat 0 2
    s.core.held domEXP = false → s.core.isUp p = true → sampleBad lane word.toNat false = true →
    Runs (.sample p lane word false lead off) s
      { keys := [RFX_STAT.BADWORDS.key ch, STR_PORT_STAT.SURGE_BAD.key p] }
      (fun t => Counts s.core t RFX_STAT.BADWORDS ch)) ∧
  (∀ (s : State) (p : Fin 16) (lane : Fin 2) (word lead : BitVec 32) (off : SubTick) (f : Time),
    let ch := 4 * p.val + bits word.toNat 0 2
    let x := (s.core.ch ch).rfx
    let seq := bits word.toNat 4 6
    let value := bits word.toNat 10 16
    let accept := s.core.now + off.val
    let inst := sampleInstant accept (s.core.samplePeriod ch) seq
    let b := s.core.bankAt ch inst
    let r := s.core.rd RFX_STATE.RUNG ch
    let factor := factorOf (s.core.rd RFX_STATE.BASE ch) (s.core.rs ch b (r + 1))
    let out := if x.emitted then (s.core.rd RFX_STATE.SEQ_OUT ch + 1) % 64 else 0
    s.core.held domEXP = false → s.core.isUp p = true → sampleBad lane word.toNat false = false →
    x.firstWord = false → (seq + 64 - s.core.rd RFX_STATE.SEQ_IN ch) % 64 = 1 → s.core.rd RFX_STATE.STARVING ch = 0 →
    s.core.rd RFX_STATE.ACTIVE ch ≠ 0 → (s.core.ch ch).gat.placed = [] → x.from_ = some f → f ≤ inst → x.decidedBank = b → x.blank = 0 → x.hold = 0 →
    value < s.core.rd (bankField b RFX_BANK0.LOW) ch → value ≤ s.core.rd (bankField b RFX_BANK0.HIGH) ch →
    s.core.rd (bankField b RFX_BANK0.CONFIRM) ch ≤ (if x.last = 1 then min (x.cnt + 1) 255 else 1) →
    r + 1 < s.core.rd (bankField b RFX_BANK0.RUNG_COUNT) ch → r + 1 < 8 →
    s.core.rd (bankField b RFX_BANK0.INT_THRESH) ch = 0 → x.slot = none →
    Runs (.sample p lane word false lead off) s
      { keys := [RFX_STATE.STARVING, RFX_STATE.SEQ_IN, RFX_STATE.LAST_SAMPLE, RFX_STATE.BANK, RFX_STATE.RUNG,
          RFX_STAT.CHANGES, RFX_STATE.SEQ_OUT, RFX_STATE.FACTOR].map (fun g => g.key ch),
        parts := [.seq, .log, .surgeOrder] }
      (fun t => t.rd RFX_STATE.RUNG ch = r + 1 ∧ Counts s.core t RFX_STAT.CHANGES ch ∧
        t.rd RFX_STATE.FACTOR ch = factor % 65536 ∧ t.rd RFX_STATE.SEQ_OUT ch = out ∧
        (t.ch ch).rfx.slot = some ⟨surgePayload (ch % 4) 1 out factor (r + 1) 0, max (accept / nsU) (s.core.now / nsU), false,
          some (accept - lead.toNat)⟩ ∧
        (t.ch ch).rfx.hold = s.core.rd (bankField b RFX_BANK0.DWELL_MIN) ch ∧ (t.ch ch).rfx.cnt = 0)) ∧
  (∀ (s : State) (ch : Fin 64), s.core.starving ch = true → s.core.rd RFX_STATE.STARVING ch = 0 →
    (s.core.rd RFX_CONFIG.STARVE_ACT ch = 0 ∨ s.core.rd RFX_STATE.RUNG ch = 0) →
    Runs (.starve ch) s { keys := [RFX_STATE.STARVING.key ch, RFX_STAT.STARVED.key ch] } (fun t =>
      t.rd RFX_STATE.STARVING ch = 1 ∧ Counts s.core t RFX_STAT.STARVED ch)) ∧
  (∀ (s : State) (ch : Fin 64),
    let x := (s.core.ch ch).rfx
    let factor := factorOf (s.core.rd RFX_STATE.BASE ch) (s.core.rs ch (s.core.bankAt ch s.core.now) 0)
    let out := if x.emitted then (s.core.rd RFX_STATE.SEQ_OUT ch + 1) % 64 else 0
    s.core.starving ch = true → s.core.rd RFX_STATE.STARVING ch = 0 → s.core.rd RFX_CONFIG.STARVE_ACT ch ≠ 0 →
    s.core.rd RFX_STATE.RUNG ch ≠ 0 → x.slot = none →
    Runs (.starve ch) s
      { keys := [RFX_STATE.STARVING, RFX_STAT.STARVED, RFX_STATE.RUNG, RFX_STAT.CHANGES, RFX_STATE.SEQ_OUT,
          RFX_STATE.FACTOR].map (fun g => g.key ch),
        parts := [.seq, .log, .surgeOrder] }
      (fun t => t.rd RFX_STATE.STARVING ch = 1 ∧ Counts s.core t RFX_STAT.STARVED ch ∧ t.rd RFX_STATE.RUNG ch = 0 ∧
        Counts s.core t RFX_STAT.CHANGES ch ∧
        (t.ch ch).rfx.slot = some ⟨surgePayload (ch.val % 4) 1 out factor 0 0, s.core.emitInstant, false, none⟩)) ∧
  (∀ (s : State) (p : Fin 16) (lane : Fin 2) (word lead : BitVec 32) (off : SubTick),
    let ch := 4 * p.val + bits word.toNat 0 2
    let d := (bits word.toNat 4 6 + 64 - s.core.rd RFX_STATE.SEQ_IN ch) % 64
    s.core.held domEXP = false → s.core.isUp p = true → sampleBad lane word.toNat false = false →
    ((s.core.ch ch).rfx.firstWord = true ∨ d ≠ 0 ∧ d < 32) →
    Acts (.sample p lane word false lead off) s (fun t => t.rd RFX_STATE.SEQ_IN ch = bits word.toNat 4 6 ∧
      t.rd RFX_STATE.LAST_SAMPLE ch = bits word.toNat 10 16 ∧ t.rd RFX_STATE.STARVING ch = 0 ∧
      (t.ch ch).rfx.firstWord = false)) ∧
  (∀ (s : State) (p : Fin 16) (lane : Fin 2) (word lead : BitVec 32) (off : SubTick),
    let ch := 4 * p.val + bits word.toNat 0 2
    s.core.held domEXP = false → s.core.isUp p = true →
    Acts (.sample p lane word true lead off) s (fun t => Counts s.core t RFX_STAT.BADWORDS ch ∧
      Counts s.core t STR_PORT_STAT.CODE_ERR p ∧ Counts s.core t STR_PORT_STAT.SURGE_BAD p)) ∧
  (∀ (s : State) (ch : Fin 64), s.core.starving ch = true → s.core.rd RFX_STATE.STARVING ch = 0 →
    Acts (.starve ch) s (fun t => t.rd RFX_STATE.STARVING ch = 1 ∧ Counts s.core t RFX_STAT.STARVED ch ∧
      (s.core.rd RFX_CONFIG.STARVE_ACT ch ≠ 0 → t.rd RFX_STATE.RUNG ch = 0)))

/-- R130, R132, R134, R135: reservations and waiting requests. A reservation whose release instant has come leaves the table,
and a border one is released at the lead; a request that has waited WAIT_CAP is capped once, one that has waited WAIT_ALARM
posts BWK_WAIT_LONG once; and a channel refused YIELD_AFTER times suspends its tile and begins the checked reorderable one.
Clauses with `Acts` say that a command completes under its rule's own conditions alone. -/
def Obligations.ReservationsEndAndRequestsEscalate : Prop :=
  (∀ s : State,
    let due (r : Resv) : Bool := match r.release with | some t => decide (t ≤ s.core.now) | none => false
    let gone := s.core.bwk.table.filter due
    Runs .reservationRelease s
      { keys := gone.flatMap (fun r => [BWK_STATE.HELD_NOW.key (r.g % 64), BWK_STATE.STATE.key (r.g % 64)]),
        parts := [.bwk] }
      (fun t => t.bwk.table = s.core.bwk.table.filter (fun r => !due r) ∧
        t.bwk.rels = s.core.bwk.rels ++ (gone.filter Resv.border).map (fun r => ⟨tickIndex s.core.now, r.reqId, r.g⟩))) ∧
  (∀ (s : State) (ch : Fin 64) (q : Req), (s.core.ch ch).req = some q → s.core.rd BWK_WAIT.WAIT_CAP ≤ q.wait →
    s.core.rd BWK_STATE.CAPPED ch = 0 →
    Runs (.requestCapped ch) s { keys := [BWK_STATE.CAPPED.key ch, BWK_STAT.CAPPED.key ch] } (fun t =>
      t.rd BWK_STATE.CAPPED ch = 1 ∧ Counts s.core t BWK_STAT.CAPPED ch)) ∧
  (∀ (s : State) (ch : Fin 64) (q : Req), (s.core.ch ch).req = some q → s.core.rd BWK_WAIT.WAIT_ALARM ≠ 0 →
    s.core.rd BWK_WAIT.WAIT_ALARM ≤ q.wait → q.alarmed = false →
    Runs (.bwkWaitLong ch) s { parts := [.seq, .events] } (fun t =>
      (t.ch ch).req = some { q with alarmed := true } ∧
      t.events = s.core.events ++ [⟨evBwkWaitLong, ch, some s.core.now, leBytes 4 q.wait ++
        leBytes 4 (s.core.rd SEQ_TILE_POS.TILE_INDEX ch) ++ leBytes 1 (s.core.rd SEQ_TILE_POS.RECORD_INDEX ch) ++
        leBytes 1 (s.core.rd BWK_STATE.BLOCKER_KIND ch) ++ leBytes 2 (s.core.rd BWK_STATE.BLOCKER ch),
        s.core.ticks⟩])) ∧
  (∀ (s : State) (ch : Fin 64) (q : Req) (b e : BufTile),
    let x := s.core.ch ch
    x.req = some q → x.idle = some b → x.exec = some e → s.core.rd BWK_WAIT.YIELD_AFTER ≠ 0 →
    s.core.rd BWK_WAIT.YIELD_AFTER ≤ q.sinceFresh → x.granted = false → x.pendingBorder = false → x.halt = .none →
    x.susp = none → x.atRest = true → s.core.live ch = true → b.ck = .passed → b.adopt = none →
    b.layer = s.core.rd SEQ_LAYER_STATE.LAYER_NOW → (tileHdr b.bytes).reorderable = true →
    q.ran < s.core.rd BWK_WAIT.YIELD_MAX → q.ran < 15 →
    Runs (.yield_ ch) s
      { keys := [BWK_STAT.YIELDS, BWK_STATE.YIELD_RUN, BWK_STATE.STATE, SEQ_TILE_POS.TILE_INDEX,
          SEQ_TILE_POS.RECORD_INDEX].map (fun f => f.key ch),
        parts := [.seq] }
      (fun t => Counts s.core t BWK_STAT.YIELDS ch ∧ t.rd BWK_STATE.YIELD_RUN ch = q.ran + 1 ∧
        t.rd BWK_STATE.STATE ch = 4 ∧ t.rd SEQ_TILE_POS.TILE_INDEX ch = b.index % 2 ^ 32 ∧ (t.ch ch).exec = some b ∧
        (t.ch ch).items = tileItems b.bytes ∧ (t.ch ch).idle = none ∧
        (t.ch ch).susp.map Suspended.tile = some e)) ∧
  (∀ (s : State) (ch : Fin 64) (q : Req) (b e : BufTile),
    let x := s.core.ch ch
    x.req = some q → x.idle = some b → x.exec = some e → s.core.rd BWK_WAIT.YIELD_AFTER ≠ 0 →
    s.core.rd BWK_WAIT.YIELD_AFTER ≤ q.sinceFresh → x.granted = false → x.pendingBorder = false → x.halt = .none →
    x.susp = none → x.atRest = true → s.core.live ch = true → b.ck = .passed → b.adopt = none →
    b.layer = s.core.rd SEQ_LAYER_STATE.LAYER_NOW → (tileHdr b.bytes).reorderable = true →
    q.ran < s.core.rd BWK_WAIT.YIELD_MAX →
    Acts (.yield_ ch) s (fun t => (t.ch ch).exec = some b ∧ (t.ch ch).idle = none ∧
      (t.ch ch).susp.map Suspended.tile = some e ∧ (t.ch ch).susp.map (fun z => z.req.ran) = some (q.ran + 1)))

/-- R138 to R140, R196: border traffic. The lead takes the requests of a frame that comes in time and counts late ones, decides
the round of an origin tick four ticks on, granting what meets no held entry and fencing a capped one that it refuses, and
takes releases; a member takes answers, and latches a grant, a refusal or a missing answer eight ticks after the request;
fences lapse after 16 ticks. Clauses with `Acts` say that a command completes under its rule's own conditions alone. -/
def Obligations.BordersAreDecidedByTheLead : Prop :=
  (∀ (s : State) (p : Fin 21) (lane : Fin 2) (h : FrameHdr) (b : Bytes),
    s.core.linkActs p lane 0x41 h b → s.core.isLead = true →
    seqNewer 32 (tickIndex s.core.now) ((h.tag.toNat + 3) % 2 ^ 32) = false →
    Runs (.borderReq p lane h b) s { parts := [.casc, .bwk], outs := s.core.linkCopy p 0x41 h b } (fun t =>
      t.bwk = { s.core.bwk with reqs := s.core.bwk.reqs ++ (entries 44 b).map (borderReqOf h.tag.toNat) })) ∧
  (∀ (s : State) (p : Fin 21) (lane : Fin 2) (h : FrameHdr) (b : Bytes),
    s.core.linkActs p lane 0x41 h b → s.core.isLead = true → b.length = 44 →
    seqNewer 32 (tickIndex s.core.now) ((h.tag.toNat + 3) % 2 ^ 32) = true →
    Runs (.borderReq p lane h b) s
      { keys := [BWK_STAT.BORDER_LATE.key (fieldLE b 2 2 % 64)], parts := [.casc, .bwk],
        outs := s.core.linkCopy p 0x41 h b }
      (fun t => t.bwk = s.core.bwk ∧ Counts s.core t BWK_STAT.BORDER_LATE (fieldLE b 2 2 % 64))) ∧
  (∀ (s : State) (q : BorderReq),
    let o := (tickIndex s.core.now + 2 ^ 32 - 4) % 2 ^ 32
    let blocked := s.core.bwk.leadTable.any (fun r => conflicts q.g q.box q.zone r.g r.box r.zone)
    s.core.isLead = true → s.core.bwk.rels = [] → s.core.bwk.fences = [] →
    s.core.bwk.reqs.filter (fun q => q.origin == o) = [q] → s.core.bwk.leadTable.length < 2048 →
    Runs .borderRound s { parts := [.bwk] } (fun t =>
      t.bwk.reqs = s.core.bwk.reqs.filter (fun q => q.origin != o) ∧
      t.bwk.leadTable = s.core.bwk.leadTable ++ (if blocked then [] else [q]) ∧
      t.bwk.fences = (if blocked && q.capped then [⟨q.g, q.box, q.zone, s.core.ticks⟩] else []) ∧
      t.bwk.ansQ = s.core.bwk.ansQ ++ [(q.g / 64, q.origin, q.reqId, b2n (!blocked))])) ∧
  (∀ (s : State) (p : Fin 21) (lane : Fin 2) (h : FrameHdr) (b : Bytes), s.core.linkActs p lane 0x42 h b →
    Runs (.borderAns p lane h b) s { parts := [.casc, .bwk], outs := s.core.linkCopy p 0x42 h b } (fun t =>
      t.bwk = { s.core.bwk with
        answers := s.core.bwk.answers ++ (if seqNewer 32 ((h.tag.toNat + 8) % 2 ^ 32) (tickIndex s.core.now) then
          (entries 4 b).map (fun e => (h.tag.toNat, fieldLE e 0 2, fieldLE e 2 1 == 1)) else []) })) ∧
  (∀ (s : State) (p : Fin 21) (lane : Fin 2) (h : FrameHdr) (b : Bytes), s.core.linkActs p lane 0x43 h b →
    s.core.isLead = true →
    Runs (.borderRel p lane h b) s { parts := [.casc, .bwk], outs := s.core.linkCopy p 0x43 h b } (fun t =>
      t.bwk = { s.core.bwk with
        rels := s.core.bwk.rels ++ (entries 4 b).map (fun e => ⟨h.tag.toNat, fieldLE e 0 2, fieldLE e 2 2⟩) })) ∧
  (∀ (s : State) (ch : Fin 64) (r : Resv) (q : Req) (a : Nat × Nat),
    let o := (tickIndex s.core.now + 2 ^ 32 - 8) % 2 ^ 32
    s.core.bwk.table.filter (fun r => r.pending && !seqNewer 32 r.origin o) = [r] → r.g = s.core.globalCh ch →
    r.release = none → s.core.bwk.answers.find? (fun x => x.1 == r.origin && x.2.1 == r.reqId) = some (a.1, a.2, true) →
    s.core.live ch = true →
    (s.core.ch ch).halt = .none → (s.core.ch ch).req = some q →
    Runs .borderAnswerLatch s
      { keys := [BWK_STAT.GRANTS, BWK_STAT.WAIT_MAX, BWK_STATE.STATE, BWK_STATE.WAIT_NOW, BWK_STATE.CAPPED,
          BWK_STATE.YIELD_RUN, BWK_STATE.HELD_NOW].map (fun f => f.key ch),
        parts := [.bwk, .seq, .log] }
      (fun t => (t.ch ch).granted = true ∧ (t.ch ch).pendingBorder = false ∧ Counts s.core t BWK_STAT.GRANTS ch ∧
        t.rd BWK_STATE.STATE ch = 3 ∧ t.rd BWK_STATE.WAIT_NOW ch = 0 ∧
        t.bwk.answers = s.core.bwk.answers.filter (fun x => seqNewer 32 x.1 o) ∧
        t.bwk.table = s.core.bwk.table.map (fun x =>
          if x.pending ∧ x.reqId = r.reqId then { x with pending := false } else x))) ∧
  (∀ (s : State) (ch : Fin 64) (r : Resv) (q : Req),
    let o := (tickIndex s.core.now + 2 ^ 32 - 8) % 2 ^ 32
    let ans := s.core.bwk.answers.find? (fun x => x.1 == r.origin && x.2.1 == r.reqId)
    s.core.bwk.table.filter (fun r => r.pending && !seqNewer 32 r.origin o) = [r] → r.g % 64 = ch →
    ans.map (fun x => x.2.2) ≠ some true → s.core.live ch = true → (s.core.ch ch).req = some q →
    q.wait + 1 < s.core.rd BWK_WAIT.WAIT_CAP → s.core.rd BWK_WAIT.WAIT_ALARM = 0 →
    let f := if ans.isSome then BWK_STAT.BORDER_REFUSED else BWK_STAT.BORDER_LATE
    Runs .borderAnswerLatch s
      { keys := [f, BWK_STAT.REFUSALS, BWK_STATE.STATE, BWK_STATE.WAIT_NOW, BWK_STATE.BLOCKER_KIND,
          BWK_STATE.BLOCKER].map (fun f => f.key ch),
        parts := [.bwk, .seq] }
      (fun t => Counts s.core t f ch ∧ Counts s.core t BWK_STAT.REFUSALS ch ∧ t.rd BWK_STATE.STATE ch = 1 ∧
        t.rd BWK_STATE.BLOCKER_KIND ch = 4 ∧ t.rd BWK_STATE.BLOCKER ch = 0xFFFF ∧
        (t.ch ch).req = some { q with wait := q.wait + 1, sinceFresh := q.sinceFresh + 1 } ∧
        (t.ch ch).pendingBorder = false ∧
        t.bwk.table = s.core.bwk.table.filter (fun x => !(x.pending && x.reqId == r.reqId)) ∧
        t.bwk.rels = s.core.bwk.rels ++ (if ans.isSome then [] else [⟨tickIndex s.core.now, r.reqId, r.g⟩]))) ∧
  (∀ s : State, Runs .borderFenceExpiry s { parts := [.bwk] } (fun t =>
    t.bwk = { s.core.bwk with fences := s.core.bwk.fences.filter (fun f => decide (s.core.ticks < f.since + 16)) })) ∧
  (∀ (s : State) (p : Fin 21) (lane : Fin 2) (h : FrameHdr) (b : Bytes), s.core.linkActs p lane 0x41 h b →
    Acts (.borderReq p lane h b) s (fun t => t.bwk.reqs = s.core.bwk.reqs ++
      (if s.core.isLead && !seqNewer 32 (tickIndex s.core.now) ((h.tag.toNat + 3) % 2 ^ 32) then
        (entries 44 b).map (borderReqOf h.tag.toNat) else []))) ∧
  (∀ s : State,
    let o := (tickIndex s.core.now + 2 ^ 32 - 4) % 2 ^ 32
    s.core.isLead = true →
    Acts .borderRound s (fun t => t.bwk.reqs = s.core.bwk.reqs.filter (fun q => q.origin != o) ∧
      t.bwk.ansQ.length = s.core.bwk.ansQ.length + (s.core.bwk.reqs.filter (fun q => q.origin == o)).length)) ∧
  (∀ (s : State) (p : Fin 21) (lane : Fin 2) (h : FrameHdr) (b : Bytes), s.core.linkActs p lane 0x43 h b →
    Acts (.borderRel p lane h b) s (fun t => t.bwk.rels = s.core.bwk.rels ++
      (if s.core.isLead then (entries 4 b).map (fun e => ⟨h.tag.toNat, fieldLE e 0 2, fieldLE e 2 2⟩) else []))) ∧
  (∀ s : State,
    let o := (tickIndex s.core.now + 2 ^ 32 - 8) % 2 ^ 32
    Acts .borderAnswerLatch s (fun t => (∀ r ∈ t.bwk.table, r.pending = true → seqNewer 32 r.origin o = true) ∧
      t.bwk.answers = s.core.bwk.answers.filter (fun x => seqNewer 32 x.1 o)))

/-- R162, R188, R190: what retrains a port. Loss of alignment, RETRAIN from the far end, a write of RETRAIN and a Neap exit
that regains no alignment in 20 µs each retrain an enabled port from step 1; a FAILED port starts bring-up again 100 ms later.
Clauses with `Acts` say that a command completes under its rule's own conditions alone. -/
def Obligations.PortRetrainsFromStepOne : Prop :=
  (∀ (s : State) (p : Fin 21) (noIdle noClock : BitVec 32) (errors : BitVec 16), s.core.held domFAB = false →
    s.core.rd STR_PORT_CFG.ENABLE p ≠ 0 → bitOf s.core.bst.portsHeld p = false →
    (s.core.isUp p = true ∨ s.core.inTraining p = true ∨ (s.core.port p).neapStep = 3) →
    (4000 ≤ noIdle.toNat ∨ 16 ≤ errors.toNat ∨ 100 ≤ noClock.toNat) →
    Retrains (.alignmentLoss ⟨p, noIdle, errors, noClock⟩) s p) ∧
  (∀ (s : State) (p : Fin 21) (lane : Fin 2), s.core.lmActs p lane (lmCode 0x0D 0 0 0 0) →
    s.core.rd STR_PORT_CFG.ENABLE p ≠ 0 → bitOf s.core.bst.portsHeld p = false →
    (s.core.isUp p = true ∨ s.core.inTraining p = true ∨ (s.core.port p).neapStep = 3) →
    Retrains (.retrain p lane) s p) ∧
  (∀ (s : State) (p : Fin 21), s.core.held domFAB = false → s.core.rd STR_PORT_CFG.ENABLE p ≠ 0 →
    bitOf s.core.bst.portsHeld p = false → Retrains (.retrainWrite p) s p) ∧
  (∀ (s : State) (p : Fin 21), s.core.held domFAB = false → s.core.rd STR_PORT_CFG.ENABLE p ≠ 0 →
    bitOf s.core.bst.portsHeld p = false → s.core.ptState p = ptNeap → (s.core.port p).neapStep = 3 →
    (s.core.port p).since + 40 ≤ s.core.ticks → Retrains (.neapExitTimeout p) s p) ∧
  (∀ (s : State) (p : Fin 21), s.core.held domFAB = false → s.core.rd STR_PORT_CFG.ENABLE p ≠ 0 →
    bitOf s.core.bst.portsHeld p = false → s.core.ptState p = ptFailed →
    (s.core.port p).failedAt + 200000 ≤ s.core.ticks →
    Runs (.portRetry p) s { keys := trainKeys p, parts := [.ports, .casc], outs := s.core.startOuts p } (fun t =>
      t.ptState p = ptTraining ∧ t.rd STR_PORT_STATE.RATE p = 0 ∧ (t.port p).since = s.core.ticks ∧
      t.casc = (s.core.forgetLink p).casc)) ∧
  (∀ (s : State) (p : Fin 21) (noIdle noClock : BitVec 32) (errors : BitVec 16), noIdle.toNat < 4000 →
    errors.toNat < 16 → noClock.toNat < 100 → Idles (.alignmentLoss ⟨p, noIdle, errors, noClock⟩) s)

/-- R183, R184, R187: steps 2 to 4, 6 and 7 of bring-up. A TS1 lengthens its lane's run and reports the far kind, and the
eighth on every lane is answered with TS2; the eighth TS2 on every lane asks for 8 Gb/s where both sides offer it and starts
the echo measurement otherwise; a RATE exchanged restarts training at 8 Gb/s; an echo request is answered with its turnaround;
the 64th echo response sets LINK_DELAY and sends LINK_UP; and LINK_UP brings the port UP. Clauses with `Acts` say that a
command completes under its rule's own conditions alone. -/
def Obligations.BringUpStepsFollowTheOrder : Prop :=
  (∀ (s : State) (p : Fin 21) (lane : Fin 2) (p0 p1 p2 p3 : BitVec 8),
    let q := s.core.port p
    let k := lmCode 1 p0.toNat p1.toNat p2.toNat p3.toNat
    let run := runOn (Kv.get 0 q.lastLm lane == k) q.ts1 lane
    s.core.held domFAB = false → s.core.ptState p = ptTraining → lane.val < laneCount p →
    Runs (.ts1 p lane p0 p1 p2 p3) s
      { keys := [STR_PORT_STATE.FAR_KIND.key p], parts := [.ports],
        outs := if eightEach p run && !eightEach p q.ts1 then
          (lanesOf p).flatMap (fun l => [.fill p l .idle, .lm p l 0x02 l (s.core.ownRates p) 0 1 8]) else [] }
      (fun t => t.rd STR_PORT_STATE.FAR_KIND p = p2.toNat % 4 ∧ (t.port p).ts1 = run ∧ (t.port p).farRates = p1.toNat)) ∧
  (∀ (s : State) (p : Fin 21) (lane : Fin 2) (p0 p1 p2 p3 : BitVec 8),
    let q := s.core.port p
    let k := lmCode 2 p0.toNat p1.toNat p2.toNat p3.toNat
    let run := runOn (Kv.get 0 q.lastLm lane == k) q.ts2 lane
    let eight := bitOf p1.toNat 1 && s.core.rd STR_PORT_CFG.RATE_MAX p != 0
    s.core.held domFAB = false → s.core.ptState p = ptTraining → lane.val < laneCount p → eightEach p q.ts1 = true →
    s.core.rd STR_PORT_STATE.RATE p = 0 →
    Runs (.ts2 p lane p0 p1 p2 p3) s
      { parts := [.ports],
        outs := if eightEach p run && !eightEach p q.ts2 then
          (if eight then [s.core.lmOn p 0xFF 0x03 1 0 0 0] else s.core.echoOuts p) else [] }
      (fun t => (t.port p).ts2 = run)) ∧
  (∀ (s : State) (p : Fin 21) (lane : Fin 2), s.core.lmActs p lane (lmCode 0x03 1 0 0 0) → s.core.ptState p = ptTraining →
    (s.core.port p).rateSent = true → s.core.rd STR_PORT_STATE.RATE p = 0 →
    Runs (.rate p lane 1#8) s
      { keys := [STR_PORT_STATE.RATE.key p], parts := [.ports],
        outs := .idle p 1000 :: .portClock p true ::
          (lanesOf p).map (fun l => .fill p l (.train (lmBytes 0x01 l (s.core.ownRates p) 0 1))) }
      (fun t => t.rd STR_PORT_STATE.RATE p = 1 ∧ (t.port p).ts1 = [0, 0] ∧ (t.port p).ts2 = [0, 0] ∧
        (t.port p).rateSent = false)) ∧
  (∀ (s : State) (p : Fin 21) (lane : Fin 2) (p0 p1 : BitVec 8) (turn : BitVec 16),
    s.core.lmActs p lane (lmCode 0x07 p0.toNat p1.toNat 0 0) →
    Runs (.echoReq p lane p0 p1 turn) s
      { parts := [.ports], outs := [s.core.lmOn p lane 0x08 p0.toNat p1.toNat (turn.toNat % 256) (turn.toNat / 256)] }
      (fun _ => True)) ∧
  (∀ (s : State) (p : Fin 21) (lane : Fin 2) (p0 p1 p2 p3 : BitVec 8) (rtt : BitVec 32),
    let q := s.core.port p
    let sum := q.echoSum + ((rtt.toNat : Int) - 16 * ((p2.toNat + 256 * p3.toNat : Nat) : Int))
    let n := q.echoes + 1
    s.core.lmActs p lane (lmCode 0x08 p0.toNat p1.toNat p2.toNat p3.toNat) → s.core.inTraining p = true →
    q.linkUpSent = false → p0.toNat + 256 * p1.toNat = q.echoes →
    Runs (.echoRsp p lane p0 p1 p2 p3 rtt) s
      { keys := if n < 64 then [] else [STR_PORT_STATE.LINK_DELAY.key p], parts := [.ports],
        outs := [if n < 64 then s.core.lmOn p 0 0x07 (n % 256) (n / 256) 0 0
          else s.core.lmOn p 0xFF 0x09 (s.core.rd STR_PORT_STATE.RATE p) 0 0 0] }
      (fun t => (t.port p).echoes = n ∧ (t.port p).echoSum = sum ∧ (64 ≤ n → (t.port p).linkUpSent = true ∧
        t.rd STR_PORT_STATE.LINK_DELAY p = ofSigned 32 (sum / 128 + s.core.timphy p)))) ∧
  (∀ (s : State) (p : Fin 21) (lane : Fin 2) (p0 : BitVec 8),
    let n := s.core.headAddr p
    let seq := Kv.get 0 (s.core.port p).txCtl n
    let t0 := nextMultiple s.core.now usU
    s.core.lmActs p lane (lmCode 0x09 p0.toNat 0 0 0) → s.core.inTraining p = true → (s.core.port p).linkUpSent = true →
    p.val < 16 ∨ 18 ≤ p.val →
    Runs (.linkUp p lane p0) s
      { keys := [STR_PORT_STATE.STATE.key p], parts := [.ports, .seq, .events],
        outs := if 18 ≤ p.val ∨ s.core.muted = true then [] else
          [.frame p 1 0x03 (128 + s.core.unitFlag + 64) n seq 0 0
              (cfgPayload 0x0002 [n, s.core.rd STR_PORT_STATE.LINK_DELAY p]),
            .frame p 1 0x02 s.core.unitFlag n ((seq + 1) % 65536) 0 0
              (leBytes 8 (timeSec t0) ++ leBytes 4 (timeNs t0) ++ zeros 4)] }
      (fun t => t.isUp p = true ∧ t.seq = (s.core.firstWords p).seq ∧ t.events = s.core.events ++ [⟨evPortUp, p, some s.core.now,
        [BitVec.ofNat 8 (s.core.rd STR_PORT_STATE.RATE p), BitVec.ofNat 8 (s.core.rd STR_PORT_STATE.FALLBACK p)],
        s.core.ticks⟩])) ∧
  (∀ (s : State) (p : Fin 21), s.core.held domFAB = false → s.core.inTraining p = true →
    (s.core.port p).since + 10000 ≤ s.core.ticks →
    Runs (.portTrainTimeout p) s
      { keys := [STR_PORT_STATE.STATE.key p], parts := [.ports, .events], outs := [.portIdle p] }
      (fun t => t.ptState p = ptFailed ∧ (t.port p).failedAt = s.core.ticks ∧
        t.events = s.core.events ++ [⟨evPortDown, p, some s.core.now, [], s.core.ticks⟩])) ∧
  (∀ (s : State) (p : Fin 21) (lane : Fin 2) (p0 p1 p2 p3 : BitVec 8),
    let q := s.core.port p
    s.core.held domFAB = false → s.core.ptState p = ptTraining → lane.val < laneCount p → eightEach p q.ts1 = true →
    Acts (.ts2 p lane p0 p1 p2 p3) s (fun t => (t.port p).ts2 =
      runOn (Kv.get 0 q.lastLm lane == lmCode 2 p0.toNat p1.toNat p2.toNat p3.toNat) q.ts2 lane)) ∧
  (∀ (s : State) (p : Fin 21) (lane : Fin 2) (p0 : BitVec 8),
    s.core.lmActs p lane (lmCode 0x09 p0.toNat 0 0 0) → s.core.inTraining p = true → (s.core.port p).linkUpSent = true →
    Acts (.linkUp p lane p0) s (fun t => t.isUp p = true ∧ t.events = s.core.events ++ [⟨evPortUp, p, some s.core.now,
      [BitVec.ofNat 8 (s.core.rd STR_PORT_STATE.RATE p), BitVec.ofNat 8 (s.core.rd STR_PORT_STATE.FALLBACK p)],
      s.core.ticks⟩]))

/-- R185, R186: equalisation. A request within range moves the lane's taps and is acknowledged with their values, and one at a
limit is answered so; a receiver that wants more sends its next request; one that is content sends EQ_DONE; the last EQ_DONE of
both sides starts the echo measurement; and 2.5 ms of step 5 fall back to 4.0 Gb/s with preset 0. Clauses with `Acts` say that
a command completes under its rule's own conditions alone. -/
def Obligations.EqualisationFollowsRequests : Prop :=
  (∀ (s : State) (p : Fin 21) (lane : Fin 2) (p0 p1 p2 p3 : BitVec 8) (a b : Nat),
    s.core.lmActs p lane (lmCode 0x04 p0.toNat p1.toNat p2.toNat p3.toNat) → s.core.ptState p = ptEqualising →
    (s.core.port p).eqSeen.getD lane 0 ≠ p3.toNat + 1 → p1.toNat < 128 →
    (s.core.taps p lane).1 ≤ 6 → (s.core.taps p lane).2 ≤ 12 →
    tapAct (p1.toNat % 4) (s.core.taps p lane).1 6 = some a → tapAct (p1.toNat / 4 % 4) (s.core.taps p lane).2 12 = some b →
    Runs (.eqReq p lane p0 p1 p2 p3) s
      { keys := trainKeys p, parts := [.ports], outs := [s.core.lmOn p lane 0x05 lane 0 a b] }
      (fun t => t.taps p lane = (a, b))) ∧
  (∀ (s : State) (p : Fin 21) (lane : Fin 2) (p0 p1 p2 p3 : BitVec 8),
    s.core.lmActs p lane (lmCode 0x04 p0.toNat p1.toNat p2.toNat p3.toNat) → s.core.ptState p = ptEqualising →
    (s.core.port p).eqSeen.getD lane 0 ≠ p3.toNat + 1 → p1.toNat < 128 →
    tapAct (p1.toNat % 4) (s.core.taps p lane).1 6 = none →
    Runs (.eqReq p lane p0 p1 p2 p3) s
      { parts := [.ports], outs := [s.core.lmOn p lane 0x05 lane 1 (s.core.taps p lane).1 (s.core.taps p lane).2] }
      (fun _ => True)) ∧
  (∀ (s : State) (p : Fin 21) (lane : Fin 2) (p1 p2 p3 actions : BitVec 8),
    let q := s.core.port p
    let asked := q.eqAsked.getD lane 0
    s.core.lmActs p lane (lmCode 0x05 lane p1.toNat p2.toNat p3.toNat) → s.core.ptState p = ptEqualising →
    bitOf q.eqOwn lane = false → asked < 64 →
    Runs (.eqAck p lane p1 p2 p3 2 actions) s
      { parts := [.ports], outs := [s.core.lmOn p lane 0x04 lane (actions.toNat % 16) 0 (asked + 1)] }
      (fun t => (t.port p).eqAsked = q.eqAsked.set lane (asked + 1))) ∧
  (∀ (s : State) (p : Fin 21) (lane : Fin 2) (p1 p2 p3 actions : BitVec 8),
    let q := s.core.port p
    let own := orBit q.eqOwn lane
    s.core.lmActs p lane (lmCode 0x05 lane p1.toNat p2.toNat p3.toNat) → s.core.ptState p = ptEqualising →
    bitOf q.eqOwn lane = false → q.eqGaveUp = false →
    Runs (.eqAck p lane p1 p2 p3 0 actions) s
      { parts := [.ports],
        outs := s.core.lmOn p lane 0x06 lane 0 0 0 ::
          (if own = 2 ^ laneCount p - 1 ∧ q.eqFar = 2 ^ laneCount p - 1 then s.core.echoOuts p else []) }
      (fun t => (t.port p).eqOwn = own)) ∧
  (∀ (s : State) (p : Fin 21) (lane : Fin 2) (p0 : BitVec 8),
    let q := s.core.port p
    let far := orBit q.eqFar lane
    s.core.lmActs p lane (lmCode 0x06 p0.toNat 0 0 0) → s.core.ptState p = ptEqualising → q.eqGaveUp = false →
    Runs (.eqDone p lane p0 0#8) s
      { parts := [.ports],
        outs := if q.eqOwn = 2 ^ laneCount p - 1 ∧ far = 2 ^ laneCount p - 1 then s.core.echoOuts p else [] }
      (fun t => (t.port p).eqFar = far)) ∧
  (∀ (s : State) (p : Fin 21), s.core.held domFAB = false → s.core.ptState p = ptEqualising →
    (s.core.port p).since + 5000 ≤ s.core.ticks →
    Runs (.eqTimeout p) s
      { keys := trainKeys p, parts := [.ports], outs := .portClock p false :: s.core.echoOuts p }
      (fun t => t.ptState p = ptTraining ∧ t.rd STR_PORT_STATE.RATE p = 0 ∧ t.rd STR_PORT_STATE.FALLBACK p = 1 ∧
        t.taps p 0 = (0, 0) ∧ t.taps p 1 = (0, 0))) ∧
  (∀ (s : State) (p : Fin 21) (lane : Fin 2) (p0 p1 p2 p3 : BitVec 8),
    s.core.lmActs p lane (lmCode 0x04 p0.toNat p1.toNat p2.toNat p3.toNat) →
    Acts (.eqReq p lane p0 p1 p2 p3) s (fun t => ∃ r ∈ [0, 1, 2],
      t.out = [s.core.lmOn p lane 0x05 lane r (t.taps p lane).1 (t.taps p lane).2] ∧
      (r = 2 ↔ s.core.ptState p ≠ ptEqualising ∨
        ((s.core.port p).eqSeen.getD lane 0 = p3.toNat + 1 ∧ (s.core.port p).eqAnswer.getD lane 0 = 2)) ∧
      (bitOf p1.toNat 7 = true → s.core.ptState p = ptEqualising → (s.core.port p).eqSeen.getD lane 0 ≠ p3.toNat + 1 →
        r = 0 ∧ t.taps p lane = txPreset (p2.toNat % 8)))) ∧
  (∀ (s : State) (p : Fin 21) (lane : Fin 2) (p1 p2 p3 actions : BitVec 8) (verdict : Fin 3),
    let q := s.core.port p
    let asked := q.eqAsked.getD lane 0
    s.core.lmActs p lane (lmCode 0x05 lane p1.toNat p2.toNat p3.toNat) → s.core.ptState p = ptEqualising →
    bitOf q.eqOwn lane = false →
    Acts (.eqAck p lane p1 p2 p3 verdict actions) s (fun t =>
      if verdict = 2 ∧ asked < 64 then (t.port p).eqAsked = q.eqAsked.set lane (asked + 1)
      else (t.port p).eqOwn = orBit q.eqOwn lane ∧
        ((verdict = 1 ∨ q.eqGaveUp = true) → t.ptState p = ptTraining ∧ t.rd STR_PORT_STATE.FALLBACK p = 1))) ∧
  (∀ (s : State) (p : Fin 21) (lane : Fin 2) (p0 p1 : BitVec 8),
    let q := s.core.port p
    s.core.lmActs p lane (lmCode 0x06 p0.toNat p1.toNat 0 0) → s.core.ptState p = ptEqualising →
    Acts (.eqDone p lane p0 p1) s (fun t => (t.port p).eqFar = orBit q.eqFar lane ∧
      ((p1 = 1#8 ∨ q.eqGaveUp = true) → t.ptState p = ptTraining ∧ t.rd STR_PORT_STATE.FALLBACK p = 1)))

/-- R160, R161, R166, R182, R189, R190: Neap, the port counters and the line code. Entry is asked on every lane where NEAP_EN
and the layer allow it; the far end's ACK puts the port into NEAP and its refusal leaves it UP; the far end's own request is
refused; an exit drives clock and WAKE, and WAKE from the far end brings the port UP again and counts; a set with a bad check
word and a discarded frame count; CLEAR_STATS zeroes the counters. What a lane's transmitter encodes its receiver reads back,
symbol by symbol and frame by frame (R160, R161). Clauses with `Acts` say that a command completes under its rule's own
conditions alone. -/
def Obligations.NeapAndPortCounters : Prop :=
  (∀ (s : State) (p : Fin 21), s.core.held domFAB = false → s.core.neapAllowed p = true →
    Runs (.neapEnter p) s { parts := [.ports], outs := [.lm p 0xFF 0x0A 0 0 0 0] } (fun t =>
      t.port p = { s.core.port p with neapStep := 1, neapAcks := 0 })) ∧
  (∀ (s : State) (p : Fin 21) (lane : Fin 2), s.core.held domFAB = false → lane.val < laneCount p → s.core.isUp p = true →
    Runs (.neapReq p lane) s { outs := [.lm p lane 0x0B 1 0 0 0] } (fun _ => True)) ∧
  (∀ (s : State) (p : Fin 21) (lane : Fin 2),
    let acks := orBit (s.core.port p).neapAcks lane
    let last := acks = 2 ^ laneCount p - 1
    s.core.held domFAB = false → lane.val < laneCount p → s.core.isUp p = true → (s.core.port p).neapStep = 1 →
    Runs (.neapAck p lane 0#8) s
      { keys := [STR_PORT_STATE.STATE.key p], parts := [.ports],
        outs := if last then [.neap p, .portIdle p, .clockStop p] else [] }
      (fun t => t.ptState p = (if last then ptNeap else ptUp) ∧
        t.port p = { s.core.port p with neapAcks := acks, neapStep := if last then 2 else 1 })) ∧
  (∀ (s : State) (p : Fin 21) (lane : Fin 2) (p0 : BitVec 8), s.core.held domFAB = false → lane.val < laneCount p →
    s.core.isUp p = true → (s.core.port p).neapStep = 1 → p0 ≠ 0#8 →
    Runs (.neapAck p lane p0) s { parts := [.ports] } (fun t =>
      t.port p = { s.core.port p with neapStep := 0 })) ∧
  (∀ (s : State) (p : Fin 21) (lane : Fin 2), s.core.held domFAB = false → lane.val < laneCount p →
    s.core.ptState p = ptNeap → (s.core.port p).neapStep = 3 → 18 ≤ p.val →
    Runs (.wake p lane) s
      { keys := [STR_PORT_STATE.STATE.key p, STR_PORT_STAT.NEAP_EXITS.key p], parts := [.ports],
        outs := [.lm p 0xFF 0x0C 0 0 0 0 8] }
      (fun t => t.isUp p = true ∧ Counts s.core t STR_PORT_STAT.NEAP_EXITS p ∧ (t.port p).neapStep = 0)) ∧
  (∀ (s : State) (p : Fin 21), s.core.held domFAB = false → s.core.ptState p = ptNeap → (s.core.port p).neapStep ≠ 3 →
    let fp : Footprint := { parts := [.ports],
                            outs := .portClock p (s.core.rd STR_PORT_STATE.RATE p != 0) ::
                              (lanesOf p).map (fun l => .fill p l .idle) }
    Runs (.neapWakeDetect p) s fp (fun t =>
      t.port p = { s.core.port p with neapStep := 3, since := s.core.ticks }) ∧
    Runs (.neapExit p) s fp (fun t => t.port p = { s.core.port p with neapStep := 3, since := s.core.ticks })) ∧
  (∀ (s : State) (p : Fin 21), s.core.held domFAB = false →
    Runs (.clearStats p) s { keys := Obj.STR_PORT_STAT.fields.map (fun f => f.key p) } (fun t =>
      ∀ f ∈ Obj.STR_PORT_STAT.fields, t.rd f p = 0)) ∧
  (∀ (s : State) (p : Fin 21) (lane : Fin 2) (set : BitVec 72),
    let b := leBytes 9 set.toNat
    s.core.held domFAB = false → fieldLE b 5 4 ≠ crc32c (b.take 5) → s.core.ptState p ≠ ptEqualising →
    Runs (.lmSetBad ⟨p, lane⟩ set) s { keys := [STR_PORT_STAT.LM_BAD.key p], parts := [.ports] } (fun t =>
      Counts s.core t STR_PORT_STAT.LM_BAD p ∧ (t.port p).ts1 = (s.core.port p).ts1.set lane 0)) ∧
  (∀ (s : State) (p : Fin 21) (positive : Bool) (groups : List (BitVec 10)) (ending : BitVec 10),
    let ss := decodeGroups positive (groups ++ [ending])
    let r := assembleFrame (isHead p) 0 [] ss
    let bad := match r.1 with
      | .whole b => (match parseFrame b with
        | some (ftype, h, payload) => codeErrors (isHead p) ss != 0 || !frameGood p ftype h payload
        | none => true)
      | _ => true
    let f := if r.1 = .aborted then STR_PORT_STAT.FRAME_ABORT else STR_PORT_STAT.FRAME_BAD
    s.core.held domFAB = false → bad = true →
    Runs (.frameDiscarded p positive groups ending) s
      { keys := [STR_PORT_STAT.CODE_ERR.key p, f.key p] ++ (if r.2 then [STR_PORT_STAT.SURGE_BAD.key p] else []) }
      (fun t => Counts s.core t f p ∧ (r.2 = true → Counts s.core t STR_PORT_STAT.SURGE_BAD p) ∧
        t.rd STR_PORT_STAT.CODE_ERR p = min (s.core.rd STR_PORT_STAT.CODE_ERR p + codeErrors (isHead p) ss) 65535)) ∧
  (∀ (s : State) (p : Fin 21) (lane : Fin 2) (set : BitVec 72),
    let b := leBytes 9 set.toNat
    s.core.held domFAB = false → fieldLE b 5 4 ≠ crc32c (b.take 5) →
    Acts (.lmSetBad ⟨p, lane⟩ set) s (fun t => Counts s.core t STR_PORT_STAT.LM_BAD p)) ∧
  (∀ (s : State) (p : Fin 21) (lane : Fin 2), s.core.held domFAB = false → lane.val < laneCount p →
    s.core.ptState p = ptNeap → (s.core.port p).neapStep = 3 →
    Acts (.wake p lane) s (fun t => t.isUp p = true ∧ Counts s.core t STR_PORT_STAT.NEAP_EXITS p ∧
      (t.port p).neapStep = 0)) ∧
  (∀ (positive : Bool) (ss : List Sym),
    decodeGroups positive (encodeSyms positive ss).1 = ss.map some ∧
    (encodeSyms positive ss).1.foldl groupDisparity positive = (encodeSyms positive ss).2) ∧
  (∀ (head positive : Bool) (b : Bytes),
    assembleFrame head 0 [] (decodeGroups positive (encodeSyms positive (b.map Sym.data ++ [.ctl .eof])).1) =
      (.whole b, false))

/-- R164, R166, R179: what a receiver does with a frame before its content counts. On a port that is UP a frame that R166 makes
it discard is counted in FRAME_BAD, a duplicate in DUP and a stale one in STALE, and nothing else changes; here for every
control frame of a head or aux port. -/
def Obligations.BadAndOldFramesOnlyCount : Prop :=
  (∀ (s : State) (p : Fin 18) (h : FrameHdr) (b : Bytes) (r : Nat × Instr), r ∈ controlRows p h b →
    s.core.held domFAB = false → s.core.isUp p = true →
    frameGood p r.1 h b = false →
    Runs r.2 s { keys := [STR_PORT_STAT.FRAME_BAD.key p] } (fun t => Counts s.core t STR_PORT_STAT.FRAME_BAD p)) ∧
  (∀ (s : State) (p : Fin 18) (h : FrameHdr) (b : Bytes) (r : Nat × Instr), r ∈ controlRows p h b →
    s.core.accepts p r.1 h b → seqJudge (s.core.ctlLast p h) (bitOf h.flags.toNat 6) h.seq.toNat = 1 →
    Runs r.2 s { keys := [STR_PORT_STAT.DUP.key p] } (fun t => Counts s.core t STR_PORT_STAT.DUP p)) ∧
  (∀ (s : State) (p : Fin 18) (h : FrameHdr) (b : Bytes) (r : Nat × Instr), r ∈ controlRows p h b →
    s.core.accepts p r.1 h b → seqJudge (s.core.ctlLast p h) (bitOf h.flags.toNat 6) h.seq.toNat = 2 →
    Runs r.2 s { keys := [STR_PORT_STAT.STALE.key p] } (fun t => Counts s.core t STR_PORT_STAT.STALE p))

/-- R192, R193, R195: a node's control frames. An answer settles its request and a LATE one counts, posts NODE_CFG_LATE and
holds the layer whose tide mark it was for; a request unanswered for 50 µs is sent again, and after three copies its node is
lost; ENUM_RSP numbers a chain and reads the delays of its nodes; AUX_DATA_UP is judged only; and an EVENT is acknowledged and
posted. Clauses with `Acts` say that a command completes under its rule's own conditions alone. -/
def Obligations.NodeFramesAsSpecified : Prop :=
  (∀ (s : State) (p : Fin 21) (h : FrameHdr) (b : Bytes) (o : CfgOut),
    s.core.accepts p 0x83 h b → p.val < 18 → newIn h (s.core.ctlLast p h) →
    (s.core.port p).sent.find? (fun o => o.seq == h.tag.toNat && o.node == h.node.toNat && !o.read) = some o →
    fieldLE b 0 2 ≠ 3 →
    Runs (.cfgWrRsp p h b) s { parts := [.ports] } (fun t =>
      t.port p = { s.core.port p with
        rxCtl := Kv.put 0 (s.core.port p).rxCtl h.node.toNat (h.seq.toNat + 1),
        sent := dropSent o.seq o.node (s.core.port p).sent })) ∧
  (∀ (s : State) (p : Fin 21) (h : FrameHdr) (b : Bytes) (o : CfgOut),
    s.core.accepts p 0x83 h b → p.val < 18 → newIn h (s.core.ctlLast p h) →
    (s.core.port p).sent.find? (fun o => o.seq == h.tag.toNat && o.node == h.node.toNat && !o.read) = some o →
    fieldLE b 0 2 = 3 →
    Runs (.cfgWrRsp p h b) s
      { keys := [STR_PORT_STAT.CFG_LATE.key p], parts := [.ports, .events, .escHold] }
      (fun t => Counts s.core t STR_PORT_STAT.CFG_LATE p ∧ (t.port p).sent = dropSent o.seq o.node (s.core.port p).sent ∧
        t.events = s.core.events ++
          [⟨evNodeCfgLate, p, none, leBytes 2 o.node ++ [0#8, 0#8] ++ leBytes 4 o.tag, s.core.ticks⟩] ∧
        t.escHold = s.core.escHold ++ (if o.tideLayer && s.core.nodeArmed p then [evNodeCfgLate] else []))) ∧
  (∀ (s : State) (p : Fin 16) (h : FrameHdr) (b : Bytes) (o : CfgOut),
    let q : Fin 21 := ⟨p.val, by omega⟩
    s.core.accepts p 0x84 h b → newIn h (s.core.ctlLast p h) →
    (s.core.port p).sent.find? (fun o => o.seq == h.tag.toNat && o.node == h.node.toNat && o.read) = some o →
    Runs (.cfgRdRsp q h b) s { parts := [.ports] } (fun t =>
      (t.port p).sent = dropSent o.seq o.node (s.core.port p).sent)) ∧
  (∀ (s : State) (p : Fin 21) (o : CfgOut), s.core.held domFAB = false → s.core.isUp p = true →
    (s.core.port p).sent = [o] → o.sentAt + 100 ≤ s.core.ticks → o.retries < 3 →
    Runs (.cfgRetransmit p) s
      { parts := [.ports],
        outs := if s.core.muted then [] else [.frame p (if p.val < 16 then 1 else 0) (if o.read then 0x04 else 0x03)
          ((if o.now then 128 else 0) + s.core.unitFlag) o.node o.seq o.tag 0 o.payload] }
      (fun t => (t.port p).sent = [{ o with retries := o.retries + 1, sentAt := s.core.ticks }])) ∧
  (∀ (s : State) (p : Fin 21) (o : CfgOut), s.core.held domFAB = false → s.core.isUp p = true →
    (s.core.port p).sent = [o] → o.sentAt + 100 ≤ s.core.ticks → 3 ≤ o.retries →
    Runs (.cfgRetransmit p) s { parts := [.ports, .events] } (fun t => (t.port p).sent = [] ∧
      t.events = s.core.events ++ [⟨evNodeLost, 0, none, leBytes 2 o.node, s.core.ticks⟩])) ∧
  (∀ (s : State) (p : Fin 21) (h : FrameHdr) (b : Bytes),
    let nodes := fieldLE b 0 2 - s.core.chainBase p
    let ext := fieldLE b 2 2 - s.core.extBase
    let n (i : Nat) := s.core.chainBase p + i
    let first (k : Nat) (reg count : Nat) := Output.frame p 0 0x04
      (s.core.unitFlag + (if (s.core.port p).sentTo.contains k then 0 else 64)) k (Kv.get 0 (s.core.port p).txCtl k) 0 0
      (leBytes 2 reg ++ leBytes 2 count)
    s.core.accepts p 0x85 h b → newIn h (s.core.ctlLast p h) → n nodes ≤ s.core.extBase →
    Runs (.enumRsp p h b) s
      { keys := [STR_CHAIN.CHAIN_NODES.key p, STR_CHAIN.EXT_NODES.key p, STR_CHAIN.OVERFLOW.key p],
        parts := [.ports, .events],
        outs := if s.core.muted then [] else
          (List.range nodes).map (fun i => first (n i) 0x30 2) ++
          (List.range nodes).map (fun i => .frame p 0 0x04 s.core.unitFlag (n i)
            ((Kv.get 0 (s.core.port p).txCtl (n i) + 1) % 65536) 0 0 (leBytes 2 7 ++ leBytes 2 1)) ++
          (List.range ext).map (fun i => first (s.core.extBase + i) 7 1) }
      (fun t => t.rd STR_CHAIN.CHAIN_NODES p = min nodes 255 ∧ t.rd STR_CHAIN.EXT_NODES p = min ext 4095 ∧
        t.rd STR_CHAIN.OVERFLOW p = fieldLE b 5 1 % 2 ∧
        t.events = s.core.events ++ [⟨evChainEnumerated, p, none,
          leBytes 1 nodes ++ [0#8] ++ leBytes 2 ext ++ leBytes 1 (fieldLE b 5 1 % 2), s.core.ticks⟩])) ∧
  (∀ (s : State) (p : Fin 21) (h : FrameHdr) (b : Bytes), s.core.accepts p 0x87 h b → newIn h (s.core.ctlLast p h) →
    Runs (.auxDataUp p h b) s { parts := [.ports] } (fun t =>
      t.port p = { s.core.port p with
        rxCtl := Kv.put 0 (s.core.port p).rxCtl h.node.toNat (h.seq.toNat + 1) })) ∧
  (∀ (s : State) (p : Fin 21) (h : FrameHdr) (b : Bytes), s.core.accepts p 0x88 h b → p.val < 18 →
    newIn h (s.core.ctlLast p h) → fieldLE b 0 2 ≠ 1 →
    Runs (.nodeEvent p h b) s
      { parts := [.ports, .events],
        outs := if s.core.muted then [] else [s.core.ctlFrame p 0x08 0 h.node.toNat
          (Kv.get 0 (s.core.port p).txCtl h.node.toNat) h.seq.toNat (zeros 4)] }
      (fun t => t.events = s.core.events ++ [⟨evNodeEvent, 0, none, leBytes 2 h.node.toNat ++ b, s.core.ticks⟩])) ∧
  (∀ (s : State) (p : Fin 21) (h : FrameHdr) (b : Bytes) (o : CfgOut),
    s.core.accepts p 0x84 h b → newIn h (s.core.ctlLast p h) →
    (s.core.port p).sent.find? (fun o => o.seq == h.tag.toNat && o.node == h.node.toNat && o.read) = some o →
    Acts (.cfgRdRsp p h b) s (fun t => ∀ x ∈ dropSent o.seq o.node (s.core.port p).sent, x ∈ (t.port p).sent)) ∧
  (∀ (s : State) (p : Fin 21), s.core.held domFAB = false → s.core.isUp p = true →
    Acts (.cfgRetransmit p) s (fun t => (∀ o ∈ (t.port p).sent, s.core.ticks < o.sentAt + 100) ∧
      (∀ o ∈ (s.core.port p).sent, s.core.ticks < o.sentAt + 100 → (∀ x ∈ (s.core.port p).sent, x ≠ o →
        x.seq ≠ o.seq ∨ x.node ≠ o.node) → o ∈ (t.port p).sent))) ∧
  (∀ (s : State) (p : Fin 21) (h : FrameHdr) (b : Bytes), s.core.accepts p 0x85 h b → newIn h (s.core.ctlLast p h) →
    Acts (.enumRsp p h b) s (fun t =>
      t.rd STR_CHAIN.CHAIN_NODES p = min (fieldLE b 0 2 - s.core.chainBase p) 255 ∧
      t.rd STR_CHAIN.EXT_NODES p = min (fieldLE b 2 2 - s.core.extBase) 4095 ∧
      t.rd STR_CHAIN.OVERFLOW p = fieldLE b 5 1 % 2)) ∧
  (∀ (s : State) (p : Fin 21) (h : FrameHdr) (b : Bytes), s.core.accepts p 0x88 h b →
    newIn h (s.core.ctlLast p h) →
    Acts (.nodeEvent p h b) s (fun t =>
      ⟨evNodeEvent, 0, none, leBytes 2 h.node.toNat ++ b, s.core.ticks⟩ ∈ t.events ∧
      (fieldLE b 0 2 = 1 → p.val < 16 → bitOf (t.port p).cassFaults (fieldLE b 2 1 % 4) = true)))

/-- R86, R170 to R172: TICK_UP is the tick's acknowledgement. It sets the node's status, keeps the sample of each channel that
STATUS names for the next boundary, counts TICK_LATE where its tick has passed, and is the acknowledgement due only where its
TAG names the present tick. -/
def Obligations.TickUpBringsSamples : Prop :=
  ∀ (s : State) (p : Fin 16) (h : FrameHdr) (b : Bytes),
    let q : Fin 21 := ⟨p.val, by omega⟩
    let tn := s.core.tickAt h.tag.toNat
    let late := decide (tn + tickU ≤ s.core.now)
    s.core.accepts p 0x81 h b →
    newIn h (match (s.core.port p).rxTick with | some n => n + 1 | none => 0) →
    Runs (.tickUp q h b) s
      { keys := if late then [STR_PORT_STAT.TICK_LATE.key p] else [], parts := [.ports, .seq] }
      (fun t => (t.port p).ackGot = ((s.core.port p).ackGot || tn == s.core.now / tickU * tickU) ∧
        (late = true → (t.port p).missRun = 0) ∧ (t.port p).rxTick = some h.seq.toNat ∧
        (t.port p).nodeStatus = some (fieldLE b 0 1, fieldLE b 1 1) ∧
        (late = true → Counts s.core t STR_PORT_STAT.TICK_LATE p) ∧
        ∀ k : Fin 4, (t.ch (4 * p + k)).fb.latched = (s.core.ch (4 * p + k)).fb.latched ++
          (if bitOf (fieldLE b 0 1) k then [rawSample tn late b k] else []))

/-- R250 to R255: packets of a camera stream. A frame start of a bound stream takes a free slot and opens a frame with its
stamp, or counts DROPPED; a line is stored in the frame's slot as 16-bit words cut to WIDTH, and one of another data type is
skipped; a frame end judges the frame by its lines; a header beyond correction is counted and nothing else; and the watchdog
ends a stalled frame, or counts a missing one. Clauses with `Acts` say that a command completes under its rule's own conditions
alone. -/
def Obligations.CameraPacketsBuildFrames : Prop :=
  (∀ (s : State) (p : Fin 8) (vc : Fin 16) (fn : BitVec 16) (ecc : Fin 3) (off : SubTick) (k slot : Nat) (rest : List Nat),
    let stamp := (s.core.now + off.val) / (8 * nsU) * (8 * nsU)
    s.core.stopped domCAM = false → s.core.rd CAM_PORT.ENABLE p ≠ 0 → ecc.val < 2 → s.core.boundCtx p vc = some k →
    s.core.img.frames.any (isOpen p vc) = false → (s.core.camPort p).free = slot :: rest →
    Runs (.csiFrameStart p vc fn ecc off) s
      { keys := CAM_STAT.FRAMES.key p :: (if ecc.val = 1 then [CAM_STAT.ECC_CORR.key p] else []), parts := [.img] }
      (fun t => t.img.frames = s.core.img.frames ++
          [⟨k, p, vc, stamp, stamp, s.core.frameSlot p slot, s.core.rd CAM_PORT.SLOT_SIZE p, fn.toNat, 0, false, false, false, false, false, false⟩] ∧
        (t.camPort p).free = rest ∧ (t.ictx k).lastStart = some stamp ∧ Counts s.core t CAM_STAT.FRAMES p ∧
        (ecc.val = 1 → Counts s.core t CAM_STAT.ECC_CORR p))) ∧
  (∀ (s : State) (p : Fin 8) (vc : Fin 16) (fn : BitVec 16) (off : SubTick) (k : Nat),
    s.core.stopped domCAM = false → s.core.rd CAM_PORT.ENABLE p ≠ 0 → s.core.boundCtx p vc = some k →
    s.core.img.frames.any (isOpen p vc) = false → (s.core.camPort p).free = [] →
    Runs (.csiFrameStart p vc fn 0 off) s { keys := [CAM_STAT.DROPPED.key p, IPL_STAT.DROPPED.key k], parts := [.img] }
      (fun t => t.img.frames = s.core.img.frames ∧ Counts s.core t CAM_STAT.DROPPED p ∧
        Counts s.core t IPL_STAT.DROPPED k)) ∧
  (∀ (s : State) (p : Fin 8) (vc : Fin 16) (dt : BitVec 6) (crcOk : Bool) (data : Bytes) (f : CamFrame),
    let k := f.ctx
    let w := s.core.rd IPL_CTX.WIDTH k
    let px := unpackLine (s.core.rd IPL_CTX.DT k) data
    s.core.stopped domCAM = false → s.core.img.frames.find? (isOpen p vc) = some f → dt.toNat = s.core.ctxDt k →
    f.lines < s.core.rd IPL_CTX.HEIGHT k →
    Runs (.csiLongPacket p vc dt 0 crcOk data) s
      { keys := if crcOk then [] else [CAM_STAT.CRC_ERR.key p], parts := [.img, .drc],
        writes := [(f.base + 2 * w * f.lines,
          (px.take w).flatMap (leBytes 2))] }
      (fun t => t.img.frames = s.core.img.frames.map (fun g => if isOpen p vc g then
          { g with lines := g.lines + 1, short := g.short || decide (px.length < w),
                   long := g.long || decide (w < px.length), lineErr := g.lineErr || !crcOk } else g) ∧
        (crcOk = false → Counts s.core t CAM_STAT.CRC_ERR p))) ∧
  (∀ (s : State) (p : Fin 8) (vc : Fin 16) (dt : BitVec 6) (crcOk : Bool) (data : Bytes) (k : Nat),
    s.core.stopped domCAM = false → s.core.rd CAM_PORT.ENABLE p ≠ 0 → s.core.streamCtx p vc = some k →
    dt.toNat ≠ s.core.ctxDt k →
    Runs (.csiLongPacket p vc dt 0 crcOk data) s { keys := [CAM_STAT.DT_SKIP.key p] } (fun t =>
      Counts s.core t CAM_STAT.DT_SKIP p)) ∧
  (∀ (s : State) (p : Fin 8) (vc : Fin 16) (f : CamFrame),
    s.core.stopped domCAM = false → s.core.img.frames.find? (isOpen p vc) = some f →
    Runs (.csiFrameEnd p vc 0) s { parts := [.img] } (fun t =>
      t.img.frames = s.core.img.frames.map (fun g => if isOpen p vc g then
          { g with ended := true, timeout := false,
                   short := g.short || decide (g.lines < s.core.rd IPL_CTX.HEIGHT g.ctx) } else g) ∧
      (t.ictx f.ctx).timedOut = false ∧
      (t.ictx f.ctx).acq = (if (s.core.ictx f.ctx).acq = 2 then 0 else (s.core.ictx f.ctx).acq))) ∧
  (∀ (s : State) (p : Fin 8) (vc : Fin 16), s.core.stopped domCAM = false → s.core.rd CAM_PORT.ENABLE p ≠ 0 →
    Runs (.csiFrameEnd p vc 2) s { keys := [CAM_STAT.ECC_BAD.key p] } (fun t => Counts s.core t CAM_STAT.ECC_BAD p)) ∧
  (∀ (s : State) (k : Fin 32) (f : CamFrame),
    s.core.stopped domCAM = false → s.core.img.frames.find? (fun g => g.ctx == k.val && !g.ended) = some f →
    f.since + s.core.watchdog k ≤ s.core.now → (s.core.ictx k).timedOut = false →
    Runs (.frameTimeout k) s { parts := [.img, .events] } (fun t =>
      t.img.frames = s.core.img.frames.map (fun g => if isOpen f.port f.vc g then
        { g with ended := true, timeout := true, short := true } else g) ∧
      (t.ictx k).timedOut = true ∧
      t.events = s.core.events ++ [⟨evIplTimeout, k, none, leBytes 2 f.fn, s.core.ticks⟩])) ∧
  (∀ (s : State) (k : Fin 32) (at_ : Nat),
    s.core.stopped domCAM = false → s.core.rd IPL_CTX.ENABLE k ≠ 0 → (s.core.ictx k).lastStart = some at_ →
    s.core.img.frames.any (fun f => f.ctx == k.val && !f.ended) = false →
    at_ + ((s.core.ictx k).missed + 1) * s.core.watchdog k ≤ s.core.now →
    Runs (.frameMissing k) s { keys := [IPL_STAT.MISSING.key k], parts := [.img] } (fun t =>
      Counts s.core t IPL_STAT.MISSING k ∧
      t.ictx k = { s.core.ictx k with missed := (s.core.ictx k).missed + 1 })) ∧
  (∀ (s : State) (p : Fin 8) (vc : Fin 16) (fn : BitVec 16) (ecc : Fin 3) (off : SubTick) (k : Nat),
    s.core.stopped domCAM = false → s.core.rd CAM_PORT.ENABLE p ≠ 0 → ecc.val < 2 → s.core.boundCtx p vc = some k →
    Acts (.csiFrameStart p vc fn ecc off) s (fun t =>
      (t.ictx k).lastStart = some ((s.core.now + off.val) / (8 * nsU) * (8 * nsU)) ∧ (t.ictx k).missed = 0)) ∧
  (∀ (s : State) (p : Fin 8) (vc : Fin 16), s.core.stopped domCAM = false → s.core.rd CAM_PORT.ENABLE p ≠ 0 →
    Acts (.csiFrameEnd p vc 0) s (fun t => t.img.frames.any (isOpen p vc) = false ∧
      t.img.frames.length = s.core.img.frames.length)) ∧
  (∀ (s : State) (k : Fin 32) (f : CamFrame),
    s.core.stopped domCAM = false → s.core.img.frames.find? (fun g => g.ctx == k.val && !g.ended) = some f →
    f.since + s.core.watchdog k ≤ s.core.now →
    Acts (.frameTimeout k) s (fun t => t.img.frames.any (isOpen f.port f.vc) = false ∧ (t.ictx k).timedOut = true ∧
      t.events = s.core.events ++ (if (s.core.ictx k).timedOut then []
        else [⟨evIplTimeout, k, none, leBytes 2 f.fn, s.core.ticks⟩])))

/-- R256 to R265: a free pipeline takes the first frame in key order once it has ended, with its context's parameters as they
stand and its NR_SIG; when it has processed the frame, a record is written into the feature ring at FR_PROD, the frame is
counted, its slot freed and the pipeline is free again; a short frame is reported with zero features, any other updates the
temporal reference. Clauses with `Acts` say that a command completes under its rule's own conditions alone. -/
def Obligations.PipelineTakesAndReports : Prop :=
  (∀ (s : State) (pipe : Fin 2) (f : CamFrame),
    let k := f.ctx
    let v := s.core.image Obj.IPL_CTX k
    s.core.stopped domCAM = false → s.core.img.cur.getD pipe none = none → s.core.firstFrame pipe = some f → f.ended = true →
    s.core.rd IPL_CTX.ENABLE k ≠ 0 → (s.core.ictx k).capture = none →
    Runs (.pipelineTake pipe) s
      { keys := [IPL_CTX_STATE.NR_SIG.key k, IPL_CTX_STATE.DARK_STATE.key k, IPL_CTX_STATE.FLAT_STATE.key k],
        parts := [.img, .events] }
      (fun t => t.img.frames = s.core.img.frames.filter (fun g => g != f) ∧
        t.img.cur.getD pipe none = some ⟨f, v, (s.core.ictx k).taken + 1, (s.core.ictx k).defects,
          t.rd IPL_CTX_STATE.DARK_STATE k, t.rd IPL_CTX_STATE.FLAT_STATE k,
          !f.short && ((s.core.ictx k).resetDue || nrSig v != s.core.rd IPL_CTX_STATE.NR_SIG k), false⟩ ∧
        t.rd IPL_CTX_STATE.NR_SIG k = nrSig v % 2 ^ 32 ∧ (t.ictx k).taken = (s.core.ictx k).taken + 1)) ∧
  (∀ (s : State) (pipe : Fin 2) (x : Taken),
    let c := s.core
    let k := x.frame.ctx
    let size := 2 ^ c.rd IPL_OUT.FRING_LOG2
    let prod := c.rd IPL_OUT.FR_PROD
    let dark := x.dark == refStale
    let flat := x.flat == refStale
    let flags := 1 + 8 * b2n x.frame.lineErr + 16 * b2n x.frame.feLost + 32 * b2n dark + 64 * b2n flat +
      128 * b2n x.reset + 512 * b2n x.capt
    c.stopped domCAM = false → c.img.cur.getD pipe none = some x → x.frame.short = true → x.frame.long = false →
    x.frame.timeout = false → (c.ictx k).capture = none → imgField x.ctx IPL_CTX.TRIM_BIND = 0 →
    c.rd IPL_OUT.FR_EN ≠ 0 → (prod + 2 ^ 32 - c.rd IPL_OUT.FR_CONS) % 2 ^ 32 < size →
    Runs (.featureRecordDone ⟨pipe, none⟩) s
      { keys := [IPL_STAT.PROCESSED.key k, IPL_STAT.SHORT.key k, IPL_STAT.STALE_USE.key k, IPL_OUT.FR_PROD.key 0],
        parts := [.img, .drc],
        writes := [(c.rd IPL_OUT.FRING_ADDR + 64 * (prod % size), featureRecord x flags (c.ictx k).drops (zeros 34))] }
      (fun t => Counts c t IPL_STAT.PROCESSED k ∧ Counts c t IPL_STAT.SHORT k ∧
        t.rd IPL_OUT.FR_PROD = (prod + 1) % 2 ^ 32 ∧ t.img.cur.getD pipe none = none ∧
        ∀ i ∈ List.range (c.rd CAM_PORT.RING_SLOTS x.frame.port), t.slotEmpty x.frame.port i = true →
          i ∈ (t.camPort x.frame.port).free)) ∧
  (∀ (s : State) (pipe : Fin 2) (x : Taken),
    let c := s.core
    let k := x.frame.ctx
    let size := 2 ^ c.rd IPL_OUT.FRING_LOG2
    let prod := c.rd IPL_OUT.FR_PROD
    let dark := x.dark == refStale
    let flat := x.flat == refStale
    let g := c.begin.stages s.dram x
    let feat := features g.f (imgField x.ctx IPL_CTX.WIDTH) x.ctx
    let flags := 8 * b2n x.frame.lineErr + 16 * b2n x.frame.feLost + 32 * b2n dark + 64 * b2n flat +
      128 * b2n x.reset + 256 * b2n feat.2.1 + 512 * b2n x.capt + 1024 * b2n feat.2.2
    c.stopped domCAM = false → c.img.cur.getD pipe none = some x → x.frame.short = false → x.frame.long = false →
    x.frame.timeout = false → (c.ictx k).capture = none → imgField x.ctx IPL_CTX.TRIM_BIND = 0 →
    c.rd IPL_OUT.FR_EN ≠ 0 → (prod + 2 ^ 32 - c.rd IPL_OUT.FR_CONS) % 2 ^ 32 < size →
    Runs (.featureRecordDone ⟨pipe, none⟩) s
      { keys := [IPL_STAT.PROCESSED.key k, IPL_STAT.STALE_USE.key k, IPL_OUT.FR_PROD.key 0], parts := [.img, .drc],
        writes := [(imgField x.ctx IPL_CTX.TREF_ADDR, wordBytes g.t),
          (c.rd IPL_OUT.FRING_ADDR + 64 * (prod % size), featureRecord x flags (c.ictx k).drops feat.1)] }
      (fun t => Counts c t IPL_STAT.PROCESSED k ∧ t.rd IPL_OUT.FR_PROD = (prod + 1) % 2 ^ 32 ∧
        t.img.cur.getD pipe none = none)) ∧
  (∀ (s : State) (pipe : Fin 2) (f : CamFrame), s.core.stopped domCAM = false → s.core.img.cur.getD pipe none = none →
    s.core.firstFrame pipe = some f → f.ended = true →
    Acts (.pipelineTake pipe) s (fun t => t.img.frames = s.core.img.frames.filter (fun g => g != f) ∧
      (t.img.cur.getD pipe none).map Taken.frame = if s.core.rd IPL_CTX.ENABLE f.ctx = 0 then none else some f)) ∧
  (∀ (s : State) (pipe : Fin 2) (bad : Option (BitVec 48 × Bool)) (x : Taken),
    s.core.stopped domCAM = false → s.core.img.cur.getD pipe none = some x →
    Acts (.featureRecordDone ⟨pipe, bad⟩) s (fun t => Counts s.core t IPL_STAT.PROCESSED x.frame.ctx ∧
      t.img.cur.getD pipe none = none ∧ (t.ictx x.frame.ctx).drops = 0))

/-- R266: a periodic trigger that falls due starts a pulse of WIDTH × 8 ns, or is skipped and counted while one runs; a write
of PULSE asks for one pulse at the next tick boundary. Clauses with `Acts` say that a command completes under its rule's own
conditions alone. -/
def Obligations.CameraTriggersFire : Prop :=
  (∀ (s : State) (p : Fin 8) (off : SubTick),
    let at_ := s.core.now + off.val
    s.core.stopped domCAM = false → s.core.held domTIM = false → s.core.rd CAM_TRIG.MODE p = 1 →
    periodStart at_ (s.core.rd CAM_TRIG.PERIOD p) (s.core.rd CAM_TRIG.PHASE p) = true → (s.core.camPort p).pulseEnd ≤ at_ →
    (s.core.stopped domLUM = true ∨ ∀ n : Fin 16, (s.core.sink n).strobe = false ∨ s.core.rd LUM_SINK.STROBE_PORT n ≠ p) →
    Runs (.ctrigPeriodic p off) s { parts := [.img], outs := [.ctrig p (s.core.rd CAM_TRIG.POL p == 0) (s.core.rd CAM_TRIG.WIDTH p)] } (fun t =>
      t.camPort p = { s.core.camPort p with pulseEnd := at_ + s.core.rd CAM_TRIG.WIDTH p * 8 * nsU } ∧
      ∀ k : Fin 32, t.ictx k =
        if s.core.rd IPL_CTX.PORT k = p then { s.core.ictx k with acq := 1 } else s.core.ictx k)) ∧
  (∀ (s : State) (p : Fin 8) (off : SubTick),
    let at_ := s.core.now + off.val
    s.core.stopped domCAM = false → s.core.held domTIM = false → s.core.rd CAM_TRIG.MODE p = 1 →
    periodStart at_ (s.core.rd CAM_TRIG.PERIOD p) (s.core.rd CAM_TRIG.PHASE p) = true → at_ < (s.core.camPort p).pulseEnd →
    Runs (.ctrigPeriodic p off) s { keys := [CAM_STAT.TRIG_SKIP.key p] } (fun t =>
      Counts s.core t CAM_STAT.TRIG_SKIP p)) ∧
  (∀ (s : State) (p : Fin 8), s.core.stopped domCAM = false → s.core.rd CAM_TRIG.MODE p = 3 →
    Runs (.pulse p) s { parts := [.img] } (fun t => t.camPort p = { s.core.camPort p with pulseDue := true })) ∧
  (∀ (s : State) (p : Fin 8) (off : SubTick),
    let at_ := s.core.now + off.val
    s.core.stopped domCAM = false → s.core.held domTIM = false → s.core.rd CAM_TRIG.MODE p = 1 →
    periodStart at_ (s.core.rd CAM_TRIG.PERIOD p) (s.core.rd CAM_TRIG.PHASE p) = true → (s.core.camPort p).pulseEnd ≤ at_ →
    Acts (.ctrigPeriodic p off) s (fun t =>
      (t.camPort p).pulseEnd = at_ + s.core.rd CAM_TRIG.WIDTH p * 8 * nsU ∧
      .ctrig p (s.core.rd CAM_TRIG.POL p == 0) (s.core.rd CAM_TRIG.WIDTH p) ∈ t.out))

/-- R270 to R273, R282: lighting commands that drive. A steady sink's period start sets LEVEL_NOW, E_NOW and I_NOW from its
level, curve and the global level, and drives IMAX-scaled current for the whole period, or HYB_TH pulsed, or nothing; a fade
step moves every running fade by one; a write of LEVEL or GLOBAL waits for the next tick boundary (log 28); UPDATE asks for a
snapshot. Clauses with `Acts` say that a command completes under its rule's own conditions alone. -/
def Obligations.LightingDrivesAsSpecified : Prop :=
  (∀ (s : State) (n : Fin 16) (off : SubTick) (lamps : BitVec 16),
    let c := s.core
    let at_ := c.now + off.val
    let e := curveOf (c.rd LUM_SINK.CURVE n) (c.rd LUM_SINK.CURVE_P n) (c.sink n).level * c.lum.gLevel / 2 ^ 15
    let i := (e * c.rd LUM_SINK.IMAX n + 32767) / 65535
    let h := c.rd LUM_SINK.HYB_TH n
    let per := c.rd LUM_SINK.PERIOD n
    let dark : Bool := e == 0 || c.rd LUM_SINK.ENABLE n == 0 || c.rd LUM_SINK_STATE.SHORT_LO n != 0 ||
      c.rd LUM_SINK_STATE.SHORT_HI n != 0 || i == 0
    c.stopped domLUM = false → c.held domTIM = false → periodStart at_ per (c.rd LUM_SINK.PHASE n) = true →
    (c.sink n).strobe = false → (c.sink n).check = none → (c.sink n).diag = false → c.rd LUM_SINK.MODE n = 0 →
    Runs (.sinkPeriodStart n off lamps) s
      { keys := [LUM_SINK_STATE.LEVEL_NOW.key n, LUM_SINK_STATE.E_NOW.key n, LUM_SINK_STATE.I_NOW.key n,
          LUM_SINK_STATE.DRIVE.key n, LUM_SINK_STATE.OPEN_STATE.key n],
        parts := [.lum],
        outs := [if dark then .sink n 0 0 else if h ≤ i then .sink n i 0
          else .sink n h (8 * max 1 (per * i / (h * 8)))] }
      (fun t => t.rd LUM_SINK_STATE.LEVEL_NOW n = (c.sink n).level % 2 ^ 16 ∧ t.rd LUM_SINK_STATE.E_NOW n = e % 2 ^ 16 ∧
        t.rd LUM_SINK_STATE.I_NOW n = i % 2 ^ 16 ∧
        t.rd LUM_SINK_STATE.DRIVE n = if !dark ∧ i < h then 1 else 0)) ∧
  (∀ s : State, s.core.stopped domLUM = false → s.core.held domTIM = false → s.core.now % (100 * usU) = 0 →
    Runs .fadeStep s { parts := [.lum] } (fun t =>
      (∀ (n : Fin 16) (f : Fade), (s.core.sink n).fade = some f → f.at_ ≠ s.core.ticks →
        (t.sink n).level = (if f.total ≤ f.k + 1 then f.b1
          else ((f.b0 : Int) + (((f.b1 : Int) - f.b0) * (f.k + 1 : Nat)).tdiv f.total).toNat) ∧
        (t.sink n).fade = if f.total ≤ f.k + 1 then none else some ⟨f.b0, f.b1, f.k + 1, f.total, s.core.ticks⟩) ∧
      (∀ n : Fin 16, (∀ f, (s.core.sink n).fade = some f → f.at_ = s.core.ticks) → t.sink n = s.core.sink n) ∧
      (∀ f : Fade, s.core.lum.gFade = some f → f.at_ ≠ s.core.ticks →
        t.lum.gLevel = (if f.total ≤ f.k + 1 then f.b1
          else ((f.b0 : Int) + (((f.b1 : Int) - f.b0) * (f.k + 1 : Nat)).tdiv f.total).toNat)))) ∧
  (∀ (s : State) (n : Fin 16) (v : BitVec 16), s.core.held domLUM = false →
    Runs (.levelWrite n v) s { parts := [.tickW] } (fun t =>
      t.tickW = s.core.tickW ++ [(LUM_SINK.LEVEL, n.val, v.toNat)])) ∧
  (∀ (s : State) (v : BitVec 16), s.core.held domLUM = false →
    Runs (.globalWrite v) s { parts := [.tickW] } (fun t =>
      t.tickW = s.core.tickW ++ [(LUM_GLOBAL.GLOBAL, 0, v.toNat)])) ∧
  (∀ (s : State) (k : Fin 2), s.core.held domLUM = false →
    Runs (.update k) s { parts := [.lum] } (fun t =>
      t.shw (16 + k) = { s.core.shw (16 + k) with updateDue := true })) ∧
  (∀ (s : State) (n : Fin 16) (off : SubTick) (lamps : BitVec 16),
    let c := s.core
    let at_ := c.now + off.val
    let e := curveOf (c.rd LUM_SINK.CURVE n) (c.rd LUM_SINK.CURVE_P n) (c.sink n).level * c.lum.gLevel / 2 ^ 15
    c.stopped domLUM = false → c.held domTIM = false →
    periodStart at_ (c.rd LUM_SINK.PERIOD n) (c.rd LUM_SINK.PHASE n) = true →
    ((c.sink n).strobe = false ∨ (c.sink n).conducts at_ = false) →
    Acts (.sinkPeriodStart n off lamps) s (fun t => (t.sink n).strobe = (c.rd LUM_SINK.MODE n != 0) ∧
      (c.rd LUM_SINK.MODE n = 0 → t.rd LUM_SINK_STATE.LEVEL_NOW n = (c.sink n).level % 2 ^ 16 ∧
        t.rd LUM_SINK_STATE.E_NOW n = e % 2 ^ 16) ∧
      (c.rd LUM_SINK.MODE n ≠ 0 → t.rd LUM_SINK_STATE.DRIVE n = 0)))

/-- R275, R276, R278: checks of sinks. A shorted neighbour puts both sinks off and posts LUM_SHORT; CLEAR_SHORT releases a sink
and its shorted neighbours; at OPENCHK_MAXDEFER one diagnostic item is queued; the diagnostic pulse conducts HYB_TH for 4 µs
and the lamp's check ends with it. Clauses with `Acts` say that a command completes under its rule's own conditions alone. -/
def Obligations.SinkChecksAsSpecified : Prop :=
  (∀ (s : State) (n : Fin 15), s.core.stopped domLUM = false →
    (s.core.shortTested n (n + 1) = true ∨ s.core.shortTested (n + 1) n = true) →
    (s.core.sink n).check = none → (s.core.sink (n + 1)).check = none →
    (s.core.sink n).diag = false → (s.core.sink (n + 1)).diag = false →
    Runs (.shortDetect n) s
      { keys := [LUM_SINK_STATE.SHORT_HI.key n, LUM_SINK_STATE.SHORT_LO.key (n + 1), LUM_SINK_STATE.DRIVE.key n,
          LUM_SINK_STATE.DRIVE.key (n + 1), LUM_SINK_STATE.OPEN_STATE.key n, LUM_SINK_STATE.OPEN_STATE.key (n + 1)],
        parts := [.lum, .events], outs := [.sink n 0 0, .sink (n + 1) 0 0] }
      (fun t => t.rd LUM_SINK_STATE.SHORT_HI n = 1 ∧ t.rd LUM_SINK_STATE.SHORT_LO (n + 1) = 1 ∧
        t.rd LUM_SINK_STATE.DRIVE n = 0 ∧ t.rd LUM_SINK_STATE.DRIVE (n + 1) = 0 ∧
        t.events = s.core.events ++
          [⟨evLumShort, n, none, [BitVec.ofNat 8 n, BitVec.ofNat 8 (n + 1)], s.core.ticks⟩])) ∧
  (∀ (s : State) (n : Fin 16), s.core.held domLUM = false →
    Runs (.clearShort n) s
      { keys := [LUM_SINK_STATE.SHORT_LO.key n, LUM_SINK_STATE.SHORT_HI.key n, LUM_SINK_STATE.SHORT_HI.key (n - 1),
          LUM_SINK_STATE.SHORT_LO.key (n + 1), LUM_SINK_STATE.OPEN_STATE.key n, LUM_SINK_STATE.OPEN_STATE.key (n - 1),
          LUM_SINK_STATE.OPEN_STATE.key (n + 1)] }
      (fun t => t.rd LUM_SINK_STATE.SHORT_LO n = 0 ∧ t.rd LUM_SINK_STATE.SHORT_HI n = 0 ∧
        (s.core.rd LUM_SINK_STATE.SHORT_LO n ≠ 0 → t.rd LUM_SINK_STATE.SHORT_HI (n - 1) = 0) ∧
        (s.core.rd LUM_SINK_STATE.SHORT_HI n ≠ 0 → t.rd LUM_SINK_STATE.SHORT_LO (n + 1) = 0))) ∧
  (∀ (s : State) (n : Fin 16), s.core.stopped domLUM = false → s.core.rd LUM_SINK_STATE.DIAG_DUE n = 0 →
    s.core.rd LUM_GLOBAL.OPENCHK_MAXDEFER * 1000 ≤ s.core.rd LUM_SINK_STATE.SINCE_CHECK n →
    Runs (.openchkMaxdefer n) s { keys := [LUM_SINK_STATE.DIAG_DUE.key n], parts := [.pilot] } (fun t =>
      t.rd LUM_SINK_STATE.DIAG_DUE n = 1 ∧
      t.pilot = { s.core.pilot with slackWork := s.core.pilot.slackWork ++ [⟨kindDiag, n, 0, false⟩] })) ∧
  (∀ (s : State) (n : Fin 16) (off : SubTick) (held : BitVec 32) (lamps : BitVec 16),
    let at_ := s.core.now + off.val
    s.core.pulseFits n at_ → (s.core.sink n).check = none →
    Runs (.diagPulse n off held lamps) s { parts := [.lum], outs := [.sink n (s.core.rd LUM_SINK.HYB_TH n) 4000] } (fun t =>
      (t.sink n).current = s.core.rd LUM_SINK.HYB_TH n ∧ (t.sink n).onEnd = some (at_ + 4000 * nsU) ∧
      (t.sink n).check = some (at_ + 4 * usU) ∧ (t.sink n).diag = true ∧
      ∀ k : Fin 16, bitOf t.lum.openLamps k =
        if k = n then decide (2 * held.toNat < s.core.rd LUM_SINK.HYB_TH n) else bitOf lamps.toNat k)) ∧
  (∀ (s : State) (n : Fin 15), s.core.stopped domLUM = false →
    (s.core.shortTested n (n + 1) = true ∨ s.core.shortTested (n + 1) n = true) →
    Acts (.shortDetect n) s (fun t => t.rd LUM_SINK_STATE.SHORT_HI n = 1 ∧ t.rd LUM_SINK_STATE.SHORT_LO (n + 1) = 1 ∧
      (t.sink n).current = 0 ∧ (t.sink (n + 1)).current = 0 ∧
      ⟨evLumShort, n, none, [BitVec.ofNat 8 n, BitVec.ofNat 8 (n + 1)], s.core.ticks⟩ ∈ t.events)) ∧
  (∀ (s : State) (n : Fin 16) (off : SubTick) (held : BitVec 32) (lamps : BitVec 16),
    s.core.pulseFits n (s.core.now + off.val) →
    Acts (.diagPulse n off held lamps) s (fun t => (t.sink n).diag = true ∧
      (t.sink n).check = some (s.core.now + off.val + 4 * usU)))

/-- R280, R282, R283: Shingle wire frames. A frame that is due sends one share a driver from the snapshot and the sentinel with
the frame's number, counts in FRAMES, and takes a new snapshot first when one was asked for; at its end the returned bits set
RTN_STATE and DRIVERS_SEEN, count RTN_ERR unless the return is the sentinel alone, and a change posts LUM_CHAIN. -/
def Obligations.ShingleFramesAsSpecified : Prop :=
  (∀ (s : State) (k : Fin 2),
    let c := s.core
    let q := c.shw (16 + k)
    let no := (c.rd LUM_SHW_STATE.FRAME_NO (16 + k) + 1) % 65536
    let n := c.rd LUM_SHW.DRIVERS (16 + k)
    let words := (List.range (12 * n)).map (q.word (16 + k))
    c.stopped domLUM = false → c.rd LUM_SHW.ENABLE (16 + k) ≠ 0 → q.sending = false → q.updateDue = false →
    (q.waiting = true ∨ c.now % (c.rd LUM_SHW.REFRESH (16 + k) * 1000 * usU) = 0) →
    Runs (.shwFrameStart k) s
      { keys := [LUM_SHW_STATE.FRAME_NO.key (16 + k), LUM_SHW_STATE.FRAMES.key (16 + k)], parts := [.lum],
        outs := [.shingle k ((List.range n).flatMap (driverShare words) ++ sentinel no n)] }
      (fun t => t.rd LUM_SHW_STATE.FRAME_NO (16 + k) = no ∧
        t.rd LUM_SHW_STATE.FRAMES (16 + k) = min (c.rd LUM_SHW_STATE.FRAMES (16 + k) + 1) (2 ^ 32 - 1) ∧
        t.shw (16 + k) = { q with sending := true, waiting := false, drivers := n })) ∧
  (∀ (s : State) (k : Fin 2),
    let c := s.core
    let q := c.shw (16 + k)
    let no := (c.rd LUM_SHW_STATE.FRAME_NO (16 + k) + 1) % 65536
    let n := c.rd LUM_SHW.DRIVERS (16 + k)
    let words := (List.range (12 * n)).map (fun i =>
      fieldLE (readBytesUnder s.dram [] (c.rd LUM_SHW.TABLE_ADDR (16 + k)) (24 * n)) (2 * i) 2)
    c.stopped domLUM = false → c.rd LUM_SHW.ENABLE (16 + k) ≠ 0 → q.sending = false → q.updateDue = true →
    Runs (.shwFrameStart k) s
      { keys := [LUM_SHW_STATE.FRAME_NO.key (16 + k), LUM_SHW_STATE.FRAMES.key (16 + k), DRC_STAT.RAW_DRAINS.key 0,
          DRC_STAT.RAW_DRAINS.key 1, DRC_STAT.RAW_DRAINS.key 2, DRC_STAT.RAW_DRAINS.key 3],
        parts := [.lum, .drc],
        outs := [.shingle k ((List.range n).flatMap (driverShare words) ++ sentinel no n)] }
      (fun t => t.rd LUM_SHW_STATE.FRAME_NO (16 + k) = no ∧ t.shw (16 + k) = ⟨words, n, false, false, true⟩)) ∧
  (∀ (s : State) (k : Fin 2) (returned : Bytes),
    let c := s.core
    let q := c.shw (16 + k)
    let shares := returned.length / 24
    let good := returned.length % 24 == 0 && shares != 0 &&
      returned.drop (24 * (shares - 1)) == sentinel (c.rd LUM_SHW_STATE.FRAME_NO (16 + k)) q.drivers
    let st := if !good then 3 else if shares = 1 then 1 else 2
    let seen := if good then q.drivers - (shares - 1) else 0
    c.stopped domLUM = false → q.sending = true → c.rd LUM_SHW.RTN_EN (16 + k) ≠ 0 →
    Runs (.shwFrameDone k returned) s
      { keys := [LUM_SHW_STATE.RTN_STATE.key (16 + k), LUM_SHW_STATE.DRIVERS_SEEN.key (16 + k),
          LUM_SHW_STATE.RTN_ERR.key (16 + k)],
        parts := [.lum, .events] }
      (fun t => t.rd LUM_SHW_STATE.RTN_STATE (16 + k) = st ∧ t.rd LUM_SHW_STATE.DRIVERS_SEEN (16 + k) = seen % 256 ∧
        t.shw (16 + k) = { q with sending := false } ∧
        t.events = s.core.events ++ (if st ≠ c.rd LUM_SHW_STATE.RTN_STATE (16 + k) then
          [⟨evLumChain, 16 + k, none, [BitVec.ofNat 8 st, BitVec.ofNat 8 seen], c.ticks⟩] else []))) ∧
  (∀ (s : State) (k : Fin 2) (returned : Bytes), s.core.stopped domLUM = false → (s.core.shw (16 + k)).sending = true →
    s.core.rd LUM_SHW.RTN_EN (16 + k) = 0 →
    Runs (.shwFrameDone k returned) s { parts := [.lum] } (fun t =>
      t.shw (16 + k) = { s.core.shw (16 + k) with sending := false })) ∧
  (∀ (s : State) (k : Fin 2),
    let q := s.core.shw (16 + k)
    s.core.stopped domLUM = false → s.core.rd LUM_SHW.ENABLE (16 + k) ≠ 0 → q.sending = true →
    (q.updateDue = true ∨ q.waiting = true ∨ s.core.now % (s.core.rd LUM_SHW.REFRESH (16 + k) * 1000 * usU) = 0) →
    Runs (.shwFrameStart k) s { parts := [.lum] } (fun t => t.shw (16 + k) = { q with waiting := true }))

/-- R297, R298: what faults an axis and what moves the recoat sequence on. A driver fault input or a position error outside its
window for DEV_TICKS puts the axis in FAULT at rest with its cause, posts AXIS_FAULT and escalates to HOLD; a platform that has
arrived starts the settling time, its end gives the recoater its target, and the last stroke ends the sequence. Clauses with
`Acts` say that a command completes under its rule's own conditions alone. -/
def Obligations.AxisFaultsAndRecoatSteps : Prop :=
  (∀ (s : State) (n : Fin 8), s.core.held domMOT = false → s.core.axState n ≠ axFault →
    Runs (.mfltNFault n true) s
      { keys := [MOT_STATE.STATE.key n, MOT_STATE.FAULT_CAUSE.key n, MOT_STATE.VEL.key n, MOT_STATE.TARGET.key n,
          MOT_STATE.REMAIN.key n] ++ (List.range 8).map MOT_STATE.IN_RECOAT.key,
        parts := [.mot, .events, .escHold] }
      (fun t => t.axState n = axFault ∧ t.rd MOT_STATE.FAULT_CAUSE n = 2 ∧ t.rd MOT_STATE.VEL n = 0 ∧
        (t.axis n).mflt = true ∧ (t.axis n).v = F64.zero ∧ evAxisFault ∈ t.escHold ∧
        ⟨evAxisFault, n, none, [2#8, 0#8, 0#8, 0#8] ++ leBytes 4 (ofSigned 32 (s.core.posCmd n)), s.core.ticks⟩ ∈
          t.events)) ∧
  (∀ (s : State) (n : Fin 8), s.core.held domMOT = false →
    Runs (.mfltNFault n false) s { parts := [.mot] } (fun t =>
      t.axis n = { s.core.axis n with mflt := false })) ∧
  (∀ (s : State) (n : Fin 8), s.core.held domMOT = false → s.core.axState n ≠ axFault →
    s.core.rd MOT_CONFIG.DEV_WIN n ≠ 0 → (s.core.axis n).devRun ≠ 0 →
    s.core.rd MOT_CONFIG.DEV_TICKS n ≤ (s.core.axis n).devRun →
    Runs (.axisStall n) s
      { keys := [MOT_STAT.STALLS.key n, MOT_STATE.STATE.key n, MOT_STATE.FAULT_CAUSE.key n, MOT_STATE.VEL.key n,
          MOT_STATE.TARGET.key n, MOT_STATE.REMAIN.key n] ++ (List.range 8).map MOT_STATE.IN_RECOAT.key,
        parts := [.mot, .events, .escHold] }
      (fun t => t.axState n = axFault ∧ t.rd MOT_STATE.FAULT_CAUSE n = 1 ∧ t.rd MOT_STATE.VEL n = 0 ∧
        t.rd MOT_STAT.STALLS n = min (s.core.rd MOT_STAT.STALLS n + 1) 65535 ∧ evAxisFault ∈ t.escHold)) ∧
  (∀ s : State,
    let r := s.core.mot.recoat
    s.core.held domMOT = false → r.step = 3 → r.failed = false → r.paused = false →
    s.core.axArrived (s.core.rd MOT_RECOAT.PLAT_AXIS) = true →
    Runs .recoatStep s { keys := (List.range 8).map MOT_STATE.IN_RECOAT.key, parts := [.mot] } (fun t =>
      t.mot.recoat = { r with step := 4, settleAt := some (s.core.ticks + 2 * s.core.rd MOT_RECOAT.RC_SETTLE) })) ∧
  (∀ s : State,
    let r := s.core.mot.recoat
    s.core.held domMOT = false → (r.step = 6 ∨ r.step = 5 ∧ s.core.rd MOT_RECOAT.BIDIR ≠ 0) → r.failed = false →
    r.paused = false → s.core.axArrived (s.core.rd MOT_RECOAT.RC_AXIS) = true →
    Runs .recoatStep s
      { keys := (List.range 8).map MOT_STATE.IN_RECOAT.key ++ (List.range 4).map CON_BLADE.PENDING.key, parts := [.mot] }
      (fun t => t.mot.recoat = { r with step := 0, done := true })) ∧
  (∀ (s : State) (at_ : Nat),
    let r := s.core.mot.recoat
    let rc := s.core.rd MOT_RECOAT.RC_AXIS
    let far := s.core.rdI MOT_RECOAT.RC_FAR
    s.core.held domMOT = false → r.step = 4 → r.paused = false → r.settleAt = some at_ → at_ ≤ s.core.ticks →
    s.core.rd MOT_RECOAT.BIDIR = 0 → s.core.beyondLimit rc far = false → s.core.axState rc ≠ axFault →
    s.core.axState rc ≠ axDisabled → (s.core.axis rc).latch = none →
    Runs .rcSettleExpiry s { keys := (List.range 8).map MOT_STATE.IN_RECOAT.key, parts := [.mot] } (fun t =>
      t.mot.recoat = { r with step := 5, settleAt := none } ∧ (t.axis rc).latch = some (far, s.core.ticks + 1))) ∧
  (∀ (s : State) (n : Fin 8), s.core.held domMOT = false → s.core.axState n = axFault →
    Runs (.mfltNFault n true) s { parts := [.mot] } (fun t => t.axis n = { s.core.axis n with
      mflt := true,
      causes := if (s.core.axis n).causes.contains 2 then (s.core.axis n).causes else (s.core.axis n).causes ++ [2] })) ∧
  (∀ s : State,
    let r := s.core.mot.recoat
    let rc := s.core.rd MOT_RECOAT.RC_AXIS
    let home := s.core.rdI MOT_RECOAT.RC_HOME
    s.core.held domMOT = false → r.step = 5 → s.core.rd MOT_RECOAT.BIDIR = 0 → r.failed = false → r.paused = false →
    s.core.axArrived rc = true →
    Acts .recoatStep s (fun t => t.mot.recoat.step = 6 ∧
      (s.core.beyondLimit rc home = false → (t.axis rc).latch = some (home, s.core.ticks + 1)))) ∧
  (∀ (s : State) (at_ : Nat),
    let r := s.core.mot.recoat
    s.core.held domMOT = false → r.step = 4 → r.paused = false → r.settleAt = some at_ → at_ ≤ s.core.ticks →
    Acts .rcSettleExpiry s (fun t => t.mot.recoat.step = 5 ∧ t.mot.recoat.settleAt = none))

/-- R300 to R305: incremental and SSI inputs. A change of one signal that has lasted FILT moves POS by one in the direction INV
gives (which way A before B counts is PRESUMED, log 49), a sample in which both changed adds to QERR; an index event within TOL
of LINES sets IDX_DIFF and clears the run of mismatches, one outside sets the sticky bit and counts; an SSI reading starts at
its RATE_DIV-th profile tick, its first value sets the position, and one in error is discarded and counted. Clauses with `Acts`
say that a command completes under its rule's own conditions alone. -/
def Obligations.PositionInputsCount : Prop :=
  (∀ (s : State) (i : Fin 8) (a b z : Bool) (lasts : BitVec 8) (off : SubTick),
    let x := s.core.mot.incs.getD i IncIn.init
    s.core.held domMOT = false → s.core.rd PFI_INC.FILT i ≤ lasts.toNat → x.index = false → x.a ≠ a → x.b ≠ b →
    Runs (.encoderCount i ⟨a, b, z⟩ lasts off) s { keys := [PFI_INC_STATE.QERR.key i], parts := [.mot] } (fun t =>
      t.rd PFI_INC_STATE.QERR i = min (s.core.rd PFI_INC_STATE.QERR i + 1) 65535 ∧
      t.mot.incs = setAt IncIn.init s.core.mot.incs i
        { x with a := a, b := b, z := z, index := s.core.rd PFI_INC.GATE_Z i == 0 && z && !x.z })) ∧
  (∀ (s : State) (i : Fin 8) (a b z : Bool) (lasts : BitVec 8) (off : SubTick),
    let x := s.core.mot.incs.getD i IncIn.init
    let fwd := ((x.a != a) == (a != b)) != (s.core.rd PFI_INC.INV i != 0)
    s.core.held domMOT = false → s.core.rd PFI_INC.FILT i ≤ lasts.toNat → x.index = false → (x.a != a) ≠ (x.b != b) →
    (∀ u : Fin 8, s.core.rd PFI_CMP.SRC u ≠ i) →
    Runs (.encoderCount i ⟨a, b, z⟩ lasts off) s
      { keys := [PFI_INC_STATE.POS.key i, PFI_INC_STATE.DIR.key i], parts := [.mot] }
      (fun t => t.rd PFI_INC_STATE.POS i = ofSigned 32 (s.core.rdI PFI_INC_STATE.POS i + (if fwd then 1 else -1)) ∧
        t.rd PFI_INC_STATE.DIR i = b2n fwd ∧
        t.mot.incs = setAt IncIn.init s.core.mot.incs i
          { x with
            a := a, b := b, z := z,
            index := if s.core.rd PFI_INC.GATE_Z i = 0 then z && !x.z else a && b && z,
            counted := true,
            turned := x.turned || (x.counted && (s.core.rd PFI_INC_STATE.DIR i != 0) != fwd) })) ∧
  (∀ (s : State) (i : Fin 8),
    let x := s.core.mot.incs.getD i IncIn.init
    let d := (posDiff (s.core.rdI PFI_INC_STATE.POS i) (s.core.rdI PFI_INC_STATE.IDX_POS i)).natAbs
    let lines := s.core.rd PFI_INC.LINES i
    s.core.held domMOT = false → x.index = true → lines ≠ 0 → x.prevIndex = true → x.turned = false → s.core.rd PFI_INC.ZERO_MODE i = 0 →
    ((d : Int) - 4 * lines).natAbs ≤ s.core.rd PFI_INC.TOL i →
    Runs (.indexEvent i) s
      { keys := [PFI_INC_STATE.IDX_DIFF.key i, PFI_INC_STATE.MISS_RUN.key i, PFI_INC_STATE.IDX_POS.key i], parts := [.mot] }
      (fun t => t.rd PFI_INC_STATE.IDX_DIFF i = d % 2 ^ 32 ∧ t.rd PFI_INC_STATE.MISS_RUN i = 0 ∧
        t.rd PFI_INC_STATE.IDX_POS i = ofSigned 32 (s.core.rdI PFI_INC_STATE.POS i))) ∧
  (∀ (s : State) (i : Fin 8),
    let x := s.core.mot.incs.getD i IncIn.init
    let d := (posDiff (s.core.rdI PFI_INC_STATE.POS i) (s.core.rdI PFI_INC_STATE.IDX_POS i)).natAbs
    let lines := s.core.rd PFI_INC.LINES i
    s.core.held domMOT = false → x.index = true → lines ≠ 0 → x.prevIndex = true → x.turned = false → s.core.rd PFI_INC.ZERO_MODE i = 0 →
    s.core.rd PFI_INC.TOL i < ((d : Int) - 4 * lines).natAbs →
    min (s.core.rd PFI_INC_STATE.MISS_RUN i + 1) 15 < s.core.rd PFI_INC.MISMATCH_MAX i →
    Runs (.indexEvent i) s
      { keys := [PFI_INC_STATE.IDX_DIFF.key i, PFI_INC_STATE.MISS_RUN.key i, PFI_INC_STATE.IDX_STICKY.key i,
          PFI_INC_STATE.PFI_INDEX_ERR.key i, PFI_INC_STATE.IDX_POS.key i],
        parts := [.mot] }
      (fun t => t.rd PFI_INC_STATE.IDX_STICKY i = 1 ∧
        t.rd PFI_INC_STATE.MISS_RUN i = min (s.core.rd PFI_INC_STATE.MISS_RUN i + 1) 15)) ∧
  (∀ (s : State) (j : Fin 4), s.core.held domMOT = false → s.core.rd PFI_SSI.ENABLE j ≠ 0 → (s.core.ssi j).busy = false →
    s.core.rd PFI_SSI.RATE_DIV j ≤ (s.core.ssi j).div →
    Runs (.ssiReadingStart j) s { parts := [.mot] } (fun t =>
      t.ssi j = { s.core.ssi j with busy := true, div := 0 })) ∧
  (∀ (s : State) (j : Fin 4) (raw : BitVec 32) (off : SubTick),
    let n := s.core.rd PFI_SSI.BITS j
    s.core.held domMOT = false → (s.core.ssi j).busy = true → (s.core.ssi j).prev = none → n ≤ 32 →
    s.core.rd PFI_SSI.GRAY j = 0 → (∀ u : Fin 8, s.core.rd PFI_CMP.SRC u ≠ 8 + j) →
    Runs (.ssiReadingDone j raw ⟨true, false⟩ off) s
      { keys := [PFI_SSI_STATE.RAW.key j, PFI_SSI_STATE.POS.key j], parts := [.mot] }
      (fun t => t.rd PFI_SSI_STATE.POS j = raw.toNat % 2 ^ n ∧ t.rd PFI_SSI_STATE.RAW j = raw.toNat % 2 ^ n ∧
        (t.ssi j).prev = some (raw.toNat % 2 ^ n) ∧ (t.ssi j).errRun = 0)) ∧
  (∀ (s : State) (j : Fin 4) (raw : BitVec 32) (first last : Bool) (off : SubTick), s.core.held domMOT = false →
    (s.core.ssi j).busy = true → (first = false ∨ last = true) →
    (s.core.ssi j).errRun + 1 < s.core.rd PFI_SSI.ERR_MAX j →
    Runs (.ssiReadingDone j raw ⟨first, last⟩ off) s { keys := [PFI_SSI_STATE.SSI_ERRS.key j], parts := [.mot] } (fun t =>
      t.rd PFI_SSI_STATE.SSI_ERRS j = min (s.core.rd PFI_SSI_STATE.SSI_ERRS j + 1) 65535 ∧
      t.ssi j = { s.core.ssi j with busy := false, errRun := (s.core.ssi j).errRun + 1 })) ∧
  (∀ (s : State) (i : Fin 8) (a b z : Bool) (lasts : BitVec 8) (off : SubTick),
    let x := s.core.mot.incs.getD i IncIn.init
    s.core.held domMOT = false → s.core.rd PFI_INC.FILT i ≤ lasts.toNat →
    Acts (.encoderCount i ⟨a, b, z⟩ lasts off) s (fun t =>
      (t.mot.incs.getD i IncIn.init).a = a ∧ (t.mot.incs.getD i IncIn.init).b = b ∧
      (t.mot.incs.getD i IncIn.init).z = z ∧
      ((x.a != a) ≠ (x.b != b) → x.index = false → t.rd PFI_INC_STATE.POS i =
        ofSigned 32 (s.core.rdI PFI_INC_STATE.POS i +
          (if ((x.a != a) == (a != b)) != (s.core.rd PFI_INC.INV i != 0) then 1 else -1))))) ∧
  (∀ (s : State) (i : Fin 8), s.core.held domMOT = false → (s.core.mot.incs.getD i IncIn.init).index = true →
    Acts (.indexEvent i) s (fun t => (t.mot.incs.getD i IncIn.init).index = false ∧
      (t.mot.incs.getD i IncIn.init).prevIndex = true ∧ (t.mot.incs.getD i IncIn.init).turned = false)) ∧
  (∀ (s : State) (j : Fin 4) (raw : BitVec 32) (first last : Bool) (off : SubTick), s.core.held domMOT = false →
    (s.core.ssi j).busy = true →
    Acts (.ssiReadingDone j raw ⟨first, last⟩ off) s (fun t => (t.ssi j).busy = false ∧
      (t.ssi j).errRun = if first && !last then 0 else (s.core.ssi j).errRun + 1))

/-- R302, R305, R307 to R309: arming a compare unit with a list that passes its tests clears its status log and counters and
arms entry 0; arming one whose list fails changes nothing; and the four write-to-clear bits clear what they name. Clauses with
`Acts` say that a command completes under its rule's own conditions alone. -/
def Obligations.CompareUnitsArmAndClear : Prop :=
  (∀ (s : State) (u : Fin 8),
    let bs := readBytesUnder s.dram [] (s.core.rd PFI_CMP.LIST_ADDR u) (8 * s.core.rd PFI_CMP.LIST_COUNT u)
    s.core.held domMOT = false → s.core.rd PFI_CMP.ARM u = 0 → cmpListOk bs (s.core.rd PFI_CMP.LIST_CRC u) = true →
    s.core.inputDir (s.core.rd PFI_CMP.SRC u) = 0 →
    Runs (.compareArm u) s
      { keys := [PFI_CMP.ARM, PFI_CMP_STATE.FIRED, PFI_CMP_STATE.LATE, PFI_CMP_STATE.MISSED, PFI_CMP_STATE.NEXT,
          PFI_CMP_STATE.FIRST_MISSED, PFI_CMP_STATE.ARMED].map (fun f => f.key u) ++
          (List.range 4).map DRC_STAT.RAW_DRAINS.key,
        parts := [.mot, .drc], writes := [(s.core.rd PFI_CMP.LOG_ADDR u, zeros 4096)] }
      (fun t => t.rd PFI_CMP.ARM u = 1 ∧ t.rd PFI_CMP_STATE.FIRED u = 0 ∧ t.rd PFI_CMP_STATE.LATE u = 0 ∧
        t.rd PFI_CMP_STATE.MISSED u = 0 ∧ t.rd PFI_CMP_STATE.NEXT u = 0 ∧
        t.rd PFI_CMP_STATE.ARMED u = b2n (s.core.rd PFI_CMP.LIST_COUNT u != 0) ∧ (t.cmp u).list = cmpEntries bs)) ∧
  (∀ (s : State) (u : Fin 8), s.core.held domMOT = false → s.core.rd PFI_CMP.ARM u = 0 →
    cmpListOk (readBytesUnder s.dram [] (s.core.rd PFI_CMP.LIST_ADDR u) (8 * s.core.rd PFI_CMP.LIST_COUNT u))
      (s.core.rd PFI_CMP.LIST_CRC u) = false →
    Idles (.compareArm u) s) ∧
  (∀ (s : State) (i : Fin 8), s.core.held domMOT = false →
    Runs (.incStickyClear i) s { keys := [PFI_INC_STATE.IDX_STICKY.key i, PFI_INC_STATE.MISS_RUN.key i] } (fun t =>
      t.rd PFI_INC_STATE.IDX_STICKY i = 0 ∧ t.rd PFI_INC_STATE.MISS_RUN i = 0)) ∧
  (∀ (s : State) (i : Fin 8), s.core.held domMOT = false →
    Runs (.incFaultClear i) s { keys := [PFI_INC_STATE.FAULT.key i, PFI_INC_STATE.MISS_RUN.key i] } (fun t =>
      t.rd PFI_INC_STATE.FAULT i = 0 ∧ t.rd PFI_INC_STATE.MISS_RUN i = 0)) ∧
  (∀ (s : State) (j : Fin 4), s.core.held domMOT = false →
    Runs (.ssiFaultClear j) s { keys := [PFI_SSI_STATE.FAULT.key j], parts := [.mot] } (fun t =>
      t.rd PFI_SSI_STATE.FAULT j = 0 ∧ t.ssi j = { s.core.ssi j with errRun := 0 })) ∧
  (∀ (s : State) (u : Fin 8), s.core.held domMOT = false →
    Runs (.cmpStickyClear u) s { keys := [PFI_CMP_STATE.MISSED_STICKY.key u] } (fun t =>
      t.rd PFI_CMP_STATE.MISSED_STICKY u = 0)) ∧
  (∀ (s : State) (u : Fin 8),
    let bs := readBytesUnder s.dram [] (s.core.rd PFI_CMP.LIST_ADDR u) (8 * s.core.rd PFI_CMP.LIST_COUNT u)
    s.core.held domMOT = false → s.core.rd PFI_CMP.ARM u = 0 → cmpListOk bs (s.core.rd PFI_CMP.LIST_CRC u) = true →
    Acts (.compareArm u) s (fun t => t.rd PFI_CMP.ARM u = 1 ∧ (t.cmp u).list = cmpEntries bs))

/-- R199, R229, R462: how commands are posted. A write of DOORBELL posts each mailbox whose bit is set and not busy, and counts
the busy ones; a good datagram from a peer posts its mailbox of master 2, one from elsewhere is dropped and counted, and a
repeat of the busy command is ignored. Clauses with `Acts` say that a command completes under its rule's own conditions alone.
-/
def Obligations.MailboxesArePosted : Prop :=
  (∀ (s : State) (v : BitVec 32),
    let old := s.core.rd BAR0.MB_BUSY
    let me := s.core.localMaster
    s.core.onBus = true → s.core.serves = true → s.core.rd BAR0.ID_BOOT = 0 → s.core.inPair = false →
    Runs (.doorbell v) s { keys := [BAR0.MB_BUSY.key 0, PLT_MB_STAT.DB_IGNORED.key me], parts := [.pilot] } (fun t =>
      (∀ n : Fin 8, bitOf (t.rd BAR0.MB_BUSY) n = (bitOf old n || bitOf v.toNat n)) ∧
      (∀ n : Fin 8, bitOf v.toNat n = true → bitOf old n = false →
        t.mbox me n = { s.core.mbox me n with posted := true }) ∧
      (∀ n : Fin 8, (bitOf v.toNat n = false ∨ bitOf old n = true) → t.mbox me n = s.core.mbox me n) ∧
      ((∀ n : Fin 8, (bitOf v.toNat n && bitOf old n) = false) →
        t.rd PLT_MB_STAT.DB_IGNORED me = s.core.rd PLT_MB_STAT.DB_IGNORED me))) ∧
  (∀ (s : State) (n : Fin 8), s.core.onBus = true → s.core.serves = true → s.core.rd BAR0.ID_BOOT = 0 →
    bitOf (s.core.rd BAR0.MB_BUSY) n = true →
    Runs (.doorbell (BitVec.ofNat 32 (2 ^ n.val))) s
      { keys := [PLT_MB_STAT.DB_IGNORED.key s.core.localMaster] }
      (fun t => Counts s.core t PLT_MB_STAT.DB_IGNORED s.core.localMaster)) ∧
  (∀ (s : State) (ip : BitVec 32) (port : BitVec 16) (box : Fin 8) (image : Bytes),
    let b := leBytes 2 0x5AC3 ++ [1#8, 0#8, BitVec.ofNat 8 box, 0#8, 0#8, 0#8] ++ image
    s.core.serves = true → s.core.mgmtOn = true → ip.toNat ∈ s.core.peers → s.core.inPair = false →
    image.length = 16 + fieldLE image 8 2 → fieldLE image 8 2 ≤ 240 → (s.core.mbox 2 box).posted = false →
    (s.core.mbox 2 box).busy = none →
    Runs (.mgmtDatagram ip port b) s { parts := [.pilot] } (fun t =>
      t.mbox 2 box = { s.core.mbox 2 box with
        cmdSlot := padTo 256 image, peer := (ip.toNat, port.toNat), posted := true })) ∧
  (∀ (s : State) (ip : BitVec 32) (port : BitVec 16) (b : Bytes), s.core.serves = true → s.core.mgmtOn = true →
    s.core.peers ≠ [] → ip.toNat ∉ s.core.peers →
    Runs (.mgmtDatagram ip port b) s { keys := [PLT_MB_STAT.DROPPED.key 2] } (fun t =>
      Counts s.core t PLT_MB_STAT.DROPPED 2)) ∧
  (∀ (s : State) (ip : BitVec 32) (port : BitVec 16) (b : Bytes), s.core.mgmtOn = false →
    Idles (.mgmtDatagram ip port b) s) ∧
  (∀ (s : State) (v : BitVec 32), s.core.onBus = true → s.core.serves = true → s.core.rd BAR0.ID_BOOT = 0 →
    Acts (.doorbell v) s (fun t => ∀ n : Fin 8,
      bitOf (t.rd BAR0.MB_BUSY) n = (bitOf (s.core.rd BAR0.MB_BUSY) n || bitOf v.toNat n))) ∧
  (∀ (s : State) (ip : BitVec 32) (port : BitVec 16) (box : Fin 8) (image : Bytes),
    let b := leBytes 2 0x5AC3 ++ [1#8, 0#8, BitVec.ofNat 8 box, 0#8, 0#8, 0#8] ++ image
    s.core.serves = true → s.core.mgmtOn = true → ip.toNat ∈ s.core.peers →
    image.length = 16 + fieldLE image 8 2 → (s.core.mbox 2 box).posted = false → (s.core.mbox 2 box).busy = none →
    Acts (.mgmtDatagram ip port b) s (fun t => t.mbox 2 box = { s.core.mbox 2 box with
      cmdSlot := padTo 256 image, peer := (ip.toNat, port.toNat), posted := true }))

/-- R9, R199, R223, R226, R227: registers of BAR0, event interrupts and the Ethernet answers. EV_CONS moves only within the
ring; the message held back by EV_HOLDOFF goes when it ends; an unmasked vector sends what was held; a write reaches the
register at its offset and, in a mailbox, its command slot; a read of an RC object returns its bytes and clears its counts; ARP
and ICMP are answered for the device's address while the service runs. Clauses with `Acts` say that a command completes under
its rule's own conditions alone. -/
def Obligations.HostRegistersTakeEffect : Prop :=
  (∀ (s : State) (v : BitVec 32), s.core.onBus = true → s.core.held domPLT = false →
    (s.core.rd BAR0.EV_PROD + 2 ^ 32 - v.toNat) % 2 ^ 32 ≤ 1024 →
    Runs (.evConsWrite v) s { keys := [BAR0.EV_CONS.key 0] } (fun t => t.rd BAR0.EV_CONS = v.toNat)) ∧
  (∀ (s : State) (v : BitVec 32), 1024 < (s.core.rd BAR0.EV_PROD + 2 ^ 32 - v.toNat) % 2 ^ 32 →
    Idles (.evConsWrite v) s) ∧
  (∀ s : State, s.core.pilot.eventSince = true → s.core.pilot.holdoffUntil ≤ s.core.ticks →
    bitOf (s.core.rd BAR0.INT_MASK) 8 = false → bitOf s.core.pilot.msixMasked 8 = false →
    Runs .evHoldoffExpiry s { parts := [.pilot], outs := [.msix 8] } (fun t =>
      t.pilot = { s.core.pilot with
        eventSince := false, holdoffUntil := s.core.ticks + s.core.rd PLT_EVQ.EV_HOLDOFF * ticksPerUs })) ∧
  (∀ (s : State) (v : Fin 64), s.core.onBus = true → bitOf s.core.pilot.msixMasked v = true →
    Runs (.msixUnmask v false) s
      { parts := [.pilot], outs := if bitOf s.core.pilot.msixHeld v then [.msix v] else [] }
      (fun t => t.pilot = { s.core.pilot with
        msixMasked := s.core.pilot.msixMasked - 2 ^ v.val,
        msixHeld := if bitOf s.core.pilot.msixHeld v then s.core.pilot.msixHeld - 2 ^ v.val
          else s.core.pilot.msixHeld })) ∧
  (∀ (s : State) (v : Fin 64), s.core.onBus = true →
    Runs (.msixUnmask v true) s { parts := [.pilot] } (fun t =>
      t.pilot = { s.core.pilot with msixMasked := orBit s.core.pilot.msixMasked v })) ∧
  (∀ (s : State) (data : Bytes), s.core.onBus = true → s.core.held domPLT = false → data.length = 4 →
    Runs (.registerWrite 0x1010#32 data) s { keys := [BAR0.INT_MASK.key 0] } (fun t =>
      t.rd BAR0.INT_MASK = leNat data % 1024)) ∧
  (∀ (s : State) (n : Fin 8) (data : Bytes), s.core.onBus = true → s.core.held domPLT = false → data.length ≤ 256 →
    (s.core.mbox s.core.localMaster n).cmdSlot.length = 256 →
    Runs (.registerWrite (BitVec.ofNat 32 (0x10000 + 0x200 * n.val)) data) s { parts := [.pilot] } (fun t =>
      (t.mbox s.core.localMaster n).cmdSlot =
        data ++ (s.core.mbox s.core.localMaster n).cmdSlot.drop data.length ∧
      (∀ k : Fin 8, k ≠ n → t.mbox s.core.localMaster k = s.core.mbox s.core.localMaster k))) ∧
  (∀ (s : State) (off : BitVec 32) (data : Bytes), s.core.onBus = false → Idles (.registerWrite off data) s) ∧
  (∀ (s : State) (obj inst : BitVec 16) (d : ObjDesc), findObj obj.toNat = some d →
    obj ≠ 0x6010#16 → (d.fields.any (fun f => f.access == .rc)) = true → d.instLo ≤ inst.toNat → inst.toNat ≤ d.instHi →
    Runs (.statReadClear obj inst) s
      { keys := (d.fields.filter (fun f => f.access == .rc)).map (fun f => f.key inst.toNat),
        outs := [.busData (s.core.imageBytes d inst.toNat)] }
      (fun t => ∀ f ∈ d.fields, f.access = .rc → t.rd f inst.toNat = 0)) ∧
  (∀ (s : State) (ip : BitVec 32), s.core.mgmtOn = true → s.core.peers ≠ [] →
    Runs (.arpRequest ip) s
      { outs := if ip.toNat = s.core.rd PLT_MGMT.MGMT_IP then [.ethReply 0 (leBytes 4 ip.toNat)] else [] }
      (fun _ => True)) ∧
  (∀ (s : State) (ip : BitVec 32) (data : Bytes), s.core.mgmtOn = true → s.core.peers ≠ [] →
    Runs (.icmpEcho ip data) s
      { outs := if ip.toNat = s.core.rd PLT_MGMT.MGMT_IP then [.ethReply 1 data] else [] } (fun _ => True)) ∧
  (∀ (s : State) (obj inst : BitVec 16) (d : ObjDesc), findObj obj.toNat = some d →
    (d.fields.any (fun f => f.access == .rc)) = true → d.instLo ≤ inst.toNat → inst.toNat ≤ d.instHi →
    Acts (.statReadClear obj inst) s (fun t =>
      obj = 0x6010#16 ∨ ∀ f ∈ d.fields, f.access = .rc → t.rd f inst.toNat = 0))

/-- R357, R454, R466 to R468: the window onto DRAM and the staging ring. A BAR2 read returns what DRAM holds, or Unsupported
Request beyond the host part or while MEM is held; a BAR2 write lands within the host part; TSW_PROD is taken unless the ring
would hold more than 1,024; the descriptor at TSW_CONS is copied, its status written and TSW_CONS advanced; PERST_N resets the
endpoint and the ring; Bus Master Enable is kept. Clauses with `Acts` say that a command completes under its rule's own
conditions alone. -/
def Obligations.HostReachesDram : Prop :=
  (∀ (s : State) (addr : BitVec 48) (n : BitVec 16), s.core.pcie.perst = false → s.core.held domMEM = false →
    addr.toNat + n.toNat ≤ s.core.hostBytes →
    Runs (.bar2Read addr n none) s
      { keys := rawKeys, parts := [.drc], outs := [.busData (readBytesUnder s.dram [] addr.toNat n.toNat)] }
      (fun _ => True)) ∧
  (∀ (s : State) (addr : BitVec 48) (n : BitVec 16) (bad : Option (BitVec 16 × Bool)), s.core.pcie.perst = false →
    (s.core.held domMEM = true ∨ s.core.hostBytes < addr.toNat + n.toNat) →
    Runs (.bar2Read addr n bad) s { outs := [.busUR] } (fun _ => True)) ∧
  (∀ (s : State) (addr : BitVec 48) (data : Bytes), s.core.pcie.perst = false → s.core.held domMEM = false →
    Runs (.bar2Write addr data) s
      { parts := [.drc], writes := [(addr.toNat, data.take (s.core.hostBytes - addr.toNat))] } (fun _ => True)) ∧
  (∀ (s : State) (v : BitVec 32), s.core.onBus = true →
    (v.toNat + 2 ^ 32 - s.core.rd BAR0.TSW_CONS) % 2 ^ 32 ≤ 1024 →
    Runs (.tswProdWrite v) s { keys := [BAR0.TSW_PROD.key 0] } (fun t => t.rd BAR0.TSW_PROD = v.toNat)) ∧
  (∀ (s : State) (v : BitVec 32), 1024 < (v.toNat + 2 ^ 32 - s.core.rd BAR0.TSW_CONS) % 2 ^ 32 →
    Idles (.tswProdWrite v) s) ∧
  (∀ (s : State) (data : Bytes) (hostErr : Bool),
    let cons := s.core.rd BAR0.TSW_CONS
    let d := ringRead s.core.pcie.ring (32 * (cons % 1024)) 32
    let r := s.core.tswOutcome d data hostErr
    s.core.onBus = true → s.core.pcie.busMaster = true → s.core.held domMEM = false → s.core.rd BAR0.TSW_PROD ≠ cons →
    Runs (.tswDescriptorDone data hostErr) s
      { keys := [BAR0.TSW_CONS.key 0], parts := [.drc, .pcie], writes := [(fieldLE d 8 8, r.2)] }
      (fun t => t.rd BAR0.TSW_CONS = (cons + 1) % 2 ^ 32 ∧
        t.pcie = { s.core.pcie with
          ring := ringWrite s.core.pcie.ring (32 * (cons % 1024) + 24) (leBytes 4 r.1) })) ∧
  (∀ (s : State), s.core.held domPLT = true →
    Runs (.perstN true) s { keys := [BAR0.TSW_PROD.key 0, BAR0.TSW_CONS.key 0], parts := [.pcie, .pilot] } (fun t =>
      t.pcie = ⟨true, false, []⟩ ∧ t.rd BAR0.TSW_PROD = 0 ∧ t.rd BAR0.TSW_CONS = 0)) ∧
  (∀ (s : State), s.core.held domPLT = false → s.core.holder ≠ s.core.localMaster →
    Runs (.perstN true) s
      { keys := [BAR0.TSW_PROD.key 0, BAR0.TSW_CONS.key 0, (epochField s.core.localMaster).key 0],
        parts := [.pcie, .pilot] }
      (fun t => t.pcie = ⟨true, false, []⟩ ∧ t.epoch s.core.localMaster = 0 ∧ t.pilot.msixMasked = 0)) ∧
  (∀ (s : State), Runs (.perstN false) s { parts := [.pcie] } (fun t =>
    t.pcie = { s.core.pcie with perst := false })) ∧
  (∀ (s : State) (on : Bool), s.core.onBus = true →
    Runs (.busMasterEnable on) s { parts := [.pcie] } (fun t => t.pcie = { s.core.pcie with busMaster := on })) ∧
  (∀ (s : State), Acts (.perstN true) s (fun t => t.pcie = ⟨true, false, []⟩ ∧ t.rd BAR0.TSW_PROD = 0 ∧
    t.rd BAR0.TSW_CONS = 0 ∧ (s.core.held domPLT = false → t.epoch s.core.localMaster = 0)))

/-- R313, R322 to R324, R326: heartbeats and roles. A heartbeat goes out on LP2 and as a pulse whose width states the role;
what comes from the partner is kept and shown; the silence of one path is an alarm, that of both a failed partner, which an
eligible standby takes over; a unit that hears nobody after BRINGUP is ACTIVE alone; one whose heartbeats are withheld for 500
µs stops being ACTIVE. Clauses with `Acts` say that a command completes under its rule's own conditions alone. -/
def Obligations.HeartbeatsDecideTheRoles : Prop :=
  (∀ s : State, s.core.inPair = true → s.core.twin.withheld = none → s.core.held domPLT = false →
    s.core.held domTIM = false → s.core.now % (50 * usU) = 0 →
    Runs .heartbeatSend s
      { parts := [.casc, .ports],
        outs := s.core.twinOut 0 0x50 (tickIndex s.core.now) (leBytes 1 s.core.unit ++ leBytes 1 s.core.role ++
            leBytes 1 (b2n s.core.eligible + 2 * s.core.rd TWN_STATE.PREFERRED) ++ leBytes 1 (s.core.rd PLT_MODE.MODE) ++
            leBytes 2 (s.core.rd TWN_STATE.TAKEOVER_EPOCH) ++ zeros 2) ++
          [.twhb (if s.core.role = roleActive then 1 else if s.core.role = roleStandby then
            (if s.core.eligible then 2 else 3) else 4)] }
      (fun t => t.linkSeq (linkKey 3 0) = (s.core.linkSeq (linkKey 3 0) + 1) % 65536)) ∧
  (∀ (s : State) (h : FrameHdr) (b : Bytes), s.core.twinActs lp2 0 0x50 h b → s.core.inPair = true →
    Runs (.twnHb h b) s
      { keys := [TWN_STATE.PATH_LINK.key 0, TWN_STATE.PARTNER_ROLE.key 0, TWN_STATE.PARTNER_ELIG.key 0,
          TWN_STATE.HB_AGE.key 0],
        parts := [.twin, .casc] }
      (fun t =>
        t.twin = { s.core.twin with
          hbLink := some s.core.ticks,
          partner := some ⟨fieldLE b 0 1, fieldLE b 1 1 % 4, bitOf (fieldLE b 2 1) 0, bitOf (fieldLE b 2 1) 1,
            fieldLE b 3 1, fieldLE b 4 2⟩ } ∧
        t.rd TWN_STATE.PATH_LINK = 1 ∧ t.rd TWN_STATE.PARTNER_ROLE = fieldLE b 1 1 % 4 ∧
        t.rd TWN_STATE.PARTNER_ELIG = fieldLE b 2 1 % 2 ∧ t.rd TWN_STATE.HB_AGE = 0)) ∧
  (∀ (s : State) (w : BitVec 16) (n : Fin 4),
    let role := if n.val = 0 then roleActive else if n.val = 3 then roleForming else roleStandby
    s.core.inPair = true → 1000 * (n + 1) ≤ w.toNat + 250 → w.toNat ≤ 1000 * (n + 1) + 250 →
    Runs (.heartbeatPulse w) s
      { keys := [TWN_STATE.PATH_PIN.key 0, TWN_STATE.PARTNER_ROLE.key 0, TWN_STATE.PARTNER_ELIG.key 0,
          TWN_STATE.HB_AGE.key 0],
        parts := [.twin] }
      (fun t => t.twin.hbPin = some s.core.ticks ∧ t.rd TWN_STATE.PATH_PIN = 1 ∧ t.rd TWN_STATE.PARTNER_ROLE = role ∧
        t.rd TWN_STATE.PARTNER_ELIG = (if n.val = 1 then 1 else 0) ∧ t.rd TWN_STATE.HB_AGE = 0)) ∧
  (∀ s : State, s.core.inPair = true → s.core.metPartner = true → s.core.hears = false → s.core.sameStrap = false →
    s.core.role ≠ roleStandby →
    Runs .partnerFailed s
      { keys := [TWN_STATE.PATH_LINK.key 0, TWN_STATE.PATH_PIN.key 0, TWN_STATE.PARTNER_ELIG.key 0], parts := [.twin] }
      (fun t =>
        t.twin = { s.core.twin with partner := none, hbLink := none, hbPin := none, exchange := none, partnerOut := false } ∧
        t.rd TWN_STATE.PATH_LINK = 0 ∧ t.rd TWN_STATE.PATH_PIN = 0 ∧ t.rd TWN_STATE.PARTNER_ELIG = 0)) ∧
  (∀ s : State,
    let epoch := (s.core.rd TWN_STATE.TAKEOVER_EPOCH + 1) % 65536
    s.core.inPair = true → s.core.metPartner = true → s.core.hears = false → s.core.sameStrap = false →
    s.core.role = roleStandby → s.core.eligible = true → s.core.logWriting = true →
    Completes .partnerFailed s [0x5002, 0x5003, 0x6002] [.twin, .events, .log, .tim] (fun t =>
      t.role = roleActive ∧ t.eligible = false ∧ t.rd TWN_STATE.MUTED = 0 ∧ t.rd TWN_STATE.TAKEOVER_EPOCH = epoch ∧
      Counts s.core t TWN_STAT.TAKEOVERS ∧ t.twin.partner = none ∧ t.twin.timeSrcDue = true ∧
      t.log.due = ⟨6, 0, s.core.rd SEQ_LAYER_STATE.LAYER_NOW, 0, s.core.now, [3#8, 2#8] ++ leBytes 2 epoch ++ zeros 4⟩ ::
        s.core.log.due ∧
      t.events = s.core.events ++
        [⟨evTwnTakeover, 0, none, leBytes 2 epoch ++ leBytes 1 (1 - s.core.unit), s.core.ticks⟩])) ∧
  (∀ s : State,
    let link := s.core.flag TWN_STATE.PATH_LINK && !s.core.heardBy s.core.twin.hbLink
    let pin := s.core.flag TWN_STATE.PATH_PIN && !s.core.heardBy s.core.twin.hbPin
    s.core.inPair = true → s.core.hears = true → (link || pin) = true →
    Runs .pathAlarm s
      { keys := [TWN_STATE.PATH_LINK.key 0, TWN_STATE.PATH_PIN.key 0, TWN_STAT.PATH_ALARMS.key 0], parts := [.events] }
      (fun t =>
        t.rd TWN_STATE.PATH_LINK = (if link then 0 else s.core.rd TWN_STATE.PATH_LINK) ∧
        t.rd TWN_STATE.PATH_PIN = (if pin then 0 else s.core.rd TWN_STATE.PATH_PIN) ∧
        Counts s.core t TWN_STAT.PATH_ALARMS ∧
        t.events = s.core.events ++
          [⟨evTwnPathAlarm, 0, none, leBytes 1 (b2n link + 2 * b2n pin), s.core.ticks⟩])) ∧
  (∀ s : State, s.core.inPair = true → s.core.role = roleForming → s.core.metPartner = false → s.core.twin.since + 302 ≤ s.core.ticks →
    s.core.logWriting = true →
    Completes .soloTimeout s [0x5002, 0x6002] [.twin, .log, .tim] (fun t =>
      t.role = roleActive ∧ t.eligible = false ∧ t.rd TWN_STATE.MUTED = 0 ∧ t.twin.timeSrcDue = true)) ∧
  (∀ (s : State) (since : Nat), s.core.twin.withheld = some since → since + 1000 ≤ s.core.ticks → s.core.inPair = true →
    s.core.role = roleActive → s.core.logWriting = true →
    Completes .heartbeatWithheld s [0x5002, 0x6002] [.twin, .log, .tim] (fun t =>
      t.role = roleStandby ∧ t.eligible = false ∧ t.rd TWN_STATE.MUTED = 1 ∧ t.rd TWN_STATE.ELIG_FOR = 0 ∧
      t.twin = { s.core.twin with eligSince := none, resyncDue := true })) ∧
  (∀ s : State, s.core.inPair = true → s.core.metPartner = true → s.core.hears = false → s.core.sameStrap = false →
    Acts .partnerFailed s (fun t => t.twin.partner = none ∧ t.rd TWN_STATE.PARTNER_ELIG = 0 ∧
      (s.core.role = roleStandby → t.role = roleActive ∧
        (if s.core.eligible = true then Counts s.core t TWN_STAT.TAKEOVERS
          else ⟨evTwnNoTakeover, 0, none, [], s.core.ticks⟩ ∈ t.events)))) ∧
  (∀ s : State, s.core.inPair = true → s.core.role = roleForming → s.core.metPartner = false →
    s.core.twin.since + 302 ≤ s.core.ticks →
    Acts .soloTimeout s (fun t => t.role = roleActive ∧ t.rd TWN_STATE.MUTED = 0)) ∧
  (∀ (s : State) (since : Nat), s.core.twin.withheld = some since → since + 1000 ≤ s.core.ticks → s.core.inPair = true →
    s.core.role = roleActive →
    Acts .heartbeatWithheld s (fun t => t.role = roleStandby ∧ t.eligible = false ∧ t.rd TWN_STATE.MUTED = 1))

/-- R315, R316, R319, R320: what the partner forwards. A command or an input waits for its admission tick; one that is late is
counted and makes an eligible standby ineligible; a trip is latched at once; digests are formed, sent and kept. Clauses with
`Acts` say that a command completes under its rule's own conditions alone. -/
def Obligations.ForwardedWorkAndDigests : Prop :=
  (∀ (s : State) (h : FrameHdr) (b : Bytes), s.core.twinActs lp2 0 0x51 h b → s.core.inPair = true →
    fieldLE b 0 1 ≤ 2 → fieldLE b 1 1 ≤ 7 → s.core.tickPast h.tag.toNat = false →
    Runs (.twnCmd h b) s { parts := [.twin, .casc] } (fun t =>
      t.twin = { s.core.twin with
        cmds := s.core.twin.cmds ++ [⟨h.tag.toNat, fieldLE b 0 1, fieldLE b 1 1, b.drop 4⟩] })) ∧
  (∀ (s : State) (h : FrameHdr) (b : Bytes), s.core.twinActs lp2 0 0x51 h b → s.core.inPair = true →
    fieldLE b 0 1 ≤ 2 → fieldLE b 1 1 ≤ 7 → s.core.tickPast h.tag.toNat = true → s.core.role = roleStandby →
    s.core.eligible = true →
    Runs (.twnCmd h b) s
      { keys := [TWN_STATE.ELIGIBLE.key 0, TWN_STATE.MUTED.key 0, TWN_STATE.ELIG_FOR.key 0, TWN_STAT.LATE_FWD.key 0,
          TWN_STAT.DIVERGENCES.key 0],
        parts := [.twin, .casc, .events] }
      (fun t => t.eligible = false ∧ t.rd TWN_STATE.MUTED = 1 ∧ t.rd TWN_STATE.ELIG_FOR = 0 ∧
        Counts s.core t TWN_STAT.LATE_FWD ∧ Counts s.core t TWN_STAT.DIVERGENCES ∧
        t.twin = { s.core.twin with
          cmds := s.core.twin.cmds ++ [⟨h.tag.toNat, fieldLE b 0 1, fieldLE b 1 1, b.drop 4⟩],
          eligSince := none, resyncDue := true } ∧
        t.events = s.core.events ++
          [⟨evTwnDiverged, 0, none, leBytes 1 2 ++ zeros 3 ++ leBytes 4 h.tag.toNat, s.core.ticks⟩])) ∧
  (∀ (s : State) (h : FrameHdr) (b : Bytes), s.core.twinActs lp2 0 0x52 h b → s.core.inPair = true →
    fieldLE b 0 1 ≠ 2 → s.core.tickPast h.tag.toNat = false →
    Runs (.twnInput h b) s { parts := [.twin, .casc] } (fun t =>
      t.twin = { s.core.twin with
        inputs := s.core.twin.inputs ++ [⟨h.tag.toNat, fieldLE b 0 1, b.drop 4⟩] })) ∧
  (∀ (s : State) (h : FrameHdr) (b : Bytes) (n : Fin 3), s.core.twinActs lp2 0 0x52 h b → s.core.inPair = true →
    fieldLE b 0 1 = 2 → fieldLE b 4 1 = 2 ^ (4 + n.val) → s.core.rd SAF_STATUS.CAUSE % 8 = 0 →
    s.core.mode ∉ [.shutdownTest, .dormant, .boot] →
    Runs (.twnInput h b) s
      { keys := [SAF_STATUS.CAUSE.key 0, SAF_STATUS.TRIPS.key 0, SAF_STATUS.LAST_GATE_NS.key 0],
        parts := [.pilot, .seq, .escSafe, .casc],
        outs := ((List.range 64).filter (fun ch => (s.core.ch ch).gat.lgHigh)).map (fun ch => .lg ch false s.core.now) }
      (fun t => bitOf (t.rd SAF_STATUS.CAUSE) n = true ∧ Counts s.core t SAF_STATUS.TRIPS ∧
        t.escSafe = s.core.escSafe ++ [evSafetyTrip] ∧ (∀ ch : Fin 64, (t.ch ch).gat.lgHigh = false))) ∧
  (∀ (s : State) (h : FrameHdr) (b : Bytes), s.core.twinActs lp2 0 0x53 h b →
    Runs (.twnTick h b) s { parts := [.twin, .casc] } (fun t =>
      t.twin = { s.core.twin with
        partDec := s.core.twin.partDec.drop (s.core.twin.partDec.length - 7) ++ [(h.tag.toNat, fieldLE b 0 4)] })) ∧
  (∀ s : State,
    let k := tickIndex s.core.now
    s.core.inPair = true → roleActive ≤ s.core.role → s.core.now % (1000 * usU) = 0 → s.core.held domPLT = false →
    Runs .stateDigest s
      { parts := [.twin, .casc, .ports], outs := s.core.twinOut 1 0x54 k (leBytes 4 s.core.stateDigest ++ zeros 4) }
      (fun t => t.twin = { s.core.twin with
        ownState := s.core.twin.ownState.filter (fun e => e.1 != k) ++ [(k, s.core.stateDigest)] })) ∧
  (∀ (s : State) (h : FrameHdr) (b : Bytes), s.core.twinActs lp2 1 0x54 h b →
    Runs (.twnDigest h b) s { parts := [.twin, .casc] } (fun t =>
      t.twin = { s.core.twin with
        partState := s.core.twin.partState.drop (s.core.twin.partState.length - 3) ++
          [(h.tag.toNat, fieldLE b 0 4)] })) ∧
  (∀ (s : State) (h : FrameHdr) (b : Bytes), s.core.twinActs lp2 0 0x51 h b → s.core.inPair = true →
    fieldLE b 0 1 ≤ 2 → fieldLE b 1 1 ≤ 7 →
    Acts (.twnCmd h b) s (fun t => t.twin.cmds =
      s.core.twin.cmds ++ [⟨h.tag.toNat, fieldLE b 0 1, fieldLE b 1 1, b.drop 4⟩])) ∧
  (∀ (s : State) (h : FrameHdr) (b : Bytes), s.core.twinActs lp2 0 0x52 h b → s.core.inPair = true → fieldLE b 0 1 ≠ 2 →
    Acts (.twnInput h b) s (fun t => t.twin.inputs =
      s.core.twin.inputs ++ [⟨h.tag.toNat, fieldLE b 0 1, b.drop 4⟩]))

/-- R321, R327: resynchronisation and exchanges of roles. Snapshot blocks gather at an ineligible standby, which at the named
boundary takes the snapshot and becomes eligible; the active unit counts it too. A proposal is answered, an acceptance agreed,
a refusal dropped; the preferred standby proposes by itself after TAKEBACK_HOLDOFF; at an agreed boundary the roles change.
Clauses with `Acts` say that a command completes under its rule's own conditions alone. -/
def Obligations.UnitsResyncAndExchange : Prop :=
  (∀ (s : State) (h : FrameHdr) (b : Bytes), s.core.twinActs lp2 1 0x55 h b → s.core.inPair = true →
    s.core.role = roleStandby → s.core.eligible = false →
    Runs (.twnSync h b) s { parts := [.twin, .casc] } (fun t =>
      t.twin = { s.core.twin with
        total := fieldLE b 4 4,
        blocks := s.core.twin.blocks.filter (fun x => x.1 != fieldLE b 0 4) ++ [(fieldLE b 0 4, b.drop 8)] })) ∧
  (∀ (s : State) (h : FrameHdr) (b : Bytes), s.core.twinActs lp2 0 0x56 h b → s.core.inPair = true →
    fieldLE b 0 1 = 0 → s.core.role = roleActive → s.core.partnerElig = true →
    s.core.tickReached h.tag.toNat = false → s.core.twin.exchange = none →
    Runs (.twnRole h b) s
      { parts := [.twin, .casc, .ports],
        outs := s.core.twinOut 0 0x56 h.tag.toNat (leBytes 1 1 ++ [0#8] ++ leBytes 2 (fieldLE b 2 2) ++ zeros 4) }
      (fun t => t.twin = { s.core.twin with exchange := some (h.tag.toNat, fieldLE b 2 2, true) })) ∧
  (∀ (s : State) (h : FrameHdr) (b : Bytes), s.core.twinActs lp2 0 0x56 h b → s.core.inPair = true →
    fieldLE b 0 1 = 0 → s.core.twin.exchange ≠ none →
    Runs (.twnRole h b) s
      { parts := [.casc, .ports],
        outs := s.core.twinOut 0 0x56 h.tag.toNat (leBytes 1 2 ++ [0#8] ++ leBytes 2 (fieldLE b 2 2) ++ zeros 4) }
      (fun _ => True)) ∧
  (∀ (s : State) (h : FrameHdr) (b : Bytes) (k e : Nat) (a : Bool), s.core.twinActs lp2 0 0x56 h b →
    s.core.inPair = true → s.core.twin.exchange = some (k, e, a) → fieldLE b 0 1 ∈ [1, 2, 3] →
    s.core.anyLong (fun q => q == .handover) = false →
    Runs (.twnRole h b) s { parts := [.twin, .casc, .pilot] } (fun t => t.pilot = s.core.pilot ∧
      t.twin.exchange = (if fieldLE b 0 1 = 1 then some (k, e, true) else if fieldLE b 0 1 = 2 then none
        else some (k, e, a)) ∧
      t.twin.boundary = (if fieldLE b 0 1 = 3 then some h.tag.toNat else s.core.twin.boundary))) ∧
  (∀ (s : State) (x : Snapshot), s.core.inPair = true → s.core.twin.resyncDue = true →
    s.core.mode ∈ [.slack, .standby] → s.core.isUp lp2 = true → s.core.role = roleActive →
    Runs (.resyncBoundary x) s { keys := [TWN_STAT.RESYNCS.key 0], parts := [.twin, .events] } (fun t =>
      Counts s.core t TWN_STAT.RESYNCS ∧ t.twin = { s.core.twin with resyncDue := false, partnerOut := false, syncSent := false } ∧
      t.events = s.core.events ++ [⟨evTwnResynced, 0, none, leBytes 4 x.bytes.toNat, s.core.ticks⟩])) ∧
  (∀ (s : State) (x : Snapshot) (k v : Nat) (ch : Fin 64), s.core.inPair = true → s.core.twin.resyncDue = true →
    s.core.mode ∈ [.slack, .standby] → s.core.isUp lp2 = true → s.core.role = roleStandby →
    s.core.twin.boundary = some k → s.core.tickReached k = true → x.regs = [(RFX_STATE.BASE.key ch, v)] → v < 2 ^ 16 →
    x.portSeq = [] → x.linkSeq = [] →
    Completes (.resyncBoundary x) s (objTable.map ObjDesc.id)
      [.twin, .events, .psets, .charts, .pilot, .ports, .casc, .bwk]
      (fun t => t.eligible = true ∧ t.rd TWN_STATE.MUTED = 0 ∧ Counts s.core t TWN_STAT.RESYNCS ∧
        t.rd RFX_STATE.BASE ch = v ∧
        (∀ (f : Field) (i : Nat), snapKey (f.key i) = true → f.key i ≠ RFX_STATE.BASE.key ch →
          t.rd f i = f.resetVal i) ∧
        (∀ (f : Field) (i : Nat), snapKey (f.key i) = false →
          f.key i ∉ [TWN_STATE.ELIGIBLE.key 0, TWN_STATE.MUTED.key 0, TWN_STAT.RESYNCS.key 0] →
          t.rd f i = s.core.rd f i) ∧
        t.psets = rebuildKv x.psets ∧ t.charts = rebuildKv x.charts ∧ t.pilot.staged = x.staged.map snapSetObj ∧
        t.pilot.queue = x.queue.map (snapCommSet s.core) ∧
        t.bwk.leadTable = x.border.map (fun e => borderReqOf e.1 e.2) ∧ t.twin.boundary = none ∧ t.twin.blocks = [] ∧
        t.events = s.core.events ++ [⟨evTwnResynced, 0, none, leBytes 4 x.bytes.toNat, s.core.ticks⟩])) ∧
  (∀ (s : State) (since : Nat),
    let k := s.core.exchangeTick
    let e := (s.core.rd TWN_STATE.TAKEOVER_EPOCH + 1) % 65536
    s.core.twin.eligSince = some since → s.core.inPair = true → s.core.rd TWN_CONFIG.TAKEBACK_EN = 1 →
    s.core.rd TWN_STATE.PREFERRED = 1 → s.core.role = roleStandby → s.core.eligible = true →
    s.core.twin.exchange = none → s.core.heardBy s.core.twin.hbLink = true →
    since + s.core.rd TWN_CONFIG.TAKEBACK_HOLDOFF * 1000 * ticksPerMs ≤ s.core.ticks →
    Runs .takebackProposal s
      { parts := [.twin, .casc, .ports],
        outs := s.core.twinOut 0 0x56 k (leBytes 1 0 ++ [0#8] ++ leBytes 2 e ++ zeros 4) }
      (fun t => t.twin = { s.core.twin with exchange := some (k, e, false) })) ∧
  (∀ (s : State) (k e : Nat), s.core.twin.exchange = some (k, e, true) → e < 2 ^ 16 → s.core.inPair = true →
    s.core.tickReached k = true → s.core.role ∈ [roleActive, roleStandby] → s.core.logWriting = true →
    s.core.anyLong (fun q => q == .handover) = false →
    Completes .roleExchange s [0x5002, 0x5003, 0x6002] [.twin, .log, .tim, .events, .pilot] (fun t =>
      t.pilot = s.core.pilot ∧ t.role = roleActive + roleStandby - s.core.role ∧
      t.eligible = decide (t.role = roleStandby) ∧ t.rd TWN_STATE.MUTED = 0 ∧ t.rd TWN_STATE.TAKEOVER_EPOCH = e ∧
      Counts s.core t TWN_STAT.TAKEBACKS ∧ t.twin.exchange = none ∧
      t.events = s.core.events ++ [⟨evTwnTakeback, 0, none, leBytes 2 e, s.core.ticks⟩])) ∧
  (∀ (s : State) (h : FrameHdr) (b : Bytes), s.core.twinActs lp2 1 0x55 h b → s.core.inPair = true →
    s.core.role = roleStandby →
    Acts (.twnSync h b) s (fun t => t.eligible = false ∧ t.twin.total = fieldLE b 4 4 ∧
      (fieldLE b 0 4, b.drop 8) ∈ t.twin.blocks)) ∧
  (∀ (s : State) (h : FrameHdr) (b : Bytes), s.core.twinActs lp2 0 0x56 h b → s.core.inPair = true → fieldLE b 0 1 ≤ 3 →
    Acts (.twnRole h b) s (fun t =>
      (fieldLE b 0 1 = 1 → t.twin.exchange = s.core.twin.exchange.map (fun e => (e.1, e.2.1, true))) ∧
      (fieldLE b 0 1 = 2 → t.twin.exchange = none) ∧
      (fieldLE b 0 1 = 3 → t.twin.boundary = some h.tag.toNat))) ∧
  (∀ (s : State) (x : Snapshot) (k : Nat), s.core.inPair = true → s.core.twin.resyncDue = true →
    s.core.mode ∈ [.slack, .standby] → s.core.isUp lp2 = true → s.core.role = roleStandby →
    s.core.twin.boundary = some k → s.core.tickReached k = true →
    Acts (.resyncBoundary x) s (fun t => t.eligible = true ∧ t.rd TWN_STATE.MUTED = 0 ∧
      Counts s.core t TWN_STAT.RESYNCS ∧ t.psets = rebuildKv x.psets ∧ t.charts = rebuildKv x.charts)) ∧
  (∀ (s : State) (k e : Nat), s.core.twin.exchange = some (k, e, true) → e < 2 ^ 16 → s.core.inPair = true →
    s.core.tickReached k = true → s.core.role ∈ [roleActive, roleStandby] →
    Acts .roleExchange s (fun t => t.role = roleActive + roleStandby - s.core.role ∧ t.rd TWN_STATE.TAKEOVER_EPOCH = e ∧
      Counts s.core t TWN_STAT.TAKEBACKS))

/-- R328 to R330: a cascade. Heartbeats go out of both link ports with one SEQ and teach hops; the lead forms the cascade once
it has heard every member; it takes a member's readiness and announces the boundary all are ready for; a member keeps the
boundary announced to it and acts there, holds when told to, and raises HOLD when its lead falls silent, as the lead does for a
lost member. Clauses with `Acts` say that a command completes under its rule's own conditions alone. -/
def Obligations.CascadeActsTogether : Prop :=
  (∀ s : State,
    let copy (p : Nat) : List Output := if s.core.isUp p then
      [.frame p 1 0x58 (s.core.unitFlag + s.core.linkFlag p (linkKey 2 0)) 0 (s.core.linkSeq (linkKey 2 0))
        (tickIndex s.core.now) (s.core.cascId * 4096) (zeros 4)] else []
    s.core.inCascade = true → s.core.inPair = false → s.core.isLead = false → s.core.muted = false →
    s.core.held domFAB = false → s.core.held domTIM = false → s.core.now % (50 * usU) = 0 →
    Runs .cscHbSend s { parts := [.casc, .ports], outs := copy lp0 ++ copy lp1 } (fun t =>
      t.linkSeq (linkKey 2 0) = (s.core.linkSeq (linkKey 2 0) + 1) % 65536)) ∧
  (∀ (s : State) (p : Fin 2) (h : FrameHdr) (b : Bytes),
    let port := 18 + p.val
    let src := h.aux.toNat / 4096
    s.core.linkActs port 1 0x58 h b → s.core.isLead = false → src = 0 → bitOf (fieldLE b 1 1) 0 = true →
    s.core.rd CSC_STATE.FORMED = 0 →
    Runs (.cscHb ⟨18 + p.val, by omega⟩ h b) s
      { keys := [CSC_STATE.FORMED.key 0], parts := [.casc, .events], outs := s.core.linkCopy port 0x58 h b }
      (fun t => t.rd CSC_STATE.FORMED = 1 ∧ Kv.get 0xFF t.casc.hops (hopKey port src) = fieldLE b 0 1 + 1 ∧
        Kv.get 0 t.casc.heard (hopKey port src) = s.core.ticks + 1 ∧ t.casc.leadLost = false ∧
        t.casc.lostPosted = s.core.casc.lostPosted.filter (fun i => i != src) ∧
        t.events = s.core.events ++ [⟨evCscFormed, 0, none, leBytes 2 (s.core.rd CSC_CONFIG.MEMBERS), s.core.ticks⟩])) ∧
  (∀ (s : State) (p : Fin 2) (h : FrameHdr) (b : Bytes),
    let port := 18 + p.val
    let src := h.aux.toNat / 4096
    s.core.linkActs port 1 0x58 h b → s.core.inPair = false → s.core.inCascade = true → s.core.isLead = true →
    bitOf (s.core.rd CSC_CONFIG.MEMBERS) 0 = true → s.core.rd CSC_STATE.FORMED = 0 →
    (∀ i ∈ s.core.otherMembers, i = src ∨ s.core.everHeard i = true) →
    Completes (.cscHb ⟨18 + p.val, by omega⟩ h b) s [CSC_STATE.FORMED.obj] [.casc, .ports, .events] (fun t =>
      t.rd CSC_STATE.FORMED = 1 ∧ Kv.get 0xFF t.casc.hops (hopKey port src) = fieldLE b 0 1 + 1 ∧
      t.events = s.core.events ++ [⟨evCscFormed, 0, none, leBytes 2 (s.core.rd CSC_CONFIG.MEMBERS), s.core.ticks⟩])) ∧
  (∀ (s : State) (p : Fin 21) (h : FrameHdr) (b : Bytes),
    let f := fieldLE b 4 1
    let src := h.aux.toNat / 4096
    s.core.linkActs p 1 0x59 h b → s.core.inCascade = true → s.core.isLead = true → s.core.casc.announced ≠ none →
    Runs (.cscReady p h b) s { parts := [.casc], outs := s.core.linkCopy p 0x59 h b } (fun t =>
      t.casc.ready = s.core.casc.ready.filter (fun r => r.1 != src) ++
        [(src, ⟨fieldLE b 0 4, bitOf f 0, bitOf f 1, bitOf f 2⟩)] ∧ t.casc.announced = s.core.casc.announced)) ∧
  (∀ (s : State) (p : Fin 21) (h : FrameHdr) (b : Bytes) (j : Nat),
    let f := fieldLE b 4 1
    let src := h.aux.toNat / 4096
    let at_ := (s.core.now + 110 * usU - 1) / (10 * usU) * (10 * usU)
    s.core.linkActs p 1 0x59 h b → s.core.inPair = false → s.core.inCascade = true → s.core.isLead = true →
    s.core.casc.announced = none → s.core.otherMembers = [j] → src = j → bitOf f 1 = true → s.core.ownReady.ended = true →
    (bitOf f 2 && s.core.ownReady.held && s.core.anyLong (fun k => k == .resume)) = false →
    Completes (.cscReady p h b) s [CSC_STATE.LAST_ANNOUNCE.obj] [.casc, .ports] (fun t =>
      t.casc.announced = some (1, tickIndex at_, s.core.ownReady.layer) ∧ t.casc.ready = [] ∧
      t.rd CSC_STATE.LAST_ANNOUNCE = tickIndex at_)) ∧
  (∀ (s : State) (p : Fin 21) (h : FrameHdr) (b : Bytes), s.core.linkActs p 1 0x5A h b → s.core.inCascade = true →
    s.core.isLead = false → (fieldLE b 0 1 = 1 ∨ fieldLE b 0 1 = 2) →
    Runs (.cscAnnounce p h b) s
      { keys := [CSC_STATE.LAST_ANNOUNCE.key 0], parts := [.casc], outs := s.core.linkCopy p 0x5A h b }
      (fun t => t.rd CSC_STATE.LAST_ANNOUNCE = h.tag.toNat ∧
        t.casc.announced = some (fieldLE b 0 1, h.tag.toNat, fieldLE b 4 4))) ∧
  (∀ (s : State) (k layer : Nat), s.core.casc.announced = some (2, k, layer) → s.core.tickReached k = true →
    s.core.now % (10 * usU) = 0 → s.core.mode = .hold → s.core.rd PLT_MODE.PHASE = phHeld →
    s.core.rd PLT_MODE.RETURN = Mode.expose.code → s.core.rd SEQ_LAYER_STATE.LAYER_ACTIVE = 0 →
    s.core.anyLong (fun q => q == .resume) = false →
    Completes .announcedBoundary s [0x0106] [.casc, .pilot, .events] (fun t =>
      Entered s.core t .expose ∧ t.casc.announced = none ∧ t.casc.ready = [] ∧ t.rd PLT_MODE.PHASE = 0 ∧
      t.rd PLT_MODE.HOLD_CAUSE = 0)) ∧
  (∀ (s : State) (k layer kind : Nat), s.core.casc.announced = some (kind, k, layer) → s.core.tickReached k = true →
    s.core.now % (10 * usU) = 0 → kind ∈ [0, 1] → s.core.pilot.queue = [] → s.core.layerDone = false →
    Runs .announcedBoundary s { parts := [.casc] } (fun t =>
      t.casc = { s.core.casc with announced := none, ready := [] })) ∧
  (∀ (s : State) (p : Fin 21) (h : FrameHdr) (b : Bytes), s.core.linkActs p 1 0x5B h b → s.core.inCascade = true →
    Runs (.cscHold p h b) s { parts := [.casc], outs := s.core.linkCopy p 0x5B h b } (fun t =>
      t.casc.holdLatched = some (fieldLE b 0 2))) ∧
  (∀ (s : State) (j : Nat), s.core.inCascade = true → s.core.isLead = true → s.core.inPair = false →
    s.core.otherMembers = [j] → s.core.everHeard j = true → s.core.heard j = false → j ∉ s.core.casc.lostPosted →
    Completes .cscMemberLost s [] [.casc, .ports, .events, .escHold] (fun t =>
      t.casc.lostPosted = s.core.casc.lostPosted ++ [j] ∧ t.casc.ready = s.core.casc.ready.filter (fun r => r.1 != j) ∧
      t.escHold = s.core.escHold ++ [evCscMemberLost] ∧
      t.events = s.core.events ++ [⟨evCscMemberLost, 0, none, leBytes 1 j, s.core.ticks⟩])) ∧
  (∀ s : State, s.core.inCascade = true → s.core.isLead = false → s.core.everHeard 0 = true → s.core.heard 0 = false →
    s.core.casc.leadLost = false →
    Runs .cscLeadLost s { parts := [.casc, .events, .escHold] } (fun t =>
      t.casc = { s.core.casc with leadLost := true } ∧ t.escHold = s.core.escHold ++ [evCscLeadLost] ∧
      t.events = s.core.events ++ [⟨evCscLeadLost, 0, none, [], s.core.ticks⟩])) ∧
  (∀ (s : State) (j : Nat), s.core.inCascade = true → s.core.held domFAB = false → s.core.held domTIM = false →
    s.core.now % (50 * usU) = 0 → j < 16 → j ∈ s.core.hbPeers →
    Acts .cscHbSend s (fun t => t.linkSeq (linkKey 2 j) = (s.core.linkSeq (linkKey 2 j) + 1) % 65536)) ∧
  (∀ (s : State) (p : Fin 21) (h : FrameHdr) (b : Bytes),
    let src := h.aux.toNat / 4096
    s.core.linkActs p 1 0x58 h b →
    Acts (.cscHb p h b) s (fun t => Kv.get 0xFF t.casc.hops (hopKey (s.core.arrivalPort p) src) = fieldLE b 0 1 + 1 ∧
      Kv.get 0 t.casc.heard (hopKey (s.core.arrivalPort p) src) = s.core.ticks + 1)) ∧
  (∀ (s : State) (p : Fin 21) (h : FrameHdr) (b : Bytes),
    let f := fieldLE b 4 1
    s.core.linkActs p 1 0x59 h b → s.core.inCascade = true → s.core.isLead = true →
    Acts (.cscReady p h b) s (fun t => (s.core.casc.announced = none ∧ t.casc.announced ≠ none) ∨
      (h.aux.toNat / 4096, ⟨fieldLE b 0 4, bitOf f 0, bitOf f 1, bitOf f 2⟩) ∈ t.casc.ready)) ∧
  (∀ (s : State) (p : Fin 21) (h : FrameHdr) (b : Bytes), s.core.linkActs p 1 0x5A h b → s.core.inCascade = true →
    s.core.isLead = false → fieldLE b 0 1 ≤ 3 →
    Acts (.cscAnnounce p h b) s (fun t => if fieldLE b 0 1 = 3 then t.rd CSC_STATE.FORMED = 1
      else t.rd CSC_STATE.LAST_ANNOUNCE = h.tag.toNat ∧
        t.casc.announced = some (fieldLE b 0 1, h.tag.toNat, fieldLE b 4 4))) ∧
  (∀ (s : State) (k layer kind : Nat), s.core.casc.announced = some (kind, k, layer) → s.core.tickReached k = true →
    s.core.now % (10 * usU) = 0 → Acts .announcedBoundary s (fun t => t.casc.announced = none ∧ t.casc.ready = [])) ∧
  (∀ (s : State) (j : Nat), s.core.inCascade = true → s.core.isLead = true → j ∈ s.core.otherMembers →
    s.core.everHeard j = true → s.core.heard j = false → j ∉ s.core.casc.lostPosted →
    Acts .cscMemberLost s (fun t => j ∈ t.casc.lostPosted ∧ evCscMemberLost ∈ t.escHold ∧
      ⟨evCscMemberLost, 0, none, leBytes 1 j, s.core.ticks⟩ ∈ t.events))

/-- R336 to R342, R349, R352, R353: sources of machine time. An edge on PPS_IN, a plant Sync of the followed master and the
mean bell offset of a whole millisecond each give the servo a measurement; a first large one under STEP_ARMED makes a step due;
a source that falls silent leaves HOLDOVER; a changed SRC begins a new acquisition; PPS_OUT rises at a whole second. Clauses
with `Acts` say that a command completes under its rule's own conditions alone. -/
def Obligations.MeasurementsRunTheServo : Prop :=
  (∀ (s : State) (q : Fin 2000),
    let at_ := s.core.now + q.val * 16384
    let theta : Int := (at_ : Int) - ((at_ + secU / 2) / secU * secU : Nat) - s.core.rdI TIM_CONFIG.PPS_IN_DELAY * 256
    s.core.tim.ppsLast.all (fun l => decide (l + secU / 2 ≤ at_)) = true → s.core.rd TIM_STATE.EFF_SRC = 1 →
    s.core.byRateAlone theta →
    ServoRuns (.ppsInEdge q) s theta at_ (fun t => t.tim.ppsLast = some at_)) ∧
  (∀ (s : State) (q : Fin 2000),
    let at_ := s.core.now + q.val * 16384
    let theta : Int := (at_ : Int) - ((at_ + secU / 2) / secU * secU : Nat) - s.core.rdI TIM_CONFIG.PPS_IN_DELAY * 256
    s.core.held domTIM = false → s.core.tim.ppsLast = none → s.core.rd TIM_STATE.EFF_SRC = 1 →
    s.core.tim.measured = false → s.core.tim.stepAt = none → s.core.rd TIM_STATE.STEP_ARMED = 1 →
    s.core.rd TIM_CONFIG.STEP_THRESH * usU < theta.natAbs → s.core.stepAllowed = true →
    Runs (.ppsInEdge q) s
      { keys := [TIM_STATE.OFFSET.key 0, TIM_STATE.MEAS_SEC.key 0, TIM_STATE.MEAS_NS.key 0], parts := [.tim] }
      (fun t => t.tim.stepDue = some theta ∧ t.tim.measured = true ∧
        t.rd TIM_STATE.OFFSET = ofSigned 32 (satSigned 32 (roundDiv theta 4096)))) ∧
  (∀ (s : State) (q : Fin 2000) (l : Time), s.core.tim.ppsLast = some l → s.core.now + q.val * 16384 < l + secU / 2 →
    Idles (.ppsInEdge q) s) ∧
  (∀ (s : State) (ident : BitVec 64) (sec : BitVec 48) (ns : BitVec 32) (corr : BitVec 64) (logInt : BitVec 8)
      (off : SubTick) (utc : Nat),
    let diff : Int := ((s.core.ingress 0 (s.core.now + off.val) : Nat) : Int) - (mkTime sec.toNat ns.toNat 0 : Nat) -
      corr.toInt
    s.core.rd TIM_STATE.EFF_SRC = 2 → s.core.tim.master = some (ident.toNat, utc) → logInt.toInt = -3 →
    s.core.byRateAlone (diff - s.core.tim.pathDelay.1) →
    ServoRuns (.plantSync ident sec ns corr logInt off) s (diff - s.core.tim.pathDelay.1) (s.core.now + off.val) (fun t =>
      t.tim.syncDiff = (diff, s.core.tim.syncDiff.2) ∧ t.tim.syncInt = 250000)) ∧
  (∀ (s : State) (bells : List (Fin 3 × BitVec 32)) (th mean : Int), s.core.rd TIM_STATE.EFF_SRC = 3 →
    s.core.now % (1000 * usU) = 0 → s.core.tim.linkTheta = some th →
    s.core.bellMean (bells.map (fun b => (b.1.val, b.2.toInt))) = some mean →
    s.core.byRateAlone (roundDiv (th - mean) usU * usU + mean) →
    ServoRuns (.linkMeasurement bells) s (roundDiv (th - mean) usU * usU + mean) s.core.now
      (fun t => t.tim.linkTheta = some th)) ∧
  (∀ (s : State) (sec : BitVec 48) (ns : BitVec 32) (corr : BitVec 64) (off : SubTick),
    let diff : Int := ((s.core.ingress 1 (s.core.now + off.val) : Nat) : Int) - (mkTime sec.toNat ns.toNat 0 : Nat) -
      corr.toInt
    s.core.held domTIM = false → s.core.rd TIM_STATE.EFF_SRC = 3 →
    Runs (.machSyncRx sec ns corr off) s { parts := [.tim] } (fun t =>
      t.tim = { s.core.tim with
        syncDiff := (s.core.tim.syncDiff.1, diff), linkTheta := some (diff - s.core.tim.pathDelay.2) })) ∧
  (∀ s : State,
    let src := s.core.rd TIM_STATE.EFF_SRC
    let every := if src = 1 then 1000 * ticksPerMs else if src = 2 then s.core.tim.syncInt else ticksPerMs
    s.core.held domTIM = false → src ≠ 0 → s.core.timState ∈ [tsAcquiring, tsStepWait, tsLocking, tsLocked] →
    s.core.tim.measAt + 3 * every ≤ s.core.ticks →
    Runs .sourceLost s
      { keys := [TIM_STATE.STATE.key 0, TIM_STATE.RATE.key 0, TIM_STAT.HOLDOVERS.key 0, TIM_STATE.UTC_NOW.key 0],
        parts := [.tim, .events] }
      (fun t => t.timState = tsHoldover ∧ Counts s.core t TIM_STAT.HOLDOVERS ∧
        t.tim.ramp = ⟨s.core.meanRate, s.core.meanRate, s.core.ticks, 0⟩ ∧ t.tim.stepDue = none ∧ t.tim.master = none ∧
        t.rd TIM_STATE.UTC_NOW = s.core.rd TIM_CONFIG.UTC_OFFSET % 2 ^ 16 ∧
        t.events = s.core.events ++ [⟨evTimHoldover, 0, none, [BitVec.ofNat 8 src], s.core.ticks⟩])) ∧
  (∀ (s : State) (v : Fin 3), s.core.held domTIM = false → s.core.rd TIM_CONFIG.SRC ≠ v → s.core.isStandby = false →
    (s.core.inCascade = false ∨ s.core.isLead = true) →
    Runs (.srcWrite v) s
      { keys := [TIM_CONFIG.SRC.key 0, TIM_STATE.EFF_SRC.key 0, TIM_STATE.STATE.key 0, TIM_STATE.RATE.key 0,
          TIM_STATE.UTC_NOW.key 0],
        parts := [.tim] }
      (fun t => t.rd TIM_CONFIG.SRC = v ∧ t.rd TIM_STATE.EFF_SRC = v ∧
        t.timState = (if v.val = 0 then tsFree else tsAcquiring) ∧ t.tim.measured = false ∧ t.tim.stepDue = none ∧
        t.tim.master = none ∧ t.rd TIM_STATE.UTC_NOW = s.core.rd TIM_CONFIG.UTC_OFFSET % 2 ^ 16)) ∧
  (∀ s : State, s.core.held domTIM = false → s.core.rd TIM_CONFIG.PPS_OUT_EN = 1 → s.core.rd TIM_STATE.TIME_VALID = 1 →
    s.core.now % secU = 0 → s.core.tim.ppsAt ≠ some s.core.ticks →
    Runs .ppsOutSecond s { parts := [.tim], outs := [.pps true] } (fun t =>
      t.tim = { s.core.tim with ppsAt := some s.core.ticks })) ∧
  (∀ (s : State) (q : Fin 2000),
    let at_ := s.core.now + q.val * 16384
    let theta : Int := (at_ : Int) - ((at_ + secU / 2) / secU * secU : Nat) - s.core.rdI TIM_CONFIG.PPS_IN_DELAY * 256
    s.core.held domTIM = false → s.core.tim.ppsLast.all (fun l => decide (l + secU / 2 ≤ at_)) = true →
    Acts (.ppsInEdge q) s (fun t => (s.core.tim.stepAt = none → s.core.tim.stepDue = none ∨ s.core.timState = tsStepWait →
      s.core.rd TIM_STATE.EFF_SRC = 1 → t.tim.measAt = s.core.ticks ∧
        t.rd TIM_STATE.OFFSET = ofSigned 32 (satSigned 32 (roundDiv theta 4096))))) ∧
  (∀ (s : State) (ident : BitVec 64) (sec : BitVec 48) (ns : BitVec 32) (corr : BitVec 64) (logInt : BitVec 8)
      (off : SubTick) (utc : Nat),
    let diff : Int := ((s.core.ingress 0 (s.core.now + off.val) : Nat) : Int) - (mkTime sec.toNat ns.toNat 0 : Nat) -
      corr.toInt
    s.core.held domTIM = false → s.core.rd TIM_STATE.EFF_SRC = 2 → s.core.tim.master = some (ident.toNat, utc) →
    Acts (.plantSync ident sec ns corr logInt off) s (fun t =>
      t.tim.syncDiff.1 = diff ∧ t.tim.measAt = s.core.ticks)) ∧
  (∀ (s : State) (bells : List (Fin 3 × BitVec 32)) (th mean : Int), s.core.held domTIM = false →
    s.core.rd TIM_STATE.EFF_SRC = 3 → s.core.now % (1000 * usU) = 0 → s.core.tim.linkTheta = some th →
    s.core.bellMean (bells.map (fun b => (b.1.val, b.2.toInt))) = some mean →
    Acts (.linkMeasurement bells) s (fun t => t.tim.measAt = s.core.ticks)) ∧
  (∀ (s : State) (v : Fin 3), s.core.held domTIM = false → s.core.rd TIM_CONFIG.SRC ≠ v →
    Acts (.srcWrite v) s (fun t => t.rd TIM_CONFIG.SRC = v ∧ t.tim.measured = false ∧ t.tim.master = none))

/-- R346 to R351: IEEE 1588. As grandmaster the device sends Sync, with Follow_Up under TWO_STEP, and Announce, answers delay
requests and counts foreign masters; as a transparent clock it forwards plant messages with their residence; as a slave it asks
for the delay, completes it and follows the best plant master; transmit time stamps queue for TIM_TXQ. Clauses with `Acts` say
that a command completes under its rule's own conditions alone. -/
def Obligations.PtpMessagesAsSpecified : Prop :=
  (∀ (s : State) (off : SubTick),
    let at_ := s.core.egress 1 (s.core.now + off.val)
    let dom := s.core.rd TIM_PTP.MACH_DOM
    let seq := s.core.tim.syncSeq
    let two := s.core.flag TIM_PTP.TWO_STEP
    s.core.grandmaster = true → s.core.tim.txq.length < 256 →
    Runs (.ptpSyncTx off) s
      { parts := [.tim],
        outs := .ptp 1 0 dom seq (if two then [] else stampBytes at_) ::
          (if two then [.ptp 1 8 dom seq (stampBytes at_)] else []) }
      (fun t => t.tim = { Tim.queued s.core.tim s.core 1 0 dom seq at_ with syncSeq := (seq + 1) % 65536 })) ∧
  (∀ (s : State) (off : SubTick), s.core.grandmaster = true →
    Runs (.ptpAnnounceTx off) s
      { parts := [.tim],
        outs := [.ptp 1 0xB (s.core.rd TIM_PTP.MACH_DOM) s.core.tim.announceSeq
          ([BitVec.ofNat 8 (s.core.rd TIM_PTP.PRIO1), BitVec.ofNat 8 (s.core.rd TIM_PTP.PRIO2),
            BitVec.ofNat 8 s.core.clockClass, BitVec.ofNat 8 (timeSource (s.core.rd TIM_STATE.EFF_SRC))] ++
            leBytes 2 (s.core.rd TIM_STATE.UTC_NOW))] }
      (fun t => t.tim = { s.core.tim with announceSeq := (s.core.tim.announceSeq + 1) % 65536 })) ∧
  (∀ (s : State) (seq : BitVec 16) (dom : BitVec 8) (off : SubTick), s.core.grandmaster = true →
    dom.toNat = s.core.rd TIM_PTP.MACH_DOM → s.core.rd TIM_PTP.MACH_MECH = 0 →
    Runs (.delayReq 1 1#4 dom seq off) s
      { outs := [.ptp 1 9 dom.toNat seq.toNat (stampBytes (s.core.ingress 1 (s.core.now + off.val)))] }
      (fun _ => True)) ∧
  (∀ (s : State) (seq : BitVec 16) (dom : BitVec 8) (off : SubTick),
    let at_ := s.core.egress 1 (s.core.now + off.val)
    s.core.grandmaster = true → dom.toNat = s.core.rd TIM_PTP.MACH_DOM → s.core.rd TIM_PTP.MACH_MECH = 1 →
    s.core.tim.txq.length < 256 →
    Runs (.delayReq 1 2#4 dom seq off) s
      { parts := [.tim],
        outs := .ptp 1 3 dom.toNat seq.toNat (stampBytes (s.core.ingress 1 (s.core.now + off.val))) ::
          (if s.core.flag TIM_PTP.TWO_STEP then [.ptp 1 0xA dom.toNat seq.toNat (stampBytes at_)] else []) }
      (fun t => t.tim = Tim.queued s.core.tim s.core 1 3 dom.toNat seq.toNat at_)) ∧
  (∀ (s : State) (ident : BitVec 64), s.core.grandmaster = true →
    Runs (.foreignAnnounce 1 ident) s
      { keys := [TIM_STAT.FOREIGN_GM.key 0], parts := [.tim, .events] }
      (fun t => Counts s.core t TIM_STAT.FOREIGN_GM ∧
        t.tim.foreign = s.core.tim.foreign ++ (if ident.toNat ∈ s.core.tim.foreign then [] else [ident.toNat]) ∧
        t.events = s.core.events ++ (if ident.toNat ∈ s.core.tim.foreign then []
          else [⟨evTimForeignGm, 0, none, leBytes 8 ident.toNat, s.core.ticks⟩]))) ∧
  (∀ (s : State) (port : Fin 2) (dom : BitVec 8) (ident : BitVec 80) (seq : BitVec 16) (corr : BitVec 64) (off : SubTick)
      (res : BitVec 32),
    let tx := s.core.egress (1 - port.val) (s.core.now + (off.val + res.toNat))
    let resid : Int := (tx : Int) - s.core.ingress port (s.core.now + off.val)
    let link : Int := if s.core.flag TIM_PTP.PLANT_MECH then pick s.core.tim.pathDelay port else 0
    s.core.held domTIM = false → s.core.rd TIM_PTP.TC_EN = 1 → s.core.actsActive = true →
    dom.toNat = s.core.rd TIM_PTP.PLANT_DOM → s.core.tim.txq.length < 256 →
    Runs (.tcForward port 0#4 dom ident seq false corr off res) s
      { keys := [TIM_STAT.TC_FWD.key 0, TIM_STAT.RESID_MAX.key 0], parts := [.tim],
        outs := [.ptp (1 - port.val) 0 dom.toNat seq.toNat (leBytes 8 (ofSigned 64 (corr.toInt + resid + link)))] }
      (fun t => Counts s.core t TIM_STAT.TC_FWD ∧
        t.rd TIM_STAT.RESID_MAX = min (max (s.core.rd TIM_STAT.RESID_MAX) (resid.toNat / nsU)) (2 ^ 16 - 1) ∧
        t.tim = Tim.queued s.core.tim s.core (1 - port.val) 0 dom.toNat seq.toNat tx)) ∧
  (∀ (s : State) (port : Fin 2) (dom : BitVec 8) (ident : BitVec 80) (seq : BitVec 16) (corr : BitVec 64) (off : SubTick)
      (res : BitVec 32) (kept : Nat),
    let link : Int := if s.core.flag TIM_PTP.PLANT_MECH then pick s.core.tim.pathDelay port else 0
    s.core.held domTIM = false → s.core.rd TIM_PTP.TC_EN = 1 → s.core.actsActive = true →
    dom.toNat = s.core.rd TIM_PTP.PLANT_DOM → s.core.tim.twoStep = [(ident.toNat, seq.toNat, kept)] →
    Runs (.tcForward port 8#4 dom ident seq false corr off res) s
      { keys := [TIM_STAT.TC_FWD.key 0], parts := [.tim],
        outs := [.ptp (1 - port.val) 8 dom.toNat seq.toNat (leBytes 8 (ofSigned 64 (corr.toInt + link + kept)))] }
      (fun t => Counts s.core t TIM_STAT.TC_FWD ∧ t.tim = { s.core.tim with twoStep := [] })) ∧
  (∀ (s : State) (e : TxStamp) (l : List TxStamp), s.core.held domTIM = false → s.core.tim.txq = e :: l → e.port < 2 →
    e.msgType < 16 → e.domain < 2 ^ 8 → e.id < 2 ^ 16 → e.seq < 2 ^ 16 → timeSec e.at_ < 2 ^ 64 →
    Runs .timTxqRead s
      { parts := [.tim],
        outs := [.busData (leBytes 1 (1 + 2 * e.port + 16 * e.msgType) ++ leBytes 1 e.domain ++ leBytes 2 e.id ++
          leBytes 2 e.seq ++ zeros 2 ++ leBytes 8 (timeSec e.at_) ++ leBytes 4 (timeNs e.at_) ++
          leBytes 2 (timeFrac e.at_) ++ zeros 2)] }
      (fun t => t.tim = { s.core.tim with txq := l })) ∧
  (∀ (s : State) (ident : BitVec 64) (utc : BitVec 16) (rank : List (BitVec 64)) (m u : Nat),
    let ranks := rank.map BitVec.toNat
    s.core.held domTIM = false → s.core.rd TIM_CONFIG.SRC = 2 → s.core.tim.master = some (m, u) → m ≠ ident.toNat →
    rankBetter ranks s.core.tim.masterRank = true →
    Runs (.plantAnnounce ident utc rank) s { keys := [TIM_STATE.UTC_NOW.key 0], parts := [.tim] } (fun t =>
      t.tim = { s.core.tim with master := some (ident.toNat, utc.toNat), masterRank := ranks } ∧
      t.rd TIM_STATE.UTC_NOW = utc.toNat)) ∧
  (∀ (s : State) (ident : BitVec 64) (utc : BitVec 16) (rank : List (BitVec 64)) (m u : Nat),
    s.core.tim.master = some (m, u) → m ≠ ident.toNat →
    rankBetter (rank.map BitVec.toNat) s.core.tim.masterRank = false → Idles (.plantAnnounce ident utc rank) s) ∧
  (∀ (s : State) (seq : BitVec 16) (sec : BitVec 48) (ns turn : BitVec 32) (corr : BitVec 64) (off : SubTick) (t3 : Time),
    let twice : Int := s.core.tim.syncDiff.1 + ((mkTime sec.toNat ns.toNat 0 : Nat) - (t3 : Int) - corr.toInt)
    s.core.held domTIM = false → s.core.rd TIM_PTP.PLANT_MECH = 0 → s.core.tim.delayOut = [(0, seq.toNat, t3)] →
    Runs (.ptpDelayResp 0 seq sec ns turn corr off) s { parts := [.tim] } (fun t =>
      t.tim = { s.core.tim with pathDelay := (twice / 2, s.core.tim.pathDelay.2), delayOut := [] })) ∧
  (∀ (s : State) (off : SubTick),
    let at_ := s.core.egress 0 (s.core.now + off.val)
    let ty := if s.core.flag TIM_PTP.PLANT_MECH then 2 else 1
    let dom := s.core.rd TIM_PTP.PLANT_DOM
    let seq := s.core.tim.delaySeq
    s.core.held domTIM = false → s.core.rd TIM_STATE.EFF_SRC = 2 → s.core.tim.txq.length < 256 →
    Runs (.ptpDelayReqTx 0 off) s { parts := [.tim], outs := [.ptp 0 ty dom seq []] } (fun t =>
      t.tim = { Tim.queued s.core.tim s.core 0 ty dom seq at_ with
        delaySeq := (seq + 1) % 65536,
        delayOut := s.core.tim.delayOut.filter (fun e => e.1 != 0) ++ [(0, seq, at_)] })) ∧
  (∀ (s : State) (off : SubTick), s.core.grandmaster = true →
    Acts (.ptpSyncTx off) s (fun t => t.tim.syncSeq = (s.core.tim.syncSeq + 1) % 65536 ∧
      (s.core.rd TIM_PTP.TWO_STEP = 0 → t.out = [.ptp 1 0 (s.core.rd TIM_PTP.MACH_DOM) s.core.tim.syncSeq
        (stampBytes (s.core.egress 1 (s.core.now + off.val)))]))) ∧
  (∀ (s : State) (seq : BitVec 16) (dom : BitVec 8) (off : SubTick), s.core.grandmaster = true →
    dom.toNat = s.core.rd TIM_PTP.MACH_DOM → s.core.rd TIM_PTP.MACH_MECH = 1 →
    Acts (.delayReq 1 2#4 dom seq off) s (fun t => t.out.head? =
      some (.ptp 1 3 dom.toNat seq.toNat (stampBytes (s.core.ingress 1 (s.core.now + off.val)))))) ∧
  (∀ (s : State) (port : Fin 2) (seq : BitVec 16) (dom : BitVec 8) (off : SubTick), s.core.held domTIM = false →
    s.core.actsActive = true → s.core.rd TIM_PTP.TC_EN = 1 → s.core.rd TIM_PTP.PLANT_MECH = 1 →
    dom.toNat = s.core.rd TIM_PTP.PLANT_DOM →
    Acts (.delayReq port 2#4 dom seq off) s (fun t => t.out.head? =
      some (.ptp port 3 dom.toNat seq.toNat (stampBytes (s.core.ingress port (s.core.now + off.val)))))) ∧
  (∀ (s : State) (port : Fin 2) (ty : BitVec 4) (dom : BitVec 8) (ident : BitVec 80) (seq : BitVec 16) (twoStep : Bool)
      (corr : BitVec 64) (off : SubTick) (res : BitVec 32),
    s.core.held domTIM = false → s.core.rd TIM_PTP.TC_EN = 1 → s.core.actsActive = true →
    dom.toNat = s.core.rd TIM_PTP.PLANT_DOM → ty ∉ [2#4, 3#4, 10#4] →
    Acts (.tcForward port ty dom ident seq twoStep corr off res) s (fun t => Counts s.core t TIM_STAT.TC_FWD ∧
      t.out.map (fun o => match o with | .ptp p k d q _ => (p, k, d, q) | _ => (0, 0, 0, 0)) =
        [(1 - port.val, ty.toNat, dom.toNat, seq.toNat)])) ∧
  (∀ (s : State) (ident : BitVec 64) (utc : BitVec 16) (rank : List (BitVec 64)), s.core.held domTIM = false →
    s.core.rd TIM_CONFIG.SRC = 2 →
    s.core.tim.master.all (fun m => m.1 == ident.toNat || rankBetter (rank.map BitVec.toNat) s.core.tim.masterRank) = true →
    Acts (.plantAnnounce ident utc rank) s (fun t => t.tim.master = some (ident.toNat, utc.toNat) ∧
      t.tim.masterRank = rank.map BitVec.toNat ∧ t.rd TIM_STATE.UTC_NOW = utc.toNat)) ∧
  (∀ (s : State) (port : Fin 2) (seq : BitVec 16) (sec : BitVec 48) (ns turn : BitVec 32) (corr : BitVec 64)
      (off : SubTick) (t3 : Time),
    let rx : Int := (s.core.ingress port (s.core.now + off.val) : Nat)
    let link := s.core.rd TIM_STATE.EFF_SRC = 3 ∧ port = 1
    let peer := if link then s.core.rd TIM_PTP.MACH_MECH = 1 else s.core.rd TIM_PTP.PLANT_MECH = 1
    s.core.held domTIM = false →
    s.core.tim.delayOut.find? (fun e => e.1 == port.val && e.2.1 == seq.toNat) = some (port.val, seq.toNat, t3) →
    Acts (.ptpDelayResp port seq sec ns turn corr off) s (fun t =>
      t.tim.delayOut = s.core.tim.delayOut.filter (fun e => e.1 != port.val) ∧
      (peer → pick t.tim.pathDelay port = (rx - t3 - turn.toNat - corr.toInt) / 2))) ∧
  (∀ (s : State) (port : Fin 2) (off : SubTick), s.core.held domTIM = false →
    (s.core.rd TIM_STATE.EFF_SRC = 3 ∧ port = 1) ∨ (s.core.rd TIM_STATE.EFF_SRC = 2 ∧ port = 0) ∨
      (s.core.rd TIM_PTP.TC_EN = 1 ∧ s.core.rd TIM_PTP.PLANT_MECH = 1 ∧ s.core.actsActive = true) →
    Acts (.ptpDelayReqTx port off) s (fun t => t.tim.delaySeq = (s.core.tim.delaySeq + 1) % 65536 ∧
      t.out.length = 1)) ∧
  (∀ (s : State) (e : TxStamp) (l : List TxStamp), s.core.held domTIM = false → s.core.tim.txq = e :: l →
    Acts .timTxqRead s (fun t => t.tim.txq = l ∧ t.out.length = 1))

/-- R355 to R365, R371: the DRAM controller. Training that succeeds on every lane makes the memory usable with every byte zero,
and what it found is shown; failed lanes and modules beyond R355 are reported; the end of zeroing sets INIT_DONE; refreshes are
postponed at most twice; activates are counted; the patrol scrub counts what it corrects and logs what it cannot. Clauses with
`Acts` say that a command completes under its rule's own conditions alone. -/
def Obligations.DramIsTrainedRefreshedAndScrubbed : Prop :=
  (∀ (s : State) (r : TrainResult),
    let sig := s.core.drcSignature r
    let fast := (List.range 4).all (fun n => s.core.storedTraining n sig && (trainLane r n).verified)
    let mib := installedMib (s.core.geometry r)
    s.core.held domMEM = false → s.core.rd DRC_STATE.TRAINED = 0 → s.core.drc.trainFailed = false →
    s.core.cfgBad r = false →
    (∀ (n : Fin 4) (k : Fin 40), s.core.rd DRC_CONFIG.MIN_EYE ≤ (windows (trainLane r n).rd).getD k 0 ∧
      s.core.rd DRC_CONFIG.MIN_EYE ≤ (windows (trainLane r n).wr).getD k 0) → s.core.logWriting = true →
    ∃ t : State, exec (.dramTrainingDone r) s = .next t ∧ t.pending = s.pending ∧ t.core.out = [] ∧ t.core.wq = [] ∧
      (∀ a : Nat, t.dram.read a = 0#8) ∧
      (∀ (f : Field) (k : Nat), k < 2 ^ 16 → f.lsb < 2 ^ 16 → f.obj ∉ [0x7002, 0x7003, 0x30018, 0x9002] →
        t.core.rd f k = s.core.rd f k) ∧
      t.core.rd DRC_STATE.TRAINED = 1 ∧ t.core.rd DRC_STATE.FAST_TRAIN = b2n fast ∧
      t.core.rd DRC_STATE.RATE = min r.rate.toNat (s.core.rd DRC_CONFIG.RATE_MAX) ∧
      t.core.rd DRC_STATE.HOST_MIB = (mib - 512) % 2 ^ 16 ∧ t.core.rd BAR0.ID_HOST_MIB = mib - 512 ∧
      t.core.rd DRC_STATE.INIT_BLOCKS = 0 ∧ t.core.drc.wq = [[], [], [], []] ∧ t.core.rst.dramTrained = true ∧
      t.core.hbr = (if fast then s.core.hbr else
        { s.core.hbr with cal := { s.core.hbr.cal with due := orBit s.core.hbr.cal.due grpDram } }) ∧
      (∀ n : Fin 4, t.core.rd DRC_LANE.EYE_MIN_RD n = (narrowest (windows (trainLane r n).rd)).1 ∧
        t.core.rd DRC_LANE.EYE_MIN_WR n = (narrowest (windows (trainLane r n).wr)).1 ∧ t.core.rd DRC_LANE.FAILED_LANES n = 0)) ∧
  (∀ (s : State) (r : TrainResult), s.core.held domMEM = false → s.core.rd DRC_STATE.TRAINED = 0 →
    s.core.drc.trainFailed = false → s.core.cfgBad r = true →
    Runs (.dramTrainingDone r) s { parts := [.events, .drc] } (fun t =>
      t.drc = { s.core.drc with trainFailed := true } ∧
      t.events = s.core.events ++ [⟨evDrcTrainFail, 0, none, [1#8, 0#8], s.core.ticks⟩])) ∧
  (∀ (s : State) (r : TrainResult),
    let sig := s.core.drcSignature r
    let bad (n : Nat) := s.core.failedLanes (trainLane r n) (s.core.storedTraining n sig && (trainLane r n).verified)
    s.core.held domMEM = false → s.core.rd DRC_STATE.TRAINED = 0 → s.core.drc.trainFailed = false →
    s.core.cfgBad r = false → (∃ n : Fin 4, bad n ≠ []) →
    Runs (.dramTrainingDone r) s
      { keys := (List.range 4).flatMap (fun n => Obj.DRC_LANE.fields.map (fun f => f.key n)), parts := [.events, .hbr, .drc] }
      (fun t => (∀ n : Fin 4, t.rd DRC_LANE.FAILED_LANES n = ((bad n).map (2 ^ ·)).sum) ∧
        t.drc = { s.core.drc with trainFailed := true } ∧
        t.events = s.core.events ++ ((List.range 4).filter (fun n => bad n != [])).map (fun n =>
          ⟨evDrcTrainFail, n, none, [2#8, BitVec.ofNat 8 ((bad n).headD 0)], s.core.ticks⟩))) ∧
  (∀ s : State,
    let blocks := (s.core.rd DRC_STATE.HOST_MIB + 512) * 16
    s.core.held domMEM = false → s.core.rd DRC_STATE.TRAINED = 1 → s.core.rd DRC_STATE.INIT_DONE = 0 →
    s.core.rd DRC_STATE.PHASE ≠ drcTest → s.core.drc.recoverLeft = none → s.core.hbr.cal.run = none →
    Runs .drcInitDone s
      { keys := [DRC_STATE.INIT_DONE.key 0, DRC_STATE.INIT_BLOCKS.key 0, DRC_STATE.PHASE.key 0], parts := [.events] }
      (fun t => t.rd DRC_STATE.INIT_DONE = 1 ∧ t.rd DRC_STATE.INIT_BLOCKS = blocks % 2 ^ 32 ∧
        t.rd DRC_STATE.PHASE = drcService ∧
        t.events = s.core.events ++ [⟨evDrcInitDone, 0, none, leBytes 4 blocks, s.core.ticks⟩])) ∧
  (∀ (s : State) (sub : Fin 4) (bank : Fin 64) (hits : Bool),
    let n := Kv.get 0 s.core.drc.postponed (bankKey sub bank)
    s.core.held domMEM = false →
    Runs (.refresh sub bank hits) s { parts := [.drc] } (fun t =>
      Kv.get 0 t.drc.postponed (bankKey sub bank) = (if hits = true ∧ n < 2 then n + 1 else 0) ∧
      t.drc.neighbours = (if hits = true ∧ n < 2 then s.core.drc.neighbours else
        s.core.drc.neighbours.filter (fun q => !(q.1 == sub.val && q.2.1 == bank.val))))) ∧
  (∀ (s : State) (rank : Fin 2) (raised : Bool), s.core.held domMEM = false →
    Runs (.mr4Poll rank raised) s { parts := [.drc] } (fun t =>
      t.drc = { s.core.drc with
        doubled := s.core.drc.doubled.filter (fun r => r != rank.val) ++ (if raised then [rank.val] else []) })) ∧
  (∀ (s : State) (sub : Fin 4) (fields : Fin 64) (row : BitVec 18) (m : Nat),
    let p := dramPlace s.core.drc.x4 s.core.drc.dual (rowAddress s.core.drc.x4 s.core.drc.dual sub fields row.toNat)
    let id := p.bankIx * 2 ^ 32 + p.row
    let prob := (Config.lfsrDraw s.core.fresh).toNat % 2 ^ s.core.rd DRC_CONFIG.PNR_LOG2 = 0
    let hit := s.core.rd DRC_CONFIG.ACT_TH ≤ m + 1
    s.core.held domMEM = false → s.core.drc.raaimt = 0 → s.core.rd DRC_STATE.PHASE ≠ drcService →
    s.core.drc.counters.getD sub [] = [(id, m)] →
    Runs (.rowActThreshold sub fields row) s
      { keys := [DRC_STAT.RH_PROB.key sub, DRC_STAT.RH_COUNT.key sub], parts := [.drc, .fresh] }
      (fun t => t.fresh = s.core.fresh + 1 ∧ (prob → Counts s.core t DRC_STAT.RH_PROB sub) ∧
        (¬ prob → t.rd DRC_STAT.RH_PROB sub = s.core.rd DRC_STAT.RH_PROB sub) ∧
        (hit → Counts s.core t DRC_STAT.RH_COUNT sub) ∧
        (¬ hit → t.rd DRC_STAT.RH_COUNT sub = s.core.rd DRC_STAT.RH_COUNT sub) ∧
        t.drc.neighbours = s.core.drc.neighbours ++ (if prob then [(sub.val, p.bankIx, p.row)] else []) ++
          (if hit then [(sub.val, p.bankIx, p.row)] else []) ∧
        t.drc.counters.getD sub [] = [(id, if hit then 0 else m + 1)] ∧
        Kv.get 0 t.drc.raa (bankKey sub p.bankIx) = Kv.get 0 s.core.drc.raa (bankKey sub p.bankIx) + 1)) ∧
  (∀ (s : State) (k : Fin 2),
    let a := s.core.drc.scrubAt
    s.core.held domMEM = false → s.core.rd DRC_STATE.TRAINED = 1 → a + 64 < s.core.dramBytes →
    Runs (.patrolScrub ⟨k.val, by omega⟩) s { keys := [DRC_STAT.CE.key (subchannel a)], parts := [.drc] } (fun t =>
      t.drc = { s.core.drc with scrubAt := a + 64 } ∧
      (k.val = 1 → Counts s.core t DRC_STAT.CE (subchannel a)) ∧
      (k.val = 0 → t.rd DRC_STAT.CE (subchannel a) = s.core.rd DRC_STAT.CE (subchannel a)))) ∧
  (∀ s : State,
    let a := s.core.drc.scrubAt
    s.core.held domMEM = false → s.core.rd DRC_STATE.TRAINED = 1 → a + 64 < s.core.dramBytes →
    s.core.rd DRC_STATE.PHASE = drcService →
    Runs (.patrolScrub 2) s
      { keys := [DRC_STAT.UE.key (subchannel a), DRC_UE_LOG.UE_ADDR.key 0, DRC_UE_LOG.UE_CLASS.key 0,
          DRC_UE_LOG.UE_SEC.key 0, DRC_UE_LOG.UE_NS.key 0, DRC_STATE.PHASE.key 0],
        parts := [.drc, .events] }
      (fun t => Counts s.core t DRC_STAT.UE (subchannel a) ∧ t.rd DRC_UE_LOG.UE_ADDR = a / 64 * 64 % 2 ^ 64 ∧
        t.rd DRC_UE_LOG.UE_CLASS = 3 ∧ t.rd DRC_STATE.PHASE = drcRecovery ∧ t.drc.scrubAt = a + 64 ∧
        t.events = s.core.events ++ [⟨evDrcUncorr, subchannel a, none, leBytes 8 (a / 64 * 64) ++ leBytes 1 3,
          s.core.ticks⟩])) ∧
  (∀ s : State, s.core.held domMEM = false → s.core.rd DRC_STATE.TRAINED = 1 →
    s.core.dramBytes ≤ s.core.drc.scrubAt + 64 → s.core.drc.recoverLeft = none →
    Runs (.patrolScrub 0) s { keys := [DRC_STATE.SCRUB_PASS.key 0], parts := [.drc] } (fun t =>
      Counts s.core t DRC_STATE.SCRUB_PASS ∧ t.drc = { s.core.drc with scrubAt := 0 })) ∧
  (∀ (s : State) (sub : Fin 4) (last passed : Bool) (run : CalRun), s.core.held domMEM = false →
    s.core.hbr.cal.run = some run → run.group = grpDram →
    s.core.drc.sliceAt.all (fun u => decide (u + 160 ≤ s.core.ticks)) = true →
    Runs (.dramCalSlice sub true last passed) s { parts := [.drc] } (fun t =>
      t.drc = { s.core.drc with
        sliceAt := some s.core.ticks,
        slicePass := if last = true ∧ passed = true ∧ sub.val ∉ s.core.drc.slicePass then
          s.core.drc.slicePass ++ [sub.val] else s.core.drc.slicePass })) ∧
  (∀ (s : State) (r : TrainResult), s.core.held domMEM = false → s.core.rd DRC_STATE.TRAINED = 0 →
    s.core.drc.trainFailed = false → s.core.cfgBad r = false →
    (∀ n : Fin 4, s.core.failedLanes (trainLane r n) (s.core.storedTraining n (s.core.drcSignature r) &&
      (trainLane r n).verified) = []) →
    Acts (.dramTrainingDone r) s (fun t => t.rd DRC_STATE.TRAINED = 1 ∧
      t.rd DRC_STATE.HOST_MIB = (installedMib (s.core.geometry r) - 512) % 2 ^ 16 ∧
      t.drc.x4 = (s.core.geometry r).1 ∧ t.drc.dual = (s.core.geometry r).2.1 ∧
      (∀ n : Fin 4, t.rd DRC_LANE.FAILED_LANES n = 0))) ∧
  (∀ s : State, s.core.held domMEM = false → s.core.rd DRC_STATE.TRAINED = 1 → s.core.rd DRC_STATE.INIT_DONE = 0 →
    Acts .drcInitDone s (fun t => t.rd DRC_STATE.INIT_DONE = 1 ∧
      t.rd DRC_STATE.INIT_BLOCKS = (s.core.rd DRC_STATE.HOST_MIB + 512) * 16 % 2 ^ 32)) ∧
  (∀ (x4 two : Bool) (sub : Fin 4) (fields : Fin 64) (row : BitVec 18),
    let p := dramPlace x4 two (rowAddress x4 two sub fields row.toNat)
    p.sub = sub ∧ p.row = row.toNat ∧ p.bank = fields / 8 % 4 ∧ p.bankGroup = fields % 8 ^^^ row.toNat % 8 ∧
    p.rank = if two then fields / 32 else 0) ∧
  (∀ (s : State) (sub : Fin 4) (fields : Fin 64) (row : BitVec 18),
    let p := dramPlace s.core.drc.x4 s.core.drc.dual (rowAddress s.core.drc.x4 s.core.drc.dual sub fields row.toNat)
    let prob := (Config.lfsrDraw s.core.fresh).toNat % 2 ^ s.core.rd DRC_CONFIG.PNR_LOG2 = 0
    let tab := countActivate (s.core.drc.counters.getD p.sub []) (p.bankIx * 2 ^ 32 + p.row)
    let hit := s.core.rd DRC_STATE.PHASE ≠ drcService ∧ s.core.rd DRC_CONFIG.ACT_TH ≤ tab.2
    s.core.held domMEM = false →
    Acts (.rowActThreshold sub fields row) s (fun t => (prob → Counts s.core t DRC_STAT.RH_PROB p.sub) ∧
      (hit → Counts s.core t DRC_STAT.RH_COUNT p.sub) ∧
      (prob ∨ hit → (p.sub, p.bankIx, p.row) ∈ t.drc.neighbours))) ∧
  (∀ (s : State) (k : Fin 3),
    let a := s.core.drc.scrubAt
    s.core.held domMEM = false → s.core.rd DRC_STATE.TRAINED = 1 →
    Acts (.patrolScrub k) s (fun t => t.drc.scrubAt = (if a + 64 < s.core.dramBytes then a + 64 else 0) ∧
      (k.val = 1 → Counts s.core t DRC_STAT.CE (subchannel a)) ∧
      (k.val = 2 → Counts s.core t DRC_STAT.UE (subchannel a))))

/-- R411, R413, R415: the logbook. A seal writes the whole header, then its STATE, and shows the record in SEAL_PTR; when the
records of a layer's batch are written its bank is empty. Clauses with `Acts` say that a command completes under its rule's own
conditions alone. -/
def Obligations.LogbookSealsAndClears : Prop :=
  (∀ (s : State) (r : LogRec),
    let q : LogRec := { r with repeat_ := min (r.repeat_ + r.pending) (2 ^ 32 - 1), pending := 0, sealed := true }
    s.core.log.rec_ = some r → r.sealed = false → s.core.logReady = true → r.kind ≠ 5 → s.core.log.due = [] →
    s.core.log.fifo = [] → s.core.log.clearing = false →
    Runs .recordSeal s
      { keys := [REC_STATE.SEAL_PTR.key 0, REC_STATE.WRITING.key 0, REC_STAT.RECORDS.key 0], parts := [.log, .drc],
        writes := [(r.addr, q.header 1 s.core.unitId true), (r.addr + 3, [2#8])] }
      (fun t => t.log = { s.core.log with rec_ := some q } ∧
        t.rd REC_STATE.SEAL_PTR = (r.addr - s.core.logBase + recSpan r.payload) % 2 ^ 64 ∧
        t.rd REC_STATE.WRITING = 0 ∧ Counts s.core t REC_STAT.RECORDS)) ∧
  (∀ (s : State) (bank : Fin 2), s.core.log.batchBank = some bank.val → s.core.logWriting = false → s.core.log.due = [] →
    s.core.log.fifo = [] → s.core.log.clearing = false →
    Runs .summaryBatchDone s { parts := [.log] } (fun t =>
      t.log.batchBank = none ∧
      (∀ (ch : Fin 64) (h : Fin 4), t.binsOf bank ch h = List.replicate 64 0 ∧
        t.binsOf (1 - bank.val) ch h = s.core.binsOf (1 - bank.val) ch h))) ∧
  (∀ (s : State) (r : LogRec), s.core.log.rec_ = some r → r.sealed = false → s.core.logReady = true →
    Acts .recordSeal s (fun t => Counts s.core t REC_STAT.RECORDS ∧
      t.rd REC_STATE.SEAL_PTR = (r.addr - s.core.logBase + recSpan r.payload) % 2 ^ 64)) ∧
  (∀ (s : State) (bank : Fin 2), s.core.log.batchBank = some bank.val → s.core.logWriting = false →
    s.core.log.due.any (fun d => !d.urgent) = false →
    Acts .summaryBatchDone s (fun t => t.log.batchBank = none ∧
      (∀ (ch : Fin 64) (h : Fin 4), t.binsOf bank ch h = List.replicate 64 0)))

/-- R404, R405, R407: cassettes. The answer to CHALLENGE is kept for verification; its end makes the cassette OK where the
signature verifies and AUTH_FAIL where it does not, with CON_AUTH_FAIL and, for a window, its channel declared failed; the
answer to READ_LIFE in its epoch is followed by WRITE_LIFE; and a write-back unanswered for 20 ms keeps PENDING and counts.
Clauses with `Acts` say that a command completes under its rule's own conditions alone. -/
def Obligations.CassettesAuthenticateAndKeepLife : Prop :=
  (∀ (s : State) (p : Fin 21) (h : FrameHdr) (b key : Bytes) (k : Nat) (y : Cass),
    s.core.accepts p 0x86 h b → p.val < 18 → newIn h (s.core.ctlLast p h) → s.core.harbourRuns = true →
    findIdx (fun (z : Cass) => z.step != 0 && z.reqId == h.tag.toNat) s.core.hbr.cass 0 = some (k, y) → y.step = 2 →
    fieldLE b 0 1 = 1 → fieldLE b 1 1 / 16 = 0 → fieldLE b 2 2 = 64 →
    Runs (.cassRsp p h b key) s { parts := [.ports, .hbr] } (fun t =>
      t.cass k = { s.core.cass k with step := 5, sig := slice b 4 64 })) ∧
  (∀ (s : State) (p : Fin 21) (h : FrameHdr) (b key : Bytes) (k : Nat) (y : Cass),
    let hits := fieldLE b 16 4
    let e := fieldLE b 4 4
    let pend := s.core.con k CON_WINDOW.PENDING
    let n := ((e + 1) % 2 ^ 32, fieldLE b 8 4 - pend, fieldLE b 12 4 - hits)
    let pl := s.core.cassPlace k
    s.core.accepts p 0x86 h b → p.val < 18 → newIn h (s.core.ctlLast p h) → s.core.harbourRuns = true →
    findIdx (fun (z : Cass) => z.step != 0 && z.reqId == h.tag.toNat) s.core.hbr.cass 0 = some (k, y) → y.step = 3 →
    fieldLE b 0 1 = 2 → fieldLE b 1 1 / 16 = 0 → fieldLE b 2 2 = 16 → (s.core.cass k).hasLife = true →
    e = s.core.con k CON_WINDOW.LIFE_EPOCH →
    Runs (.cassRsp p h b key) s
      { parts := [.ports, .hbr],
        outs := if s.core.isUp pl.1 && !s.core.muted then
          [s.core.ctlFrame pl.1 0x06 0 pl.2.1 (Kv.get 0 (s.core.port pl.1).txCtl pl.2.1) s.core.hbr.nextReq
            (leBytes 1 3 ++ leBytes 1 pl.2.2 ++ leBytes 2 16 ++ (leBytes 4 n.1 ++ leBytes 4 n.2.1 ++ leBytes 4 n.2.2 ++
              leBytes 4 hits))] else [] }
      (fun t => (t.cass k).step = 4 ∧ (t.cass k).writing = n)) ∧
  (∀ (s : State) (k : Fin 68),
    let y := s.core.cass k
    let serial := fieldLE y.idBlock 4 8
    let msg := (leBytes 32 y.nonce).reverse ++ y.idBlock.take 88
    s.core.harbourRuns = true → y.step = 5 → y.forLife = false → y.authDue = false → k.val ∉ s.core.hbr.lifeDue →
    s.core.cassQuiet k → s.core.anyLong (fun l => l == .reauth k) = false →
    s.core.con k CON_WINDOW.SERIAL = serial → s.core.con k CON_WINDOW.PENDING = 0 →
    s.core.con k CON_WINDOW.STATE ≠ csExhausted → s.core.live k = false → s.core.failed k = false →
    Runs (.cassetteAuthDone k) s
      { keys := (conF k CON_WINDOW.STATE).key (conI k) ::
          (if k.val < 64 then (Obj.ADP_REPORT.fields ++ Obj.ADP_RESIDUE.fields ++ [ADP_STATE.STATE]).map (fun f => f.key k)
            else []),
        parts := [.hbr, .pilot, .events, .losses] }
      (fun t => (t.cass k).step = 0 ∧
        if sigOk (slice y.idBlock 24 64) y.sig msg = true then
          t.con k CON_WINDOW.STATE = csOk ∧ t.events = s.core.events
        else
          t.con k CON_WINDOW.STATE = csAuthFail ∧ (k.val < 64 → t.rd ADP_STATE.STATE k = 1 ∧ t.rd ADP_REPORT.CAUSE k = 4) ∧
            ⟨evConAuthFail, k, none, leBytes 8 serial ++ leBytes 1 4, s.core.ticks⟩ ∈ t.events)) ∧
  (∀ (s : State) (k : Fin 68),
    let y := s.core.cass k
    let left := s.core.hbr.lifeDue.filter (fun j => j != k.val)
    s.core.harbourRuns = true → (y.step = 3 ∨ y.step = 4) → y.sentAt + 20 * ticksPerMs ≤ s.core.ticks →
    y.authDue = false → (∀ j : Fin 68, j.val ≠ k → (s.core.cass j).step ≠ 0 ∨ (s.core.cass j).authDue = false) →
    s.core.mode ≠ .slack →
    Runs (.cassRspTimeout k) s
      { keys := [(conF k CON_WINDOW.WB_FAILS).key (conI k)], parts := [.hbr] ++ (if left = [] then [.pilot] else []) }
      (fun t => t.con k CON_WINDOW.WB_FAILS = min (s.core.con k CON_WINDOW.WB_FAILS + 1) 65535 ∧ (t.cass k).step = 0 ∧
        t.hbr.lifeDue = left)) ∧
  (∀ (s : State) (p : Fin 21) (h : FrameHdr) (b key : Bytes) (k : Nat) (y : Cass),
    s.core.accepts p 0x86 h b → p.val < 18 → newIn h (s.core.ctlLast p h) → s.core.harbourRuns = true →
    findIdx (fun (z : Cass) => z.step != 0 && z.reqId == h.tag.toNat) s.core.hbr.cass 0 = some (k, y) → k < 68 →
    y.step = 1 → fieldLE b 0 1 = 0 → y.authDue = false → (y.forLife = true ∨ k ∉ s.core.hbr.lifeDue) →
    Acts (.cassRsp p h b key) s (fun t =>
      (fieldLE b 1 1 / 16 = 1 → t.con k CON_WINDOW.STATE = csAbsent) ∧
      (1 < fieldLE b 1 1 / 16 → t.con k CON_WINDOW.STATE = csAuthFail))) ∧
  (∀ (s : State) (p : Fin 21) (h : FrameHdr) (b key : Bytes) (k : Nat) (y : Cass),
    s.core.accepts p 0x86 h b → p.val < 18 → newIn h (s.core.ctlLast p h) → s.core.harbourRuns = true →
    findIdx (fun (z : Cass) => z.step != 0 && z.reqId == h.tag.toNat) s.core.hbr.cass 0 = some (k, y) → k < 68 →
    y.step = 4 → fieldLE b 0 1 = 3 → fieldLE b 1 1 / 16 ∈ [0, 3] → fieldLE b 2 2 = 16 → s.core.inPair = false →
    Acts (.cassRsp p h b key) s (fun t => t.con k CON_WINDOW.LIFE_EPOCH = fieldLE b 4 4 ∧
      t.con k CON_WINDOW.LEFT_MAIN = fieldLE b 8 4 ∧ t.con k CON_WINDOW.LEFT_HITS = fieldLE b 12 4 ∧
      t.con k CON_WINDOW.PENDING = 0)) ∧
  (∀ (s : State) (k : Fin 68),
    let y := s.core.cass k
    let serial := fieldLE y.idBlock 4 8
    let good := sigOk (slice y.idBlock 24 64) y.sig ((leBytes 32 y.nonce).reverse ++ y.idBlock.take 88)
    s.core.harbourRuns = true → y.step = 5 → y.authDue = false → (y.forLife = true ∨ k.val ∉ s.core.hbr.lifeDue) →
    Acts (.cassetteAuthDone k) s (fun t => (t.cass k).step ≠ 5 ∧
      (good = true → t.con k CON_WINDOW.SERIAL = serial ∧ t.con k CON_WINDOW.STATE =
        (if s.core.con k CON_WINDOW.SERIAL = serial ∧ s.core.con k CON_WINDOW.STATE = csExhausted then csExhausted
          else csOk)) ∧
      (good = false → t.con k CON_WINDOW.STATE = csAuthFail))) ∧
  (∀ (s : State) (k : Fin 68),
    let y := s.core.cass k
    s.core.harbourRuns = true → y.step ∈ [1, 2, 3, 4] → y.sentAt + 20 * ticksPerMs ≤ s.core.ticks → y.authDue = false →
    (y.forLife = true ∨ k.val ∉ s.core.hbr.lifeDue) →
    Acts (.cassRspTimeout k) s (fun t =>
      (y.step < 3 → t.con k CON_WINDOW.STATE = csAuthFail) ∧
      (3 ≤ y.step → s.core.actsActive = true →
        t.con k CON_WINDOW.WB_FAILS = min (s.core.con k CON_WINDOW.WB_FAILS + 1) 65535)))

/-- R374, R380, R383, R387: calibration. A run of TEMP or SENSE ends counted and dated where it passes and as a failure where
it fails, with CAL_DONE; a GATE run of one channel schedules its result for the channel's next vector start; a deferred request
whose deadline has passed ends with CAL_EXPIRED; and a marked part is written, its failure counted and posted. Clauses with
`Acts` say that a command completes under its rule's own conditions alone. -/
def Obligations.CalibrationRunsEndAndAreKept : Prop :=
  (∀ (s : State) (values : Bytes) (r : CalRun) (passed : Bool),
    let g := r.group
    s.core.held domHBR = false → s.core.hbr.cal.run = some r → (g = 1 ∨ g = 2) → r.slack = false → r.serves = [] →
    s.core.hbr.cal.reqs = [] → s.core.mode = .expose →
    Runs (.calGroupDone none passed values) s
      { keys := calKeys ++ (if passed then [CAL_STATE.CAL_COUNT.key g, CAL_STATE.LAST_SEC.key g, CAL_STATE.LAST_NS.key g,
          CAL_STATE.T_LAST.key g, CAL_STATE.LAST_RESULT.key g] else [CAL_STATE.FAILS.key g, CAL_STATE.LAST_RESULT.key g]),
        parts := [.hbr, .events] }
      (fun t => t.hbr.cal.run = none ∧ t.rd CAL_STATE.LAST_RESULT g = (if passed then 1 else 2) ∧
        Counts s.core t (if passed then CAL_STATE.CAL_COUNT else CAL_STATE.FAILS) g ∧
        (passed = true → t.rd CAL_STATE.LAST_SEC g = timeSec r.at_ % 2 ^ 32 ∧
          t.hbr.cal.marked.contains (g + 1) = true) ∧
        t.events = s.core.events ++
          [⟨evCalDone, g, none, leBytes 1 (if passed then 1 else 2) ++ [0#8] ++ leBytes 2 0, s.core.ticks⟩])) ∧
  (∀ (s : State) (ch : Fin 64) (values : Bytes) (r : GateRun),
    s.core.held domHBR = false → s.core.hbr.cal.gateRuns.find? (fun r => r.chan == ch.val) = some r →
    Runs (.calGroupDone (some ch) true values) s
      { keys := calKeys ++ [CAL_STATE.CAL_COUNT, CAL_STATE.LAST_SEC, CAL_STATE.LAST_NS, CAL_STATE.T_LAST,
          CAL_STATE.LAST_RESULT, CAL_GATE.DUE, CAL_GATE.RUNS_EXPOSE].map (fun f => f.key 0),
        parts := [.hbr] }
      (fun t => t.hbr.cal.gateRuns = s.core.hbr.cal.gateRuns.filter (fun x => x.chan != ch.val) ∧
        Kv.find t.hbr.cal.gateNext ch = some (fieldLE values 0 4 % 2 ^ 20) ∧
        Counts s.core t CAL_GATE.RUNS_EXPOSE ∧ Counts s.core t CAL_STATE.CAL_COUNT ∧
        t.rd CAL_STATE.LAST_RESULT = 1 ∧ bitOf (t.rd CAL_GATE.DUE) ch = false)) ∧
  (∀ s : State,
    let late (r : CalReq) : Bool := r.deferred && !r.admitted && decide (r.deadline < s.core.ticks)
    let gone := s.core.hbr.cal.reqs.filter late
    s.core.held domHBR = false →
    Runs .calExpired s { keys := calKeys, parts := [.hbr, .events] } (fun t =>
      t.hbr = { s.core.hbr with cal := { s.core.hbr.cal with reqs := s.core.hbr.cal.reqs.filter (fun r => !late r) } } ∧
      t.events = s.core.events ++ gone.map (fun r =>
        ⟨evCalExpired, 0, none, leBytes 1 r.groups ++ [0#8] ++ leBytes 2 r.id, s.core.ticks⟩))) ∧
  (∀ (s : State) (part : Fin 9) (failed : Fin 2),
    let g := groupOfPart part
    let cal := s.core.hbr.cal
    s.core.harbourRuns = true → cal.marked.contains part.val = true → Kv.find cal.written part = none →
    cal.phyDue = none →
    Runs (.calRecordWrite part failed.castSucc) s { parts := [.hbr] } (fun t =>
      t.hbr.cal = { cal with
        marked := cal.marked.filter (fun x => x != part.val), written := Kv.insert part.val s.core.ticks cal.written } ∧
      t.hbr.flash = (s.core.writePart part (s.core.rd CAL_STATE.LAST_SEC g) (s.core.rd CAL_STATE.LAST_NS g)
        (s.core.rd CAL_STATE.CAL_COUNT g) (if g = grpGate then 0 else s.core.rdI CAL_STATE.T_LAST g)
        (cal.parts.getD part []) true).hbr.flash)) ∧
  (∀ (s : State) (part : Fin 9),
    let g := groupOfPart part
    let cal := s.core.hbr.cal
    s.core.harbourRuns = true → cal.marked.contains part.val = true → Kv.find cal.written part = none →
    cal.phyDue = none →
    Runs (.calRecordWrite part 2) s
      { keys := [CAL_STATE.WRITE_FAILS.key g], parts := [.hbr, .events, .fresh] }
      (fun t => Counts s.core t CAL_STATE.WRITE_FAILS g ∧ t.events = s.core.events ++
        [⟨evCalRecordFail, 0, none, leBytes 1 part, s.core.ticks⟩])) ∧
  (∀ (s : State) (values : Bytes) (r : CalRun) (passed : Bool),
    let g := r.group
    s.core.held domHBR = false → s.core.hbr.cal.run = some r → g < 3 →
    Acts (.calGroupDone none passed values) s (fun t => t.rd CAL_STATE.LAST_RESULT g = (if passed then 1 else 2) ∧
      Counts s.core t (if passed then CAL_STATE.CAL_COUNT else CAL_STATE.FAILS) g)) ∧
  (∀ (s : State) (ch : Fin 64) (passed : Bool) (values : Bytes) (r : GateRun),
    s.core.held domHBR = false → s.core.hbr.cal.gateRuns.find? (fun r => r.chan == ch.val) = some r →
    Acts (.calGroupDone (some ch) passed values) s (fun t => t.rd CAL_STATE.LAST_RESULT = (if passed then 1 else 2) ∧
      Counts s.core t (if passed then CAL_STATE.CAL_COUNT else CAL_STATE.FAILS))) ∧
  (∀ (s : State) (part : Fin 9) (failed : Fin 3), s.core.harbourRuns = true →
    s.core.hbr.cal.marked.contains part.val = true →
    (Kv.find s.core.hbr.cal.written part).all (fun t => decide (t + 10000 * ticksPerMs ≤ s.core.ticks)) = true →
    Acts (.calRecordWrite part failed) s (fun t => t.hbr.cal.marked.contains part.val = false ∧
      (failed = 2 → Counts s.core t CAL_STATE.WRITE_FAILS (groupOfPart part))))

/-- R392 to R396, R401: housekeeping and the harbour's own care. A conversion moves on to the next slot; a good reading within
its limits leaves the slot OK, one above HI_FAULT puts it in fault with THM_FAULT and, in a layer, a hold, and a slot not
enabled shows OK; a lockstep mismatch closes master 2's session and restarts the processors, whose return is counted and
posted; and UPD_STAGE completes with the slot programmed or with INTERNAL. Clauses with `Acts` say that a command completes
under its rule's own conditions alone. -/
def Obligations.HarbourWatchesAndRestarts : Prop :=
  (∀ (s : State) (r : Option (BitVec 16)), s.core.held domHBR = false → 48 ≤ s.core.hbr.slot →
    Runs (.hkSlotConversion r) s { parts := [.hbr] } (fun t =>
      t.hbr = { s.core.hbr with slot := (s.core.hbr.slot + 1) % 64 })) ∧
  (∀ (s : State) (r : BitVec 16),
    let n := s.core.hbr.slot
    let v := r.toInt
    s.core.held domHBR = false → n < 48 → s.core.rd THM_SLOT.ENABLE n ≠ 0 → s.core.rd THM_READ.STATE n = thOk →
    (∀ g : Fin 5, s.core.rd CAL_CONFIG.AUTO g = 0) → s.core.rdI THM_SLOT.LO_FAULT n ≤ v →
    s.core.rdI THM_SLOT.LO_WARN n ≤ v → v ≤ s.core.rdI THM_SLOT.HI_FAULT n → v ≤ s.core.rdI THM_SLOT.HI_WARN n →
    Runs (.hkSlotConversion (some r)) s
      { keys := [THM_READ.VALUE.key n, THM_READ.MIN.key n, THM_READ.MAX.key n, THM_READ.STATE.key n], parts := [.hbr] }
      (fun t => t.rd THM_READ.VALUE n = r.toNat ∧ t.rd THM_READ.STATE n = thOk ∧
        t.hbr = { s.core.hbr with slot := (n + 1) % 64 })) ∧
  (∀ (s : State) (r : BitVec 16),
    let n := s.core.hbr.slot
    let v := r.toInt
    s.core.held domHBR = false → n < 48 → s.core.rd THM_SLOT.ENABLE n ≠ 0 → s.core.rd THM_READ.STATE n = thOk →
    (∀ g : Fin 5, s.core.rd CAL_CONFIG.AUTO g = 0) → s.core.rdI THM_SLOT.LO_FAULT n ≤ v →
    s.core.rdI THM_SLOT.HI_FAULT n < v →
    Runs (.hkSlotConversion (some r)) s
      { keys := [THM_READ.VALUE.key n, THM_READ.MIN.key n, THM_READ.MAX.key n, THM_READ.STATE.key n],
        parts := [.hbr, .events, .escHold] }
      (fun t => t.rd THM_READ.VALUE n = r.toNat ∧ t.rd THM_READ.STATE n = 4 ∧
        t.events = s.core.events ++ [⟨evThmFault, n, none, leBytes 2 r.toNat ++ leBytes 1 4, s.core.ticks⟩] ∧
        t.escHold = s.core.escHold ++
          (if s.core.mode = .expose ∨ s.core.mode = .slack then [evThmFault] else []))) ∧
  (∀ s : State,
    let n := s.core.hbr.slot
    s.core.held domHBR = false → n < 48 → s.core.rd THM_SLOT.ENABLE n = 0 →
    Runs (.hkSlotConversion none) s { keys := [THM_READ.STATE.key n], parts := [.hbr] } (fun t =>
      t.rd THM_READ.STATE n = thOk ∧ t.hbr.slot = (n + 1) % 64)) ∧
  (∀ s : State, s.core.harbourRuns = true → s.core.holder ≠ 2 → s.core.pilot.long = [] →
    Runs .lockstepMismatch s { keys := [PLT_TOKEN.EPOCH2.key 0], parts := [.pilot, .hbr] } (fun t =>
      t.epoch 2 = 0 ∧ t.pilot = { s.core.pilot with ethPeer := none } ∧ t.hbr.restarting = some s.core.ticks ∧
      t.hbr.staging = none ∧ t.harbourRuns = false)) ∧
  (∀ (s : State) (at_ : Nat), s.core.hbr.restarting = some at_ → s.core.cassQuiet 68 →
    Runs .hbrRestart s { keys := [HBR_STATE.RESTARTS.key 0], parts := [.hbr, .events] } (fun t =>
      t.hbr = { s.core.hbr with restarting := none } ∧ Counts s.core t HBR_STATE.RESTARTS ∧
      t.events = s.core.events ++
        [⟨evHbrRestart, 0, none, leBytes 2 (t.rd HBR_STATE.RESTARTS), s.core.ticks⟩])) ∧
  (∀ (s : State) (l : LongCmd) (slot a : Nat) (good : Bool),
    let x := l.cmd
    let head := readBytesUnder s.dram [] a 4096
    let image := readBytesUnder s.dram [] a (4096 + fieldLE head 12 4)
    s.core.hbr.staging = some (slot, a) → s.core.pilot.long = [l] → l.kind = .updStage → x.mailbox < 8 →
    (s.core.mbox x.master x.mailbox).posted = false → s.core.updState.trial ≠ slot →
    Responds (.updStageDone good) s x
      (s.core.slotOf x (if good then okReply (leBytes 1 slot ++ zeros 3 ++ leBytes 4 (fieldLE head 8 4))
        else errReply stInternal))
      { keys := if good then [UPD_STATE.STAGED_OK.key 0, UPD_STATE.SVN_COUNTER.key 0] else [], parts := [.hbr] }
      { s.core.pilot with long := [] }
      (fun t => t.hbr.staging = none ∧
        t.hbr.flash = (if good then flashPut s.core.hbr.flash (slotAddr slot) image else s.core.hbr.flash))) ∧
  (∀ (s : State) (r : Option (BitVec 16)), s.core.held domHBR = false →
    Acts (.hkSlotConversion r) s (fun t => t.hbr.slot = (s.core.hbr.slot + 1) % 64 ∧
      (s.core.hbr.slot < 48 → r.all (fun v => decide (t.rd THM_READ.VALUE s.core.hbr.slot = v.toNat)) = true))) ∧
  (∀ s : State, s.core.harbourRuns = true →
    Acts .lockstepMismatch s (fun t => t.epoch 2 = 0 ∧ t.hbr.restarting = some s.core.ticks)) ∧
  (∀ (s : State) (at_ : Nat), s.core.hbr.restarting = some at_ →
    Acts .hbrRestart s (fun t => t.hbr.restarting = none ∧ Counts s.core t HBR_STATE.RESTARTS)) ∧
  (∀ (s : State) (good : Bool) (slot a : Nat), s.core.hbr.staging = some (slot, a) → s.core.updState.trial ≠ slot →
    Acts (.updStageDone good) s (fun t => t.hbr.staging = none ∧
      (good = false → t.hbr.flash = s.core.hbr.flash)))
end

