-- ==== Sys2Proof/Laws/Kv.lean ====
section
/-!
SUPPORT. Laws/Kv.lean: reading after writing in sparse stores, byte memories and padded lists, and the canonical form
that every memory operation keeps.
-/
namespace Sys2Proof.Machine

/-! ### Sparse stores -/

theorem Kv.find_insert_same {α : Type} (l : Kv α) (k : Nat) (v : α) : Kv.find (Kv.insert k v l) k = some v := by
  induction l with
  | nil => simp [Kv.insert, Kv.find]
  | cons e l ih =>
    obtain ⟨a, b⟩ := e
    unfold Kv.insert
    split
    · simp [Kv.find]
    · split
      · simp [Kv.find]
      · rename_i h1 h2
        simp [Kv.find, ih, Ne.symm h2]

theorem Kv.find_insert_ne {α : Type} (l : Kv α) (k j : Nat) (v : α) (h : j ≠ k) :
    Kv.find (Kv.insert k v l) j = Kv.find l j := by
  induction l with
  | nil => simp [Kv.insert, Kv.find, Ne.symm h]
  | cons e l ih =>
    obtain ⟨a, b⟩ := e
    unfold Kv.insert
    split
    · simp [Kv.find, Ne.symm h]
    · split
      · rename_i h1 h2
        subst h2
        simp [Kv.find, Ne.symm h]
      · simp [Kv.find, ih]

theorem Kv.find_erase_same {α : Type} (l : Kv α) (k : Nat) : Kv.find (Kv.erase k l) k = none := by
  induction l with
  | nil => simp [Kv.erase, Kv.find]
  | cons e l ih =>
    obtain ⟨a, b⟩ := e
    unfold Kv.erase
    split
    · exact ih
    · rename_i h
      simp [Kv.find, h, ih]

theorem Kv.find_erase_ne {α : Type} (l : Kv α) (k j : Nat) (h : j ≠ k) : Kv.find (Kv.erase k l) j = Kv.find l j := by
  induction l with
  | nil => simp [Kv.erase]
  | cons e l ih =>
    obtain ⟨a, b⟩ := e
    unfold Kv.erase
    split
    · rename_i h1
      subst h1
      simp [Kv.find, ih, Ne.symm h]
    · simp [Kv.find, ih]

/-- A key reads as what was last written under it. -/
@[simp] theorem Kv.get_put_same {α : Type} [DecidableEq α] (d : α) (l : Kv α) (k : Nat) (v : α) :
    Kv.get d (Kv.put d l k v) k = v := by
  unfold Kv.get Kv.put
  split
  · rename_i h
    simp [Kv.find_erase_same, h]
  · simp [Kv.find_insert_same]

/-- Writing under a key changes no other key. -/
theorem Kv.get_put_ne {α : Type} [DecidableEq α] (d e : α) (l : Kv α) (k j : Nat) (v : α) (h : j ≠ k) :
    Kv.get e (Kv.put d l k v) j = Kv.get e l j := by
  unfold Kv.get Kv.put
  split
  · rw [Kv.find_erase_ne _ _ _ h]
  · rw [Kv.find_insert_ne _ _ _ _ h]

theorem Kv.get_put {α : Type} [DecidableEq α] (d : α) (l : Kv α) (k j : Nat) (v : α) :
    Kv.get d (Kv.put d l k v) j = if j = k then v else Kv.get d l j := by
  by_cases h : j = k
  · simp [h]
  · simp [h, Kv.get_put_ne]

theorem Kv.okFrom_mono {α : Type} [DecidableEq α] (d : α) (l : Kv α) {lo lo' : Nat} (hle : lo' ≤ lo)
    (h : Kv.okFrom d lo l = true) : Kv.okFrom d lo' l = true := by
  cases l with
  | nil => rfl
  | cons e l =>
    obtain ⟨a, b⟩ := e
    simp only [Kv.okFrom, Bool.and_eq_true, decide_eq_true_eq] at h ⊢
    exact ⟨⟨Nat.le_trans hle h.1.1, h.1.2⟩, h.2⟩

theorem Kv.okFrom_insert {α : Type} [DecidableEq α] (d : α) (k : Nat) (v : α) (hv : v ≠ d) (l : Kv α) :
    ∀ lo, lo ≤ k → Kv.okFrom d lo l = true → Kv.okFrom d lo (Kv.insert k v l) = true := by
  induction l with
  | nil => intro lo hk _; simp [Kv.insert, Kv.okFrom, hk, hv]
  | cons e l ih =>
    obtain ⟨a, b⟩ := e
    intro lo hk h
    simp only [Kv.okFrom, Bool.and_eq_true, decide_eq_true_eq] at h
    unfold Kv.insert
    split
    · rename_i h1
      simp only [Kv.okFrom, Bool.and_eq_true, decide_eq_true_eq]
      exact ⟨⟨hk, hv⟩, ⟨h1, h.1.2⟩, h.2⟩
    · split
      · rename_i h1 h2
        subst h2
        simp only [Kv.okFrom, Bool.and_eq_true, decide_eq_true_eq]
        exact ⟨⟨hk, hv⟩, h.2⟩
      · rename_i h1 h2
        simp only [Kv.okFrom, Bool.and_eq_true, decide_eq_true_eq]
        exact ⟨h.1, ih (a + 1) (by omega) h.2⟩

theorem Kv.okFrom_erase {α : Type} [DecidableEq α] (d : α) (k : Nat) (l : Kv α) :
    ∀ lo, Kv.okFrom d lo l = true → Kv.okFrom d lo (Kv.erase k l) = true := by
  induction l with
  | nil => intro lo _; rfl
  | cons e l ih =>
    obtain ⟨a, b⟩ := e
    intro lo h
    simp only [Kv.okFrom, Bool.and_eq_true, decide_eq_true_eq] at h
    unfold Kv.erase
    split
    · exact Kv.okFrom_mono d _ (by omega) (ih (a + 1) h.2)
    · simp only [Kv.okFrom, Bool.and_eq_true, decide_eq_true_eq]
      exact ⟨h.1, ih (a + 1) h.2⟩

/-- A write keeps the canonical form. -/
theorem Kv.ok_put {α : Type} [DecidableEq α] (d : α) (l : Kv α) (k : Nat) (v : α) (h : Kv.ok d l = true) :
    Kv.ok d (Kv.put d l k v) = true := by
  unfold Kv.ok Kv.put at *
  split
  · exact Kv.okFrom_erase d k l 0 h
  · rename_i hv
    exact Kv.okFrom_insert d k v hv l 0 (Nat.zero_le _) h

/-! ### Byte memories -/

@[simp] theorem Mem.read_write_same (m : Mem) (a : Nat) (b : Byte) : (Mem.write m a b).read a = b := by
  simp [Mem.read, Mem.write]

theorem Mem.read_write_ne (m : Mem) (a x : Nat) (b : Byte) (h : x ≠ a) : (Mem.write m a b).read x = m.read x := by
  simp [Mem.read, Mem.write, Kv.get_put_ne, h]

theorem Memory.wf_write (m : Mem) (a : Nat) (b : Byte) (h : Memory.wf m = true) : Memory.wf (Mem.write m a b) = true :=
  Kv.ok_put _ _ _ _ h

theorem Memory.wf_writeBytes (bs : Bytes) : ∀ (m : Mem) (a : Nat), Memory.wf m = true →
    Memory.wf (Mem.writeBytes m a bs) = true := by
  induction bs with
  | nil => intro m a h; exact h
  | cons b bs ih => intro m a h; exact ih _ _ (Memory.wf_write m a b h)

/-- Every list of writes keeps the canonical form of memory. -/
theorem Memory.wf_applyAll (ws : List (Nat × Bytes)) : ∀ m : Mem, Memory.wf m = true →
    Memory.wf (Mem.applyAll m ws) = true := by
  induction ws with
  | nil => intro m h; exact h
  | cons w ws ih => intro m h; exact ih _ (Memory.wf_writeBytes w.2 m w.1 h)

/-- A string written reads back at its addresses, and every other address reads as before. -/
theorem Mem.read_writeBytes (bs : Bytes) : ∀ (m : Mem) (a x : Nat), (Mem.writeBytes m a bs).read x =
    if a ≤ x ∧ x < a + bs.length then bs.getD (x - a) 0#8 else m.read x := by
  induction bs with
  | nil => intro m a x; rw [if_neg (by rw [List.length_nil]; omega)]; rfl
  | cons b bs ih =>
    intro m a x
    rw [Mem.writeBytes, ih]
    by_cases hx : x = a
    · subst hx
      rw [if_neg (by omega), if_pos (by simp)]
      simp
    · by_cases h1 : a + 1 ≤ x ∧ x < a + 1 + bs.length
      · have h2 : a ≤ x ∧ x < a + (b :: bs).length := by simp only [List.length_cons]; omega
        rw [if_pos h1, if_pos h2]
        have h3 : x - a = (x - (a + 1)) + 1 := by omega
        rw [h3, List.getD_cons_succ]
      · have h2 : ¬(a ≤ x ∧ x < a + (b :: bs).length) := by simp only [List.length_cons]; omega
        rw [if_neg h1, if_neg h2, Mem.read_write_ne _ _ _ _ hx]

/-! ### Padded lists -/

theorem getD_setAt {α : Type} (d x : α) (j : Nat) : ∀ (l : List α) (i : Nat),
    (setAt d l i x).getD j d = if j = i then x else l.getD j d := by
  induction j with
  | zero => intro l i; cases l <;> cases i <;> simp [setAt]
  | succ j ih =>
    intro l i
    cases l with
    | nil =>
      cases i with
      | zero => simp [setAt]
      | succ i => simpa [setAt] using ih [] i
    | cons a l =>
      cases i with
      | zero => simp [setAt]
      | succ i => simpa [setAt] using ih l i

/-- The same, in the form `simp` brings `getD` to. -/
theorem getElem_setAt {α : Type} (d x : α) (l : List α) (i j : Nat) :
    (setAt d l i x)[j]?.getD d = if j = i then x else l[j]?.getD d := by
  simpa only [List.getD_eq_getElem?_getD] using getD_setAt d x j l i

@[simp] theorem getElem_setAt_same {α : Type} (d x : α) (l : List α) (i : Nat) : (setAt d l i x)[i]?.getD d = x := by
  rw [getElem_setAt, if_pos rfl]

theorem getElem_setAt_ne {α : Type} (d x : α) (l : List α) (i j : Nat) (h : j ≠ i) :
    (setAt d l i x)[j]?.getD d = l[j]?.getD d := by
  rw [getElem_setAt, if_neg h]

end Sys2Proof.Machine
end

