-- ==== Sys2Proof/Laws/State.lean ====
section
/-!
SUPPORT. Laws/State.lean: what each update of the core leaves in each of its fields, and reading a register after a write.
-/
namespace Sys2Proof.Machine

/-! ### The register file -/

/-- A field reads as what was written, cut to its width. -/
@[simp] theorem Core.rd_wr_same (c : Core) (f : Field) (v i : Nat) : (c.wr f v i).rd f i = v % 2 ^ f.width := by
  simp [Core.rd, Core.wr]

/-- A write to a field leaves every other field as it was. -/
theorem Core.rd_wr_ne (c : Core) (f g : Field) (v i j : Nat) (h : g.key j ≠ f.key i) : (c.wr f v i).rd g j = c.rd g j := by
  simp [Core.rd, Core.wr, Kv.get_put_ne _ _ _ _ _ _ h]

/-- Two fields of one object at different places have different keys. -/
theorem Field.key_ne_lsb {f g : Field} (i : Nat) (h : f.obj = g.obj) (l : f.lsb ≠ g.lsb) : f.key i ≠ g.key i := by
  unfold Field.key
  rw [h]
  omega

/-- Fields of different objects have different keys. -/
theorem Field.key_ne_obj {f g : Field} {i j : Nat} (hf : f.lsb < 65536) (hg : g.lsb < 65536) (h : f.obj ≠ g.obj)
    (hi : i < 65536) (hj : j < 65536) : f.key i ≠ g.key j := by
  unfold Field.key
  omega

/-- The same field of different instances has different keys, and so have two fields of one object. -/
theorem Field.key_ne_inst {f g : Field} {i j : Nat} (hf : f.lsb < 65536) (hg : g.lsb < 65536) (h : f.obj = g.obj)
    (hij : i ≠ j) : f.key i ≠ g.key j := by
  unfold Field.key
  rw [h]
  omega

/-- Instances of one field: the one written reads as written, the others as before. -/
theorem Core.rd_wr_field (c : Core) (f : Field) (v i j : Nat) :
    (c.wr f v i).rd f j = if j = i then v % 2 ^ f.width else c.rd f j := by
  by_cases h : j = i
  · subst h
    simp
  · rw [if_neg h, Core.rd_wr_ne]
    unfold Field.key
    omega

/-- The register file alone decides what a field reads as. -/
theorem Core.rd_of_regs {c d : Core} (h : d.regs = c.regs) (f : Field) (i : Nat) : d.rd f i = c.rd f i := by
  simp [Core.rd, h]

/-- The core once its accepted writes have been applied. -/
def Core.close (c : Core) : Core := { c with
  wq := [] }

/-! ### wr -/

@[simp] theorem Core.wr_bootRegs (c : Core) (f : Field) (v i : Nat) : (c.wr f v i).bootRegs = c.bootRegs := (rfl)
@[simp] theorem Core.wr_now (c : Core) (f : Field) (v i : Nat) : (c.wr f v i).now = c.now := (rfl)
@[simp] theorem Core.wr_ticks (c : Core) (f : Field) (v i : Nat) : (c.wr f v i).ticks = c.ticks := (rfl)
@[simp] theorem Core.wr_fresh (c : Core) (f : Field) (v i : Nat) : (c.wr f v i).fresh = c.fresh := (rfl)
@[simp] theorem Core.wr_events (c : Core) (f : Field) (v i : Nat) : (c.wr f v i).events = c.events := (rfl)
@[simp] theorem Core.wr_escHold (c : Core) (f : Field) (v i : Nat) : (c.wr f v i).escHold = c.escHold := (rfl)
@[simp] theorem Core.wr_escSafe (c : Core) (f : Field) (v i : Nat) : (c.wr f v i).escSafe = c.escSafe := (rfl)
@[simp] theorem Core.wr_tickW (c : Core) (f : Field) (v i : Nat) : (c.wr f v i).tickW = c.tickW := (rfl)
@[simp] theorem Core.wr_slackW (c : Core) (f : Field) (v i : Nat) : (c.wr f v i).slackW = c.slackW := (rfl)
@[simp] theorem Core.wr_psets (c : Core) (f : Field) (v i : Nat) : (c.wr f v i).psets = c.psets := (rfl)
@[simp] theorem Core.wr_charts (c : Core) (f : Field) (v i : Nat) : (c.wr f v i).charts = c.charts := (rfl)
@[simp] theorem Core.wr_pilot (c : Core) (f : Field) (v i : Nat) : (c.wr f v i).pilot = c.pilot := (rfl)
@[simp] theorem Core.wr_ports (c : Core) (f : Field) (v i : Nat) : (c.wr f v i).ports = c.ports := (rfl)
@[simp] theorem Core.wr_seq (c : Core) (f : Field) (v i : Nat) : (c.wr f v i).seq = c.seq := (rfl)
@[simp] theorem Core.wr_layer (c : Core) (f : Field) (v i : Nat) : (c.wr f v i).layer = c.layer := (rfl)
@[simp] theorem Core.wr_bwk (c : Core) (f : Field) (v i : Nat) : (c.wr f v i).bwk = c.bwk := (rfl)
@[simp] theorem Core.wr_losses (c : Core) (f : Field) (v i : Nat) : (c.wr f v i).losses = c.losses := (rfl)
@[simp] theorem Core.wr_surgeOrder (c : Core) (f : Field) (v i : Nat) : (c.wr f v i).surgeOrder = c.surgeOrder := (rfl)
@[simp] theorem Core.wr_resWrite (c : Core) (f : Field) (v i : Nat) : (c.wr f v i).resWrite = c.resWrite := (rfl)
@[simp] theorem Core.wr_log (c : Core) (f : Field) (v i : Nat) : (c.wr f v i).log = c.log := (rfl)
@[simp] theorem Core.wr_twin (c : Core) (f : Field) (v i : Nat) : (c.wr f v i).twin = c.twin := (rfl)
@[simp] theorem Core.wr_casc (c : Core) (f : Field) (v i : Nat) : (c.wr f v i).casc = c.casc := (rfl)
@[simp] theorem Core.wr_drc (c : Core) (f : Field) (v i : Nat) : (c.wr f v i).drc = c.drc := (rfl)
@[simp] theorem Core.wr_img (c : Core) (f : Field) (v i : Nat) : (c.wr f v i).img = c.img := (rfl)
@[simp] theorem Core.wr_lum (c : Core) (f : Field) (v i : Nat) : (c.wr f v i).lum = c.lum := (rfl)
@[simp] theorem Core.wr_mot (c : Core) (f : Field) (v i : Nat) : (c.wr f v i).mot = c.mot := (rfl)
@[simp] theorem Core.wr_tim (c : Core) (f : Field) (v i : Nat) : (c.wr f v i).tim = c.tim := (rfl)
@[simp] theorem Core.wr_hbr (c : Core) (f : Field) (v i : Nat) : (c.wr f v i).hbr = c.hbr := (rfl)
@[simp] theorem Core.wr_rst (c : Core) (f : Field) (v i : Nat) : (c.wr f v i).rst = c.rst := (rfl)
@[simp] theorem Core.wr_bst (c : Core) (f : Field) (v i : Nat) : (c.wr f v i).bst = c.bst := (rfl)
@[simp] theorem Core.wr_pcie (c : Core) (f : Field) (v i : Nat) : (c.wr f v i).pcie = c.pcie := (rfl)
@[simp] theorem Core.wr_planeDue (c : Core) (f : Field) (v i : Nat) : (c.wr f v i).planeDue = c.planeDue := (rfl)
@[simp] theorem Core.wr_out (c : Core) (f : Field) (v i : Nat) : (c.wr f v i).out = c.out := (rfl)
@[simp] theorem Core.wr_wq (c : Core) (f : Field) (v i : Nat) : (c.wr f v i).wq = c.wq := (rfl)

/-! ### emit -/

@[simp] theorem Core.emit_regs (c : Core) (o : Output) : (c.emit o).regs = c.regs := (rfl)
@[simp] theorem Core.emit_bootRegs (c : Core) (o : Output) : (c.emit o).bootRegs = c.bootRegs := (rfl)
@[simp] theorem Core.emit_now (c : Core) (o : Output) : (c.emit o).now = c.now := (rfl)
@[simp] theorem Core.emit_ticks (c : Core) (o : Output) : (c.emit o).ticks = c.ticks := (rfl)
@[simp] theorem Core.emit_fresh (c : Core) (o : Output) : (c.emit o).fresh = c.fresh := (rfl)
@[simp] theorem Core.emit_events (c : Core) (o : Output) : (c.emit o).events = c.events := (rfl)
@[simp] theorem Core.emit_escHold (c : Core) (o : Output) : (c.emit o).escHold = c.escHold := (rfl)
@[simp] theorem Core.emit_escSafe (c : Core) (o : Output) : (c.emit o).escSafe = c.escSafe := (rfl)
@[simp] theorem Core.emit_tickW (c : Core) (o : Output) : (c.emit o).tickW = c.tickW := (rfl)
@[simp] theorem Core.emit_slackW (c : Core) (o : Output) : (c.emit o).slackW = c.slackW := (rfl)
@[simp] theorem Core.emit_psets (c : Core) (o : Output) : (c.emit o).psets = c.psets := (rfl)
@[simp] theorem Core.emit_charts (c : Core) (o : Output) : (c.emit o).charts = c.charts := (rfl)
@[simp] theorem Core.emit_pilot (c : Core) (o : Output) : (c.emit o).pilot = c.pilot := (rfl)
@[simp] theorem Core.emit_ports (c : Core) (o : Output) : (c.emit o).ports = c.ports := (rfl)
@[simp] theorem Core.emit_seq (c : Core) (o : Output) : (c.emit o).seq = c.seq := (rfl)
@[simp] theorem Core.emit_layer (c : Core) (o : Output) : (c.emit o).layer = c.layer := (rfl)
@[simp] theorem Core.emit_bwk (c : Core) (o : Output) : (c.emit o).bwk = c.bwk := (rfl)
@[simp] theorem Core.emit_losses (c : Core) (o : Output) : (c.emit o).losses = c.losses := (rfl)
@[simp] theorem Core.emit_surgeOrder (c : Core) (o : Output) : (c.emit o).surgeOrder = c.surgeOrder := (rfl)
@[simp] theorem Core.emit_resWrite (c : Core) (o : Output) : (c.emit o).resWrite = c.resWrite := (rfl)
@[simp] theorem Core.emit_log (c : Core) (o : Output) : (c.emit o).log = c.log := (rfl)
@[simp] theorem Core.emit_twin (c : Core) (o : Output) : (c.emit o).twin = c.twin := (rfl)
@[simp] theorem Core.emit_casc (c : Core) (o : Output) : (c.emit o).casc = c.casc := (rfl)
@[simp] theorem Core.emit_drc (c : Core) (o : Output) : (c.emit o).drc = c.drc := (rfl)
@[simp] theorem Core.emit_img (c : Core) (o : Output) : (c.emit o).img = c.img := (rfl)
@[simp] theorem Core.emit_lum (c : Core) (o : Output) : (c.emit o).lum = c.lum := (rfl)
@[simp] theorem Core.emit_mot (c : Core) (o : Output) : (c.emit o).mot = c.mot := (rfl)
@[simp] theorem Core.emit_tim (c : Core) (o : Output) : (c.emit o).tim = c.tim := (rfl)
@[simp] theorem Core.emit_hbr (c : Core) (o : Output) : (c.emit o).hbr = c.hbr := (rfl)
@[simp] theorem Core.emit_rst (c : Core) (o : Output) : (c.emit o).rst = c.rst := (rfl)
@[simp] theorem Core.emit_bst (c : Core) (o : Output) : (c.emit o).bst = c.bst := (rfl)
@[simp] theorem Core.emit_pcie (c : Core) (o : Output) : (c.emit o).pcie = c.pcie := (rfl)
@[simp] theorem Core.emit_planeDue (c : Core) (o : Output) : (c.emit o).planeDue = c.planeDue := (rfl)
@[simp] theorem Core.emit_wq (c : Core) (o : Output) : (c.emit o).wq = c.wq := (rfl)
@[simp] theorem Core.rd_emit (c : Core) (o : Output) (g : Field) (j : Nat) : (c.emit o).rd g j = c.rd g j := (rfl)

/-! ### post -/

@[simp] theorem Core.post_regs (c : Core) (e n : Nat) (b : Bytes) (t : Option Time) : (c.post e n b t).regs = c.regs := (rfl)
@[simp] theorem Core.post_bootRegs (c : Core) (e n : Nat) (b : Bytes) (t : Option Time) : (c.post e n b t).bootRegs = c.bootRegs := (rfl)
@[simp] theorem Core.post_now (c : Core) (e n : Nat) (b : Bytes) (t : Option Time) : (c.post e n b t).now = c.now := (rfl)
@[simp] theorem Core.post_ticks (c : Core) (e n : Nat) (b : Bytes) (t : Option Time) : (c.post e n b t).ticks = c.ticks := (rfl)
@[simp] theorem Core.post_fresh (c : Core) (e n : Nat) (b : Bytes) (t : Option Time) : (c.post e n b t).fresh = c.fresh := (rfl)
@[simp] theorem Core.post_escHold (c : Core) (e n : Nat) (b : Bytes) (t : Option Time) : (c.post e n b t).escHold = c.escHold := (rfl)
@[simp] theorem Core.post_escSafe (c : Core) (e n : Nat) (b : Bytes) (t : Option Time) : (c.post e n b t).escSafe = c.escSafe := (rfl)
@[simp] theorem Core.post_tickW (c : Core) (e n : Nat) (b : Bytes) (t : Option Time) : (c.post e n b t).tickW = c.tickW := (rfl)
@[simp] theorem Core.post_slackW (c : Core) (e n : Nat) (b : Bytes) (t : Option Time) : (c.post e n b t).slackW = c.slackW := (rfl)
@[simp] theorem Core.post_psets (c : Core) (e n : Nat) (b : Bytes) (t : Option Time) : (c.post e n b t).psets = c.psets := (rfl)
@[simp] theorem Core.post_charts (c : Core) (e n : Nat) (b : Bytes) (t : Option Time) : (c.post e n b t).charts = c.charts := (rfl)
@[simp] theorem Core.post_pilot (c : Core) (e n : Nat) (b : Bytes) (t : Option Time) : (c.post e n b t).pilot = c.pilot := (rfl)
@[simp] theorem Core.post_ports (c : Core) (e n : Nat) (b : Bytes) (t : Option Time) : (c.post e n b t).ports = c.ports := (rfl)
@[simp] theorem Core.post_seq (c : Core) (e n : Nat) (b : Bytes) (t : Option Time) : (c.post e n b t).seq = c.seq := (rfl)
@[simp] theorem Core.post_layer (c : Core) (e n : Nat) (b : Bytes) (t : Option Time) : (c.post e n b t).layer = c.layer := (rfl)
@[simp] theorem Core.post_bwk (c : Core) (e n : Nat) (b : Bytes) (t : Option Time) : (c.post e n b t).bwk = c.bwk := (rfl)
@[simp] theorem Core.post_losses (c : Core) (e n : Nat) (b : Bytes) (t : Option Time) : (c.post e n b t).losses = c.losses := (rfl)
@[simp] theorem Core.post_surgeOrder (c : Core) (e n : Nat) (b : Bytes) (t : Option Time) : (c.post e n b t).surgeOrder = c.surgeOrder := (rfl)
@[simp] theorem Core.post_resWrite (c : Core) (e n : Nat) (b : Bytes) (t : Option Time) : (c.post e n b t).resWrite = c.resWrite := (rfl)
@[simp] theorem Core.post_log (c : Core) (e n : Nat) (b : Bytes) (t : Option Time) : (c.post e n b t).log = c.log := (rfl)
@[simp] theorem Core.post_twin (c : Core) (e n : Nat) (b : Bytes) (t : Option Time) : (c.post e n b t).twin = c.twin := (rfl)
@[simp] theorem Core.post_casc (c : Core) (e n : Nat) (b : Bytes) (t : Option Time) : (c.post e n b t).casc = c.casc := (rfl)
@[simp] theorem Core.post_drc (c : Core) (e n : Nat) (b : Bytes) (t : Option Time) : (c.post e n b t).drc = c.drc := (rfl)
@[simp] theorem Core.post_img (c : Core) (e n : Nat) (b : Bytes) (t : Option Time) : (c.post e n b t).img = c.img := (rfl)
@[simp] theorem Core.post_lum (c : Core) (e n : Nat) (b : Bytes) (t : Option Time) : (c.post e n b t).lum = c.lum := (rfl)
@[simp] theorem Core.post_mot (c : Core) (e n : Nat) (b : Bytes) (t : Option Time) : (c.post e n b t).mot = c.mot := (rfl)
@[simp] theorem Core.post_tim (c : Core) (e n : Nat) (b : Bytes) (t : Option Time) : (c.post e n b t).tim = c.tim := (rfl)
@[simp] theorem Core.post_hbr (c : Core) (e n : Nat) (b : Bytes) (t : Option Time) : (c.post e n b t).hbr = c.hbr := (rfl)
@[simp] theorem Core.post_rst (c : Core) (e n : Nat) (b : Bytes) (t : Option Time) : (c.post e n b t).rst = c.rst := (rfl)
@[simp] theorem Core.post_bst (c : Core) (e n : Nat) (b : Bytes) (t : Option Time) : (c.post e n b t).bst = c.bst := (rfl)
@[simp] theorem Core.post_pcie (c : Core) (e n : Nat) (b : Bytes) (t : Option Time) : (c.post e n b t).pcie = c.pcie := (rfl)
@[simp] theorem Core.post_planeDue (c : Core) (e n : Nat) (b : Bytes) (t : Option Time) : (c.post e n b t).planeDue = c.planeDue := (rfl)
@[simp] theorem Core.post_out (c : Core) (e n : Nat) (b : Bytes) (t : Option Time) : (c.post e n b t).out = c.out := (rfl)
@[simp] theorem Core.post_wq (c : Core) (e n : Nat) (b : Bytes) (t : Option Time) : (c.post e n b t).wq = c.wq := (rfl)
@[simp] theorem Core.rd_post (c : Core) (e n : Nat) (b : Bytes) (t : Option Time) (g : Field) (j : Nat) : (c.post e n b t).rd g j = c.rd g j := (rfl)

/-! ### raiseHold -/

@[simp] theorem Core.raiseHold_regs (c : Core) (v : Nat) : (c.raiseHold v).regs = c.regs := (rfl)
@[simp] theorem Core.raiseHold_bootRegs (c : Core) (v : Nat) : (c.raiseHold v).bootRegs = c.bootRegs := (rfl)
@[simp] theorem Core.raiseHold_now (c : Core) (v : Nat) : (c.raiseHold v).now = c.now := (rfl)
@[simp] theorem Core.raiseHold_ticks (c : Core) (v : Nat) : (c.raiseHold v).ticks = c.ticks := (rfl)
@[simp] theorem Core.raiseHold_fresh (c : Core) (v : Nat) : (c.raiseHold v).fresh = c.fresh := (rfl)
@[simp] theorem Core.raiseHold_events (c : Core) (v : Nat) : (c.raiseHold v).events = c.events := (rfl)
@[simp] theorem Core.raiseHold_escSafe (c : Core) (v : Nat) : (c.raiseHold v).escSafe = c.escSafe := (rfl)
@[simp] theorem Core.raiseHold_tickW (c : Core) (v : Nat) : (c.raiseHold v).tickW = c.tickW := (rfl)
@[simp] theorem Core.raiseHold_slackW (c : Core) (v : Nat) : (c.raiseHold v).slackW = c.slackW := (rfl)
@[simp] theorem Core.raiseHold_psets (c : Core) (v : Nat) : (c.raiseHold v).psets = c.psets := (rfl)
@[simp] theorem Core.raiseHold_charts (c : Core) (v : Nat) : (c.raiseHold v).charts = c.charts := (rfl)
@[simp] theorem Core.raiseHold_pilot (c : Core) (v : Nat) : (c.raiseHold v).pilot = c.pilot := (rfl)
@[simp] theorem Core.raiseHold_ports (c : Core) (v : Nat) : (c.raiseHold v).ports = c.ports := (rfl)
@[simp] theorem Core.raiseHold_seq (c : Core) (v : Nat) : (c.raiseHold v).seq = c.seq := (rfl)
@[simp] theorem Core.raiseHold_layer (c : Core) (v : Nat) : (c.raiseHold v).layer = c.layer := (rfl)
@[simp] theorem Core.raiseHold_bwk (c : Core) (v : Nat) : (c.raiseHold v).bwk = c.bwk := (rfl)
@[simp] theorem Core.raiseHold_losses (c : Core) (v : Nat) : (c.raiseHold v).losses = c.losses := (rfl)
@[simp] theorem Core.raiseHold_surgeOrder (c : Core) (v : Nat) : (c.raiseHold v).surgeOrder = c.surgeOrder := (rfl)
@[simp] theorem Core.raiseHold_resWrite (c : Core) (v : Nat) : (c.raiseHold v).resWrite = c.resWrite := (rfl)
@[simp] theorem Core.raiseHold_log (c : Core) (v : Nat) : (c.raiseHold v).log = c.log := (rfl)
@[simp] theorem Core.raiseHold_twin (c : Core) (v : Nat) : (c.raiseHold v).twin = c.twin := (rfl)
@[simp] theorem Core.raiseHold_casc (c : Core) (v : Nat) : (c.raiseHold v).casc = c.casc := (rfl)
@[simp] theorem Core.raiseHold_drc (c : Core) (v : Nat) : (c.raiseHold v).drc = c.drc := (rfl)
@[simp] theorem Core.raiseHold_img (c : Core) (v : Nat) : (c.raiseHold v).img = c.img := (rfl)
@[simp] theorem Core.raiseHold_lum (c : Core) (v : Nat) : (c.raiseHold v).lum = c.lum := (rfl)
@[simp] theorem Core.raiseHold_mot (c : Core) (v : Nat) : (c.raiseHold v).mot = c.mot := (rfl)
@[simp] theorem Core.raiseHold_tim (c : Core) (v : Nat) : (c.raiseHold v).tim = c.tim := (rfl)
@[simp] theorem Core.raiseHold_hbr (c : Core) (v : Nat) : (c.raiseHold v).hbr = c.hbr := (rfl)
@[simp] theorem Core.raiseHold_rst (c : Core) (v : Nat) : (c.raiseHold v).rst = c.rst := (rfl)
@[simp] theorem Core.raiseHold_bst (c : Core) (v : Nat) : (c.raiseHold v).bst = c.bst := (rfl)
@[simp] theorem Core.raiseHold_pcie (c : Core) (v : Nat) : (c.raiseHold v).pcie = c.pcie := (rfl)
@[simp] theorem Core.raiseHold_planeDue (c : Core) (v : Nat) : (c.raiseHold v).planeDue = c.planeDue := (rfl)
@[simp] theorem Core.raiseHold_out (c : Core) (v : Nat) : (c.raiseHold v).out = c.out := (rfl)
@[simp] theorem Core.raiseHold_wq (c : Core) (v : Nat) : (c.raiseHold v).wq = c.wq := (rfl)
@[simp] theorem Core.rd_raiseHold (c : Core) (v : Nat) (g : Field) (j : Nat) : (c.raiseHold v).rd g j = c.rd g j := (rfl)

/-! ### raiseSafe -/

@[simp] theorem Core.raiseSafe_regs (c : Core) (v : Nat) : (c.raiseSafe v).regs = c.regs := (rfl)
@[simp] theorem Core.raiseSafe_bootRegs (c : Core) (v : Nat) : (c.raiseSafe v).bootRegs = c.bootRegs := (rfl)
@[simp] theorem Core.raiseSafe_now (c : Core) (v : Nat) : (c.raiseSafe v).now = c.now := (rfl)
@[simp] theorem Core.raiseSafe_ticks (c : Core) (v : Nat) : (c.raiseSafe v).ticks = c.ticks := (rfl)
@[simp] theorem Core.raiseSafe_fresh (c : Core) (v : Nat) : (c.raiseSafe v).fresh = c.fresh := (rfl)
@[simp] theorem Core.raiseSafe_events (c : Core) (v : Nat) : (c.raiseSafe v).events = c.events := (rfl)
@[simp] theorem Core.raiseSafe_escHold (c : Core) (v : Nat) : (c.raiseSafe v).escHold = c.escHold := (rfl)
@[simp] theorem Core.raiseSafe_tickW (c : Core) (v : Nat) : (c.raiseSafe v).tickW = c.tickW := (rfl)
@[simp] theorem Core.raiseSafe_slackW (c : Core) (v : Nat) : (c.raiseSafe v).slackW = c.slackW := (rfl)
@[simp] theorem Core.raiseSafe_psets (c : Core) (v : Nat) : (c.raiseSafe v).psets = c.psets := (rfl)
@[simp] theorem Core.raiseSafe_charts (c : Core) (v : Nat) : (c.raiseSafe v).charts = c.charts := (rfl)
@[simp] theorem Core.raiseSafe_pilot (c : Core) (v : Nat) : (c.raiseSafe v).pilot = c.pilot := (rfl)
@[simp] theorem Core.raiseSafe_ports (c : Core) (v : Nat) : (c.raiseSafe v).ports = c.ports := (rfl)
@[simp] theorem Core.raiseSafe_seq (c : Core) (v : Nat) : (c.raiseSafe v).seq = c.seq := (rfl)
@[simp] theorem Core.raiseSafe_layer (c : Core) (v : Nat) : (c.raiseSafe v).layer = c.layer := (rfl)
@[simp] theorem Core.raiseSafe_bwk (c : Core) (v : Nat) : (c.raiseSafe v).bwk = c.bwk := (rfl)
@[simp] theorem Core.raiseSafe_losses (c : Core) (v : Nat) : (c.raiseSafe v).losses = c.losses := (rfl)
@[simp] theorem Core.raiseSafe_surgeOrder (c : Core) (v : Nat) : (c.raiseSafe v).surgeOrder = c.surgeOrder := (rfl)
@[simp] theorem Core.raiseSafe_resWrite (c : Core) (v : Nat) : (c.raiseSafe v).resWrite = c.resWrite := (rfl)
@[simp] theorem Core.raiseSafe_log (c : Core) (v : Nat) : (c.raiseSafe v).log = c.log := (rfl)
@[simp] theorem Core.raiseSafe_twin (c : Core) (v : Nat) : (c.raiseSafe v).twin = c.twin := (rfl)
@[simp] theorem Core.raiseSafe_casc (c : Core) (v : Nat) : (c.raiseSafe v).casc = c.casc := (rfl)
@[simp] theorem Core.raiseSafe_drc (c : Core) (v : Nat) : (c.raiseSafe v).drc = c.drc := (rfl)
@[simp] theorem Core.raiseSafe_img (c : Core) (v : Nat) : (c.raiseSafe v).img = c.img := (rfl)
@[simp] theorem Core.raiseSafe_lum (c : Core) (v : Nat) : (c.raiseSafe v).lum = c.lum := (rfl)
@[simp] theorem Core.raiseSafe_mot (c : Core) (v : Nat) : (c.raiseSafe v).mot = c.mot := (rfl)
@[simp] theorem Core.raiseSafe_tim (c : Core) (v : Nat) : (c.raiseSafe v).tim = c.tim := (rfl)
@[simp] theorem Core.raiseSafe_hbr (c : Core) (v : Nat) : (c.raiseSafe v).hbr = c.hbr := (rfl)
@[simp] theorem Core.raiseSafe_rst (c : Core) (v : Nat) : (c.raiseSafe v).rst = c.rst := (rfl)
@[simp] theorem Core.raiseSafe_bst (c : Core) (v : Nat) : (c.raiseSafe v).bst = c.bst := (rfl)
@[simp] theorem Core.raiseSafe_pcie (c : Core) (v : Nat) : (c.raiseSafe v).pcie = c.pcie := (rfl)
@[simp] theorem Core.raiseSafe_planeDue (c : Core) (v : Nat) : (c.raiseSafe v).planeDue = c.planeDue := (rfl)
@[simp] theorem Core.raiseSafe_out (c : Core) (v : Nat) : (c.raiseSafe v).out = c.out := (rfl)
@[simp] theorem Core.raiseSafe_wq (c : Core) (v : Nat) : (c.raiseSafe v).wq = c.wq := (rfl)
@[simp] theorem Core.rd_raiseSafe (c : Core) (v : Nat) (g : Field) (j : Nat) : (c.raiseSafe v).rd g j = c.rd g j := (rfl)

/-! ### setCh -/

@[simp] theorem Core.setCh_regs (c : Core) (i : Nat) (x : SeqCh) : (c.setCh i x).regs = c.regs := (rfl)
@[simp] theorem Core.setCh_bootRegs (c : Core) (i : Nat) (x : SeqCh) : (c.setCh i x).bootRegs = c.bootRegs := (rfl)
@[simp] theorem Core.setCh_now (c : Core) (i : Nat) (x : SeqCh) : (c.setCh i x).now = c.now := (rfl)
@[simp] theorem Core.setCh_ticks (c : Core) (i : Nat) (x : SeqCh) : (c.setCh i x).ticks = c.ticks := (rfl)
@[simp] theorem Core.setCh_fresh (c : Core) (i : Nat) (x : SeqCh) : (c.setCh i x).fresh = c.fresh := (rfl)
@[simp] theorem Core.setCh_events (c : Core) (i : Nat) (x : SeqCh) : (c.setCh i x).events = c.events := (rfl)
@[simp] theorem Core.setCh_escHold (c : Core) (i : Nat) (x : SeqCh) : (c.setCh i x).escHold = c.escHold := (rfl)
@[simp] theorem Core.setCh_escSafe (c : Core) (i : Nat) (x : SeqCh) : (c.setCh i x).escSafe = c.escSafe := (rfl)
@[simp] theorem Core.setCh_tickW (c : Core) (i : Nat) (x : SeqCh) : (c.setCh i x).tickW = c.tickW := (rfl)
@[simp] theorem Core.setCh_slackW (c : Core) (i : Nat) (x : SeqCh) : (c.setCh i x).slackW = c.slackW := (rfl)
@[simp] theorem Core.setCh_psets (c : Core) (i : Nat) (x : SeqCh) : (c.setCh i x).psets = c.psets := (rfl)
@[simp] theorem Core.setCh_charts (c : Core) (i : Nat) (x : SeqCh) : (c.setCh i x).charts = c.charts := (rfl)
@[simp] theorem Core.setCh_pilot (c : Core) (i : Nat) (x : SeqCh) : (c.setCh i x).pilot = c.pilot := (rfl)
@[simp] theorem Core.setCh_ports (c : Core) (i : Nat) (x : SeqCh) : (c.setCh i x).ports = c.ports := (rfl)
@[simp] theorem Core.setCh_layer (c : Core) (i : Nat) (x : SeqCh) : (c.setCh i x).layer = c.layer := (rfl)
@[simp] theorem Core.setCh_bwk (c : Core) (i : Nat) (x : SeqCh) : (c.setCh i x).bwk = c.bwk := (rfl)
@[simp] theorem Core.setCh_losses (c : Core) (i : Nat) (x : SeqCh) : (c.setCh i x).losses = c.losses := (rfl)
@[simp] theorem Core.setCh_surgeOrder (c : Core) (i : Nat) (x : SeqCh) : (c.setCh i x).surgeOrder = c.surgeOrder := (rfl)
@[simp] theorem Core.setCh_resWrite (c : Core) (i : Nat) (x : SeqCh) : (c.setCh i x).resWrite = c.resWrite := (rfl)
@[simp] theorem Core.setCh_log (c : Core) (i : Nat) (x : SeqCh) : (c.setCh i x).log = c.log := (rfl)
@[simp] theorem Core.setCh_twin (c : Core) (i : Nat) (x : SeqCh) : (c.setCh i x).twin = c.twin := (rfl)
@[simp] theorem Core.setCh_casc (c : Core) (i : Nat) (x : SeqCh) : (c.setCh i x).casc = c.casc := (rfl)
@[simp] theorem Core.setCh_drc (c : Core) (i : Nat) (x : SeqCh) : (c.setCh i x).drc = c.drc := (rfl)
@[simp] theorem Core.setCh_img (c : Core) (i : Nat) (x : SeqCh) : (c.setCh i x).img = c.img := (rfl)
@[simp] theorem Core.setCh_lum (c : Core) (i : Nat) (x : SeqCh) : (c.setCh i x).lum = c.lum := (rfl)
@[simp] theorem Core.setCh_mot (c : Core) (i : Nat) (x : SeqCh) : (c.setCh i x).mot = c.mot := (rfl)
@[simp] theorem Core.setCh_tim (c : Core) (i : Nat) (x : SeqCh) : (c.setCh i x).tim = c.tim := (rfl)
@[simp] theorem Core.setCh_hbr (c : Core) (i : Nat) (x : SeqCh) : (c.setCh i x).hbr = c.hbr := (rfl)
@[simp] theorem Core.setCh_rst (c : Core) (i : Nat) (x : SeqCh) : (c.setCh i x).rst = c.rst := (rfl)
@[simp] theorem Core.setCh_bst (c : Core) (i : Nat) (x : SeqCh) : (c.setCh i x).bst = c.bst := (rfl)
@[simp] theorem Core.setCh_pcie (c : Core) (i : Nat) (x : SeqCh) : (c.setCh i x).pcie = c.pcie := (rfl)
@[simp] theorem Core.setCh_planeDue (c : Core) (i : Nat) (x : SeqCh) : (c.setCh i x).planeDue = c.planeDue := (rfl)
@[simp] theorem Core.setCh_out (c : Core) (i : Nat) (x : SeqCh) : (c.setCh i x).out = c.out := (rfl)
@[simp] theorem Core.setCh_wq (c : Core) (i : Nat) (x : SeqCh) : (c.setCh i x).wq = c.wq := (rfl)
@[simp] theorem Core.rd_setCh (c : Core) (i : Nat) (x : SeqCh) (g : Field) (j : Nat) : (c.setCh i x).rd g j = c.rd g j := (rfl)

/-! ### setPort -/

@[simp] theorem Core.setPort_regs (c : Core) (p : Nat) (x : Port) : (c.setPort p x).regs = c.regs := (rfl)
@[simp] theorem Core.setPort_bootRegs (c : Core) (p : Nat) (x : Port) : (c.setPort p x).bootRegs = c.bootRegs := (rfl)
@[simp] theorem Core.setPort_now (c : Core) (p : Nat) (x : Port) : (c.setPort p x).now = c.now := (rfl)
@[simp] theorem Core.setPort_ticks (c : Core) (p : Nat) (x : Port) : (c.setPort p x).ticks = c.ticks := (rfl)
@[simp] theorem Core.setPort_fresh (c : Core) (p : Nat) (x : Port) : (c.setPort p x).fresh = c.fresh := (rfl)
@[simp] theorem Core.setPort_events (c : Core) (p : Nat) (x : Port) : (c.setPort p x).events = c.events := (rfl)
@[simp] theorem Core.setPort_escHold (c : Core) (p : Nat) (x : Port) : (c.setPort p x).escHold = c.escHold := (rfl)
@[simp] theorem Core.setPort_escSafe (c : Core) (p : Nat) (x : Port) : (c.setPort p x).escSafe = c.escSafe := (rfl)
@[simp] theorem Core.setPort_tickW (c : Core) (p : Nat) (x : Port) : (c.setPort p x).tickW = c.tickW := (rfl)
@[simp] theorem Core.setPort_slackW (c : Core) (p : Nat) (x : Port) : (c.setPort p x).slackW = c.slackW := (rfl)
@[simp] theorem Core.setPort_psets (c : Core) (p : Nat) (x : Port) : (c.setPort p x).psets = c.psets := (rfl)
@[simp] theorem Core.setPort_charts (c : Core) (p : Nat) (x : Port) : (c.setPort p x).charts = c.charts := (rfl)
@[simp] theorem Core.setPort_pilot (c : Core) (p : Nat) (x : Port) : (c.setPort p x).pilot = c.pilot := (rfl)
@[simp] theorem Core.setPort_seq (c : Core) (p : Nat) (x : Port) : (c.setPort p x).seq = c.seq := (rfl)
@[simp] theorem Core.setPort_layer (c : Core) (p : Nat) (x : Port) : (c.setPort p x).layer = c.layer := (rfl)
@[simp] theorem Core.setPort_bwk (c : Core) (p : Nat) (x : Port) : (c.setPort p x).bwk = c.bwk := (rfl)
@[simp] theorem Core.setPort_losses (c : Core) (p : Nat) (x : Port) : (c.setPort p x).losses = c.losses := (rfl)
@[simp] theorem Core.setPort_surgeOrder (c : Core) (p : Nat) (x : Port) : (c.setPort p x).surgeOrder = c.surgeOrder := (rfl)
@[simp] theorem Core.setPort_resWrite (c : Core) (p : Nat) (x : Port) : (c.setPort p x).resWrite = c.resWrite := (rfl)
@[simp] theorem Core.setPort_log (c : Core) (p : Nat) (x : Port) : (c.setPort p x).log = c.log := (rfl)
@[simp] theorem Core.setPort_twin (c : Core) (p : Nat) (x : Port) : (c.setPort p x).twin = c.twin := (rfl)
@[simp] theorem Core.setPort_casc (c : Core) (p : Nat) (x : Port) : (c.setPort p x).casc = c.casc := (rfl)
@[simp] theorem Core.setPort_drc (c : Core) (p : Nat) (x : Port) : (c.setPort p x).drc = c.drc := (rfl)
@[simp] theorem Core.setPort_img (c : Core) (p : Nat) (x : Port) : (c.setPort p x).img = c.img := (rfl)
@[simp] theorem Core.setPort_lum (c : Core) (p : Nat) (x : Port) : (c.setPort p x).lum = c.lum := (rfl)
@[simp] theorem Core.setPort_mot (c : Core) (p : Nat) (x : Port) : (c.setPort p x).mot = c.mot := (rfl)
@[simp] theorem Core.setPort_tim (c : Core) (p : Nat) (x : Port) : (c.setPort p x).tim = c.tim := (rfl)
@[simp] theorem Core.setPort_hbr (c : Core) (p : Nat) (x : Port) : (c.setPort p x).hbr = c.hbr := (rfl)
@[simp] theorem Core.setPort_rst (c : Core) (p : Nat) (x : Port) : (c.setPort p x).rst = c.rst := (rfl)
@[simp] theorem Core.setPort_bst (c : Core) (p : Nat) (x : Port) : (c.setPort p x).bst = c.bst := (rfl)
@[simp] theorem Core.setPort_pcie (c : Core) (p : Nat) (x : Port) : (c.setPort p x).pcie = c.pcie := (rfl)
@[simp] theorem Core.setPort_planeDue (c : Core) (p : Nat) (x : Port) : (c.setPort p x).planeDue = c.planeDue := (rfl)
@[simp] theorem Core.setPort_out (c : Core) (p : Nat) (x : Port) : (c.setPort p x).out = c.out := (rfl)
@[simp] theorem Core.setPort_wq (c : Core) (p : Nat) (x : Port) : (c.setPort p x).wq = c.wq := (rfl)
@[simp] theorem Core.rd_setPort (c : Core) (p : Nat) (x : Port) (g : Field) (j : Nat) : (c.setPort p x).rd g j = c.rd g j := (rfl)

/-! ### dramWrite -/

@[simp] theorem Core.dramWrite_regs (c : Core) (a : Nat) (b : Bytes) : (c.dramWrite a b).regs = c.regs := (rfl)
@[simp] theorem Core.dramWrite_bootRegs (c : Core) (a : Nat) (b : Bytes) : (c.dramWrite a b).bootRegs = c.bootRegs := (rfl)
@[simp] theorem Core.dramWrite_now (c : Core) (a : Nat) (b : Bytes) : (c.dramWrite a b).now = c.now := (rfl)
@[simp] theorem Core.dramWrite_ticks (c : Core) (a : Nat) (b : Bytes) : (c.dramWrite a b).ticks = c.ticks := (rfl)
@[simp] theorem Core.dramWrite_fresh (c : Core) (a : Nat) (b : Bytes) : (c.dramWrite a b).fresh = c.fresh := (rfl)
@[simp] theorem Core.dramWrite_events (c : Core) (a : Nat) (b : Bytes) : (c.dramWrite a b).events = c.events := (rfl)
@[simp] theorem Core.dramWrite_escHold (c : Core) (a : Nat) (b : Bytes) : (c.dramWrite a b).escHold = c.escHold := (rfl)
@[simp] theorem Core.dramWrite_escSafe (c : Core) (a : Nat) (b : Bytes) : (c.dramWrite a b).escSafe = c.escSafe := (rfl)
@[simp] theorem Core.dramWrite_tickW (c : Core) (a : Nat) (b : Bytes) : (c.dramWrite a b).tickW = c.tickW := (rfl)
@[simp] theorem Core.dramWrite_slackW (c : Core) (a : Nat) (b : Bytes) : (c.dramWrite a b).slackW = c.slackW := (rfl)
@[simp] theorem Core.dramWrite_psets (c : Core) (a : Nat) (b : Bytes) : (c.dramWrite a b).psets = c.psets := (rfl)
@[simp] theorem Core.dramWrite_charts (c : Core) (a : Nat) (b : Bytes) : (c.dramWrite a b).charts = c.charts := (rfl)
@[simp] theorem Core.dramWrite_pilot (c : Core) (a : Nat) (b : Bytes) : (c.dramWrite a b).pilot = c.pilot := (rfl)
@[simp] theorem Core.dramWrite_ports (c : Core) (a : Nat) (b : Bytes) : (c.dramWrite a b).ports = c.ports := (rfl)
@[simp] theorem Core.dramWrite_seq (c : Core) (a : Nat) (b : Bytes) : (c.dramWrite a b).seq = c.seq := (rfl)
@[simp] theorem Core.dramWrite_layer (c : Core) (a : Nat) (b : Bytes) : (c.dramWrite a b).layer = c.layer := (rfl)
@[simp] theorem Core.dramWrite_bwk (c : Core) (a : Nat) (b : Bytes) : (c.dramWrite a b).bwk = c.bwk := (rfl)
@[simp] theorem Core.dramWrite_losses (c : Core) (a : Nat) (b : Bytes) : (c.dramWrite a b).losses = c.losses := (rfl)
@[simp] theorem Core.dramWrite_surgeOrder (c : Core) (a : Nat) (b : Bytes) : (c.dramWrite a b).surgeOrder = c.surgeOrder := (rfl)
@[simp] theorem Core.dramWrite_resWrite (c : Core) (a : Nat) (b : Bytes) : (c.dramWrite a b).resWrite = c.resWrite := (rfl)
@[simp] theorem Core.dramWrite_log (c : Core) (a : Nat) (b : Bytes) : (c.dramWrite a b).log = c.log := (rfl)
@[simp] theorem Core.dramWrite_twin (c : Core) (a : Nat) (b : Bytes) : (c.dramWrite a b).twin = c.twin := (rfl)
@[simp] theorem Core.dramWrite_casc (c : Core) (a : Nat) (b : Bytes) : (c.dramWrite a b).casc = c.casc := (rfl)
@[simp] theorem Core.dramWrite_img (c : Core) (a : Nat) (b : Bytes) : (c.dramWrite a b).img = c.img := (rfl)
@[simp] theorem Core.dramWrite_lum (c : Core) (a : Nat) (b : Bytes) : (c.dramWrite a b).lum = c.lum := (rfl)
@[simp] theorem Core.dramWrite_mot (c : Core) (a : Nat) (b : Bytes) : (c.dramWrite a b).mot = c.mot := (rfl)
@[simp] theorem Core.dramWrite_tim (c : Core) (a : Nat) (b : Bytes) : (c.dramWrite a b).tim = c.tim := (rfl)
@[simp] theorem Core.dramWrite_hbr (c : Core) (a : Nat) (b : Bytes) : (c.dramWrite a b).hbr = c.hbr := (rfl)
@[simp] theorem Core.dramWrite_rst (c : Core) (a : Nat) (b : Bytes) : (c.dramWrite a b).rst = c.rst := (rfl)
@[simp] theorem Core.dramWrite_bst (c : Core) (a : Nat) (b : Bytes) : (c.dramWrite a b).bst = c.bst := (rfl)
@[simp] theorem Core.dramWrite_pcie (c : Core) (a : Nat) (b : Bytes) : (c.dramWrite a b).pcie = c.pcie := (rfl)
@[simp] theorem Core.dramWrite_planeDue (c : Core) (a : Nat) (b : Bytes) : (c.dramWrite a b).planeDue = c.planeDue := (rfl)
@[simp] theorem Core.dramWrite_out (c : Core) (a : Nat) (b : Bytes) : (c.dramWrite a b).out = c.out := (rfl)
@[simp] theorem Core.rd_dramWrite (c : Core) (a : Nat) (b : Bytes) (g : Field) (j : Nat) : (c.dramWrite a b).rd g j = c.rd g j := (rfl)

/-! ### begin -/

@[simp] theorem Core.begin_regs (c : Core) : c.begin.regs = c.regs := (rfl)
@[simp] theorem Core.begin_bootRegs (c : Core) : c.begin.bootRegs = c.bootRegs := (rfl)
@[simp] theorem Core.begin_now (c : Core) : c.begin.now = c.now := (rfl)
@[simp] theorem Core.begin_ticks (c : Core) : c.begin.ticks = c.ticks := (rfl)
@[simp] theorem Core.begin_fresh (c : Core) : c.begin.fresh = c.fresh := (rfl)
@[simp] theorem Core.begin_events (c : Core) : c.begin.events = c.events := (rfl)
@[simp] theorem Core.begin_escHold (c : Core) : c.begin.escHold = c.escHold := (rfl)
@[simp] theorem Core.begin_escSafe (c : Core) : c.begin.escSafe = c.escSafe := (rfl)
@[simp] theorem Core.begin_tickW (c : Core) : c.begin.tickW = c.tickW := (rfl)
@[simp] theorem Core.begin_slackW (c : Core) : c.begin.slackW = c.slackW := (rfl)
@[simp] theorem Core.begin_psets (c : Core) : c.begin.psets = c.psets := (rfl)
@[simp] theorem Core.begin_charts (c : Core) : c.begin.charts = c.charts := (rfl)
@[simp] theorem Core.begin_pilot (c : Core) : c.begin.pilot = c.pilot := (rfl)
@[simp] theorem Core.begin_ports (c : Core) : c.begin.ports = c.ports := (rfl)
@[simp] theorem Core.begin_seq (c : Core) : c.begin.seq = c.seq := (rfl)
@[simp] theorem Core.begin_layer (c : Core) : c.begin.layer = c.layer := (rfl)
@[simp] theorem Core.begin_bwk (c : Core) : c.begin.bwk = c.bwk := (rfl)
@[simp] theorem Core.begin_losses (c : Core) : c.begin.losses = c.losses := (rfl)
@[simp] theorem Core.begin_surgeOrder (c : Core) : c.begin.surgeOrder = c.surgeOrder := (rfl)
@[simp] theorem Core.begin_resWrite (c : Core) : c.begin.resWrite = c.resWrite := (rfl)
@[simp] theorem Core.begin_log (c : Core) : c.begin.log = c.log := (rfl)
@[simp] theorem Core.begin_twin (c : Core) : c.begin.twin = c.twin := (rfl)
@[simp] theorem Core.begin_casc (c : Core) : c.begin.casc = c.casc := (rfl)
@[simp] theorem Core.begin_drc (c : Core) : c.begin.drc = c.drc := (rfl)
@[simp] theorem Core.begin_img (c : Core) : c.begin.img = c.img := (rfl)
@[simp] theorem Core.begin_lum (c : Core) : c.begin.lum = c.lum := (rfl)
@[simp] theorem Core.begin_mot (c : Core) : c.begin.mot = c.mot := (rfl)
@[simp] theorem Core.begin_tim (c : Core) : c.begin.tim = c.tim := (rfl)
@[simp] theorem Core.begin_hbr (c : Core) : c.begin.hbr = c.hbr := (rfl)
@[simp] theorem Core.begin_rst (c : Core) : c.begin.rst = c.rst := (rfl)
@[simp] theorem Core.begin_bst (c : Core) : c.begin.bst = c.bst := (rfl)
@[simp] theorem Core.begin_pcie (c : Core) : c.begin.pcie = c.pcie := (rfl)
@[simp] theorem Core.begin_planeDue (c : Core) : c.begin.planeDue = c.planeDue := (rfl)
@[simp] theorem Core.rd_begin (c : Core) (g : Field) (j : Nat) : c.begin.rd g j = c.rd g j := (rfl)

/-! ### close -/

@[simp] theorem Core.close_regs (c : Core) : c.close.regs = c.regs := (rfl)
@[simp] theorem Core.close_bootRegs (c : Core) : c.close.bootRegs = c.bootRegs := (rfl)
@[simp] theorem Core.close_now (c : Core) : c.close.now = c.now := (rfl)
@[simp] theorem Core.close_ticks (c : Core) : c.close.ticks = c.ticks := (rfl)
@[simp] theorem Core.close_fresh (c : Core) : c.close.fresh = c.fresh := (rfl)
@[simp] theorem Core.close_events (c : Core) : c.close.events = c.events := (rfl)
@[simp] theorem Core.close_escHold (c : Core) : c.close.escHold = c.escHold := (rfl)
@[simp] theorem Core.close_escSafe (c : Core) : c.close.escSafe = c.escSafe := (rfl)
@[simp] theorem Core.close_tickW (c : Core) : c.close.tickW = c.tickW := (rfl)
@[simp] theorem Core.close_slackW (c : Core) : c.close.slackW = c.slackW := (rfl)
@[simp] theorem Core.close_psets (c : Core) : c.close.psets = c.psets := (rfl)
@[simp] theorem Core.close_charts (c : Core) : c.close.charts = c.charts := (rfl)
@[simp] theorem Core.close_pilot (c : Core) : c.close.pilot = c.pilot := (rfl)
@[simp] theorem Core.close_ports (c : Core) : c.close.ports = c.ports := (rfl)
@[simp] theorem Core.close_seq (c : Core) : c.close.seq = c.seq := (rfl)
@[simp] theorem Core.close_layer (c : Core) : c.close.layer = c.layer := (rfl)
@[simp] theorem Core.close_bwk (c : Core) : c.close.bwk = c.bwk := (rfl)
@[simp] theorem Core.close_losses (c : Core) : c.close.losses = c.losses := (rfl)
@[simp] theorem Core.close_surgeOrder (c : Core) : c.close.surgeOrder = c.surgeOrder := (rfl)
@[simp] theorem Core.close_resWrite (c : Core) : c.close.resWrite = c.resWrite := (rfl)
@[simp] theorem Core.close_log (c : Core) : c.close.log = c.log := (rfl)
@[simp] theorem Core.close_twin (c : Core) : c.close.twin = c.twin := (rfl)
@[simp] theorem Core.close_casc (c : Core) : c.close.casc = c.casc := (rfl)
@[simp] theorem Core.close_drc (c : Core) : c.close.drc = c.drc := (rfl)
@[simp] theorem Core.close_img (c : Core) : c.close.img = c.img := (rfl)
@[simp] theorem Core.close_lum (c : Core) : c.close.lum = c.lum := (rfl)
@[simp] theorem Core.close_mot (c : Core) : c.close.mot = c.mot := (rfl)
@[simp] theorem Core.close_tim (c : Core) : c.close.tim = c.tim := (rfl)
@[simp] theorem Core.close_hbr (c : Core) : c.close.hbr = c.hbr := (rfl)
@[simp] theorem Core.close_rst (c : Core) : c.close.rst = c.rst := (rfl)
@[simp] theorem Core.close_bst (c : Core) : c.close.bst = c.bst := (rfl)
@[simp] theorem Core.close_pcie (c : Core) : c.close.pcie = c.pcie := (rfl)
@[simp] theorem Core.close_planeDue (c : Core) : c.close.planeDue = c.planeDue := (rfl)
@[simp] theorem Core.close_out (c : Core) : c.close.out = c.out := (rfl)
@[simp] theorem Core.rd_close (c : Core) (g : Field) (j : Nat) : c.close.rd g j = c.rd g j := (rfl)

/-! ### modPilot -/

@[simp] theorem Core.modPilot_regs (c : Core) (f : Pilot → Pilot) : (c.modPilot f).regs = c.regs := (rfl)
@[simp] theorem Core.modPilot_bootRegs (c : Core) (f : Pilot → Pilot) : (c.modPilot f).bootRegs = c.bootRegs := (rfl)
@[simp] theorem Core.modPilot_now (c : Core) (f : Pilot → Pilot) : (c.modPilot f).now = c.now := (rfl)
@[simp] theorem Core.modPilot_ticks (c : Core) (f : Pilot → Pilot) : (c.modPilot f).ticks = c.ticks := (rfl)
@[simp] theorem Core.modPilot_fresh (c : Core) (f : Pilot → Pilot) : (c.modPilot f).fresh = c.fresh := (rfl)
@[simp] theorem Core.modPilot_events (c : Core) (f : Pilot → Pilot) : (c.modPilot f).events = c.events := (rfl)
@[simp] theorem Core.modPilot_escHold (c : Core) (f : Pilot → Pilot) : (c.modPilot f).escHold = c.escHold := (rfl)
@[simp] theorem Core.modPilot_escSafe (c : Core) (f : Pilot → Pilot) : (c.modPilot f).escSafe = c.escSafe := (rfl)
@[simp] theorem Core.modPilot_tickW (c : Core) (f : Pilot → Pilot) : (c.modPilot f).tickW = c.tickW := (rfl)
@[simp] theorem Core.modPilot_slackW (c : Core) (f : Pilot → Pilot) : (c.modPilot f).slackW = c.slackW := (rfl)
@[simp] theorem Core.modPilot_psets (c : Core) (f : Pilot → Pilot) : (c.modPilot f).psets = c.psets := (rfl)
@[simp] theorem Core.modPilot_charts (c : Core) (f : Pilot → Pilot) : (c.modPilot f).charts = c.charts := (rfl)
@[simp] theorem Core.modPilot_ports (c : Core) (f : Pilot → Pilot) : (c.modPilot f).ports = c.ports := (rfl)
@[simp] theorem Core.modPilot_seq (c : Core) (f : Pilot → Pilot) : (c.modPilot f).seq = c.seq := (rfl)
@[simp] theorem Core.modPilot_layer (c : Core) (f : Pilot → Pilot) : (c.modPilot f).layer = c.layer := (rfl)
@[simp] theorem Core.modPilot_bwk (c : Core) (f : Pilot → Pilot) : (c.modPilot f).bwk = c.bwk := (rfl)
@[simp] theorem Core.modPilot_losses (c : Core) (f : Pilot → Pilot) : (c.modPilot f).losses = c.losses := (rfl)
@[simp] theorem Core.modPilot_surgeOrder (c : Core) (f : Pilot → Pilot) : (c.modPilot f).surgeOrder = c.surgeOrder := (rfl)
@[simp] theorem Core.modPilot_resWrite (c : Core) (f : Pilot → Pilot) : (c.modPilot f).resWrite = c.resWrite := (rfl)
@[simp] theorem Core.modPilot_log (c : Core) (f : Pilot → Pilot) : (c.modPilot f).log = c.log := (rfl)
@[simp] theorem Core.modPilot_twin (c : Core) (f : Pilot → Pilot) : (c.modPilot f).twin = c.twin := (rfl)
@[simp] theorem Core.modPilot_casc (c : Core) (f : Pilot → Pilot) : (c.modPilot f).casc = c.casc := (rfl)
@[simp] theorem Core.modPilot_drc (c : Core) (f : Pilot → Pilot) : (c.modPilot f).drc = c.drc := (rfl)
@[simp] theorem Core.modPilot_img (c : Core) (f : Pilot → Pilot) : (c.modPilot f).img = c.img := (rfl)
@[simp] theorem Core.modPilot_lum (c : Core) (f : Pilot → Pilot) : (c.modPilot f).lum = c.lum := (rfl)
@[simp] theorem Core.modPilot_mot (c : Core) (f : Pilot → Pilot) : (c.modPilot f).mot = c.mot := (rfl)
@[simp] theorem Core.modPilot_tim (c : Core) (f : Pilot → Pilot) : (c.modPilot f).tim = c.tim := (rfl)
@[simp] theorem Core.modPilot_hbr (c : Core) (f : Pilot → Pilot) : (c.modPilot f).hbr = c.hbr := (rfl)
@[simp] theorem Core.modPilot_rst (c : Core) (f : Pilot → Pilot) : (c.modPilot f).rst = c.rst := (rfl)
@[simp] theorem Core.modPilot_bst (c : Core) (f : Pilot → Pilot) : (c.modPilot f).bst = c.bst := (rfl)
@[simp] theorem Core.modPilot_pcie (c : Core) (f : Pilot → Pilot) : (c.modPilot f).pcie = c.pcie := (rfl)
@[simp] theorem Core.modPilot_planeDue (c : Core) (f : Pilot → Pilot) : (c.modPilot f).planeDue = c.planeDue := (rfl)
@[simp] theorem Core.modPilot_out (c : Core) (f : Pilot → Pilot) : (c.modPilot f).out = c.out := (rfl)
@[simp] theorem Core.modPilot_wq (c : Core) (f : Pilot → Pilot) : (c.modPilot f).wq = c.wq := (rfl)
@[simp] theorem Core.rd_modPilot (c : Core) (f : Pilot → Pilot) (g : Field) (j : Nat) : (c.modPilot f).rd g j = c.rd g j := (rfl)

/-! ### modHbr -/

@[simp] theorem Core.modHbr_regs (c : Core) (f : Harbour → Harbour) : (c.modHbr f).regs = c.regs := (rfl)
@[simp] theorem Core.modHbr_bootRegs (c : Core) (f : Harbour → Harbour) : (c.modHbr f).bootRegs = c.bootRegs := (rfl)
@[simp] theorem Core.modHbr_now (c : Core) (f : Harbour → Harbour) : (c.modHbr f).now = c.now := (rfl)
@[simp] theorem Core.modHbr_ticks (c : Core) (f : Harbour → Harbour) : (c.modHbr f).ticks = c.ticks := (rfl)
@[simp] theorem Core.modHbr_fresh (c : Core) (f : Harbour → Harbour) : (c.modHbr f).fresh = c.fresh := (rfl)
@[simp] theorem Core.modHbr_events (c : Core) (f : Harbour → Harbour) : (c.modHbr f).events = c.events := (rfl)
@[simp] theorem Core.modHbr_escHold (c : Core) (f : Harbour → Harbour) : (c.modHbr f).escHold = c.escHold := (rfl)
@[simp] theorem Core.modHbr_escSafe (c : Core) (f : Harbour → Harbour) : (c.modHbr f).escSafe = c.escSafe := (rfl)
@[simp] theorem Core.modHbr_tickW (c : Core) (f : Harbour → Harbour) : (c.modHbr f).tickW = c.tickW := (rfl)
@[simp] theorem Core.modHbr_slackW (c : Core) (f : Harbour → Harbour) : (c.modHbr f).slackW = c.slackW := (rfl)
@[simp] theorem Core.modHbr_psets (c : Core) (f : Harbour → Harbour) : (c.modHbr f).psets = c.psets := (rfl)
@[simp] theorem Core.modHbr_charts (c : Core) (f : Harbour → Harbour) : (c.modHbr f).charts = c.charts := (rfl)
@[simp] theorem Core.modHbr_pilot (c : Core) (f : Harbour → Harbour) : (c.modHbr f).pilot = c.pilot := (rfl)
@[simp] theorem Core.modHbr_ports (c : Core) (f : Harbour → Harbour) : (c.modHbr f).ports = c.ports := (rfl)
@[simp] theorem Core.modHbr_seq (c : Core) (f : Harbour → Harbour) : (c.modHbr f).seq = c.seq := (rfl)
@[simp] theorem Core.modHbr_layer (c : Core) (f : Harbour → Harbour) : (c.modHbr f).layer = c.layer := (rfl)
@[simp] theorem Core.modHbr_bwk (c : Core) (f : Harbour → Harbour) : (c.modHbr f).bwk = c.bwk := (rfl)
@[simp] theorem Core.modHbr_losses (c : Core) (f : Harbour → Harbour) : (c.modHbr f).losses = c.losses := (rfl)
@[simp] theorem Core.modHbr_surgeOrder (c : Core) (f : Harbour → Harbour) : (c.modHbr f).surgeOrder = c.surgeOrder := (rfl)
@[simp] theorem Core.modHbr_resWrite (c : Core) (f : Harbour → Harbour) : (c.modHbr f).resWrite = c.resWrite := (rfl)
@[simp] theorem Core.modHbr_log (c : Core) (f : Harbour → Harbour) : (c.modHbr f).log = c.log := (rfl)
@[simp] theorem Core.modHbr_twin (c : Core) (f : Harbour → Harbour) : (c.modHbr f).twin = c.twin := (rfl)
@[simp] theorem Core.modHbr_casc (c : Core) (f : Harbour → Harbour) : (c.modHbr f).casc = c.casc := (rfl)
@[simp] theorem Core.modHbr_drc (c : Core) (f : Harbour → Harbour) : (c.modHbr f).drc = c.drc := (rfl)
@[simp] theorem Core.modHbr_img (c : Core) (f : Harbour → Harbour) : (c.modHbr f).img = c.img := (rfl)
@[simp] theorem Core.modHbr_lum (c : Core) (f : Harbour → Harbour) : (c.modHbr f).lum = c.lum := (rfl)
@[simp] theorem Core.modHbr_mot (c : Core) (f : Harbour → Harbour) : (c.modHbr f).mot = c.mot := (rfl)
@[simp] theorem Core.modHbr_tim (c : Core) (f : Harbour → Harbour) : (c.modHbr f).tim = c.tim := (rfl)
@[simp] theorem Core.modHbr_rst (c : Core) (f : Harbour → Harbour) : (c.modHbr f).rst = c.rst := (rfl)
@[simp] theorem Core.modHbr_bst (c : Core) (f : Harbour → Harbour) : (c.modHbr f).bst = c.bst := (rfl)
@[simp] theorem Core.modHbr_pcie (c : Core) (f : Harbour → Harbour) : (c.modHbr f).pcie = c.pcie := (rfl)
@[simp] theorem Core.modHbr_planeDue (c : Core) (f : Harbour → Harbour) : (c.modHbr f).planeDue = c.planeDue := (rfl)
@[simp] theorem Core.modHbr_out (c : Core) (f : Harbour → Harbour) : (c.modHbr f).out = c.out := (rfl)
@[simp] theorem Core.modHbr_wq (c : Core) (f : Harbour → Harbour) : (c.modHbr f).wq = c.wq := (rfl)
@[simp] theorem Core.rd_modHbr (c : Core) (f : Harbour → Harbour) (g : Field) (j : Nat) : (c.modHbr f).rd g j = c.rd g j := (rfl)

/-! ### modTwin -/

@[simp] theorem Core.modTwin_regs (c : Core) (f : Twin → Twin) : (c.modTwin f).regs = c.regs := (rfl)
@[simp] theorem Core.modTwin_bootRegs (c : Core) (f : Twin → Twin) : (c.modTwin f).bootRegs = c.bootRegs := (rfl)
@[simp] theorem Core.modTwin_now (c : Core) (f : Twin → Twin) : (c.modTwin f).now = c.now := (rfl)
@[simp] theorem Core.modTwin_ticks (c : Core) (f : Twin → Twin) : (c.modTwin f).ticks = c.ticks := (rfl)
@[simp] theorem Core.modTwin_fresh (c : Core) (f : Twin → Twin) : (c.modTwin f).fresh = c.fresh := (rfl)
@[simp] theorem Core.modTwin_events (c : Core) (f : Twin → Twin) : (c.modTwin f).events = c.events := (rfl)
@[simp] theorem Core.modTwin_escHold (c : Core) (f : Twin → Twin) : (c.modTwin f).escHold = c.escHold := (rfl)
@[simp] theorem Core.modTwin_escSafe (c : Core) (f : Twin → Twin) : (c.modTwin f).escSafe = c.escSafe := (rfl)
@[simp] theorem Core.modTwin_tickW (c : Core) (f : Twin → Twin) : (c.modTwin f).tickW = c.tickW := (rfl)
@[simp] theorem Core.modTwin_slackW (c : Core) (f : Twin → Twin) : (c.modTwin f).slackW = c.slackW := (rfl)
@[simp] theorem Core.modTwin_psets (c : Core) (f : Twin → Twin) : (c.modTwin f).psets = c.psets := (rfl)
@[simp] theorem Core.modTwin_charts (c : Core) (f : Twin → Twin) : (c.modTwin f).charts = c.charts := (rfl)
@[simp] theorem Core.modTwin_pilot (c : Core) (f : Twin → Twin) : (c.modTwin f).pilot = c.pilot := (rfl)
@[simp] theorem Core.modTwin_ports (c : Core) (f : Twin → Twin) : (c.modTwin f).ports = c.ports := (rfl)
@[simp] theorem Core.modTwin_seq (c : Core) (f : Twin → Twin) : (c.modTwin f).seq = c.seq := (rfl)
@[simp] theorem Core.modTwin_layer (c : Core) (f : Twin → Twin) : (c.modTwin f).layer = c.layer := (rfl)
@[simp] theorem Core.modTwin_bwk (c : Core) (f : Twin → Twin) : (c.modTwin f).bwk = c.bwk := (rfl)
@[simp] theorem Core.modTwin_losses (c : Core) (f : Twin → Twin) : (c.modTwin f).losses = c.losses := (rfl)
@[simp] theorem Core.modTwin_surgeOrder (c : Core) (f : Twin → Twin) : (c.modTwin f).surgeOrder = c.surgeOrder := (rfl)
@[simp] theorem Core.modTwin_resWrite (c : Core) (f : Twin → Twin) : (c.modTwin f).resWrite = c.resWrite := (rfl)
@[simp] theorem Core.modTwin_log (c : Core) (f : Twin → Twin) : (c.modTwin f).log = c.log := (rfl)
@[simp] theorem Core.modTwin_casc (c : Core) (f : Twin → Twin) : (c.modTwin f).casc = c.casc := (rfl)
@[simp] theorem Core.modTwin_drc (c : Core) (f : Twin → Twin) : (c.modTwin f).drc = c.drc := (rfl)
@[simp] theorem Core.modTwin_img (c : Core) (f : Twin → Twin) : (c.modTwin f).img = c.img := (rfl)
@[simp] theorem Core.modTwin_lum (c : Core) (f : Twin → Twin) : (c.modTwin f).lum = c.lum := (rfl)
@[simp] theorem Core.modTwin_mot (c : Core) (f : Twin → Twin) : (c.modTwin f).mot = c.mot := (rfl)
@[simp] theorem Core.modTwin_tim (c : Core) (f : Twin → Twin) : (c.modTwin f).tim = c.tim := (rfl)
@[simp] theorem Core.modTwin_hbr (c : Core) (f : Twin → Twin) : (c.modTwin f).hbr = c.hbr := (rfl)
@[simp] theorem Core.modTwin_rst (c : Core) (f : Twin → Twin) : (c.modTwin f).rst = c.rst := (rfl)
@[simp] theorem Core.modTwin_bst (c : Core) (f : Twin → Twin) : (c.modTwin f).bst = c.bst := (rfl)
@[simp] theorem Core.modTwin_pcie (c : Core) (f : Twin → Twin) : (c.modTwin f).pcie = c.pcie := (rfl)
@[simp] theorem Core.modTwin_planeDue (c : Core) (f : Twin → Twin) : (c.modTwin f).planeDue = c.planeDue := (rfl)
@[simp] theorem Core.modTwin_out (c : Core) (f : Twin → Twin) : (c.modTwin f).out = c.out := (rfl)
@[simp] theorem Core.modTwin_wq (c : Core) (f : Twin → Twin) : (c.modTwin f).wq = c.wq := (rfl)
@[simp] theorem Core.rd_modTwin (c : Core) (f : Twin → Twin) (g : Field) (j : Nat) : (c.modTwin f).rd g j = c.rd g j := (rfl)

/-! ### modCasc -/

@[simp] theorem Core.modCasc_regs (c : Core) (f : Casc → Casc) : (c.modCasc f).regs = c.regs := (rfl)
@[simp] theorem Core.modCasc_bootRegs (c : Core) (f : Casc → Casc) : (c.modCasc f).bootRegs = c.bootRegs := (rfl)
@[simp] theorem Core.modCasc_now (c : Core) (f : Casc → Casc) : (c.modCasc f).now = c.now := (rfl)
@[simp] theorem Core.modCasc_ticks (c : Core) (f : Casc → Casc) : (c.modCasc f).ticks = c.ticks := (rfl)
@[simp] theorem Core.modCasc_fresh (c : Core) (f : Casc → Casc) : (c.modCasc f).fresh = c.fresh := (rfl)
@[simp] theorem Core.modCasc_events (c : Core) (f : Casc → Casc) : (c.modCasc f).events = c.events := (rfl)
@[simp] theorem Core.modCasc_escHold (c : Core) (f : Casc → Casc) : (c.modCasc f).escHold = c.escHold := (rfl)
@[simp] theorem Core.modCasc_escSafe (c : Core) (f : Casc → Casc) : (c.modCasc f).escSafe = c.escSafe := (rfl)
@[simp] theorem Core.modCasc_tickW (c : Core) (f : Casc → Casc) : (c.modCasc f).tickW = c.tickW := (rfl)
@[simp] theorem Core.modCasc_slackW (c : Core) (f : Casc → Casc) : (c.modCasc f).slackW = c.slackW := (rfl)
@[simp] theorem Core.modCasc_psets (c : Core) (f : Casc → Casc) : (c.modCasc f).psets = c.psets := (rfl)
@[simp] theorem Core.modCasc_charts (c : Core) (f : Casc → Casc) : (c.modCasc f).charts = c.charts := (rfl)
@[simp] theorem Core.modCasc_pilot (c : Core) (f : Casc → Casc) : (c.modCasc f).pilot = c.pilot := (rfl)
@[simp] theorem Core.modCasc_ports (c : Core) (f : Casc → Casc) : (c.modCasc f).ports = c.ports := (rfl)
@[simp] theorem Core.modCasc_seq (c : Core) (f : Casc → Casc) : (c.modCasc f).seq = c.seq := (rfl)
@[simp] theorem Core.modCasc_layer (c : Core) (f : Casc → Casc) : (c.modCasc f).layer = c.layer := (rfl)
@[simp] theorem Core.modCasc_bwk (c : Core) (f : Casc → Casc) : (c.modCasc f).bwk = c.bwk := (rfl)
@[simp] theorem Core.modCasc_losses (c : Core) (f : Casc → Casc) : (c.modCasc f).losses = c.losses := (rfl)
@[simp] theorem Core.modCasc_surgeOrder (c : Core) (f : Casc → Casc) : (c.modCasc f).surgeOrder = c.surgeOrder := (rfl)
@[simp] theorem Core.modCasc_resWrite (c : Core) (f : Casc → Casc) : (c.modCasc f).resWrite = c.resWrite := (rfl)
@[simp] theorem Core.modCasc_log (c : Core) (f : Casc → Casc) : (c.modCasc f).log = c.log := (rfl)
@[simp] theorem Core.modCasc_twin (c : Core) (f : Casc → Casc) : (c.modCasc f).twin = c.twin := (rfl)
@[simp] theorem Core.modCasc_drc (c : Core) (f : Casc → Casc) : (c.modCasc f).drc = c.drc := (rfl)
@[simp] theorem Core.modCasc_img (c : Core) (f : Casc → Casc) : (c.modCasc f).img = c.img := (rfl)
@[simp] theorem Core.modCasc_lum (c : Core) (f : Casc → Casc) : (c.modCasc f).lum = c.lum := (rfl)
@[simp] theorem Core.modCasc_mot (c : Core) (f : Casc → Casc) : (c.modCasc f).mot = c.mot := (rfl)
@[simp] theorem Core.modCasc_tim (c : Core) (f : Casc → Casc) : (c.modCasc f).tim = c.tim := (rfl)
@[simp] theorem Core.modCasc_hbr (c : Core) (f : Casc → Casc) : (c.modCasc f).hbr = c.hbr := (rfl)
@[simp] theorem Core.modCasc_rst (c : Core) (f : Casc → Casc) : (c.modCasc f).rst = c.rst := (rfl)
@[simp] theorem Core.modCasc_bst (c : Core) (f : Casc → Casc) : (c.modCasc f).bst = c.bst := (rfl)
@[simp] theorem Core.modCasc_pcie (c : Core) (f : Casc → Casc) : (c.modCasc f).pcie = c.pcie := (rfl)
@[simp] theorem Core.modCasc_planeDue (c : Core) (f : Casc → Casc) : (c.modCasc f).planeDue = c.planeDue := (rfl)
@[simp] theorem Core.modCasc_out (c : Core) (f : Casc → Casc) : (c.modCasc f).out = c.out := (rfl)
@[simp] theorem Core.modCasc_wq (c : Core) (f : Casc → Casc) : (c.modCasc f).wq = c.wq := (rfl)
@[simp] theorem Core.rd_modCasc (c : Core) (f : Casc → Casc) (g : Field) (j : Nat) : (c.modCasc f).rd g j = c.rd g j := (rfl)

/-! ### modTim -/

@[simp] theorem Core.modTim_regs (c : Core) (f : Tim → Tim) : (c.modTim f).regs = c.regs := (rfl)
@[simp] theorem Core.modTim_bootRegs (c : Core) (f : Tim → Tim) : (c.modTim f).bootRegs = c.bootRegs := (rfl)
@[simp] theorem Core.modTim_now (c : Core) (f : Tim → Tim) : (c.modTim f).now = c.now := (rfl)
@[simp] theorem Core.modTim_ticks (c : Core) (f : Tim → Tim) : (c.modTim f).ticks = c.ticks := (rfl)
@[simp] theorem Core.modTim_fresh (c : Core) (f : Tim → Tim) : (c.modTim f).fresh = c.fresh := (rfl)
@[simp] theorem Core.modTim_events (c : Core) (f : Tim → Tim) : (c.modTim f).events = c.events := (rfl)
@[simp] theorem Core.modTim_escHold (c : Core) (f : Tim → Tim) : (c.modTim f).escHold = c.escHold := (rfl)
@[simp] theorem Core.modTim_escSafe (c : Core) (f : Tim → Tim) : (c.modTim f).escSafe = c.escSafe := (rfl)
@[simp] theorem Core.modTim_tickW (c : Core) (f : Tim → Tim) : (c.modTim f).tickW = c.tickW := (rfl)
@[simp] theorem Core.modTim_slackW (c : Core) (f : Tim → Tim) : (c.modTim f).slackW = c.slackW := (rfl)
@[simp] theorem Core.modTim_psets (c : Core) (f : Tim → Tim) : (c.modTim f).psets = c.psets := (rfl)
@[simp] theorem Core.modTim_charts (c : Core) (f : Tim → Tim) : (c.modTim f).charts = c.charts := (rfl)
@[simp] theorem Core.modTim_pilot (c : Core) (f : Tim → Tim) : (c.modTim f).pilot = c.pilot := (rfl)
@[simp] theorem Core.modTim_ports (c : Core) (f : Tim → Tim) : (c.modTim f).ports = c.ports := (rfl)
@[simp] theorem Core.modTim_seq (c : Core) (f : Tim → Tim) : (c.modTim f).seq = c.seq := (rfl)
@[simp] theorem Core.modTim_layer (c : Core) (f : Tim → Tim) : (c.modTim f).layer = c.layer := (rfl)
@[simp] theorem Core.modTim_bwk (c : Core) (f : Tim → Tim) : (c.modTim f).bwk = c.bwk := (rfl)
@[simp] theorem Core.modTim_losses (c : Core) (f : Tim → Tim) : (c.modTim f).losses = c.losses := (rfl)
@[simp] theorem Core.modTim_surgeOrder (c : Core) (f : Tim → Tim) : (c.modTim f).surgeOrder = c.surgeOrder := (rfl)
@[simp] theorem Core.modTim_resWrite (c : Core) (f : Tim → Tim) : (c.modTim f).resWrite = c.resWrite := (rfl)
@[simp] theorem Core.modTim_log (c : Core) (f : Tim → Tim) : (c.modTim f).log = c.log := (rfl)
@[simp] theorem Core.modTim_twin (c : Core) (f : Tim → Tim) : (c.modTim f).twin = c.twin := (rfl)
@[simp] theorem Core.modTim_casc (c : Core) (f : Tim → Tim) : (c.modTim f).casc = c.casc := (rfl)
@[simp] theorem Core.modTim_drc (c : Core) (f : Tim → Tim) : (c.modTim f).drc = c.drc := (rfl)
@[simp] theorem Core.modTim_img (c : Core) (f : Tim → Tim) : (c.modTim f).img = c.img := (rfl)
@[simp] theorem Core.modTim_lum (c : Core) (f : Tim → Tim) : (c.modTim f).lum = c.lum := (rfl)
@[simp] theorem Core.modTim_mot (c : Core) (f : Tim → Tim) : (c.modTim f).mot = c.mot := (rfl)
@[simp] theorem Core.modTim_hbr (c : Core) (f : Tim → Tim) : (c.modTim f).hbr = c.hbr := (rfl)
@[simp] theorem Core.modTim_rst (c : Core) (f : Tim → Tim) : (c.modTim f).rst = c.rst := (rfl)
@[simp] theorem Core.modTim_bst (c : Core) (f : Tim → Tim) : (c.modTim f).bst = c.bst := (rfl)
@[simp] theorem Core.modTim_pcie (c : Core) (f : Tim → Tim) : (c.modTim f).pcie = c.pcie := (rfl)
@[simp] theorem Core.modTim_planeDue (c : Core) (f : Tim → Tim) : (c.modTim f).planeDue = c.planeDue := (rfl)
@[simp] theorem Core.modTim_out (c : Core) (f : Tim → Tim) : (c.modTim f).out = c.out := (rfl)
@[simp] theorem Core.modTim_wq (c : Core) (f : Tim → Tim) : (c.modTim f).wq = c.wq := (rfl)
@[simp] theorem Core.rd_modTim (c : Core) (f : Tim → Tim) (g : Field) (j : Nat) : (c.modTim f).rd g j = c.rd g j := (rfl)

/-! ### modLog -/

@[simp] theorem Core.modLog_regs (c : Core) (f : LogBook → LogBook) : (c.modLog f).regs = c.regs := (rfl)
@[simp] theorem Core.modLog_bootRegs (c : Core) (f : LogBook → LogBook) : (c.modLog f).bootRegs = c.bootRegs := (rfl)
@[simp] theorem Core.modLog_now (c : Core) (f : LogBook → LogBook) : (c.modLog f).now = c.now := (rfl)
@[simp] theorem Core.modLog_ticks (c : Core) (f : LogBook → LogBook) : (c.modLog f).ticks = c.ticks := (rfl)
@[simp] theorem Core.modLog_fresh (c : Core) (f : LogBook → LogBook) : (c.modLog f).fresh = c.fresh := (rfl)
@[simp] theorem Core.modLog_events (c : Core) (f : LogBook → LogBook) : (c.modLog f).events = c.events := (rfl)
@[simp] theorem Core.modLog_escHold (c : Core) (f : LogBook → LogBook) : (c.modLog f).escHold = c.escHold := (rfl)
@[simp] theorem Core.modLog_escSafe (c : Core) (f : LogBook → LogBook) : (c.modLog f).escSafe = c.escSafe := (rfl)
@[simp] theorem Core.modLog_tickW (c : Core) (f : LogBook → LogBook) : (c.modLog f).tickW = c.tickW := (rfl)
@[simp] theorem Core.modLog_slackW (c : Core) (f : LogBook → LogBook) : (c.modLog f).slackW = c.slackW := (rfl)
@[simp] theorem Core.modLog_psets (c : Core) (f : LogBook → LogBook) : (c.modLog f).psets = c.psets := (rfl)
@[simp] theorem Core.modLog_charts (c : Core) (f : LogBook → LogBook) : (c.modLog f).charts = c.charts := (rfl)
@[simp] theorem Core.modLog_pilot (c : Core) (f : LogBook → LogBook) : (c.modLog f).pilot = c.pilot := (rfl)
@[simp] theorem Core.modLog_ports (c : Core) (f : LogBook → LogBook) : (c.modLog f).ports = c.ports := (rfl)
@[simp] theorem Core.modLog_seq (c : Core) (f : LogBook → LogBook) : (c.modLog f).seq = c.seq := (rfl)
@[simp] theorem Core.modLog_layer (c : Core) (f : LogBook → LogBook) : (c.modLog f).layer = c.layer := (rfl)
@[simp] theorem Core.modLog_bwk (c : Core) (f : LogBook → LogBook) : (c.modLog f).bwk = c.bwk := (rfl)
@[simp] theorem Core.modLog_losses (c : Core) (f : LogBook → LogBook) : (c.modLog f).losses = c.losses := (rfl)
@[simp] theorem Core.modLog_surgeOrder (c : Core) (f : LogBook → LogBook) : (c.modLog f).surgeOrder = c.surgeOrder := (rfl)
@[simp] theorem Core.modLog_resWrite (c : Core) (f : LogBook → LogBook) : (c.modLog f).resWrite = c.resWrite := (rfl)
@[simp] theorem Core.modLog_twin (c : Core) (f : LogBook → LogBook) : (c.modLog f).twin = c.twin := (rfl)
@[simp] theorem Core.modLog_casc (c : Core) (f : LogBook → LogBook) : (c.modLog f).casc = c.casc := (rfl)
@[simp] theorem Core.modLog_drc (c : Core) (f : LogBook → LogBook) : (c.modLog f).drc = c.drc := (rfl)
@[simp] theorem Core.modLog_img (c : Core) (f : LogBook → LogBook) : (c.modLog f).img = c.img := (rfl)
@[simp] theorem Core.modLog_lum (c : Core) (f : LogBook → LogBook) : (c.modLog f).lum = c.lum := (rfl)
@[simp] theorem Core.modLog_mot (c : Core) (f : LogBook → LogBook) : (c.modLog f).mot = c.mot := (rfl)
@[simp] theorem Core.modLog_tim (c : Core) (f : LogBook → LogBook) : (c.modLog f).tim = c.tim := (rfl)
@[simp] theorem Core.modLog_hbr (c : Core) (f : LogBook → LogBook) : (c.modLog f).hbr = c.hbr := (rfl)
@[simp] theorem Core.modLog_rst (c : Core) (f : LogBook → LogBook) : (c.modLog f).rst = c.rst := (rfl)
@[simp] theorem Core.modLog_bst (c : Core) (f : LogBook → LogBook) : (c.modLog f).bst = c.bst := (rfl)
@[simp] theorem Core.modLog_pcie (c : Core) (f : LogBook → LogBook) : (c.modLog f).pcie = c.pcie := (rfl)
@[simp] theorem Core.modLog_planeDue (c : Core) (f : LogBook → LogBook) : (c.modLog f).planeDue = c.planeDue := (rfl)
@[simp] theorem Core.modLog_out (c : Core) (f : LogBook → LogBook) : (c.modLog f).out = c.out := (rfl)
@[simp] theorem Core.modLog_wq (c : Core) (f : LogBook → LogBook) : (c.modLog f).wq = c.wq := (rfl)
@[simp] theorem Core.rd_modLog (c : Core) (f : LogBook → LogBook) (g : Field) (j : Nat) : (c.modLog f).rd g j = c.rd g j := (rfl)

/-! ### modDrc -/

@[simp] theorem Core.modDrc_regs (c : Core) (f : Drc → Drc) : (c.modDrc f).regs = c.regs := (rfl)
@[simp] theorem Core.modDrc_bootRegs (c : Core) (f : Drc → Drc) : (c.modDrc f).bootRegs = c.bootRegs := (rfl)
@[simp] theorem Core.modDrc_now (c : Core) (f : Drc → Drc) : (c.modDrc f).now = c.now := (rfl)
@[simp] theorem Core.modDrc_ticks (c : Core) (f : Drc → Drc) : (c.modDrc f).ticks = c.ticks := (rfl)
@[simp] theorem Core.modDrc_fresh (c : Core) (f : Drc → Drc) : (c.modDrc f).fresh = c.fresh := (rfl)
@[simp] theorem Core.modDrc_events (c : Core) (f : Drc → Drc) : (c.modDrc f).events = c.events := (rfl)
@[simp] theorem Core.modDrc_escHold (c : Core) (f : Drc → Drc) : (c.modDrc f).escHold = c.escHold := (rfl)
@[simp] theorem Core.modDrc_escSafe (c : Core) (f : Drc → Drc) : (c.modDrc f).escSafe = c.escSafe := (rfl)
@[simp] theorem Core.modDrc_tickW (c : Core) (f : Drc → Drc) : (c.modDrc f).tickW = c.tickW := (rfl)
@[simp] theorem Core.modDrc_slackW (c : Core) (f : Drc → Drc) : (c.modDrc f).slackW = c.slackW := (rfl)
@[simp] theorem Core.modDrc_psets (c : Core) (f : Drc → Drc) : (c.modDrc f).psets = c.psets := (rfl)
@[simp] theorem Core.modDrc_charts (c : Core) (f : Drc → Drc) : (c.modDrc f).charts = c.charts := (rfl)
@[simp] theorem Core.modDrc_pilot (c : Core) (f : Drc → Drc) : (c.modDrc f).pilot = c.pilot := (rfl)
@[simp] theorem Core.modDrc_ports (c : Core) (f : Drc → Drc) : (c.modDrc f).ports = c.ports := (rfl)
@[simp] theorem Core.modDrc_seq (c : Core) (f : Drc → Drc) : (c.modDrc f).seq = c.seq := (rfl)
@[simp] theorem Core.modDrc_layer (c : Core) (f : Drc → Drc) : (c.modDrc f).layer = c.layer := (rfl)
@[simp] theorem Core.modDrc_bwk (c : Core) (f : Drc → Drc) : (c.modDrc f).bwk = c.bwk := (rfl)
@[simp] theorem Core.modDrc_losses (c : Core) (f : Drc → Drc) : (c.modDrc f).losses = c.losses := (rfl)
@[simp] theorem Core.modDrc_surgeOrder (c : Core) (f : Drc → Drc) : (c.modDrc f).surgeOrder = c.surgeOrder := (rfl)
@[simp] theorem Core.modDrc_resWrite (c : Core) (f : Drc → Drc) : (c.modDrc f).resWrite = c.resWrite := (rfl)
@[simp] theorem Core.modDrc_log (c : Core) (f : Drc → Drc) : (c.modDrc f).log = c.log := (rfl)
@[simp] theorem Core.modDrc_twin (c : Core) (f : Drc → Drc) : (c.modDrc f).twin = c.twin := (rfl)
@[simp] theorem Core.modDrc_casc (c : Core) (f : Drc → Drc) : (c.modDrc f).casc = c.casc := (rfl)
@[simp] theorem Core.modDrc_img (c : Core) (f : Drc → Drc) : (c.modDrc f).img = c.img := (rfl)
@[simp] theorem Core.modDrc_lum (c : Core) (f : Drc → Drc) : (c.modDrc f).lum = c.lum := (rfl)
@[simp] theorem Core.modDrc_mot (c : Core) (f : Drc → Drc) : (c.modDrc f).mot = c.mot := (rfl)
@[simp] theorem Core.modDrc_tim (c : Core) (f : Drc → Drc) : (c.modDrc f).tim = c.tim := (rfl)
@[simp] theorem Core.modDrc_hbr (c : Core) (f : Drc → Drc) : (c.modDrc f).hbr = c.hbr := (rfl)
@[simp] theorem Core.modDrc_rst (c : Core) (f : Drc → Drc) : (c.modDrc f).rst = c.rst := (rfl)
@[simp] theorem Core.modDrc_bst (c : Core) (f : Drc → Drc) : (c.modDrc f).bst = c.bst := (rfl)
@[simp] theorem Core.modDrc_pcie (c : Core) (f : Drc → Drc) : (c.modDrc f).pcie = c.pcie := (rfl)
@[simp] theorem Core.modDrc_planeDue (c : Core) (f : Drc → Drc) : (c.modDrc f).planeDue = c.planeDue := (rfl)
@[simp] theorem Core.modDrc_out (c : Core) (f : Drc → Drc) : (c.modDrc f).out = c.out := (rfl)
@[simp] theorem Core.modDrc_wq (c : Core) (f : Drc → Drc) : (c.modDrc f).wq = c.wq := (rfl)
@[simp] theorem Core.rd_modDrc (c : Core) (f : Drc → Drc) (g : Field) (j : Nat) : (c.modDrc f).rd g j = c.rd g j := (rfl)

/-! ### modRst -/

@[simp] theorem Core.modRst_regs (c : Core) (f : RstSt → RstSt) : (c.modRst f).regs = c.regs := (rfl)
@[simp] theorem Core.modRst_bootRegs (c : Core) (f : RstSt → RstSt) : (c.modRst f).bootRegs = c.bootRegs := (rfl)
@[simp] theorem Core.modRst_now (c : Core) (f : RstSt → RstSt) : (c.modRst f).now = c.now := (rfl)
@[simp] theorem Core.modRst_ticks (c : Core) (f : RstSt → RstSt) : (c.modRst f).ticks = c.ticks := (rfl)
@[simp] theorem Core.modRst_fresh (c : Core) (f : RstSt → RstSt) : (c.modRst f).fresh = c.fresh := (rfl)
@[simp] theorem Core.modRst_events (c : Core) (f : RstSt → RstSt) : (c.modRst f).events = c.events := (rfl)
@[simp] theorem Core.modRst_escHold (c : Core) (f : RstSt → RstSt) : (c.modRst f).escHold = c.escHold := (rfl)
@[simp] theorem Core.modRst_escSafe (c : Core) (f : RstSt → RstSt) : (c.modRst f).escSafe = c.escSafe := (rfl)
@[simp] theorem Core.modRst_tickW (c : Core) (f : RstSt → RstSt) : (c.modRst f).tickW = c.tickW := (rfl)
@[simp] theorem Core.modRst_slackW (c : Core) (f : RstSt → RstSt) : (c.modRst f).slackW = c.slackW := (rfl)
@[simp] theorem Core.modRst_psets (c : Core) (f : RstSt → RstSt) : (c.modRst f).psets = c.psets := (rfl)
@[simp] theorem Core.modRst_charts (c : Core) (f : RstSt → RstSt) : (c.modRst f).charts = c.charts := (rfl)
@[simp] theorem Core.modRst_pilot (c : Core) (f : RstSt → RstSt) : (c.modRst f).pilot = c.pilot := (rfl)
@[simp] theorem Core.modRst_ports (c : Core) (f : RstSt → RstSt) : (c.modRst f).ports = c.ports := (rfl)
@[simp] theorem Core.modRst_seq (c : Core) (f : RstSt → RstSt) : (c.modRst f).seq = c.seq := (rfl)
@[simp] theorem Core.modRst_layer (c : Core) (f : RstSt → RstSt) : (c.modRst f).layer = c.layer := (rfl)
@[simp] theorem Core.modRst_bwk (c : Core) (f : RstSt → RstSt) : (c.modRst f).bwk = c.bwk := (rfl)
@[simp] theorem Core.modRst_losses (c : Core) (f : RstSt → RstSt) : (c.modRst f).losses = c.losses := (rfl)
@[simp] theorem Core.modRst_surgeOrder (c : Core) (f : RstSt → RstSt) : (c.modRst f).surgeOrder = c.surgeOrder := (rfl)
@[simp] theorem Core.modRst_resWrite (c : Core) (f : RstSt → RstSt) : (c.modRst f).resWrite = c.resWrite := (rfl)
@[simp] theorem Core.modRst_log (c : Core) (f : RstSt → RstSt) : (c.modRst f).log = c.log := (rfl)
@[simp] theorem Core.modRst_twin (c : Core) (f : RstSt → RstSt) : (c.modRst f).twin = c.twin := (rfl)
@[simp] theorem Core.modRst_casc (c : Core) (f : RstSt → RstSt) : (c.modRst f).casc = c.casc := (rfl)
@[simp] theorem Core.modRst_drc (c : Core) (f : RstSt → RstSt) : (c.modRst f).drc = c.drc := (rfl)
@[simp] theorem Core.modRst_img (c : Core) (f : RstSt → RstSt) : (c.modRst f).img = c.img := (rfl)
@[simp] theorem Core.modRst_lum (c : Core) (f : RstSt → RstSt) : (c.modRst f).lum = c.lum := (rfl)
@[simp] theorem Core.modRst_mot (c : Core) (f : RstSt → RstSt) : (c.modRst f).mot = c.mot := (rfl)
@[simp] theorem Core.modRst_tim (c : Core) (f : RstSt → RstSt) : (c.modRst f).tim = c.tim := (rfl)
@[simp] theorem Core.modRst_hbr (c : Core) (f : RstSt → RstSt) : (c.modRst f).hbr = c.hbr := (rfl)
@[simp] theorem Core.modRst_bst (c : Core) (f : RstSt → RstSt) : (c.modRst f).bst = c.bst := (rfl)
@[simp] theorem Core.modRst_pcie (c : Core) (f : RstSt → RstSt) : (c.modRst f).pcie = c.pcie := (rfl)
@[simp] theorem Core.modRst_planeDue (c : Core) (f : RstSt → RstSt) : (c.modRst f).planeDue = c.planeDue := (rfl)
@[simp] theorem Core.modRst_out (c : Core) (f : RstSt → RstSt) : (c.modRst f).out = c.out := (rfl)
@[simp] theorem Core.modRst_wq (c : Core) (f : RstSt → RstSt) : (c.modRst f).wq = c.wq := (rfl)
@[simp] theorem Core.rd_modRst (c : Core) (f : RstSt → RstSt) (g : Field) (j : Nat) : (c.modRst f).rd g j = c.rd g j := (rfl)

/-! ### modBst -/

@[simp] theorem Core.modBst_regs (c : Core) (f : Bst → Bst) : (c.modBst f).regs = c.regs := (rfl)
@[simp] theorem Core.modBst_bootRegs (c : Core) (f : Bst → Bst) : (c.modBst f).bootRegs = c.bootRegs := (rfl)
@[simp] theorem Core.modBst_now (c : Core) (f : Bst → Bst) : (c.modBst f).now = c.now := (rfl)
@[simp] theorem Core.modBst_ticks (c : Core) (f : Bst → Bst) : (c.modBst f).ticks = c.ticks := (rfl)
@[simp] theorem Core.modBst_fresh (c : Core) (f : Bst → Bst) : (c.modBst f).fresh = c.fresh := (rfl)
@[simp] theorem Core.modBst_events (c : Core) (f : Bst → Bst) : (c.modBst f).events = c.events := (rfl)
@[simp] theorem Core.modBst_escHold (c : Core) (f : Bst → Bst) : (c.modBst f).escHold = c.escHold := (rfl)
@[simp] theorem Core.modBst_escSafe (c : Core) (f : Bst → Bst) : (c.modBst f).escSafe = c.escSafe := (rfl)
@[simp] theorem Core.modBst_tickW (c : Core) (f : Bst → Bst) : (c.modBst f).tickW = c.tickW := (rfl)
@[simp] theorem Core.modBst_slackW (c : Core) (f : Bst → Bst) : (c.modBst f).slackW = c.slackW := (rfl)
@[simp] theorem Core.modBst_psets (c : Core) (f : Bst → Bst) : (c.modBst f).psets = c.psets := (rfl)
@[simp] theorem Core.modBst_charts (c : Core) (f : Bst → Bst) : (c.modBst f).charts = c.charts := (rfl)
@[simp] theorem Core.modBst_pilot (c : Core) (f : Bst → Bst) : (c.modBst f).pilot = c.pilot := (rfl)
@[simp] theorem Core.modBst_ports (c : Core) (f : Bst → Bst) : (c.modBst f).ports = c.ports := (rfl)
@[simp] theorem Core.modBst_seq (c : Core) (f : Bst → Bst) : (c.modBst f).seq = c.seq := (rfl)
@[simp] theorem Core.modBst_layer (c : Core) (f : Bst → Bst) : (c.modBst f).layer = c.layer := (rfl)
@[simp] theorem Core.modBst_bwk (c : Core) (f : Bst → Bst) : (c.modBst f).bwk = c.bwk := (rfl)
@[simp] theorem Core.modBst_losses (c : Core) (f : Bst → Bst) : (c.modBst f).losses = c.losses := (rfl)
@[simp] theorem Core.modBst_surgeOrder (c : Core) (f : Bst → Bst) : (c.modBst f).surgeOrder = c.surgeOrder := (rfl)
@[simp] theorem Core.modBst_resWrite (c : Core) (f : Bst → Bst) : (c.modBst f).resWrite = c.resWrite := (rfl)
@[simp] theorem Core.modBst_log (c : Core) (f : Bst → Bst) : (c.modBst f).log = c.log := (rfl)
@[simp] theorem Core.modBst_twin (c : Core) (f : Bst → Bst) : (c.modBst f).twin = c.twin := (rfl)
@[simp] theorem Core.modBst_casc (c : Core) (f : Bst → Bst) : (c.modBst f).casc = c.casc := (rfl)
@[simp] theorem Core.modBst_drc (c : Core) (f : Bst → Bst) : (c.modBst f).drc = c.drc := (rfl)
@[simp] theorem Core.modBst_img (c : Core) (f : Bst → Bst) : (c.modBst f).img = c.img := (rfl)
@[simp] theorem Core.modBst_lum (c : Core) (f : Bst → Bst) : (c.modBst f).lum = c.lum := (rfl)
@[simp] theorem Core.modBst_mot (c : Core) (f : Bst → Bst) : (c.modBst f).mot = c.mot := (rfl)
@[simp] theorem Core.modBst_tim (c : Core) (f : Bst → Bst) : (c.modBst f).tim = c.tim := (rfl)
@[simp] theorem Core.modBst_hbr (c : Core) (f : Bst → Bst) : (c.modBst f).hbr = c.hbr := (rfl)
@[simp] theorem Core.modBst_rst (c : Core) (f : Bst → Bst) : (c.modBst f).rst = c.rst := (rfl)
@[simp] theorem Core.modBst_pcie (c : Core) (f : Bst → Bst) : (c.modBst f).pcie = c.pcie := (rfl)
@[simp] theorem Core.modBst_planeDue (c : Core) (f : Bst → Bst) : (c.modBst f).planeDue = c.planeDue := (rfl)
@[simp] theorem Core.modBst_out (c : Core) (f : Bst → Bst) : (c.modBst f).out = c.out := (rfl)
@[simp] theorem Core.modBst_wq (c : Core) (f : Bst → Bst) : (c.modBst f).wq = c.wq := (rfl)
@[simp] theorem Core.rd_modBst (c : Core) (f : Bst → Bst) (g : Field) (j : Nat) : (c.modBst f).rd g j = c.rd g j := (rfl)

/-! ### setFlag -/

@[simp] theorem Core.setFlag_bootRegs (c : Core) (f : Field) (b : Bool) (i : Nat) : (c.setFlag f b i).bootRegs = c.bootRegs := (rfl)
@[simp] theorem Core.setFlag_now (c : Core) (f : Field) (b : Bool) (i : Nat) : (c.setFlag f b i).now = c.now := (rfl)
@[simp] theorem Core.setFlag_ticks (c : Core) (f : Field) (b : Bool) (i : Nat) : (c.setFlag f b i).ticks = c.ticks := (rfl)
@[simp] theorem Core.setFlag_fresh (c : Core) (f : Field) (b : Bool) (i : Nat) : (c.setFlag f b i).fresh = c.fresh := (rfl)
@[simp] theorem Core.setFlag_events (c : Core) (f : Field) (b : Bool) (i : Nat) : (c.setFlag f b i).events = c.events := (rfl)
@[simp] theorem Core.setFlag_escHold (c : Core) (f : Field) (b : Bool) (i : Nat) : (c.setFlag f b i).escHold = c.escHold := (rfl)
@[simp] theorem Core.setFlag_escSafe (c : Core) (f : Field) (b : Bool) (i : Nat) : (c.setFlag f b i).escSafe = c.escSafe := (rfl)
@[simp] theorem Core.setFlag_tickW (c : Core) (f : Field) (b : Bool) (i : Nat) : (c.setFlag f b i).tickW = c.tickW := (rfl)
@[simp] theorem Core.setFlag_slackW (c : Core) (f : Field) (b : Bool) (i : Nat) : (c.setFlag f b i).slackW = c.slackW := (rfl)
@[simp] theorem Core.setFlag_psets (c : Core) (f : Field) (b : Bool) (i : Nat) : (c.setFlag f b i).psets = c.psets := (rfl)
@[simp] theorem Core.setFlag_charts (c : Core) (f : Field) (b : Bool) (i : Nat) : (c.setFlag f b i).charts = c.charts := (rfl)
@[simp] theorem Core.setFlag_pilot (c : Core) (f : Field) (b : Bool) (i : Nat) : (c.setFlag f b i).pilot = c.pilot := (rfl)
@[simp] theorem Core.setFlag_ports (c : Core) (f : Field) (b : Bool) (i : Nat) : (c.setFlag f b i).ports = c.ports := (rfl)
@[simp] theorem Core.setFlag_seq (c : Core) (f : Field) (b : Bool) (i : Nat) : (c.setFlag f b i).seq = c.seq := (rfl)
@[simp] theorem Core.setFlag_layer (c : Core) (f : Field) (b : Bool) (i : Nat) : (c.setFlag f b i).layer = c.layer := (rfl)
@[simp] theorem Core.setFlag_bwk (c : Core) (f : Field) (b : Bool) (i : Nat) : (c.setFlag f b i).bwk = c.bwk := (rfl)
@[simp] theorem Core.setFlag_losses (c : Core) (f : Field) (b : Bool) (i : Nat) : (c.setFlag f b i).losses = c.losses := (rfl)
@[simp] theorem Core.setFlag_surgeOrder (c : Core) (f : Field) (b : Bool) (i : Nat) : (c.setFlag f b i).surgeOrder = c.surgeOrder := (rfl)
@[simp] theorem Core.setFlag_resWrite (c : Core) (f : Field) (b : Bool) (i : Nat) : (c.setFlag f b i).resWrite = c.resWrite := (rfl)
@[simp] theorem Core.setFlag_log (c : Core) (f : Field) (b : Bool) (i : Nat) : (c.setFlag f b i).log = c.log := (rfl)
@[simp] theorem Core.setFlag_twin (c : Core) (f : Field) (b : Bool) (i : Nat) : (c.setFlag f b i).twin = c.twin := (rfl)
@[simp] theorem Core.setFlag_casc (c : Core) (f : Field) (b : Bool) (i : Nat) : (c.setFlag f b i).casc = c.casc := (rfl)
@[simp] theorem Core.setFlag_drc (c : Core) (f : Field) (b : Bool) (i : Nat) : (c.setFlag f b i).drc = c.drc := (rfl)
@[simp] theorem Core.setFlag_img (c : Core) (f : Field) (b : Bool) (i : Nat) : (c.setFlag f b i).img = c.img := (rfl)
@[simp] theorem Core.setFlag_lum (c : Core) (f : Field) (b : Bool) (i : Nat) : (c.setFlag f b i).lum = c.lum := (rfl)
@[simp] theorem Core.setFlag_mot (c : Core) (f : Field) (b : Bool) (i : Nat) : (c.setFlag f b i).mot = c.mot := (rfl)
@[simp] theorem Core.setFlag_tim (c : Core) (f : Field) (b : Bool) (i : Nat) : (c.setFlag f b i).tim = c.tim := (rfl)
@[simp] theorem Core.setFlag_hbr (c : Core) (f : Field) (b : Bool) (i : Nat) : (c.setFlag f b i).hbr = c.hbr := (rfl)
@[simp] theorem Core.setFlag_rst (c : Core) (f : Field) (b : Bool) (i : Nat) : (c.setFlag f b i).rst = c.rst := (rfl)
@[simp] theorem Core.setFlag_bst (c : Core) (f : Field) (b : Bool) (i : Nat) : (c.setFlag f b i).bst = c.bst := (rfl)
@[simp] theorem Core.setFlag_pcie (c : Core) (f : Field) (b : Bool) (i : Nat) : (c.setFlag f b i).pcie = c.pcie := (rfl)
@[simp] theorem Core.setFlag_planeDue (c : Core) (f : Field) (b : Bool) (i : Nat) : (c.setFlag f b i).planeDue = c.planeDue := (rfl)
@[simp] theorem Core.setFlag_out (c : Core) (f : Field) (b : Bool) (i : Nat) : (c.setFlag f b i).out = c.out := (rfl)
@[simp] theorem Core.setFlag_wq (c : Core) (f : Field) (b : Bool) (i : Nat) : (c.setFlag f b i).wq = c.wq := (rfl)

/-! ### inc -/

@[simp] theorem Core.inc_bootRegs (c : Core) (f : Field) (i n : Nat) : (c.inc f i n).bootRegs = c.bootRegs := (rfl)
@[simp] theorem Core.inc_now (c : Core) (f : Field) (i n : Nat) : (c.inc f i n).now = c.now := (rfl)
@[simp] theorem Core.inc_ticks (c : Core) (f : Field) (i n : Nat) : (c.inc f i n).ticks = c.ticks := (rfl)
@[simp] theorem Core.inc_fresh (c : Core) (f : Field) (i n : Nat) : (c.inc f i n).fresh = c.fresh := (rfl)
@[simp] theorem Core.inc_events (c : Core) (f : Field) (i n : Nat) : (c.inc f i n).events = c.events := (rfl)
@[simp] theorem Core.inc_escHold (c : Core) (f : Field) (i n : Nat) : (c.inc f i n).escHold = c.escHold := (rfl)
@[simp] theorem Core.inc_escSafe (c : Core) (f : Field) (i n : Nat) : (c.inc f i n).escSafe = c.escSafe := (rfl)
@[simp] theorem Core.inc_tickW (c : Core) (f : Field) (i n : Nat) : (c.inc f i n).tickW = c.tickW := (rfl)
@[simp] theorem Core.inc_slackW (c : Core) (f : Field) (i n : Nat) : (c.inc f i n).slackW = c.slackW := (rfl)
@[simp] theorem Core.inc_psets (c : Core) (f : Field) (i n : Nat) : (c.inc f i n).psets = c.psets := (rfl)
@[simp] theorem Core.inc_charts (c : Core) (f : Field) (i n : Nat) : (c.inc f i n).charts = c.charts := (rfl)
@[simp] theorem Core.inc_pilot (c : Core) (f : Field) (i n : Nat) : (c.inc f i n).pilot = c.pilot := (rfl)
@[simp] theorem Core.inc_ports (c : Core) (f : Field) (i n : Nat) : (c.inc f i n).ports = c.ports := (rfl)
@[simp] theorem Core.inc_seq (c : Core) (f : Field) (i n : Nat) : (c.inc f i n).seq = c.seq := (rfl)
@[simp] theorem Core.inc_layer (c : Core) (f : Field) (i n : Nat) : (c.inc f i n).layer = c.layer := (rfl)
@[simp] theorem Core.inc_bwk (c : Core) (f : Field) (i n : Nat) : (c.inc f i n).bwk = c.bwk := (rfl)
@[simp] theorem Core.inc_losses (c : Core) (f : Field) (i n : Nat) : (c.inc f i n).losses = c.losses := (rfl)
@[simp] theorem Core.inc_surgeOrder (c : Core) (f : Field) (i n : Nat) : (c.inc f i n).surgeOrder = c.surgeOrder := (rfl)
@[simp] theorem Core.inc_resWrite (c : Core) (f : Field) (i n : Nat) : (c.inc f i n).resWrite = c.resWrite := (rfl)
@[simp] theorem Core.inc_log (c : Core) (f : Field) (i n : Nat) : (c.inc f i n).log = c.log := (rfl)
@[simp] theorem Core.inc_twin (c : Core) (f : Field) (i n : Nat) : (c.inc f i n).twin = c.twin := (rfl)
@[simp] theorem Core.inc_casc (c : Core) (f : Field) (i n : Nat) : (c.inc f i n).casc = c.casc := (rfl)
@[simp] theorem Core.inc_drc (c : Core) (f : Field) (i n : Nat) : (c.inc f i n).drc = c.drc := (rfl)
@[simp] theorem Core.inc_img (c : Core) (f : Field) (i n : Nat) : (c.inc f i n).img = c.img := (rfl)
@[simp] theorem Core.inc_lum (c : Core) (f : Field) (i n : Nat) : (c.inc f i n).lum = c.lum := (rfl)
@[simp] theorem Core.inc_mot (c : Core) (f : Field) (i n : Nat) : (c.inc f i n).mot = c.mot := (rfl)
@[simp] theorem Core.inc_tim (c : Core) (f : Field) (i n : Nat) : (c.inc f i n).tim = c.tim := (rfl)
@[simp] theorem Core.inc_hbr (c : Core) (f : Field) (i n : Nat) : (c.inc f i n).hbr = c.hbr := (rfl)
@[simp] theorem Core.inc_rst (c : Core) (f : Field) (i n : Nat) : (c.inc f i n).rst = c.rst := (rfl)
@[simp] theorem Core.inc_bst (c : Core) (f : Field) (i n : Nat) : (c.inc f i n).bst = c.bst := (rfl)
@[simp] theorem Core.inc_pcie (c : Core) (f : Field) (i n : Nat) : (c.inc f i n).pcie = c.pcie := (rfl)
@[simp] theorem Core.inc_planeDue (c : Core) (f : Field) (i n : Nat) : (c.inc f i n).planeDue = c.planeDue := (rfl)
@[simp] theorem Core.inc_out (c : Core) (f : Field) (i n : Nat) : (c.inc f i n).out = c.out := (rfl)
@[simp] theorem Core.inc_wq (c : Core) (f : Field) (i n : Nat) : (c.inc f i n).wq = c.wq := (rfl)

/-! ### wrI -/

@[simp] theorem Core.wrI_bootRegs (c : Core) (f : Field) (v : Int) (i : Nat) : (c.wrI f v i).bootRegs = c.bootRegs := (rfl)
@[simp] theorem Core.wrI_now (c : Core) (f : Field) (v : Int) (i : Nat) : (c.wrI f v i).now = c.now := (rfl)
@[simp] theorem Core.wrI_ticks (c : Core) (f : Field) (v : Int) (i : Nat) : (c.wrI f v i).ticks = c.ticks := (rfl)
@[simp] theorem Core.wrI_fresh (c : Core) (f : Field) (v : Int) (i : Nat) : (c.wrI f v i).fresh = c.fresh := (rfl)
@[simp] theorem Core.wrI_events (c : Core) (f : Field) (v : Int) (i : Nat) : (c.wrI f v i).events = c.events := (rfl)
@[simp] theorem Core.wrI_escHold (c : Core) (f : Field) (v : Int) (i : Nat) : (c.wrI f v i).escHold = c.escHold := (rfl)
@[simp] theorem Core.wrI_escSafe (c : Core) (f : Field) (v : Int) (i : Nat) : (c.wrI f v i).escSafe = c.escSafe := (rfl)
@[simp] theorem Core.wrI_tickW (c : Core) (f : Field) (v : Int) (i : Nat) : (c.wrI f v i).tickW = c.tickW := (rfl)
@[simp] theorem Core.wrI_slackW (c : Core) (f : Field) (v : Int) (i : Nat) : (c.wrI f v i).slackW = c.slackW := (rfl)
@[simp] theorem Core.wrI_psets (c : Core) (f : Field) (v : Int) (i : Nat) : (c.wrI f v i).psets = c.psets := (rfl)
@[simp] theorem Core.wrI_charts (c : Core) (f : Field) (v : Int) (i : Nat) : (c.wrI f v i).charts = c.charts := (rfl)
@[simp] theorem Core.wrI_pilot (c : Core) (f : Field) (v : Int) (i : Nat) : (c.wrI f v i).pilot = c.pilot := (rfl)
@[simp] theorem Core.wrI_ports (c : Core) (f : Field) (v : Int) (i : Nat) : (c.wrI f v i).ports = c.ports := (rfl)
@[simp] theorem Core.wrI_seq (c : Core) (f : Field) (v : Int) (i : Nat) : (c.wrI f v i).seq = c.seq := (rfl)
@[simp] theorem Core.wrI_layer (c : Core) (f : Field) (v : Int) (i : Nat) : (c.wrI f v i).layer = c.layer := (rfl)
@[simp] theorem Core.wrI_bwk (c : Core) (f : Field) (v : Int) (i : Nat) : (c.wrI f v i).bwk = c.bwk := (rfl)
@[simp] theorem Core.wrI_losses (c : Core) (f : Field) (v : Int) (i : Nat) : (c.wrI f v i).losses = c.losses := (rfl)
@[simp] theorem Core.wrI_surgeOrder (c : Core) (f : Field) (v : Int) (i : Nat) : (c.wrI f v i).surgeOrder = c.surgeOrder := (rfl)
@[simp] theorem Core.wrI_resWrite (c : Core) (f : Field) (v : Int) (i : Nat) : (c.wrI f v i).resWrite = c.resWrite := (rfl)
@[simp] theorem Core.wrI_log (c : Core) (f : Field) (v : Int) (i : Nat) : (c.wrI f v i).log = c.log := (rfl)
@[simp] theorem Core.wrI_twin (c : Core) (f : Field) (v : Int) (i : Nat) : (c.wrI f v i).twin = c.twin := (rfl)
@[simp] theorem Core.wrI_casc (c : Core) (f : Field) (v : Int) (i : Nat) : (c.wrI f v i).casc = c.casc := (rfl)
@[simp] theorem Core.wrI_drc (c : Core) (f : Field) (v : Int) (i : Nat) : (c.wrI f v i).drc = c.drc := (rfl)
@[simp] theorem Core.wrI_img (c : Core) (f : Field) (v : Int) (i : Nat) : (c.wrI f v i).img = c.img := (rfl)
@[simp] theorem Core.wrI_lum (c : Core) (f : Field) (v : Int) (i : Nat) : (c.wrI f v i).lum = c.lum := (rfl)
@[simp] theorem Core.wrI_mot (c : Core) (f : Field) (v : Int) (i : Nat) : (c.wrI f v i).mot = c.mot := (rfl)
@[simp] theorem Core.wrI_tim (c : Core) (f : Field) (v : Int) (i : Nat) : (c.wrI f v i).tim = c.tim := (rfl)
@[simp] theorem Core.wrI_hbr (c : Core) (f : Field) (v : Int) (i : Nat) : (c.wrI f v i).hbr = c.hbr := (rfl)
@[simp] theorem Core.wrI_rst (c : Core) (f : Field) (v : Int) (i : Nat) : (c.wrI f v i).rst = c.rst := (rfl)
@[simp] theorem Core.wrI_bst (c : Core) (f : Field) (v : Int) (i : Nat) : (c.wrI f v i).bst = c.bst := (rfl)
@[simp] theorem Core.wrI_pcie (c : Core) (f : Field) (v : Int) (i : Nat) : (c.wrI f v i).pcie = c.pcie := (rfl)
@[simp] theorem Core.wrI_planeDue (c : Core) (f : Field) (v : Int) (i : Nat) : (c.wrI f v i).planeDue = c.planeDue := (rfl)
@[simp] theorem Core.wrI_out (c : Core) (f : Field) (v : Int) (i : Nat) : (c.wrI f v i).out = c.out := (rfl)
@[simp] theorem Core.wrI_wq (c : Core) (f : Field) (v : Int) (i : Nat) : (c.wrI f v i).wq = c.wq := (rfl)

/-! ### keepMax -/

@[simp] theorem Core.keepMax_bootRegs (c : Core) (f : Field) (v i : Nat) : (c.keepMax f v i).bootRegs = c.bootRegs := (rfl)
@[simp] theorem Core.keepMax_now (c : Core) (f : Field) (v i : Nat) : (c.keepMax f v i).now = c.now := (rfl)
@[simp] theorem Core.keepMax_ticks (c : Core) (f : Field) (v i : Nat) : (c.keepMax f v i).ticks = c.ticks := (rfl)
@[simp] theorem Core.keepMax_fresh (c : Core) (f : Field) (v i : Nat) : (c.keepMax f v i).fresh = c.fresh := (rfl)
@[simp] theorem Core.keepMax_events (c : Core) (f : Field) (v i : Nat) : (c.keepMax f v i).events = c.events := (rfl)
@[simp] theorem Core.keepMax_escHold (c : Core) (f : Field) (v i : Nat) : (c.keepMax f v i).escHold = c.escHold := (rfl)
@[simp] theorem Core.keepMax_escSafe (c : Core) (f : Field) (v i : Nat) : (c.keepMax f v i).escSafe = c.escSafe := (rfl)
@[simp] theorem Core.keepMax_tickW (c : Core) (f : Field) (v i : Nat) : (c.keepMax f v i).tickW = c.tickW := (rfl)
@[simp] theorem Core.keepMax_slackW (c : Core) (f : Field) (v i : Nat) : (c.keepMax f v i).slackW = c.slackW := (rfl)
@[simp] theorem Core.keepMax_psets (c : Core) (f : Field) (v i : Nat) : (c.keepMax f v i).psets = c.psets := (rfl)
@[simp] theorem Core.keepMax_charts (c : Core) (f : Field) (v i : Nat) : (c.keepMax f v i).charts = c.charts := (rfl)
@[simp] theorem Core.keepMax_pilot (c : Core) (f : Field) (v i : Nat) : (c.keepMax f v i).pilot = c.pilot := (rfl)
@[simp] theorem Core.keepMax_ports (c : Core) (f : Field) (v i : Nat) : (c.keepMax f v i).ports = c.ports := (rfl)
@[simp] theorem Core.keepMax_seq (c : Core) (f : Field) (v i : Nat) : (c.keepMax f v i).seq = c.seq := (rfl)
@[simp] theorem Core.keepMax_layer (c : Core) (f : Field) (v i : Nat) : (c.keepMax f v i).layer = c.layer := (rfl)
@[simp] theorem Core.keepMax_bwk (c : Core) (f : Field) (v i : Nat) : (c.keepMax f v i).bwk = c.bwk := (rfl)
@[simp] theorem Core.keepMax_losses (c : Core) (f : Field) (v i : Nat) : (c.keepMax f v i).losses = c.losses := (rfl)
@[simp] theorem Core.keepMax_surgeOrder (c : Core) (f : Field) (v i : Nat) : (c.keepMax f v i).surgeOrder = c.surgeOrder := (rfl)
@[simp] theorem Core.keepMax_resWrite (c : Core) (f : Field) (v i : Nat) : (c.keepMax f v i).resWrite = c.resWrite := (rfl)
@[simp] theorem Core.keepMax_log (c : Core) (f : Field) (v i : Nat) : (c.keepMax f v i).log = c.log := (rfl)
@[simp] theorem Core.keepMax_twin (c : Core) (f : Field) (v i : Nat) : (c.keepMax f v i).twin = c.twin := (rfl)
@[simp] theorem Core.keepMax_casc (c : Core) (f : Field) (v i : Nat) : (c.keepMax f v i).casc = c.casc := (rfl)
@[simp] theorem Core.keepMax_drc (c : Core) (f : Field) (v i : Nat) : (c.keepMax f v i).drc = c.drc := (rfl)
@[simp] theorem Core.keepMax_img (c : Core) (f : Field) (v i : Nat) : (c.keepMax f v i).img = c.img := (rfl)
@[simp] theorem Core.keepMax_lum (c : Core) (f : Field) (v i : Nat) : (c.keepMax f v i).lum = c.lum := (rfl)
@[simp] theorem Core.keepMax_mot (c : Core) (f : Field) (v i : Nat) : (c.keepMax f v i).mot = c.mot := (rfl)
@[simp] theorem Core.keepMax_tim (c : Core) (f : Field) (v i : Nat) : (c.keepMax f v i).tim = c.tim := (rfl)
@[simp] theorem Core.keepMax_hbr (c : Core) (f : Field) (v i : Nat) : (c.keepMax f v i).hbr = c.hbr := (rfl)
@[simp] theorem Core.keepMax_rst (c : Core) (f : Field) (v i : Nat) : (c.keepMax f v i).rst = c.rst := (rfl)
@[simp] theorem Core.keepMax_bst (c : Core) (f : Field) (v i : Nat) : (c.keepMax f v i).bst = c.bst := (rfl)
@[simp] theorem Core.keepMax_pcie (c : Core) (f : Field) (v i : Nat) : (c.keepMax f v i).pcie = c.pcie := (rfl)
@[simp] theorem Core.keepMax_planeDue (c : Core) (f : Field) (v i : Nat) : (c.keepMax f v i).planeDue = c.planeDue := (rfl)
@[simp] theorem Core.keepMax_out (c : Core) (f : Field) (v i : Nat) : (c.keepMax f v i).out = c.out := (rfl)
@[simp] theorem Core.keepMax_wq (c : Core) (f : Field) (v i : Nat) : (c.keepMax f v i).wq = c.wq := (rfl)

/-! ### setBwk -/

@[simp] theorem Core.setBwk_regs (c : Core) (b : Bwk) : (c.setBwk b).regs = c.regs := (rfl)
@[simp] theorem Core.setBwk_bootRegs (c : Core) (b : Bwk) : (c.setBwk b).bootRegs = c.bootRegs := (rfl)
@[simp] theorem Core.setBwk_now (c : Core) (b : Bwk) : (c.setBwk b).now = c.now := (rfl)
@[simp] theorem Core.setBwk_ticks (c : Core) (b : Bwk) : (c.setBwk b).ticks = c.ticks := (rfl)
@[simp] theorem Core.setBwk_fresh (c : Core) (b : Bwk) : (c.setBwk b).fresh = c.fresh := (rfl)
@[simp] theorem Core.setBwk_events (c : Core) (b : Bwk) : (c.setBwk b).events = c.events := (rfl)
@[simp] theorem Core.setBwk_escHold (c : Core) (b : Bwk) : (c.setBwk b).escHold = c.escHold := (rfl)
@[simp] theorem Core.setBwk_escSafe (c : Core) (b : Bwk) : (c.setBwk b).escSafe = c.escSafe := (rfl)
@[simp] theorem Core.setBwk_tickW (c : Core) (b : Bwk) : (c.setBwk b).tickW = c.tickW := (rfl)
@[simp] theorem Core.setBwk_slackW (c : Core) (b : Bwk) : (c.setBwk b).slackW = c.slackW := (rfl)
@[simp] theorem Core.setBwk_psets (c : Core) (b : Bwk) : (c.setBwk b).psets = c.psets := (rfl)
@[simp] theorem Core.setBwk_charts (c : Core) (b : Bwk) : (c.setBwk b).charts = c.charts := (rfl)
@[simp] theorem Core.setBwk_pilot (c : Core) (b : Bwk) : (c.setBwk b).pilot = c.pilot := (rfl)
@[simp] theorem Core.setBwk_ports (c : Core) (b : Bwk) : (c.setBwk b).ports = c.ports := (rfl)
@[simp] theorem Core.setBwk_seq (c : Core) (b : Bwk) : (c.setBwk b).seq = c.seq := (rfl)
@[simp] theorem Core.setBwk_layer (c : Core) (b : Bwk) : (c.setBwk b).layer = c.layer := (rfl)
@[simp] theorem Core.setBwk_losses (c : Core) (b : Bwk) : (c.setBwk b).losses = c.losses := (rfl)
@[simp] theorem Core.setBwk_surgeOrder (c : Core) (b : Bwk) : (c.setBwk b).surgeOrder = c.surgeOrder := (rfl)
@[simp] theorem Core.setBwk_resWrite (c : Core) (b : Bwk) : (c.setBwk b).resWrite = c.resWrite := (rfl)
@[simp] theorem Core.setBwk_log (c : Core) (b : Bwk) : (c.setBwk b).log = c.log := (rfl)
@[simp] theorem Core.setBwk_twin (c : Core) (b : Bwk) : (c.setBwk b).twin = c.twin := (rfl)
@[simp] theorem Core.setBwk_casc (c : Core) (b : Bwk) : (c.setBwk b).casc = c.casc := (rfl)
@[simp] theorem Core.setBwk_drc (c : Core) (b : Bwk) : (c.setBwk b).drc = c.drc := (rfl)
@[simp] theorem Core.setBwk_img (c : Core) (b : Bwk) : (c.setBwk b).img = c.img := (rfl)
@[simp] theorem Core.setBwk_lum (c : Core) (b : Bwk) : (c.setBwk b).lum = c.lum := (rfl)
@[simp] theorem Core.setBwk_mot (c : Core) (b : Bwk) : (c.setBwk b).mot = c.mot := (rfl)
@[simp] theorem Core.setBwk_tim (c : Core) (b : Bwk) : (c.setBwk b).tim = c.tim := (rfl)
@[simp] theorem Core.setBwk_hbr (c : Core) (b : Bwk) : (c.setBwk b).hbr = c.hbr := (rfl)
@[simp] theorem Core.setBwk_rst (c : Core) (b : Bwk) : (c.setBwk b).rst = c.rst := (rfl)
@[simp] theorem Core.setBwk_bst (c : Core) (b : Bwk) : (c.setBwk b).bst = c.bst := (rfl)
@[simp] theorem Core.setBwk_pcie (c : Core) (b : Bwk) : (c.setBwk b).pcie = c.pcie := (rfl)
@[simp] theorem Core.setBwk_planeDue (c : Core) (b : Bwk) : (c.setBwk b).planeDue = c.planeDue := (rfl)
@[simp] theorem Core.setBwk_out (c : Core) (b : Bwk) : (c.setBwk b).out = c.out := (rfl)
@[simp] theorem Core.setBwk_wq (c : Core) (b : Bwk) : (c.setBwk b).wq = c.wq := (rfl)
@[simp] theorem Core.rd_setBwk (c : Core) (b : Bwk) (g : Field) (j : Nat) : (c.setBwk b).rd g j = c.rd g j := (rfl)

/-! ### modSink -/

@[simp] theorem Core.modSink_regs (c : Core) (n : Nat) (f : Sink → Sink) : (c.modSink n f).regs = c.regs := (rfl)
@[simp] theorem Core.modSink_bootRegs (c : Core) (n : Nat) (f : Sink → Sink) : (c.modSink n f).bootRegs = c.bootRegs := (rfl)
@[simp] theorem Core.modSink_now (c : Core) (n : Nat) (f : Sink → Sink) : (c.modSink n f).now = c.now := (rfl)
@[simp] theorem Core.modSink_ticks (c : Core) (n : Nat) (f : Sink → Sink) : (c.modSink n f).ticks = c.ticks := (rfl)
@[simp] theorem Core.modSink_fresh (c : Core) (n : Nat) (f : Sink → Sink) : (c.modSink n f).fresh = c.fresh := (rfl)
@[simp] theorem Core.modSink_events (c : Core) (n : Nat) (f : Sink → Sink) : (c.modSink n f).events = c.events := (rfl)
@[simp] theorem Core.modSink_escHold (c : Core) (n : Nat) (f : Sink → Sink) : (c.modSink n f).escHold = c.escHold := (rfl)
@[simp] theorem Core.modSink_escSafe (c : Core) (n : Nat) (f : Sink → Sink) : (c.modSink n f).escSafe = c.escSafe := (rfl)
@[simp] theorem Core.modSink_tickW (c : Core) (n : Nat) (f : Sink → Sink) : (c.modSink n f).tickW = c.tickW := (rfl)
@[simp] theorem Core.modSink_slackW (c : Core) (n : Nat) (f : Sink → Sink) : (c.modSink n f).slackW = c.slackW := (rfl)
@[simp] theorem Core.modSink_psets (c : Core) (n : Nat) (f : Sink → Sink) : (c.modSink n f).psets = c.psets := (rfl)
@[simp] theorem Core.modSink_charts (c : Core) (n : Nat) (f : Sink → Sink) : (c.modSink n f).charts = c.charts := (rfl)
@[simp] theorem Core.modSink_pilot (c : Core) (n : Nat) (f : Sink → Sink) : (c.modSink n f).pilot = c.pilot := (rfl)
@[simp] theorem Core.modSink_ports (c : Core) (n : Nat) (f : Sink → Sink) : (c.modSink n f).ports = c.ports := (rfl)
@[simp] theorem Core.modSink_seq (c : Core) (n : Nat) (f : Sink → Sink) : (c.modSink n f).seq = c.seq := (rfl)
@[simp] theorem Core.modSink_layer (c : Core) (n : Nat) (f : Sink → Sink) : (c.modSink n f).layer = c.layer := (rfl)
@[simp] theorem Core.modSink_bwk (c : Core) (n : Nat) (f : Sink → Sink) : (c.modSink n f).bwk = c.bwk := (rfl)
@[simp] theorem Core.modSink_losses (c : Core) (n : Nat) (f : Sink → Sink) : (c.modSink n f).losses = c.losses := (rfl)
@[simp] theorem Core.modSink_surgeOrder (c : Core) (n : Nat) (f : Sink → Sink) : (c.modSink n f).surgeOrder = c.surgeOrder := (rfl)
@[simp] theorem Core.modSink_resWrite (c : Core) (n : Nat) (f : Sink → Sink) : (c.modSink n f).resWrite = c.resWrite := (rfl)
@[simp] theorem Core.modSink_log (c : Core) (n : Nat) (f : Sink → Sink) : (c.modSink n f).log = c.log := (rfl)
@[simp] theorem Core.modSink_twin (c : Core) (n : Nat) (f : Sink → Sink) : (c.modSink n f).twin = c.twin := (rfl)
@[simp] theorem Core.modSink_casc (c : Core) (n : Nat) (f : Sink → Sink) : (c.modSink n f).casc = c.casc := (rfl)
@[simp] theorem Core.modSink_drc (c : Core) (n : Nat) (f : Sink → Sink) : (c.modSink n f).drc = c.drc := (rfl)
@[simp] theorem Core.modSink_img (c : Core) (n : Nat) (f : Sink → Sink) : (c.modSink n f).img = c.img := (rfl)
@[simp] theorem Core.modSink_mot (c : Core) (n : Nat) (f : Sink → Sink) : (c.modSink n f).mot = c.mot := (rfl)
@[simp] theorem Core.modSink_tim (c : Core) (n : Nat) (f : Sink → Sink) : (c.modSink n f).tim = c.tim := (rfl)
@[simp] theorem Core.modSink_hbr (c : Core) (n : Nat) (f : Sink → Sink) : (c.modSink n f).hbr = c.hbr := (rfl)
@[simp] theorem Core.modSink_rst (c : Core) (n : Nat) (f : Sink → Sink) : (c.modSink n f).rst = c.rst := (rfl)
@[simp] theorem Core.modSink_bst (c : Core) (n : Nat) (f : Sink → Sink) : (c.modSink n f).bst = c.bst := (rfl)
@[simp] theorem Core.modSink_pcie (c : Core) (n : Nat) (f : Sink → Sink) : (c.modSink n f).pcie = c.pcie := (rfl)
@[simp] theorem Core.modSink_planeDue (c : Core) (n : Nat) (f : Sink → Sink) : (c.modSink n f).planeDue = c.planeDue := (rfl)
@[simp] theorem Core.modSink_out (c : Core) (n : Nat) (f : Sink → Sink) : (c.modSink n f).out = c.out := (rfl)
@[simp] theorem Core.modSink_wq (c : Core) (n : Nat) (f : Sink → Sink) : (c.modSink n f).wq = c.wq := (rfl)
@[simp] theorem Core.rd_modSink (c : Core) (n : Nat) (f : Sink → Sink) (g : Field) (j : Nat) : (c.modSink n f).rd g j = c.rd g j := (rfl)

/-! ### modShw -/

@[simp] theorem Core.modShw_regs (c : Core) (n : Nat) (f : Shw → Shw) : (c.modShw n f).regs = c.regs := (rfl)
@[simp] theorem Core.modShw_bootRegs (c : Core) (n : Nat) (f : Shw → Shw) : (c.modShw n f).bootRegs = c.bootRegs := (rfl)
@[simp] theorem Core.modShw_now (c : Core) (n : Nat) (f : Shw → Shw) : (c.modShw n f).now = c.now := (rfl)
@[simp] theorem Core.modShw_ticks (c : Core) (n : Nat) (f : Shw → Shw) : (c.modShw n f).ticks = c.ticks := (rfl)
@[simp] theorem Core.modShw_fresh (c : Core) (n : Nat) (f : Shw → Shw) : (c.modShw n f).fresh = c.fresh := (rfl)
@[simp] theorem Core.modShw_events (c : Core) (n : Nat) (f : Shw → Shw) : (c.modShw n f).events = c.events := (rfl)
@[simp] theorem Core.modShw_escHold (c : Core) (n : Nat) (f : Shw → Shw) : (c.modShw n f).escHold = c.escHold := (rfl)
@[simp] theorem Core.modShw_escSafe (c : Core) (n : Nat) (f : Shw → Shw) : (c.modShw n f).escSafe = c.escSafe := (rfl)
@[simp] theorem Core.modShw_tickW (c : Core) (n : Nat) (f : Shw → Shw) : (c.modShw n f).tickW = c.tickW := (rfl)
@[simp] theorem Core.modShw_slackW (c : Core) (n : Nat) (f : Shw → Shw) : (c.modShw n f).slackW = c.slackW := (rfl)
@[simp] theorem Core.modShw_psets (c : Core) (n : Nat) (f : Shw → Shw) : (c.modShw n f).psets = c.psets := (rfl)
@[simp] theorem Core.modShw_charts (c : Core) (n : Nat) (f : Shw → Shw) : (c.modShw n f).charts = c.charts := (rfl)
@[simp] theorem Core.modShw_pilot (c : Core) (n : Nat) (f : Shw → Shw) : (c.modShw n f).pilot = c.pilot := (rfl)
@[simp] theorem Core.modShw_ports (c : Core) (n : Nat) (f : Shw → Shw) : (c.modShw n f).ports = c.ports := (rfl)
@[simp] theorem Core.modShw_seq (c : Core) (n : Nat) (f : Shw → Shw) : (c.modShw n f).seq = c.seq := (rfl)
@[simp] theorem Core.modShw_layer (c : Core) (n : Nat) (f : Shw → Shw) : (c.modShw n f).layer = c.layer := (rfl)
@[simp] theorem Core.modShw_bwk (c : Core) (n : Nat) (f : Shw → Shw) : (c.modShw n f).bwk = c.bwk := (rfl)
@[simp] theorem Core.modShw_losses (c : Core) (n : Nat) (f : Shw → Shw) : (c.modShw n f).losses = c.losses := (rfl)
@[simp] theorem Core.modShw_surgeOrder (c : Core) (n : Nat) (f : Shw → Shw) : (c.modShw n f).surgeOrder = c.surgeOrder := (rfl)
@[simp] theorem Core.modShw_resWrite (c : Core) (n : Nat) (f : Shw → Shw) : (c.modShw n f).resWrite = c.resWrite := (rfl)
@[simp] theorem Core.modShw_log (c : Core) (n : Nat) (f : Shw → Shw) : (c.modShw n f).log = c.log := (rfl)
@[simp] theorem Core.modShw_twin (c : Core) (n : Nat) (f : Shw → Shw) : (c.modShw n f).twin = c.twin := (rfl)
@[simp] theorem Core.modShw_casc (c : Core) (n : Nat) (f : Shw → Shw) : (c.modShw n f).casc = c.casc := (rfl)
@[simp] theorem Core.modShw_drc (c : Core) (n : Nat) (f : Shw → Shw) : (c.modShw n f).drc = c.drc := (rfl)
@[simp] theorem Core.modShw_img (c : Core) (n : Nat) (f : Shw → Shw) : (c.modShw n f).img = c.img := (rfl)
@[simp] theorem Core.modShw_mot (c : Core) (n : Nat) (f : Shw → Shw) : (c.modShw n f).mot = c.mot := (rfl)
@[simp] theorem Core.modShw_tim (c : Core) (n : Nat) (f : Shw → Shw) : (c.modShw n f).tim = c.tim := (rfl)
@[simp] theorem Core.modShw_hbr (c : Core) (n : Nat) (f : Shw → Shw) : (c.modShw n f).hbr = c.hbr := (rfl)
@[simp] theorem Core.modShw_rst (c : Core) (n : Nat) (f : Shw → Shw) : (c.modShw n f).rst = c.rst := (rfl)
@[simp] theorem Core.modShw_bst (c : Core) (n : Nat) (f : Shw → Shw) : (c.modShw n f).bst = c.bst := (rfl)
@[simp] theorem Core.modShw_pcie (c : Core) (n : Nat) (f : Shw → Shw) : (c.modShw n f).pcie = c.pcie := (rfl)
@[simp] theorem Core.modShw_planeDue (c : Core) (n : Nat) (f : Shw → Shw) : (c.modShw n f).planeDue = c.planeDue := (rfl)
@[simp] theorem Core.modShw_out (c : Core) (n : Nat) (f : Shw → Shw) : (c.modShw n f).out = c.out := (rfl)
@[simp] theorem Core.modShw_wq (c : Core) (n : Nat) (f : Shw → Shw) : (c.modShw n f).wq = c.wq := (rfl)
@[simp] theorem Core.rd_modShw (c : Core) (n : Nat) (f : Shw → Shw) (g : Field) (j : Nat) : (c.modShw n f).rd g j = c.rd g j := (rfl)

/-! ### seeLamps -/

@[simp] theorem Core.seeLamps_regs (c : Core) (n : Nat) : (c.seeLamps n).regs = c.regs := (rfl)
@[simp] theorem Core.seeLamps_bootRegs (c : Core) (n : Nat) : (c.seeLamps n).bootRegs = c.bootRegs := (rfl)
@[simp] theorem Core.seeLamps_now (c : Core) (n : Nat) : (c.seeLamps n).now = c.now := (rfl)
@[simp] theorem Core.seeLamps_ticks (c : Core) (n : Nat) : (c.seeLamps n).ticks = c.ticks := (rfl)
@[simp] theorem Core.seeLamps_fresh (c : Core) (n : Nat) : (c.seeLamps n).fresh = c.fresh := (rfl)
@[simp] theorem Core.seeLamps_events (c : Core) (n : Nat) : (c.seeLamps n).events = c.events := (rfl)
@[simp] theorem Core.seeLamps_escHold (c : Core) (n : Nat) : (c.seeLamps n).escHold = c.escHold := (rfl)
@[simp] theorem Core.seeLamps_escSafe (c : Core) (n : Nat) : (c.seeLamps n).escSafe = c.escSafe := (rfl)
@[simp] theorem Core.seeLamps_tickW (c : Core) (n : Nat) : (c.seeLamps n).tickW = c.tickW := (rfl)
@[simp] theorem Core.seeLamps_slackW (c : Core) (n : Nat) : (c.seeLamps n).slackW = c.slackW := (rfl)
@[simp] theorem Core.seeLamps_psets (c : Core) (n : Nat) : (c.seeLamps n).psets = c.psets := (rfl)
@[simp] theorem Core.seeLamps_charts (c : Core) (n : Nat) : (c.seeLamps n).charts = c.charts := (rfl)
@[simp] theorem Core.seeLamps_pilot (c : Core) (n : Nat) : (c.seeLamps n).pilot = c.pilot := (rfl)
@[simp] theorem Core.seeLamps_ports (c : Core) (n : Nat) : (c.seeLamps n).ports = c.ports := (rfl)
@[simp] theorem Core.seeLamps_seq (c : Core) (n : Nat) : (c.seeLamps n).seq = c.seq := (rfl)
@[simp] theorem Core.seeLamps_layer (c : Core) (n : Nat) : (c.seeLamps n).layer = c.layer := (rfl)
@[simp] theorem Core.seeLamps_bwk (c : Core) (n : Nat) : (c.seeLamps n).bwk = c.bwk := (rfl)
@[simp] theorem Core.seeLamps_losses (c : Core) (n : Nat) : (c.seeLamps n).losses = c.losses := (rfl)
@[simp] theorem Core.seeLamps_surgeOrder (c : Core) (n : Nat) : (c.seeLamps n).surgeOrder = c.surgeOrder := (rfl)
@[simp] theorem Core.seeLamps_resWrite (c : Core) (n : Nat) : (c.seeLamps n).resWrite = c.resWrite := (rfl)
@[simp] theorem Core.seeLamps_log (c : Core) (n : Nat) : (c.seeLamps n).log = c.log := (rfl)
@[simp] theorem Core.seeLamps_twin (c : Core) (n : Nat) : (c.seeLamps n).twin = c.twin := (rfl)
@[simp] theorem Core.seeLamps_casc (c : Core) (n : Nat) : (c.seeLamps n).casc = c.casc := (rfl)
@[simp] theorem Core.seeLamps_drc (c : Core) (n : Nat) : (c.seeLamps n).drc = c.drc := (rfl)
@[simp] theorem Core.seeLamps_img (c : Core) (n : Nat) : (c.seeLamps n).img = c.img := (rfl)
@[simp] theorem Core.seeLamps_mot (c : Core) (n : Nat) : (c.seeLamps n).mot = c.mot := (rfl)
@[simp] theorem Core.seeLamps_tim (c : Core) (n : Nat) : (c.seeLamps n).tim = c.tim := (rfl)
@[simp] theorem Core.seeLamps_hbr (c : Core) (n : Nat) : (c.seeLamps n).hbr = c.hbr := (rfl)
@[simp] theorem Core.seeLamps_rst (c : Core) (n : Nat) : (c.seeLamps n).rst = c.rst := (rfl)
@[simp] theorem Core.seeLamps_bst (c : Core) (n : Nat) : (c.seeLamps n).bst = c.bst := (rfl)
@[simp] theorem Core.seeLamps_pcie (c : Core) (n : Nat) : (c.seeLamps n).pcie = c.pcie := (rfl)
@[simp] theorem Core.seeLamps_planeDue (c : Core) (n : Nat) : (c.seeLamps n).planeDue = c.planeDue := (rfl)
@[simp] theorem Core.seeLamps_out (c : Core) (n : Nat) : (c.seeLamps n).out = c.out := (rfl)
@[simp] theorem Core.seeLamps_wq (c : Core) (n : Nat) : (c.seeLamps n).wq = c.wq := (rfl)
@[simp] theorem Core.rd_seeLamps (c : Core) (n : Nat) (g : Field) (j : Nat) : (c.seeLamps n).rd g j = c.rd g j := (rfl)

/-! ### modAxis -/

@[simp] theorem Core.modAxis_regs (c : Core) (n : Nat) (f : Axis → Axis) : (c.modAxis n f).regs = c.regs := (rfl)
@[simp] theorem Core.modAxis_bootRegs (c : Core) (n : Nat) (f : Axis → Axis) : (c.modAxis n f).bootRegs = c.bootRegs := (rfl)
@[simp] theorem Core.modAxis_now (c : Core) (n : Nat) (f : Axis → Axis) : (c.modAxis n f).now = c.now := (rfl)
@[simp] theorem Core.modAxis_ticks (c : Core) (n : Nat) (f : Axis → Axis) : (c.modAxis n f).ticks = c.ticks := (rfl)
@[simp] theorem Core.modAxis_fresh (c : Core) (n : Nat) (f : Axis → Axis) : (c.modAxis n f).fresh = c.fresh := (rfl)
@[simp] theorem Core.modAxis_events (c : Core) (n : Nat) (f : Axis → Axis) : (c.modAxis n f).events = c.events := (rfl)
@[simp] theorem Core.modAxis_escHold (c : Core) (n : Nat) (f : Axis → Axis) : (c.modAxis n f).escHold = c.escHold := (rfl)
@[simp] theorem Core.modAxis_escSafe (c : Core) (n : Nat) (f : Axis → Axis) : (c.modAxis n f).escSafe = c.escSafe := (rfl)
@[simp] theorem Core.modAxis_tickW (c : Core) (n : Nat) (f : Axis → Axis) : (c.modAxis n f).tickW = c.tickW := (rfl)
@[simp] theorem Core.modAxis_slackW (c : Core) (n : Nat) (f : Axis → Axis) : (c.modAxis n f).slackW = c.slackW := (rfl)
@[simp] theorem Core.modAxis_psets (c : Core) (n : Nat) (f : Axis → Axis) : (c.modAxis n f).psets = c.psets := (rfl)
@[simp] theorem Core.modAxis_charts (c : Core) (n : Nat) (f : Axis → Axis) : (c.modAxis n f).charts = c.charts := (rfl)
@[simp] theorem Core.modAxis_pilot (c : Core) (n : Nat) (f : Axis → Axis) : (c.modAxis n f).pilot = c.pilot := (rfl)
@[simp] theorem Core.modAxis_ports (c : Core) (n : Nat) (f : Axis → Axis) : (c.modAxis n f).ports = c.ports := (rfl)
@[simp] theorem Core.modAxis_seq (c : Core) (n : Nat) (f : Axis → Axis) : (c.modAxis n f).seq = c.seq := (rfl)
@[simp] theorem Core.modAxis_layer (c : Core) (n : Nat) (f : Axis → Axis) : (c.modAxis n f).layer = c.layer := (rfl)
@[simp] theorem Core.modAxis_bwk (c : Core) (n : Nat) (f : Axis → Axis) : (c.modAxis n f).bwk = c.bwk := (rfl)
@[simp] theorem Core.modAxis_losses (c : Core) (n : Nat) (f : Axis → Axis) : (c.modAxis n f).losses = c.losses := (rfl)
@[simp] theorem Core.modAxis_surgeOrder (c : Core) (n : Nat) (f : Axis → Axis) : (c.modAxis n f).surgeOrder = c.surgeOrder := (rfl)
@[simp] theorem Core.modAxis_resWrite (c : Core) (n : Nat) (f : Axis → Axis) : (c.modAxis n f).resWrite = c.resWrite := (rfl)
@[simp] theorem Core.modAxis_log (c : Core) (n : Nat) (f : Axis → Axis) : (c.modAxis n f).log = c.log := (rfl)
@[simp] theorem Core.modAxis_twin (c : Core) (n : Nat) (f : Axis → Axis) : (c.modAxis n f).twin = c.twin := (rfl)
@[simp] theorem Core.modAxis_casc (c : Core) (n : Nat) (f : Axis → Axis) : (c.modAxis n f).casc = c.casc := (rfl)
@[simp] theorem Core.modAxis_drc (c : Core) (n : Nat) (f : Axis → Axis) : (c.modAxis n f).drc = c.drc := (rfl)
@[simp] theorem Core.modAxis_img (c : Core) (n : Nat) (f : Axis → Axis) : (c.modAxis n f).img = c.img := (rfl)
@[simp] theorem Core.modAxis_lum (c : Core) (n : Nat) (f : Axis → Axis) : (c.modAxis n f).lum = c.lum := (rfl)
@[simp] theorem Core.modAxis_tim (c : Core) (n : Nat) (f : Axis → Axis) : (c.modAxis n f).tim = c.tim := (rfl)
@[simp] theorem Core.modAxis_hbr (c : Core) (n : Nat) (f : Axis → Axis) : (c.modAxis n f).hbr = c.hbr := (rfl)
@[simp] theorem Core.modAxis_rst (c : Core) (n : Nat) (f : Axis → Axis) : (c.modAxis n f).rst = c.rst := (rfl)
@[simp] theorem Core.modAxis_bst (c : Core) (n : Nat) (f : Axis → Axis) : (c.modAxis n f).bst = c.bst := (rfl)
@[simp] theorem Core.modAxis_pcie (c : Core) (n : Nat) (f : Axis → Axis) : (c.modAxis n f).pcie = c.pcie := (rfl)
@[simp] theorem Core.modAxis_planeDue (c : Core) (n : Nat) (f : Axis → Axis) : (c.modAxis n f).planeDue = c.planeDue := (rfl)
@[simp] theorem Core.modAxis_out (c : Core) (n : Nat) (f : Axis → Axis) : (c.modAxis n f).out = c.out := (rfl)
@[simp] theorem Core.modAxis_wq (c : Core) (n : Nat) (f : Axis → Axis) : (c.modAxis n f).wq = c.wq := (rfl)
@[simp] theorem Core.rd_modAxis (c : Core) (n : Nat) (f : Axis → Axis) (g : Field) (j : Nat) : (c.modAxis n f).rd g j = c.rd g j := (rfl)

/-! ### modCmp -/

@[simp] theorem Core.modCmp_regs (c : Core) (n : Nat) (f : Cmp → Cmp) : (c.modCmp n f).regs = c.regs := (rfl)
@[simp] theorem Core.modCmp_bootRegs (c : Core) (n : Nat) (f : Cmp → Cmp) : (c.modCmp n f).bootRegs = c.bootRegs := (rfl)
@[simp] theorem Core.modCmp_now (c : Core) (n : Nat) (f : Cmp → Cmp) : (c.modCmp n f).now = c.now := (rfl)
@[simp] theorem Core.modCmp_ticks (c : Core) (n : Nat) (f : Cmp → Cmp) : (c.modCmp n f).ticks = c.ticks := (rfl)
@[simp] theorem Core.modCmp_fresh (c : Core) (n : Nat) (f : Cmp → Cmp) : (c.modCmp n f).fresh = c.fresh := (rfl)
@[simp] theorem Core.modCmp_events (c : Core) (n : Nat) (f : Cmp → Cmp) : (c.modCmp n f).events = c.events := (rfl)
@[simp] theorem Core.modCmp_escHold (c : Core) (n : Nat) (f : Cmp → Cmp) : (c.modCmp n f).escHold = c.escHold := (rfl)
@[simp] theorem Core.modCmp_escSafe (c : Core) (n : Nat) (f : Cmp → Cmp) : (c.modCmp n f).escSafe = c.escSafe := (rfl)
@[simp] theorem Core.modCmp_tickW (c : Core) (n : Nat) (f : Cmp → Cmp) : (c.modCmp n f).tickW = c.tickW := (rfl)
@[simp] theorem Core.modCmp_slackW (c : Core) (n : Nat) (f : Cmp → Cmp) : (c.modCmp n f).slackW = c.slackW := (rfl)
@[simp] theorem Core.modCmp_psets (c : Core) (n : Nat) (f : Cmp → Cmp) : (c.modCmp n f).psets = c.psets := (rfl)
@[simp] theorem Core.modCmp_charts (c : Core) (n : Nat) (f : Cmp → Cmp) : (c.modCmp n f).charts = c.charts := (rfl)
@[simp] theorem Core.modCmp_pilot (c : Core) (n : Nat) (f : Cmp → Cmp) : (c.modCmp n f).pilot = c.pilot := (rfl)
@[simp] theorem Core.modCmp_ports (c : Core) (n : Nat) (f : Cmp → Cmp) : (c.modCmp n f).ports = c.ports := (rfl)
@[simp] theorem Core.modCmp_seq (c : Core) (n : Nat) (f : Cmp → Cmp) : (c.modCmp n f).seq = c.seq := (rfl)
@[simp] theorem Core.modCmp_layer (c : Core) (n : Nat) (f : Cmp → Cmp) : (c.modCmp n f).layer = c.layer := (rfl)
@[simp] theorem Core.modCmp_bwk (c : Core) (n : Nat) (f : Cmp → Cmp) : (c.modCmp n f).bwk = c.bwk := (rfl)
@[simp] theorem Core.modCmp_losses (c : Core) (n : Nat) (f : Cmp → Cmp) : (c.modCmp n f).losses = c.losses := (rfl)
@[simp] theorem Core.modCmp_surgeOrder (c : Core) (n : Nat) (f : Cmp → Cmp) : (c.modCmp n f).surgeOrder = c.surgeOrder := (rfl)
@[simp] theorem Core.modCmp_resWrite (c : Core) (n : Nat) (f : Cmp → Cmp) : (c.modCmp n f).resWrite = c.resWrite := (rfl)
@[simp] theorem Core.modCmp_log (c : Core) (n : Nat) (f : Cmp → Cmp) : (c.modCmp n f).log = c.log := (rfl)
@[simp] theorem Core.modCmp_twin (c : Core) (n : Nat) (f : Cmp → Cmp) : (c.modCmp n f).twin = c.twin := (rfl)
@[simp] theorem Core.modCmp_casc (c : Core) (n : Nat) (f : Cmp → Cmp) : (c.modCmp n f).casc = c.casc := (rfl)
@[simp] theorem Core.modCmp_drc (c : Core) (n : Nat) (f : Cmp → Cmp) : (c.modCmp n f).drc = c.drc := (rfl)
@[simp] theorem Core.modCmp_img (c : Core) (n : Nat) (f : Cmp → Cmp) : (c.modCmp n f).img = c.img := (rfl)
@[simp] theorem Core.modCmp_lum (c : Core) (n : Nat) (f : Cmp → Cmp) : (c.modCmp n f).lum = c.lum := (rfl)
@[simp] theorem Core.modCmp_tim (c : Core) (n : Nat) (f : Cmp → Cmp) : (c.modCmp n f).tim = c.tim := (rfl)
@[simp] theorem Core.modCmp_hbr (c : Core) (n : Nat) (f : Cmp → Cmp) : (c.modCmp n f).hbr = c.hbr := (rfl)
@[simp] theorem Core.modCmp_rst (c : Core) (n : Nat) (f : Cmp → Cmp) : (c.modCmp n f).rst = c.rst := (rfl)
@[simp] theorem Core.modCmp_bst (c : Core) (n : Nat) (f : Cmp → Cmp) : (c.modCmp n f).bst = c.bst := (rfl)
@[simp] theorem Core.modCmp_pcie (c : Core) (n : Nat) (f : Cmp → Cmp) : (c.modCmp n f).pcie = c.pcie := (rfl)
@[simp] theorem Core.modCmp_planeDue (c : Core) (n : Nat) (f : Cmp → Cmp) : (c.modCmp n f).planeDue = c.planeDue := (rfl)
@[simp] theorem Core.modCmp_out (c : Core) (n : Nat) (f : Cmp → Cmp) : (c.modCmp n f).out = c.out := (rfl)
@[simp] theorem Core.modCmp_wq (c : Core) (n : Nat) (f : Cmp → Cmp) : (c.modCmp n f).wq = c.wq := (rfl)
@[simp] theorem Core.rd_modCmp (c : Core) (n : Nat) (f : Cmp → Cmp) (g : Field) (j : Nat) : (c.modCmp n f).rd g j = c.rd g j := (rfl)

/-! ### modInc -/

@[simp] theorem Core.modInc_regs (c : Core) (n : Nat) (f : IncIn → IncIn) : (c.modInc n f).regs = c.regs := (rfl)
@[simp] theorem Core.modInc_bootRegs (c : Core) (n : Nat) (f : IncIn → IncIn) : (c.modInc n f).bootRegs = c.bootRegs := (rfl)
@[simp] theorem Core.modInc_now (c : Core) (n : Nat) (f : IncIn → IncIn) : (c.modInc n f).now = c.now := (rfl)
@[simp] theorem Core.modInc_ticks (c : Core) (n : Nat) (f : IncIn → IncIn) : (c.modInc n f).ticks = c.ticks := (rfl)
@[simp] theorem Core.modInc_fresh (c : Core) (n : Nat) (f : IncIn → IncIn) : (c.modInc n f).fresh = c.fresh := (rfl)
@[simp] theorem Core.modInc_events (c : Core) (n : Nat) (f : IncIn → IncIn) : (c.modInc n f).events = c.events := (rfl)
@[simp] theorem Core.modInc_escHold (c : Core) (n : Nat) (f : IncIn → IncIn) : (c.modInc n f).escHold = c.escHold := (rfl)
@[simp] theorem Core.modInc_escSafe (c : Core) (n : Nat) (f : IncIn → IncIn) : (c.modInc n f).escSafe = c.escSafe := (rfl)
@[simp] theorem Core.modInc_tickW (c : Core) (n : Nat) (f : IncIn → IncIn) : (c.modInc n f).tickW = c.tickW := (rfl)
@[simp] theorem Core.modInc_slackW (c : Core) (n : Nat) (f : IncIn → IncIn) : (c.modInc n f).slackW = c.slackW := (rfl)
@[simp] theorem Core.modInc_psets (c : Core) (n : Nat) (f : IncIn → IncIn) : (c.modInc n f).psets = c.psets := (rfl)
@[simp] theorem Core.modInc_charts (c : Core) (n : Nat) (f : IncIn → IncIn) : (c.modInc n f).charts = c.charts := (rfl)
@[simp] theorem Core.modInc_pilot (c : Core) (n : Nat) (f : IncIn → IncIn) : (c.modInc n f).pilot = c.pilot := (rfl)
@[simp] theorem Core.modInc_ports (c : Core) (n : Nat) (f : IncIn → IncIn) : (c.modInc n f).ports = c.ports := (rfl)
@[simp] theorem Core.modInc_seq (c : Core) (n : Nat) (f : IncIn → IncIn) : (c.modInc n f).seq = c.seq := (rfl)
@[simp] theorem Core.modInc_layer (c : Core) (n : Nat) (f : IncIn → IncIn) : (c.modInc n f).layer = c.layer := (rfl)
@[simp] theorem Core.modInc_bwk (c : Core) (n : Nat) (f : IncIn → IncIn) : (c.modInc n f).bwk = c.bwk := (rfl)
@[simp] theorem Core.modInc_losses (c : Core) (n : Nat) (f : IncIn → IncIn) : (c.modInc n f).losses = c.losses := (rfl)
@[simp] theorem Core.modInc_surgeOrder (c : Core) (n : Nat) (f : IncIn → IncIn) : (c.modInc n f).surgeOrder = c.surgeOrder := (rfl)
@[simp] theorem Core.modInc_resWrite (c : Core) (n : Nat) (f : IncIn → IncIn) : (c.modInc n f).resWrite = c.resWrite := (rfl)
@[simp] theorem Core.modInc_log (c : Core) (n : Nat) (f : IncIn → IncIn) : (c.modInc n f).log = c.log := (rfl)
@[simp] theorem Core.modInc_twin (c : Core) (n : Nat) (f : IncIn → IncIn) : (c.modInc n f).twin = c.twin := (rfl)
@[simp] theorem Core.modInc_casc (c : Core) (n : Nat) (f : IncIn → IncIn) : (c.modInc n f).casc = c.casc := (rfl)
@[simp] theorem Core.modInc_drc (c : Core) (n : Nat) (f : IncIn → IncIn) : (c.modInc n f).drc = c.drc := (rfl)
@[simp] theorem Core.modInc_img (c : Core) (n : Nat) (f : IncIn → IncIn) : (c.modInc n f).img = c.img := (rfl)
@[simp] theorem Core.modInc_lum (c : Core) (n : Nat) (f : IncIn → IncIn) : (c.modInc n f).lum = c.lum := (rfl)
@[simp] theorem Core.modInc_tim (c : Core) (n : Nat) (f : IncIn → IncIn) : (c.modInc n f).tim = c.tim := (rfl)
@[simp] theorem Core.modInc_hbr (c : Core) (n : Nat) (f : IncIn → IncIn) : (c.modInc n f).hbr = c.hbr := (rfl)
@[simp] theorem Core.modInc_rst (c : Core) (n : Nat) (f : IncIn → IncIn) : (c.modInc n f).rst = c.rst := (rfl)
@[simp] theorem Core.modInc_bst (c : Core) (n : Nat) (f : IncIn → IncIn) : (c.modInc n f).bst = c.bst := (rfl)
@[simp] theorem Core.modInc_pcie (c : Core) (n : Nat) (f : IncIn → IncIn) : (c.modInc n f).pcie = c.pcie := (rfl)
@[simp] theorem Core.modInc_planeDue (c : Core) (n : Nat) (f : IncIn → IncIn) : (c.modInc n f).planeDue = c.planeDue := (rfl)
@[simp] theorem Core.modInc_out (c : Core) (n : Nat) (f : IncIn → IncIn) : (c.modInc n f).out = c.out := (rfl)
@[simp] theorem Core.modInc_wq (c : Core) (n : Nat) (f : IncIn → IncIn) : (c.modInc n f).wq = c.wq := (rfl)
@[simp] theorem Core.rd_modInc (c : Core) (n : Nat) (f : IncIn → IncIn) (g : Field) (j : Nat) : (c.modInc n f).rd g j = c.rd g j := (rfl)

/-! ### modSsi -/

@[simp] theorem Core.modSsi_regs (c : Core) (n : Nat) (f : SsiIn → SsiIn) : (c.modSsi n f).regs = c.regs := (rfl)
@[simp] theorem Core.modSsi_bootRegs (c : Core) (n : Nat) (f : SsiIn → SsiIn) : (c.modSsi n f).bootRegs = c.bootRegs := (rfl)
@[simp] theorem Core.modSsi_now (c : Core) (n : Nat) (f : SsiIn → SsiIn) : (c.modSsi n f).now = c.now := (rfl)
@[simp] theorem Core.modSsi_ticks (c : Core) (n : Nat) (f : SsiIn → SsiIn) : (c.modSsi n f).ticks = c.ticks := (rfl)
@[simp] theorem Core.modSsi_fresh (c : Core) (n : Nat) (f : SsiIn → SsiIn) : (c.modSsi n f).fresh = c.fresh := (rfl)
@[simp] theorem Core.modSsi_events (c : Core) (n : Nat) (f : SsiIn → SsiIn) : (c.modSsi n f).events = c.events := (rfl)
@[simp] theorem Core.modSsi_escHold (c : Core) (n : Nat) (f : SsiIn → SsiIn) : (c.modSsi n f).escHold = c.escHold := (rfl)
@[simp] theorem Core.modSsi_escSafe (c : Core) (n : Nat) (f : SsiIn → SsiIn) : (c.modSsi n f).escSafe = c.escSafe := (rfl)
@[simp] theorem Core.modSsi_tickW (c : Core) (n : Nat) (f : SsiIn → SsiIn) : (c.modSsi n f).tickW = c.tickW := (rfl)
@[simp] theorem Core.modSsi_slackW (c : Core) (n : Nat) (f : SsiIn → SsiIn) : (c.modSsi n f).slackW = c.slackW := (rfl)
@[simp] theorem Core.modSsi_psets (c : Core) (n : Nat) (f : SsiIn → SsiIn) : (c.modSsi n f).psets = c.psets := (rfl)
@[simp] theorem Core.modSsi_charts (c : Core) (n : Nat) (f : SsiIn → SsiIn) : (c.modSsi n f).charts = c.charts := (rfl)
@[simp] theorem Core.modSsi_pilot (c : Core) (n : Nat) (f : SsiIn → SsiIn) : (c.modSsi n f).pilot = c.pilot := (rfl)
@[simp] theorem Core.modSsi_ports (c : Core) (n : Nat) (f : SsiIn → SsiIn) : (c.modSsi n f).ports = c.ports := (rfl)
@[simp] theorem Core.modSsi_seq (c : Core) (n : Nat) (f : SsiIn → SsiIn) : (c.modSsi n f).seq = c.seq := (rfl)
@[simp] theorem Core.modSsi_layer (c : Core) (n : Nat) (f : SsiIn → SsiIn) : (c.modSsi n f).layer = c.layer := (rfl)
@[simp] theorem Core.modSsi_bwk (c : Core) (n : Nat) (f : SsiIn → SsiIn) : (c.modSsi n f).bwk = c.bwk := (rfl)
@[simp] theorem Core.modSsi_losses (c : Core) (n : Nat) (f : SsiIn → SsiIn) : (c.modSsi n f).losses = c.losses := (rfl)
@[simp] theorem Core.modSsi_surgeOrder (c : Core) (n : Nat) (f : SsiIn → SsiIn) : (c.modSsi n f).surgeOrder = c.surgeOrder := (rfl)
@[simp] theorem Core.modSsi_resWrite (c : Core) (n : Nat) (f : SsiIn → SsiIn) : (c.modSsi n f).resWrite = c.resWrite := (rfl)
@[simp] theorem Core.modSsi_log (c : Core) (n : Nat) (f : SsiIn → SsiIn) : (c.modSsi n f).log = c.log := (rfl)
@[simp] theorem Core.modSsi_twin (c : Core) (n : Nat) (f : SsiIn → SsiIn) : (c.modSsi n f).twin = c.twin := (rfl)
@[simp] theorem Core.modSsi_casc (c : Core) (n : Nat) (f : SsiIn → SsiIn) : (c.modSsi n f).casc = c.casc := (rfl)
@[simp] theorem Core.modSsi_drc (c : Core) (n : Nat) (f : SsiIn → SsiIn) : (c.modSsi n f).drc = c.drc := (rfl)
@[simp] theorem Core.modSsi_img (c : Core) (n : Nat) (f : SsiIn → SsiIn) : (c.modSsi n f).img = c.img := (rfl)
@[simp] theorem Core.modSsi_lum (c : Core) (n : Nat) (f : SsiIn → SsiIn) : (c.modSsi n f).lum = c.lum := (rfl)
@[simp] theorem Core.modSsi_tim (c : Core) (n : Nat) (f : SsiIn → SsiIn) : (c.modSsi n f).tim = c.tim := (rfl)
@[simp] theorem Core.modSsi_hbr (c : Core) (n : Nat) (f : SsiIn → SsiIn) : (c.modSsi n f).hbr = c.hbr := (rfl)
@[simp] theorem Core.modSsi_rst (c : Core) (n : Nat) (f : SsiIn → SsiIn) : (c.modSsi n f).rst = c.rst := (rfl)
@[simp] theorem Core.modSsi_bst (c : Core) (n : Nat) (f : SsiIn → SsiIn) : (c.modSsi n f).bst = c.bst := (rfl)
@[simp] theorem Core.modSsi_pcie (c : Core) (n : Nat) (f : SsiIn → SsiIn) : (c.modSsi n f).pcie = c.pcie := (rfl)
@[simp] theorem Core.modSsi_planeDue (c : Core) (n : Nat) (f : SsiIn → SsiIn) : (c.modSsi n f).planeDue = c.planeDue := (rfl)
@[simp] theorem Core.modSsi_out (c : Core) (n : Nat) (f : SsiIn → SsiIn) : (c.modSsi n f).out = c.out := (rfl)
@[simp] theorem Core.modSsi_wq (c : Core) (n : Nat) (f : SsiIn → SsiIn) : (c.modSsi n f).wq = c.wq := (rfl)
@[simp] theorem Core.rd_modSsi (c : Core) (n : Nat) (f : SsiIn → SsiIn) (g : Field) (j : Nat) : (c.modSsi n f).rd g j = c.rd g j := (rfl)

/-! ### modIctx -/

@[simp] theorem Core.modIctx_regs (c : Core) (n : Nat) (f : IplCtx → IplCtx) : (c.modIctx n f).regs = c.regs := (rfl)
@[simp] theorem Core.modIctx_bootRegs (c : Core) (n : Nat) (f : IplCtx → IplCtx) : (c.modIctx n f).bootRegs = c.bootRegs := (rfl)
@[simp] theorem Core.modIctx_now (c : Core) (n : Nat) (f : IplCtx → IplCtx) : (c.modIctx n f).now = c.now := (rfl)
@[simp] theorem Core.modIctx_ticks (c : Core) (n : Nat) (f : IplCtx → IplCtx) : (c.modIctx n f).ticks = c.ticks := (rfl)
@[simp] theorem Core.modIctx_fresh (c : Core) (n : Nat) (f : IplCtx → IplCtx) : (c.modIctx n f).fresh = c.fresh := (rfl)
@[simp] theorem Core.modIctx_events (c : Core) (n : Nat) (f : IplCtx → IplCtx) : (c.modIctx n f).events = c.events := (rfl)
@[simp] theorem Core.modIctx_escHold (c : Core) (n : Nat) (f : IplCtx → IplCtx) : (c.modIctx n f).escHold = c.escHold := (rfl)
@[simp] theorem Core.modIctx_escSafe (c : Core) (n : Nat) (f : IplCtx → IplCtx) : (c.modIctx n f).escSafe = c.escSafe := (rfl)
@[simp] theorem Core.modIctx_tickW (c : Core) (n : Nat) (f : IplCtx → IplCtx) : (c.modIctx n f).tickW = c.tickW := (rfl)
@[simp] theorem Core.modIctx_slackW (c : Core) (n : Nat) (f : IplCtx → IplCtx) : (c.modIctx n f).slackW = c.slackW := (rfl)
@[simp] theorem Core.modIctx_psets (c : Core) (n : Nat) (f : IplCtx → IplCtx) : (c.modIctx n f).psets = c.psets := (rfl)
@[simp] theorem Core.modIctx_charts (c : Core) (n : Nat) (f : IplCtx → IplCtx) : (c.modIctx n f).charts = c.charts := (rfl)
@[simp] theorem Core.modIctx_pilot (c : Core) (n : Nat) (f : IplCtx → IplCtx) : (c.modIctx n f).pilot = c.pilot := (rfl)
@[simp] theorem Core.modIctx_ports (c : Core) (n : Nat) (f : IplCtx → IplCtx) : (c.modIctx n f).ports = c.ports := (rfl)
@[simp] theorem Core.modIctx_seq (c : Core) (n : Nat) (f : IplCtx → IplCtx) : (c.modIctx n f).seq = c.seq := (rfl)
@[simp] theorem Core.modIctx_layer (c : Core) (n : Nat) (f : IplCtx → IplCtx) : (c.modIctx n f).layer = c.layer := (rfl)
@[simp] theorem Core.modIctx_bwk (c : Core) (n : Nat) (f : IplCtx → IplCtx) : (c.modIctx n f).bwk = c.bwk := (rfl)
@[simp] theorem Core.modIctx_losses (c : Core) (n : Nat) (f : IplCtx → IplCtx) : (c.modIctx n f).losses = c.losses := (rfl)
@[simp] theorem Core.modIctx_surgeOrder (c : Core) (n : Nat) (f : IplCtx → IplCtx) : (c.modIctx n f).surgeOrder = c.surgeOrder := (rfl)
@[simp] theorem Core.modIctx_resWrite (c : Core) (n : Nat) (f : IplCtx → IplCtx) : (c.modIctx n f).resWrite = c.resWrite := (rfl)
@[simp] theorem Core.modIctx_log (c : Core) (n : Nat) (f : IplCtx → IplCtx) : (c.modIctx n f).log = c.log := (rfl)
@[simp] theorem Core.modIctx_twin (c : Core) (n : Nat) (f : IplCtx → IplCtx) : (c.modIctx n f).twin = c.twin := (rfl)
@[simp] theorem Core.modIctx_casc (c : Core) (n : Nat) (f : IplCtx → IplCtx) : (c.modIctx n f).casc = c.casc := (rfl)
@[simp] theorem Core.modIctx_drc (c : Core) (n : Nat) (f : IplCtx → IplCtx) : (c.modIctx n f).drc = c.drc := (rfl)
@[simp] theorem Core.modIctx_lum (c : Core) (n : Nat) (f : IplCtx → IplCtx) : (c.modIctx n f).lum = c.lum := (rfl)
@[simp] theorem Core.modIctx_mot (c : Core) (n : Nat) (f : IplCtx → IplCtx) : (c.modIctx n f).mot = c.mot := (rfl)
@[simp] theorem Core.modIctx_tim (c : Core) (n : Nat) (f : IplCtx → IplCtx) : (c.modIctx n f).tim = c.tim := (rfl)
@[simp] theorem Core.modIctx_hbr (c : Core) (n : Nat) (f : IplCtx → IplCtx) : (c.modIctx n f).hbr = c.hbr := (rfl)
@[simp] theorem Core.modIctx_rst (c : Core) (n : Nat) (f : IplCtx → IplCtx) : (c.modIctx n f).rst = c.rst := (rfl)
@[simp] theorem Core.modIctx_bst (c : Core) (n : Nat) (f : IplCtx → IplCtx) : (c.modIctx n f).bst = c.bst := (rfl)
@[simp] theorem Core.modIctx_pcie (c : Core) (n : Nat) (f : IplCtx → IplCtx) : (c.modIctx n f).pcie = c.pcie := (rfl)
@[simp] theorem Core.modIctx_planeDue (c : Core) (n : Nat) (f : IplCtx → IplCtx) : (c.modIctx n f).planeDue = c.planeDue := (rfl)
@[simp] theorem Core.modIctx_out (c : Core) (n : Nat) (f : IplCtx → IplCtx) : (c.modIctx n f).out = c.out := (rfl)
@[simp] theorem Core.modIctx_wq (c : Core) (n : Nat) (f : IplCtx → IplCtx) : (c.modIctx n f).wq = c.wq := (rfl)
@[simp] theorem Core.rd_modIctx (c : Core) (n : Nat) (f : IplCtx → IplCtx) (g : Field) (j : Nat) : (c.modIctx n f).rd g j = c.rd g j := (rfl)

/-! ### modCam -/

@[simp] theorem Core.modCam_regs (c : Core) (n : Nat) (f : CamPort → CamPort) : (c.modCam n f).regs = c.regs := (rfl)
@[simp] theorem Core.modCam_bootRegs (c : Core) (n : Nat) (f : CamPort → CamPort) : (c.modCam n f).bootRegs = c.bootRegs := (rfl)
@[simp] theorem Core.modCam_now (c : Core) (n : Nat) (f : CamPort → CamPort) : (c.modCam n f).now = c.now := (rfl)
@[simp] theorem Core.modCam_ticks (c : Core) (n : Nat) (f : CamPort → CamPort) : (c.modCam n f).ticks = c.ticks := (rfl)
@[simp] theorem Core.modCam_fresh (c : Core) (n : Nat) (f : CamPort → CamPort) : (c.modCam n f).fresh = c.fresh := (rfl)
@[simp] theorem Core.modCam_events (c : Core) (n : Nat) (f : CamPort → CamPort) : (c.modCam n f).events = c.events := (rfl)
@[simp] theorem Core.modCam_escHold (c : Core) (n : Nat) (f : CamPort → CamPort) : (c.modCam n f).escHold = c.escHold := (rfl)
@[simp] theorem Core.modCam_escSafe (c : Core) (n : Nat) (f : CamPort → CamPort) : (c.modCam n f).escSafe = c.escSafe := (rfl)
@[simp] theorem Core.modCam_tickW (c : Core) (n : Nat) (f : CamPort → CamPort) : (c.modCam n f).tickW = c.tickW := (rfl)
@[simp] theorem Core.modCam_slackW (c : Core) (n : Nat) (f : CamPort → CamPort) : (c.modCam n f).slackW = c.slackW := (rfl)
@[simp] theorem Core.modCam_psets (c : Core) (n : Nat) (f : CamPort → CamPort) : (c.modCam n f).psets = c.psets := (rfl)
@[simp] theorem Core.modCam_charts (c : Core) (n : Nat) (f : CamPort → CamPort) : (c.modCam n f).charts = c.charts := (rfl)
@[simp] theorem Core.modCam_pilot (c : Core) (n : Nat) (f : CamPort → CamPort) : (c.modCam n f).pilot = c.pilot := (rfl)
@[simp] theorem Core.modCam_ports (c : Core) (n : Nat) (f : CamPort → CamPort) : (c.modCam n f).ports = c.ports := (rfl)
@[simp] theorem Core.modCam_seq (c : Core) (n : Nat) (f : CamPort → CamPort) : (c.modCam n f).seq = c.seq := (rfl)
@[simp] theorem Core.modCam_layer (c : Core) (n : Nat) (f : CamPort → CamPort) : (c.modCam n f).layer = c.layer := (rfl)
@[simp] theorem Core.modCam_bwk (c : Core) (n : Nat) (f : CamPort → CamPort) : (c.modCam n f).bwk = c.bwk := (rfl)
@[simp] theorem Core.modCam_losses (c : Core) (n : Nat) (f : CamPort → CamPort) : (c.modCam n f).losses = c.losses := (rfl)
@[simp] theorem Core.modCam_surgeOrder (c : Core) (n : Nat) (f : CamPort → CamPort) : (c.modCam n f).surgeOrder = c.surgeOrder := (rfl)
@[simp] theorem Core.modCam_resWrite (c : Core) (n : Nat) (f : CamPort → CamPort) : (c.modCam n f).resWrite = c.resWrite := (rfl)
@[simp] theorem Core.modCam_log (c : Core) (n : Nat) (f : CamPort → CamPort) : (c.modCam n f).log = c.log := (rfl)
@[simp] theorem Core.modCam_twin (c : Core) (n : Nat) (f : CamPort → CamPort) : (c.modCam n f).twin = c.twin := (rfl)
@[simp] theorem Core.modCam_casc (c : Core) (n : Nat) (f : CamPort → CamPort) : (c.modCam n f).casc = c.casc := (rfl)
@[simp] theorem Core.modCam_drc (c : Core) (n : Nat) (f : CamPort → CamPort) : (c.modCam n f).drc = c.drc := (rfl)
@[simp] theorem Core.modCam_lum (c : Core) (n : Nat) (f : CamPort → CamPort) : (c.modCam n f).lum = c.lum := (rfl)
@[simp] theorem Core.modCam_mot (c : Core) (n : Nat) (f : CamPort → CamPort) : (c.modCam n f).mot = c.mot := (rfl)
@[simp] theorem Core.modCam_tim (c : Core) (n : Nat) (f : CamPort → CamPort) : (c.modCam n f).tim = c.tim := (rfl)
@[simp] theorem Core.modCam_hbr (c : Core) (n : Nat) (f : CamPort → CamPort) : (c.modCam n f).hbr = c.hbr := (rfl)
@[simp] theorem Core.modCam_rst (c : Core) (n : Nat) (f : CamPort → CamPort) : (c.modCam n f).rst = c.rst := (rfl)
@[simp] theorem Core.modCam_bst (c : Core) (n : Nat) (f : CamPort → CamPort) : (c.modCam n f).bst = c.bst := (rfl)
@[simp] theorem Core.modCam_pcie (c : Core) (n : Nat) (f : CamPort → CamPort) : (c.modCam n f).pcie = c.pcie := (rfl)
@[simp] theorem Core.modCam_planeDue (c : Core) (n : Nat) (f : CamPort → CamPort) : (c.modCam n f).planeDue = c.planeDue := (rfl)
@[simp] theorem Core.modCam_out (c : Core) (n : Nat) (f : CamPort → CamPort) : (c.modCam n f).out = c.out := (rfl)
@[simp] theorem Core.modCam_wq (c : Core) (n : Nat) (f : CamPort → CamPort) : (c.modCam n f).wq = c.wq := (rfl)
@[simp] theorem Core.rd_modCam (c : Core) (n : Nat) (f : CamPort → CamPort) (g : Field) (j : Nat) : (c.modCam n f).rd g j = c.rd g j := (rfl)

/-! ### setFrames -/

@[simp] theorem Core.setFrames_regs (c : Core) (l : List CamFrame) : (c.setFrames l).regs = c.regs := (rfl)
@[simp] theorem Core.setFrames_bootRegs (c : Core) (l : List CamFrame) : (c.setFrames l).bootRegs = c.bootRegs := (rfl)
@[simp] theorem Core.setFrames_now (c : Core) (l : List CamFrame) : (c.setFrames l).now = c.now := (rfl)
@[simp] theorem Core.setFrames_ticks (c : Core) (l : List CamFrame) : (c.setFrames l).ticks = c.ticks := (rfl)
@[simp] theorem Core.setFrames_fresh (c : Core) (l : List CamFrame) : (c.setFrames l).fresh = c.fresh := (rfl)
@[simp] theorem Core.setFrames_events (c : Core) (l : List CamFrame) : (c.setFrames l).events = c.events := (rfl)
@[simp] theorem Core.setFrames_escHold (c : Core) (l : List CamFrame) : (c.setFrames l).escHold = c.escHold := (rfl)
@[simp] theorem Core.setFrames_escSafe (c : Core) (l : List CamFrame) : (c.setFrames l).escSafe = c.escSafe := (rfl)
@[simp] theorem Core.setFrames_tickW (c : Core) (l : List CamFrame) : (c.setFrames l).tickW = c.tickW := (rfl)
@[simp] theorem Core.setFrames_slackW (c : Core) (l : List CamFrame) : (c.setFrames l).slackW = c.slackW := (rfl)
@[simp] theorem Core.setFrames_psets (c : Core) (l : List CamFrame) : (c.setFrames l).psets = c.psets := (rfl)
@[simp] theorem Core.setFrames_charts (c : Core) (l : List CamFrame) : (c.setFrames l).charts = c.charts := (rfl)
@[simp] theorem Core.setFrames_pilot (c : Core) (l : List CamFrame) : (c.setFrames l).pilot = c.pilot := (rfl)
@[simp] theorem Core.setFrames_ports (c : Core) (l : List CamFrame) : (c.setFrames l).ports = c.ports := (rfl)
@[simp] theorem Core.setFrames_seq (c : Core) (l : List CamFrame) : (c.setFrames l).seq = c.seq := (rfl)
@[simp] theorem Core.setFrames_layer (c : Core) (l : List CamFrame) : (c.setFrames l).layer = c.layer := (rfl)
@[simp] theorem Core.setFrames_bwk (c : Core) (l : List CamFrame) : (c.setFrames l).bwk = c.bwk := (rfl)
@[simp] theorem Core.setFrames_losses (c : Core) (l : List CamFrame) : (c.setFrames l).losses = c.losses := (rfl)
@[simp] theorem Core.setFrames_surgeOrder (c : Core) (l : List CamFrame) : (c.setFrames l).surgeOrder = c.surgeOrder := (rfl)
@[simp] theorem Core.setFrames_resWrite (c : Core) (l : List CamFrame) : (c.setFrames l).resWrite = c.resWrite := (rfl)
@[simp] theorem Core.setFrames_log (c : Core) (l : List CamFrame) : (c.setFrames l).log = c.log := (rfl)
@[simp] theorem Core.setFrames_twin (c : Core) (l : List CamFrame) : (c.setFrames l).twin = c.twin := (rfl)
@[simp] theorem Core.setFrames_casc (c : Core) (l : List CamFrame) : (c.setFrames l).casc = c.casc := (rfl)
@[simp] theorem Core.setFrames_drc (c : Core) (l : List CamFrame) : (c.setFrames l).drc = c.drc := (rfl)
@[simp] theorem Core.setFrames_lum (c : Core) (l : List CamFrame) : (c.setFrames l).lum = c.lum := (rfl)
@[simp] theorem Core.setFrames_mot (c : Core) (l : List CamFrame) : (c.setFrames l).mot = c.mot := (rfl)
@[simp] theorem Core.setFrames_tim (c : Core) (l : List CamFrame) : (c.setFrames l).tim = c.tim := (rfl)
@[simp] theorem Core.setFrames_hbr (c : Core) (l : List CamFrame) : (c.setFrames l).hbr = c.hbr := (rfl)
@[simp] theorem Core.setFrames_rst (c : Core) (l : List CamFrame) : (c.setFrames l).rst = c.rst := (rfl)
@[simp] theorem Core.setFrames_bst (c : Core) (l : List CamFrame) : (c.setFrames l).bst = c.bst := (rfl)
@[simp] theorem Core.setFrames_pcie (c : Core) (l : List CamFrame) : (c.setFrames l).pcie = c.pcie := (rfl)
@[simp] theorem Core.setFrames_planeDue (c : Core) (l : List CamFrame) : (c.setFrames l).planeDue = c.planeDue := (rfl)
@[simp] theorem Core.setFrames_out (c : Core) (l : List CamFrame) : (c.setFrames l).out = c.out := (rfl)
@[simp] theorem Core.setFrames_wq (c : Core) (l : List CamFrame) : (c.setFrames l).wq = c.wq := (rfl)
@[simp] theorem Core.rd_setFrames (c : Core) (l : List CamFrame) (g : Field) (j : Nat) : (c.setFrames l).rd g j = c.rd g j := (rfl)

/-! ### modPort -/

@[simp] theorem Core.modPort_regs (c : Core) (p : Nat) (f : Port → Port) : (c.modPort p f).regs = c.regs := (rfl)
@[simp] theorem Core.modPort_bootRegs (c : Core) (p : Nat) (f : Port → Port) : (c.modPort p f).bootRegs = c.bootRegs := (rfl)
@[simp] theorem Core.modPort_now (c : Core) (p : Nat) (f : Port → Port) : (c.modPort p f).now = c.now := (rfl)
@[simp] theorem Core.modPort_ticks (c : Core) (p : Nat) (f : Port → Port) : (c.modPort p f).ticks = c.ticks := (rfl)
@[simp] theorem Core.modPort_fresh (c : Core) (p : Nat) (f : Port → Port) : (c.modPort p f).fresh = c.fresh := (rfl)
@[simp] theorem Core.modPort_events (c : Core) (p : Nat) (f : Port → Port) : (c.modPort p f).events = c.events := (rfl)
@[simp] theorem Core.modPort_escHold (c : Core) (p : Nat) (f : Port → Port) : (c.modPort p f).escHold = c.escHold := (rfl)
@[simp] theorem Core.modPort_escSafe (c : Core) (p : Nat) (f : Port → Port) : (c.modPort p f).escSafe = c.escSafe := (rfl)
@[simp] theorem Core.modPort_tickW (c : Core) (p : Nat) (f : Port → Port) : (c.modPort p f).tickW = c.tickW := (rfl)
@[simp] theorem Core.modPort_slackW (c : Core) (p : Nat) (f : Port → Port) : (c.modPort p f).slackW = c.slackW := (rfl)
@[simp] theorem Core.modPort_psets (c : Core) (p : Nat) (f : Port → Port) : (c.modPort p f).psets = c.psets := (rfl)
@[simp] theorem Core.modPort_charts (c : Core) (p : Nat) (f : Port → Port) : (c.modPort p f).charts = c.charts := (rfl)
@[simp] theorem Core.modPort_pilot (c : Core) (p : Nat) (f : Port → Port) : (c.modPort p f).pilot = c.pilot := (rfl)
@[simp] theorem Core.modPort_seq (c : Core) (p : Nat) (f : Port → Port) : (c.modPort p f).seq = c.seq := (rfl)
@[simp] theorem Core.modPort_layer (c : Core) (p : Nat) (f : Port → Port) : (c.modPort p f).layer = c.layer := (rfl)
@[simp] theorem Core.modPort_bwk (c : Core) (p : Nat) (f : Port → Port) : (c.modPort p f).bwk = c.bwk := (rfl)
@[simp] theorem Core.modPort_losses (c : Core) (p : Nat) (f : Port → Port) : (c.modPort p f).losses = c.losses := (rfl)
@[simp] theorem Core.modPort_surgeOrder (c : Core) (p : Nat) (f : Port → Port) : (c.modPort p f).surgeOrder = c.surgeOrder := (rfl)
@[simp] theorem Core.modPort_resWrite (c : Core) (p : Nat) (f : Port → Port) : (c.modPort p f).resWrite = c.resWrite := (rfl)
@[simp] theorem Core.modPort_log (c : Core) (p : Nat) (f : Port → Port) : (c.modPort p f).log = c.log := (rfl)
@[simp] theorem Core.modPort_twin (c : Core) (p : Nat) (f : Port → Port) : (c.modPort p f).twin = c.twin := (rfl)
@[simp] theorem Core.modPort_casc (c : Core) (p : Nat) (f : Port → Port) : (c.modPort p f).casc = c.casc := (rfl)
@[simp] theorem Core.modPort_drc (c : Core) (p : Nat) (f : Port → Port) : (c.modPort p f).drc = c.drc := (rfl)
@[simp] theorem Core.modPort_img (c : Core) (p : Nat) (f : Port → Port) : (c.modPort p f).img = c.img := (rfl)
@[simp] theorem Core.modPort_lum (c : Core) (p : Nat) (f : Port → Port) : (c.modPort p f).lum = c.lum := (rfl)
@[simp] theorem Core.modPort_mot (c : Core) (p : Nat) (f : Port → Port) : (c.modPort p f).mot = c.mot := (rfl)
@[simp] theorem Core.modPort_tim (c : Core) (p : Nat) (f : Port → Port) : (c.modPort p f).tim = c.tim := (rfl)
@[simp] theorem Core.modPort_hbr (c : Core) (p : Nat) (f : Port → Port) : (c.modPort p f).hbr = c.hbr := (rfl)
@[simp] theorem Core.modPort_rst (c : Core) (p : Nat) (f : Port → Port) : (c.modPort p f).rst = c.rst := (rfl)
@[simp] theorem Core.modPort_bst (c : Core) (p : Nat) (f : Port → Port) : (c.modPort p f).bst = c.bst := (rfl)
@[simp] theorem Core.modPort_pcie (c : Core) (p : Nat) (f : Port → Port) : (c.modPort p f).pcie = c.pcie := (rfl)
@[simp] theorem Core.modPort_planeDue (c : Core) (p : Nat) (f : Port → Port) : (c.modPort p f).planeDue = c.planeDue := (rfl)
@[simp] theorem Core.modPort_out (c : Core) (p : Nat) (f : Port → Port) : (c.modPort p f).out = c.out := (rfl)
@[simp] theorem Core.modPort_wq (c : Core) (p : Nat) (f : Port → Port) : (c.modPort p f).wq = c.wq := (rfl)
@[simp] theorem Core.rd_modPort (c : Core) (p : Nat) (f : Port → Port) (g : Field) (j : Nat) : (c.modPort p f).rd g j = c.rd g j := (rfl)

/-! ### modCh -/

@[simp] theorem Core.modCh_regs (c : Core) (i : Nat) (f : SeqCh → SeqCh) : (c.modCh i f).regs = c.regs := (rfl)
@[simp] theorem Core.modCh_bootRegs (c : Core) (i : Nat) (f : SeqCh → SeqCh) : (c.modCh i f).bootRegs = c.bootRegs := (rfl)
@[simp] theorem Core.modCh_now (c : Core) (i : Nat) (f : SeqCh → SeqCh) : (c.modCh i f).now = c.now := (rfl)
@[simp] theorem Core.modCh_ticks (c : Core) (i : Nat) (f : SeqCh → SeqCh) : (c.modCh i f).ticks = c.ticks := (rfl)
@[simp] theorem Core.modCh_fresh (c : Core) (i : Nat) (f : SeqCh → SeqCh) : (c.modCh i f).fresh = c.fresh := (rfl)
@[simp] theorem Core.modCh_events (c : Core) (i : Nat) (f : SeqCh → SeqCh) : (c.modCh i f).events = c.events := (rfl)
@[simp] theorem Core.modCh_escHold (c : Core) (i : Nat) (f : SeqCh → SeqCh) : (c.modCh i f).escHold = c.escHold := (rfl)
@[simp] theorem Core.modCh_escSafe (c : Core) (i : Nat) (f : SeqCh → SeqCh) : (c.modCh i f).escSafe = c.escSafe := (rfl)
@[simp] theorem Core.modCh_tickW (c : Core) (i : Nat) (f : SeqCh → SeqCh) : (c.modCh i f).tickW = c.tickW := (rfl)
@[simp] theorem Core.modCh_slackW (c : Core) (i : Nat) (f : SeqCh → SeqCh) : (c.modCh i f).slackW = c.slackW := (rfl)
@[simp] theorem Core.modCh_psets (c : Core) (i : Nat) (f : SeqCh → SeqCh) : (c.modCh i f).psets = c.psets := (rfl)
@[simp] theorem Core.modCh_charts (c : Core) (i : Nat) (f : SeqCh → SeqCh) : (c.modCh i f).charts = c.charts := (rfl)
@[simp] theorem Core.modCh_pilot (c : Core) (i : Nat) (f : SeqCh → SeqCh) : (c.modCh i f).pilot = c.pilot := (rfl)
@[simp] theorem Core.modCh_ports (c : Core) (i : Nat) (f : SeqCh → SeqCh) : (c.modCh i f).ports = c.ports := (rfl)
@[simp] theorem Core.modCh_layer (c : Core) (i : Nat) (f : SeqCh → SeqCh) : (c.modCh i f).layer = c.layer := (rfl)
@[simp] theorem Core.modCh_bwk (c : Core) (i : Nat) (f : SeqCh → SeqCh) : (c.modCh i f).bwk = c.bwk := (rfl)
@[simp] theorem Core.modCh_losses (c : Core) (i : Nat) (f : SeqCh → SeqCh) : (c.modCh i f).losses = c.losses := (rfl)
@[simp] theorem Core.modCh_surgeOrder (c : Core) (i : Nat) (f : SeqCh → SeqCh) : (c.modCh i f).surgeOrder = c.surgeOrder := (rfl)
@[simp] theorem Core.modCh_resWrite (c : Core) (i : Nat) (f : SeqCh → SeqCh) : (c.modCh i f).resWrite = c.resWrite := (rfl)
@[simp] theorem Core.modCh_log (c : Core) (i : Nat) (f : SeqCh → SeqCh) : (c.modCh i f).log = c.log := (rfl)
@[simp] theorem Core.modCh_twin (c : Core) (i : Nat) (f : SeqCh → SeqCh) : (c.modCh i f).twin = c.twin := (rfl)
@[simp] theorem Core.modCh_casc (c : Core) (i : Nat) (f : SeqCh → SeqCh) : (c.modCh i f).casc = c.casc := (rfl)
@[simp] theorem Core.modCh_drc (c : Core) (i : Nat) (f : SeqCh → SeqCh) : (c.modCh i f).drc = c.drc := (rfl)
@[simp] theorem Core.modCh_img (c : Core) (i : Nat) (f : SeqCh → SeqCh) : (c.modCh i f).img = c.img := (rfl)
@[simp] theorem Core.modCh_lum (c : Core) (i : Nat) (f : SeqCh → SeqCh) : (c.modCh i f).lum = c.lum := (rfl)
@[simp] theorem Core.modCh_mot (c : Core) (i : Nat) (f : SeqCh → SeqCh) : (c.modCh i f).mot = c.mot := (rfl)
@[simp] theorem Core.modCh_tim (c : Core) (i : Nat) (f : SeqCh → SeqCh) : (c.modCh i f).tim = c.tim := (rfl)
@[simp] theorem Core.modCh_hbr (c : Core) (i : Nat) (f : SeqCh → SeqCh) : (c.modCh i f).hbr = c.hbr := (rfl)
@[simp] theorem Core.modCh_rst (c : Core) (i : Nat) (f : SeqCh → SeqCh) : (c.modCh i f).rst = c.rst := (rfl)
@[simp] theorem Core.modCh_bst (c : Core) (i : Nat) (f : SeqCh → SeqCh) : (c.modCh i f).bst = c.bst := (rfl)
@[simp] theorem Core.modCh_pcie (c : Core) (i : Nat) (f : SeqCh → SeqCh) : (c.modCh i f).pcie = c.pcie := (rfl)
@[simp] theorem Core.modCh_planeDue (c : Core) (i : Nat) (f : SeqCh → SeqCh) : (c.modCh i f).planeDue = c.planeDue := (rfl)
@[simp] theorem Core.modCh_out (c : Core) (i : Nat) (f : SeqCh → SeqCh) : (c.modCh i f).out = c.out := (rfl)
@[simp] theorem Core.modCh_wq (c : Core) (i : Nat) (f : SeqCh → SeqCh) : (c.modCh i f).wq = c.wq := (rfl)
@[simp] theorem Core.rd_modCh (c : Core) (i : Nat) (f : SeqCh → SeqCh) (g : Field) (j : Nat) : (c.modCh i f).rd g j = c.rd g j := (rfl)

/-! ### setLinkRx -/

@[simp] theorem Core.setLinkRx_regs (c : Core) (a b : Nat) : (c.setLinkRx a b).regs = c.regs := (rfl)
@[simp] theorem Core.setLinkRx_bootRegs (c : Core) (a b : Nat) : (c.setLinkRx a b).bootRegs = c.bootRegs := (rfl)
@[simp] theorem Core.setLinkRx_now (c : Core) (a b : Nat) : (c.setLinkRx a b).now = c.now := (rfl)
@[simp] theorem Core.setLinkRx_ticks (c : Core) (a b : Nat) : (c.setLinkRx a b).ticks = c.ticks := (rfl)
@[simp] theorem Core.setLinkRx_fresh (c : Core) (a b : Nat) : (c.setLinkRx a b).fresh = c.fresh := (rfl)
@[simp] theorem Core.setLinkRx_events (c : Core) (a b : Nat) : (c.setLinkRx a b).events = c.events := (rfl)
@[simp] theorem Core.setLinkRx_escHold (c : Core) (a b : Nat) : (c.setLinkRx a b).escHold = c.escHold := (rfl)
@[simp] theorem Core.setLinkRx_escSafe (c : Core) (a b : Nat) : (c.setLinkRx a b).escSafe = c.escSafe := (rfl)
@[simp] theorem Core.setLinkRx_tickW (c : Core) (a b : Nat) : (c.setLinkRx a b).tickW = c.tickW := (rfl)
@[simp] theorem Core.setLinkRx_slackW (c : Core) (a b : Nat) : (c.setLinkRx a b).slackW = c.slackW := (rfl)
@[simp] theorem Core.setLinkRx_psets (c : Core) (a b : Nat) : (c.setLinkRx a b).psets = c.psets := (rfl)
@[simp] theorem Core.setLinkRx_charts (c : Core) (a b : Nat) : (c.setLinkRx a b).charts = c.charts := (rfl)
@[simp] theorem Core.setLinkRx_pilot (c : Core) (a b : Nat) : (c.setLinkRx a b).pilot = c.pilot := (rfl)
@[simp] theorem Core.setLinkRx_ports (c : Core) (a b : Nat) : (c.setLinkRx a b).ports = c.ports := (rfl)
@[simp] theorem Core.setLinkRx_seq (c : Core) (a b : Nat) : (c.setLinkRx a b).seq = c.seq := (rfl)
@[simp] theorem Core.setLinkRx_layer (c : Core) (a b : Nat) : (c.setLinkRx a b).layer = c.layer := (rfl)
@[simp] theorem Core.setLinkRx_bwk (c : Core) (a b : Nat) : (c.setLinkRx a b).bwk = c.bwk := (rfl)
@[simp] theorem Core.setLinkRx_losses (c : Core) (a b : Nat) : (c.setLinkRx a b).losses = c.losses := (rfl)
@[simp] theorem Core.setLinkRx_surgeOrder (c : Core) (a b : Nat) : (c.setLinkRx a b).surgeOrder = c.surgeOrder := (rfl)
@[simp] theorem Core.setLinkRx_resWrite (c : Core) (a b : Nat) : (c.setLinkRx a b).resWrite = c.resWrite := (rfl)
@[simp] theorem Core.setLinkRx_log (c : Core) (a b : Nat) : (c.setLinkRx a b).log = c.log := (rfl)
@[simp] theorem Core.setLinkRx_twin (c : Core) (a b : Nat) : (c.setLinkRx a b).twin = c.twin := (rfl)
@[simp] theorem Core.setLinkRx_drc (c : Core) (a b : Nat) : (c.setLinkRx a b).drc = c.drc := (rfl)
@[simp] theorem Core.setLinkRx_img (c : Core) (a b : Nat) : (c.setLinkRx a b).img = c.img := (rfl)
@[simp] theorem Core.setLinkRx_lum (c : Core) (a b : Nat) : (c.setLinkRx a b).lum = c.lum := (rfl)
@[simp] theorem Core.setLinkRx_mot (c : Core) (a b : Nat) : (c.setLinkRx a b).mot = c.mot := (rfl)
@[simp] theorem Core.setLinkRx_tim (c : Core) (a b : Nat) : (c.setLinkRx a b).tim = c.tim := (rfl)
@[simp] theorem Core.setLinkRx_hbr (c : Core) (a b : Nat) : (c.setLinkRx a b).hbr = c.hbr := (rfl)
@[simp] theorem Core.setLinkRx_rst (c : Core) (a b : Nat) : (c.setLinkRx a b).rst = c.rst := (rfl)
@[simp] theorem Core.setLinkRx_bst (c : Core) (a b : Nat) : (c.setLinkRx a b).bst = c.bst := (rfl)
@[simp] theorem Core.setLinkRx_pcie (c : Core) (a b : Nat) : (c.setLinkRx a b).pcie = c.pcie := (rfl)
@[simp] theorem Core.setLinkRx_planeDue (c : Core) (a b : Nat) : (c.setLinkRx a b).planeDue = c.planeDue := (rfl)
@[simp] theorem Core.setLinkRx_out (c : Core) (a b : Nat) : (c.setLinkRx a b).out = c.out := (rfl)
@[simp] theorem Core.setLinkRx_wq (c : Core) (a b : Nat) : (c.setLinkRx a b).wq = c.wq := (rfl)
@[simp] theorem Core.rd_setLinkRx (c : Core) (a b : Nat) (g : Field) (j : Nat) : (c.setLinkRx a b).rd g j = c.rd g j := (rfl)

@[simp] theorem Core.emit_out (c : Core) (o : Output) : (c.emit o).out = c.out ++ [o] := (rfl)
@[simp] theorem Core.post_events (c : Core) (e n : Nat) (b : Bytes) (t : Option Time) :
    (c.post e n b t).events = c.events ++ [⟨e, n, t, b, c.ticks⟩] := (rfl)
@[simp] theorem Core.raiseHold_escHold (c : Core) (v : Nat) : (c.raiseHold v).escHold = c.escHold ++ [v] := (rfl)
@[simp] theorem Core.raiseSafe_escSafe (c : Core) (v : Nat) : (c.raiseSafe v).escSafe = c.escSafe ++ [v] := (rfl)
@[simp] theorem Core.dramWrite_wq (c : Core) (a : Nat) (b : Bytes) : (c.dramWrite a b).wq = c.wq ++ [(a, b)] := (rfl)
@[simp] theorem Core.modPilot_pilot (c : Core) (f : Pilot → Pilot) : (c.modPilot f).pilot = f c.pilot := (rfl)
@[simp] theorem Core.modHbr_hbr (c : Core) (f : Harbour → Harbour) : (c.modHbr f).hbr = f c.hbr := (rfl)
@[simp] theorem Core.modTwin_twin (c : Core) (f : Twin → Twin) : (c.modTwin f).twin = f c.twin := (rfl)
@[simp] theorem Core.modCasc_casc (c : Core) (f : Casc → Casc) : (c.modCasc f).casc = f c.casc := (rfl)
@[simp] theorem Core.modTim_tim (c : Core) (f : Tim → Tim) : (c.modTim f).tim = f c.tim := (rfl)
@[simp] theorem Core.modLog_log (c : Core) (f : LogBook → LogBook) : (c.modLog f).log = f c.log := (rfl)
@[simp] theorem Core.modDrc_drc (c : Core) (f : Drc → Drc) : (c.modDrc f).drc = f c.drc := (rfl)
@[simp] theorem Core.modRst_rst (c : Core) (f : RstSt → RstSt) : (c.modRst f).rst = f c.rst := (rfl)
@[simp] theorem Core.modBst_bst (c : Core) (f : Bst → Bst) : (c.modBst f).bst = f c.bst := (rfl)
@[simp] theorem Core.setBwk_bwk (c : Core) (b : Bwk) : (c.setBwk b).bwk = b := (rfl)
@[simp] theorem Core.seeLamps_lum (c : Core) (n : Nat) : (c.seeLamps n).lum = { c.lum with openLamps := n } := (rfl)
@[simp] theorem Core.setFrames_img (c : Core) (l : List CamFrame) : (c.setFrames l).img = { c.img with frames := l } := (rfl)
@[simp] theorem Core.modSink_lum (c : Core) (n : Nat) (f : Sink → Sink) : (c.modSink n f).lum =
    { c.lum with sinks := setAt Sink.init c.lum.sinks n (f (c.lum.sinks.getD n Sink.init)) } := (rfl)
@[simp] theorem Core.modAxis_mot (c : Core) (n : Nat) (f : Axis → Axis) : (c.modAxis n f).mot =
    { c.mot with axes := setAt Axis.init c.mot.axes n (f (c.mot.axes.getD n Axis.init)) } := (rfl)
@[simp] theorem Core.modCmp_mot (c : Core) (n : Nat) (f : Cmp → Cmp) : (c.modCmp n f).mot =
    { c.mot with cmps := setAt Cmp.init c.mot.cmps n (f (c.mot.cmps.getD n Cmp.init)) } := (rfl)
@[simp] theorem Core.modInc_mot (c : Core) (n : Nat) (f : IncIn → IncIn) : (c.modInc n f).mot =
    { c.mot with incs := setAt IncIn.init c.mot.incs n (f (c.mot.incs.getD n IncIn.init)) } := (rfl)
@[simp] theorem Core.modSsi_mot (c : Core) (n : Nat) (f : SsiIn → SsiIn) : (c.modSsi n f).mot =
    { c.mot with ssis := setAt SsiIn.init c.mot.ssis n (f (c.mot.ssis.getD n SsiIn.init)) } := (rfl)
@[simp] theorem Core.modIctx_img (c : Core) (n : Nat) (f : IplCtx → IplCtx) : (c.modIctx n f).img =
    { c.img with ctxs := setAt IplCtx.init c.img.ctxs n (f (c.img.ctxs.getD n IplCtx.init)) } := (rfl)
@[simp] theorem Core.modCam_img (c : Core) (n : Nat) (f : CamPort → CamPort) : (c.modCam n f).img =
    { c.img with ports := setAt CamPort.init c.img.ports n (f (c.img.ports.getD n CamPort.init)) } := (rfl)
@[simp] theorem Core.modShw_lum (c : Core) (k : Nat) (f : Shw → Shw) : (c.modShw k f).lum =
    { c.lum with chains := setAt Shw.init c.lum.chains (k - 16) (f (c.lum.chains.getD (k - 16) Shw.init)) } := (rfl)
theorem Core.sink_modSink (c : Core) (n j : Nat) (f : Sink → Sink) :
    (c.modSink n f).sink j = if j = n then f (c.sink n) else c.sink j :=
  getD_setAt _ _ _ _ _
theorem Core.axis_modAxis (c : Core) (n j : Nat) (f : Axis → Axis) :
    (c.modAxis n f).axis j = if j = n then f (c.axis n) else c.axis j :=
  getD_setAt _ _ _ _ _
theorem Core.cmp_modCmp (c : Core) (n j : Nat) (f : Cmp → Cmp) :
    (c.modCmp n f).cmp j = if j = n then f (c.cmp n) else c.cmp j :=
  getD_setAt _ _ _ _ _
theorem Core.ssi_modSsi (c : Core) (n j : Nat) (f : SsiIn → SsiIn) :
    (c.modSsi n f).ssi j = if j = n then f (c.ssi n) else c.ssi j :=
  getD_setAt _ _ _ _ _
theorem Core.ictx_modIctx (c : Core) (n j : Nat) (f : IplCtx → IplCtx) :
    (c.modIctx n f).ictx j = if j = n then f (c.ictx n) else c.ictx j :=
  getD_setAt _ _ _ _ _
theorem Core.camPort_modCam (c : Core) (n j : Nat) (f : CamPort → CamPort) :
    (c.modCam n f).camPort j = if j = n then f (c.camPort n) else c.camPort j :=
  getD_setAt _ _ _ _ _
theorem Core.ch_modCh (c : Core) (n j : Nat) (f : SeqCh → SeqCh) :
    (c.modCh n f).ch j = if j = n then f (c.ch n) else c.ch j :=
  getD_setAt _ _ _ _ _
theorem Core.port_modPort (c : Core) (n j : Nat) (f : Port → Port) :
    (c.modPort n f).port j = if j = n then f (c.port n) else c.port j :=
  getD_setAt _ _ _ _ _
@[simp] theorem Core.begin_out (c : Core) : c.begin.out = [] := (rfl)
@[simp] theorem Core.begin_wq (c : Core) : c.begin.wq = [] := (rfl)

@[simp] theorem Core.begin_held (c : Core) (d : Nat) : c.begin.held d = c.held d := (rfl)
@[simp] theorem Core.begin_flag (c : Core) (f : Field) (i : Nat) : c.begin.flag f i = c.flag f i := (rfl)
@[simp] theorem Core.begin_mode (c : Core) : c.begin.mode = c.mode := (rfl)
@[simp] theorem Core.begin_port (c : Core) (p : Nat) : c.begin.port p = c.port p := (rfl)
@[simp] theorem Core.begin_ch (c : Core) (i : Nat) : c.begin.ch i = c.ch i := (rfl)

@[simp] theorem Core.close_held (c : Core) (d : Nat) : c.close.held d = c.held d := (rfl)
@[simp] theorem Core.close_flag (c : Core) (f : Field) (i : Nat) : c.close.flag f i = c.flag f i := (rfl)
@[simp] theorem Core.close_mode (c : Core) : c.close.mode = c.mode := (rfl)
@[simp] theorem Core.close_port (c : Core) (p : Nat) : c.close.port p = c.port p := (rfl)
@[simp] theorem Core.close_ch (c : Core) (i : Nat) : c.close.ch i = c.ch i := (rfl)
@[simp] theorem Core.close_wq (c : Core) : c.close.wq = [] := (rfl)

/-- A flag of a core as its register field. -/
theorem Core.flag_eq (c : Core) (f : Field) (i : Nat) : c.flag f i = (c.rd f i != 0) := (rfl)

/-- A domain that runs takes its inputs. -/
theorem Core.unlessHeld_of {c : Core} {d : Nat} (h : c.held d = false) (f : Core → Core) : c.unlessHeld d f = f c := by
  simp [Core.unlessHeld, h]

/-- A domain in reset ignores its inputs (R420). -/
theorem Core.unlessHeld_held {c : Core} {d : Nat} (h : c.held d = true) (f : Core → Core) : c.unlessHeld d f = c := by
  simp [Core.unlessHeld, h]

theorem Core.regs_ite (p : Prop) {_ : Decidable p} (c d : Core) : (if p then c else d).regs = if p then c.regs else d.regs := by
  split <;> rfl
theorem Core.bootRegs_ite (p : Prop) {_ : Decidable p} (c d : Core) : (if p then c else d).bootRegs = if p then c.bootRegs else d.bootRegs := by
  split <;> rfl
theorem Core.now_ite (p : Prop) {_ : Decidable p} (c d : Core) : (if p then c else d).now = if p then c.now else d.now := by
  split <;> rfl
theorem Core.ticks_ite (p : Prop) {_ : Decidable p} (c d : Core) : (if p then c else d).ticks = if p then c.ticks else d.ticks := by
  split <;> rfl
theorem Core.fresh_ite (p : Prop) {_ : Decidable p} (c d : Core) : (if p then c else d).fresh = if p then c.fresh else d.fresh := by
  split <;> rfl
theorem Core.events_ite (p : Prop) {_ : Decidable p} (c d : Core) : (if p then c else d).events = if p then c.events else d.events := by
  split <;> rfl
theorem Core.escHold_ite (p : Prop) {_ : Decidable p} (c d : Core) : (if p then c else d).escHold = if p then c.escHold else d.escHold := by
  split <;> rfl
theorem Core.escSafe_ite (p : Prop) {_ : Decidable p} (c d : Core) : (if p then c else d).escSafe = if p then c.escSafe else d.escSafe := by
  split <;> rfl
theorem Core.tickW_ite (p : Prop) {_ : Decidable p} (c d : Core) : (if p then c else d).tickW = if p then c.tickW else d.tickW := by
  split <;> rfl
theorem Core.slackW_ite (p : Prop) {_ : Decidable p} (c d : Core) : (if p then c else d).slackW = if p then c.slackW else d.slackW := by
  split <;> rfl
theorem Core.psets_ite (p : Prop) {_ : Decidable p} (c d : Core) : (if p then c else d).psets = if p then c.psets else d.psets := by
  split <;> rfl
theorem Core.charts_ite (p : Prop) {_ : Decidable p} (c d : Core) : (if p then c else d).charts = if p then c.charts else d.charts := by
  split <;> rfl
theorem Core.pilot_ite (p : Prop) {_ : Decidable p} (c d : Core) : (if p then c else d).pilot = if p then c.pilot else d.pilot := by
  split <;> rfl
theorem Core.ports_ite (p : Prop) {_ : Decidable p} (c d : Core) : (if p then c else d).ports = if p then c.ports else d.ports := by
  split <;> rfl
theorem Core.seq_ite (p : Prop) {_ : Decidable p} (c d : Core) : (if p then c else d).seq = if p then c.seq else d.seq := by
  split <;> rfl
theorem Core.layer_ite (p : Prop) {_ : Decidable p} (c d : Core) : (if p then c else d).layer = if p then c.layer else d.layer := by
  split <;> rfl
theorem Core.bwk_ite (p : Prop) {_ : Decidable p} (c d : Core) : (if p then c else d).bwk = if p then c.bwk else d.bwk := by
  split <;> rfl
theorem Core.losses_ite (p : Prop) {_ : Decidable p} (c d : Core) : (if p then c else d).losses = if p then c.losses else d.losses := by
  split <;> rfl
theorem Core.surgeOrder_ite (p : Prop) {_ : Decidable p} (c d : Core) : (if p then c else d).surgeOrder = if p then c.surgeOrder else d.surgeOrder := by
  split <;> rfl
theorem Core.resWrite_ite (p : Prop) {_ : Decidable p} (c d : Core) : (if p then c else d).resWrite = if p then c.resWrite else d.resWrite := by
  split <;> rfl
theorem Core.log_ite (p : Prop) {_ : Decidable p} (c d : Core) : (if p then c else d).log = if p then c.log else d.log := by
  split <;> rfl
theorem Core.twin_ite (p : Prop) {_ : Decidable p} (c d : Core) : (if p then c else d).twin = if p then c.twin else d.twin := by
  split <;> rfl
theorem Core.casc_ite (p : Prop) {_ : Decidable p} (c d : Core) : (if p then c else d).casc = if p then c.casc else d.casc := by
  split <;> rfl
theorem Core.drc_ite (p : Prop) {_ : Decidable p} (c d : Core) : (if p then c else d).drc = if p then c.drc else d.drc := by
  split <;> rfl
theorem Core.img_ite (p : Prop) {_ : Decidable p} (c d : Core) : (if p then c else d).img = if p then c.img else d.img := by
  split <;> rfl
theorem Core.lum_ite (p : Prop) {_ : Decidable p} (c d : Core) : (if p then c else d).lum = if p then c.lum else d.lum := by
  split <;> rfl
theorem Core.mot_ite (p : Prop) {_ : Decidable p} (c d : Core) : (if p then c else d).mot = if p then c.mot else d.mot := by
  split <;> rfl
theorem Core.tim_ite (p : Prop) {_ : Decidable p} (c d : Core) : (if p then c else d).tim = if p then c.tim else d.tim := by
  split <;> rfl
theorem Core.hbr_ite (p : Prop) {_ : Decidable p} (c d : Core) : (if p then c else d).hbr = if p then c.hbr else d.hbr := by
  split <;> rfl
theorem Core.rst_ite (p : Prop) {_ : Decidable p} (c d : Core) : (if p then c else d).rst = if p then c.rst else d.rst := by
  split <;> rfl
theorem Core.bst_ite (p : Prop) {_ : Decidable p} (c d : Core) : (if p then c else d).bst = if p then c.bst else d.bst := by
  split <;> rfl
theorem Core.pcie_ite (p : Prop) {_ : Decidable p} (c d : Core) : (if p then c else d).pcie = if p then c.pcie else d.pcie := by
  split <;> rfl
theorem Core.planeDue_ite (p : Prop) {_ : Decidable p} (c d : Core) : (if p then c else d).planeDue = if p then c.planeDue else d.planeDue := by
  split <;> rfl
theorem Core.out_ite (p : Prop) {_ : Decidable p} (c d : Core) : (if p then c else d).out = if p then c.out else d.out := by
  split <;> rfl
theorem Core.wq_ite (p : Prop) {_ : Decidable p} (c d : Core) : (if p then c else d).wq = if p then c.wq else d.wq := by
  split <;> rfl
theorem Core.rd_ite (p : Prop) {_ : Decidable p} (c d : Core) (f : Field) (i : Nat) :
    (if p then c else d).rd f i = if p then c.rd f i else d.rd f i := by
  split <;> rfl

/-- A channel reads as what was put there, and every other channel as before. -/
theorem Core.ch_setCh (c : Core) (i j : Nat) (x : SeqCh) : (c.setCh i x).ch j = if j = i then x else c.ch j :=
  getD_setAt _ _ _ _ _

/-- A port reads as what was put there, and every other port as before. -/
theorem Core.port_setPort (c : Core) (i j : Nat) (x : Port) : (c.setPort i x).port j = if j = i then x else c.port j :=
  getD_setAt _ _ _ _ _

end Sys2Proof.Machine
end

