-- ==== Sys2Proof/Laws/Frame.lean ====
section
/-!
SUPPORT. Laws/Frame.lean: from a meaning over the core to a completed command: what `State.run` answers, once for every
row, and footprints of the updates that meanings are built from.
-/
namespace Sys2Proof.Machine

/-! ### Memory under accepted writes -/

/-- The fold that finds the latest byte, from any byte found before. -/
theorem pendingByte_from (ws : List (Nat × Bytes)) (a : Nat) : ∀ r : Option Byte,
    ws.foldl (fun r w => if w.1 ≤ a ∧ a < w.1 + w.2.length then some (w.2.getD (a - w.1) 0#8) else r) r =
      (pendingByte ws a).or r := by
  unfold pendingByte
  induction ws with
  | nil => intro r; cases r <;> rfl
  | cons w ws ih =>
    intro r
    simp only [List.foldl_cons]
    rw [ih, ih (if w.1 ≤ a ∧ a < w.1 + w.2.length then some (w.2.getD (a - w.1) 0#8) else none)]
    generalize List.foldl _ none ws = z
    split <;> cases z <;> simp

/-- Applying accepted writes gives what reading under them gives. -/
theorem Mem.read_applyAll (ws : List (Nat × Bytes)) : ∀ (m : Mem) (a : Nat),
    (Mem.applyAll m ws).read a = readUnder m ws a := by
  induction ws with
  | nil => intro m a; rfl
  | cons w ws ih =>
    intro m a
    obtain ⟨b, bs⟩ := w
    rw [Mem.applyAll, ih]
    unfold readUnder
    rw [Mem.read_writeBytes]
    have h : pendingByte ((b, bs) :: ws) a =
        (pendingByte ws a).or (if b ≤ a ∧ a < b + bs.length then some (bs.getD (a - b) 0#8) else none) := by
      rw [← pendingByte_from]
      rfl
    rw [h]
    cases pendingByte ws a with
    | some z => simp
    | none => by_cases hx : b ≤ a ∧ a < b + bs.length <;> simp [hx]

@[simp] theorem readUnder_nil (m : Mem) (a : Nat) : readUnder m [] a = m.read a := rfl

/-! ### What a command answers -/

@[simp] theorem State.finish_core (s : State) (c : Core) : (s.finish c).core = c.close := rfl
@[simp] theorem State.finish_pending (s : State) (c : Core) : (s.finish c).pending = s.pending := rfl
theorem State.finish_wire (s : State) (c : Core) : (s.finish c).wire = s.wireAfter (s.finish c).core := rfl
@[simp] theorem State.finish_dram (s : State) (c : Core) : (s.finish c).dram = Mem.applyAll s.dram c.wq := rfl

/-- A meaning over the core completes within a footprint once its core does. -/
theorem runs_of {i : Instr} {s : State} {fp : Footprint} {P : Core → Prop} (f : Core → Mem → Core)
    (he : exec i s = s.run f) (ho : (f s.core.begin s.dram).out = fp.outs) (hw : (f s.core.begin s.dram).wq = fp.writes)
    (hf : Only fp s.core.begin (f s.core.begin s.dram))
    (hP : P (f s.core.begin s.dram).close) : Runs i s fp P := by
  refine ⟨s.finish (f s.core.begin s.dram), he, rfl, ho, rfl, State.finish_wire s _, ?_, ⟨hf.1, ?_⟩, hP⟩
  · intro a
    rw [State.finish_dram, Mem.read_applyAll, hw]
  · intro p hp
    have h := hf.2 p hp
    cases p <;> exact h

/-! ### Footprints -/

theorem Only.refl (fp : Footprint) (c : Core) : Only fp c c :=
  ⟨fun _ _ _ => rfl, fun p _ => by cases p <;> rfl⟩

/-- A wider footprint holds what a narrower one does. -/
theorem Only.mono {fp gp : Footprint} {c d : Core} (h : Only fp c d) (hk : ∀ k, k ∈ fp.keys → k ∈ gp.keys)
    (hp : ∀ p, p ∈ fp.parts → p ∈ gp.parts) : Only gp c d :=
  ⟨fun f i hf => h.1 f i (fun hh => hf (hk _ hh)), fun p hq => h.2 p (fun hh => hq (hp _ hh))⟩

theorem Part.same_trans {p : Part} {c d e : Core} (h : p.same c d) (k : p.same d e) : p.same c e := by
  cases p <;> exact Eq.trans k h

theorem Only.trans {fp : Footprint} {c d e : Core} (h : Only fp c d) (k : Only fp d e) : Only fp c e :=
  ⟨fun f n hn => (k.1 f n hn).trans (h.1 f n hn), fun p hp => Part.same_trans (h.2 p hp) (k.2 p hp)⟩

/-- A write to a register field stays within a footprint that lists it. -/
theorem Only.wr {fp : Footprint} {c d : Core} (h : Only fp c d) (f : Field) (v i : Nat) (hk : f.key i ∈ fp.keys) :
    Only fp c (d.wr f v i) := by
  refine h.trans ⟨fun g j hj => Core.rd_wr_ne d f g v i j (fun e => hj (by rw [e]; exact hk)), fun p _ => by cases p <;> rfl⟩

/-- An update that leaves the register file alone stays within a footprint that lists the parts it changes. -/
theorem Only.upd {fp : Footprint} {c d e : Core} (h : Only fp c d) (hr : e.regs = d.regs)
    (hp : ∀ p : Part, p ∉ fp.parts → p.same d e) : Only fp c e :=
  h.trans ⟨fun f k _ => Core.rd_of_regs hr f k, hp⟩

/-! ### Footprints of the updates -/

theorem Only.post {fp : Footprint} {c d : Core} (h : Only fp c d) (e n : Nat) (b : Bytes) (t : Option Time) (hp : Part.events ∈ fp.parts) :
    Only fp c (d.post e n b t) :=
  h.upd rfl (fun p k => by cases p <;> first | rfl | exact absurd hp k)

theorem Only.raiseHold {fp : Footprint} {c d : Core} (h : Only fp c d) (v : Nat) (hp : Part.escHold ∈ fp.parts) :
    Only fp c (d.raiseHold v) :=
  h.upd rfl (fun p k => by cases p <;> first | rfl | exact absurd hp k)

theorem Only.raiseSafe {fp : Footprint} {c d : Core} (h : Only fp c d) (v : Nat) (hp : Part.escSafe ∈ fp.parts) :
    Only fp c (d.raiseSafe v) :=
  h.upd rfl (fun p k => by cases p <;> first | rfl | exact absurd hp k)

theorem Only.setCh {fp : Footprint} {c d : Core} (h : Only fp c d) (i : Nat) (x : SeqCh) (hp : Part.seq ∈ fp.parts) :
    Only fp c (d.setCh i x) :=
  h.upd rfl (fun p k => by cases p <;> first | rfl | exact absurd hp k)

theorem Only.setPort {fp : Footprint} {c d : Core} (h : Only fp c d) (i : Nat) (x : Port) (hp : Part.ports ∈ fp.parts) :
    Only fp c (d.setPort i x) :=
  h.upd rfl (fun p k => by cases p <;> first | rfl | exact absurd hp k)

theorem Only.modPilot {fp : Footprint} {c d : Core} (h : Only fp c d) (g : Pilot → Pilot) (hp : Part.pilot ∈ fp.parts) :
    Only fp c (d.modPilot g) :=
  h.upd rfl (fun p k => by cases p <;> first | rfl | exact absurd hp k)

theorem Only.modHbr {fp : Footprint} {c d : Core} (h : Only fp c d) (g : Harbour → Harbour) (hp : Part.hbr ∈ fp.parts) :
    Only fp c (d.modHbr g) :=
  h.upd rfl (fun p k => by cases p <;> first | rfl | exact absurd hp k)

theorem Only.modTwin {fp : Footprint} {c d : Core} (h : Only fp c d) (g : Twin → Twin) (hp : Part.twin ∈ fp.parts) :
    Only fp c (d.modTwin g) :=
  h.upd rfl (fun p k => by cases p <;> first | rfl | exact absurd hp k)

theorem Only.modCasc {fp : Footprint} {c d : Core} (h : Only fp c d) (g : Casc → Casc) (hp : Part.casc ∈ fp.parts) :
    Only fp c (d.modCasc g) :=
  h.upd rfl (fun p k => by cases p <;> first | rfl | exact absurd hp k)

theorem Only.modTim {fp : Footprint} {c d : Core} (h : Only fp c d) (g : Tim → Tim) (hp : Part.tim ∈ fp.parts) :
    Only fp c (d.modTim g) :=
  h.upd rfl (fun p k => by cases p <;> first | rfl | exact absurd hp k)

theorem Only.modLog {fp : Footprint} {c d : Core} (h : Only fp c d) (g : LogBook → LogBook) (hp : Part.log ∈ fp.parts) :
    Only fp c (d.modLog g) :=
  h.upd rfl (fun p k => by cases p <;> first | rfl | exact absurd hp k)

theorem Only.modDrc {fp : Footprint} {c d : Core} (h : Only fp c d) (g : Drc → Drc) (hp : Part.drc ∈ fp.parts) :
    Only fp c (d.modDrc g) :=
  h.upd rfl (fun p k => by cases p <;> first | rfl | exact absurd hp k)

theorem Only.modRst {fp : Footprint} {c d : Core} (h : Only fp c d) (g : RstSt → RstSt) (hp : Part.rst ∈ fp.parts) :
    Only fp c (d.modRst g) :=
  h.upd rfl (fun p k => by cases p <;> first | rfl | exact absurd hp k)

theorem Only.modBst {fp : Footprint} {c d : Core} (h : Only fp c d) (g : Bst → Bst) (hp : Part.bst ∈ fp.parts) :
    Only fp c (d.modBst g) :=
  h.upd rfl (fun p k => by cases p <;> first | rfl | exact absurd hp k)

theorem Only.setBwk {fp : Footprint} {c d : Core} (h : Only fp c d) (b : Bwk) (hp : Part.bwk ∈ fp.parts) :
    Only fp c (d.setBwk b) :=
  h.upd rfl (fun p k => by cases p <;> first | rfl | exact absurd hp k)

theorem Only.dramWrite {fp : Footprint} {c d : Core} (h : Only fp c d) (a : Nat) (b : Bytes) (hp : Part.drc ∈ fp.parts) :
    Only fp c (d.dramWrite a b) :=
  h.upd rfl (fun p k => by cases p <;> first | rfl | exact absurd hp k)

theorem Only.modSink {fp : Footprint} {c d : Core} (h : Only fp c d) (n : Nat) (g : Sink → Sink) (hp : Part.lum ∈ fp.parts) :
    Only fp c (d.modSink n g) :=
  h.upd rfl (fun p k => by cases p <;> first | rfl | exact absurd hp k)

theorem Only.modShw {fp : Footprint} {c d : Core} (h : Only fp c d) (n : Nat) (g : Shw → Shw) (hp : Part.lum ∈ fp.parts) :
    Only fp c (d.modShw n g) :=
  h.upd rfl (fun p k => by cases p <;> first | rfl | exact absurd hp k)

theorem Only.seeLamps {fp : Footprint} {c d : Core} (h : Only fp c d) (n : Nat) (hp : Part.lum ∈ fp.parts) :
    Only fp c (d.seeLamps n) :=
  h.upd rfl (fun p k => by cases p <;> first | rfl | exact absurd hp k)

theorem Only.modAxis {fp : Footprint} {c d : Core} (h : Only fp c d) (n : Nat) (g : Axis → Axis) (hp : Part.mot ∈ fp.parts) :
    Only fp c (d.modAxis n g) :=
  h.upd rfl (fun p k => by cases p <;> first | rfl | exact absurd hp k)

theorem Only.modCmp {fp : Footprint} {c d : Core} (h : Only fp c d) (n : Nat) (g : Cmp → Cmp) (hp : Part.mot ∈ fp.parts) :
    Only fp c (d.modCmp n g) :=
  h.upd rfl (fun p k => by cases p <;> first | rfl | exact absurd hp k)

theorem Only.modInc {fp : Footprint} {c d : Core} (h : Only fp c d) (n : Nat) (g : IncIn → IncIn) (hp : Part.mot ∈ fp.parts) :
    Only fp c (d.modInc n g) :=
  h.upd rfl (fun p k => by cases p <;> first | rfl | exact absurd hp k)

theorem Only.modSsi {fp : Footprint} {c d : Core} (h : Only fp c d) (n : Nat) (g : SsiIn → SsiIn) (hp : Part.mot ∈ fp.parts) :
    Only fp c (d.modSsi n g) :=
  h.upd rfl (fun p k => by cases p <;> first | rfl | exact absurd hp k)

theorem Only.modIctx {fp : Footprint} {c d : Core} (h : Only fp c d) (n : Nat) (g : IplCtx → IplCtx) (hp : Part.img ∈ fp.parts) :
    Only fp c (d.modIctx n g) :=
  h.upd rfl (fun p k => by cases p <;> first | rfl | exact absurd hp k)

theorem Only.modCam {fp : Footprint} {c d : Core} (h : Only fp c d) (n : Nat) (g : CamPort → CamPort) (hp : Part.img ∈ fp.parts) :
    Only fp c (d.modCam n g) :=
  h.upd rfl (fun p k => by cases p <;> first | rfl | exact absurd hp k)

theorem Only.setFrames {fp : Footprint} {c d : Core} (h : Only fp c d) (l : List CamFrame) (hp : Part.img ∈ fp.parts) :
    Only fp c (d.setFrames l) :=
  h.upd rfl (fun p k => by cases p <;> first | rfl | exact absurd hp k)

theorem Only.modPort {fp : Footprint} {c d : Core} (h : Only fp c d) (p : Nat) (g : Port → Port) (hp : Part.ports ∈ fp.parts) :
    Only fp c (d.modPort p g) :=
  h.upd rfl (fun p k => by cases p <;> first | rfl | exact absurd hp k)

theorem Only.modCh {fp : Footprint} {c d : Core} (h : Only fp c d) (i : Nat) (g : SeqCh → SeqCh) (hp : Part.seq ∈ fp.parts) :
    Only fp c (d.modCh i g) :=
  h.upd rfl (fun p k => by cases p <;> first | rfl | exact absurd hp k)

theorem Only.setLinkRx {fp : Footprint} {c d : Core} (h : Only fp c d) (a b : Nat) (hp : Part.casc ∈ fp.parts) :
    Only fp c (d.setLinkRx a b) :=
  h.upd rfl (fun p k => by cases p <;> first | rfl | exact absurd hp k)

theorem Only.emit {fp : Footprint} {c d : Core} (h : Only fp c d) (o : Output) : Only fp c (d.emit o) :=
  h.upd rfl (fun p _ => by cases p <;> rfl)

theorem Only.begin {fp : Footprint} {c d : Core} (h : Only fp c d) : Only fp c d.begin :=
  h.upd rfl (fun p _ => by cases p <;> rfl)

theorem Only.setFlag {fp : Footprint} {c d : Core} (h : Only fp c d) (f : Field) (b : Bool) (i : Nat)
    (hk : f.key i ∈ fp.keys) : Only fp c (d.setFlag f b i) := h.wr _ _ _ hk

theorem Only.inc {fp : Footprint} {c d : Core} (h : Only fp c d) (f : Field) (i n : Nat)
    (hk : f.key i ∈ fp.keys) : Only fp c (d.inc f i n) := h.wr _ _ _ hk

theorem Only.wrI {fp : Footprint} {c d : Core} (h : Only fp c d) (f : Field) (v : Int) (i : Nat)
    (hk : f.key i ∈ fp.keys) : Only fp c (d.wrI f v i) := h.wr _ _ _ hk

theorem Only.keepMax {fp : Footprint} {c d : Core} (h : Only fp c d) (f : Field) (v i : Nat)
    (hk : f.key i ∈ fp.keys) : Only fp c (d.keepMax f v i) := h.wr _ _ _ hk

/-- What two branches both stay within, the choice stays within. -/
theorem Only.ite {fp : Footprint} {c d e : Core} (p : Prop) {_ : Decidable p} (h : p → Only fp c d) (k : ¬p → Only fp c e) :
    Only fp c (if p then d else e) := by
  split
  · exact h ‹_›
  · exact k ‹_›

theorem Only.unlessHeld {fp : Footprint} {c d : Core} (n : Nat) (g : Core → Core) (h : Only fp c d)
    (k : Only fp c (g d)) : Only fp c (d.unlessHeld n g) := Only.ite _ (fun _ => h) (fun _ => k)

/-- A loop stays within a footprint when every pass does. -/
theorem Only.foldl {α : Type} {fp : Footprint} {c : Core} (g : Core → α → Core) (l : List α)
    (hg : ∀ d x, x ∈ l → Only fp c d → Only fp c (g d x)) : ∀ d, Only fp c d → Only fp c (l.foldl g d) := by
  induction l with
  | nil => intro d h; exact h
  | cons x l ih =>
    intro d h
    exact ih (fun d y hy => hg d y (List.mem_cons_of_mem x hy)) _ (hg d x List.mem_cons_self h)

theorem Only.forEach {fp : Footprint} {c d : Core} (n : Nat) (g : Core → Nat → Core)
    (hg : ∀ e i, i < n → Only fp c e → Only fp c (g e i)) (h : Only fp c d) : Only fp c (d.forEach n g) :=
  Only.foldl g _ (fun e i hi => hg e i (List.mem_range.mp hi)) d h

/-- One more pass of a loop. -/
theorem Core.forEach_succ (c : Core) (n : Nat) (g : Core → Nat → Core) :
    c.forEach (n + 1) g = g (c.forEach n g) n := by
  simp [Core.forEach, List.range_succ]

theorem Core.forEach_zero (c : Core) (g : Core → Nat → Core) : c.forEach 0 g = c := rfl

/-! ### What emits nothing and writes nothing to DRAM -/

/-- Nothing was emitted and no DRAM write accepted on the way from one core to the other. -/
def Quiet (c d : Core) : Prop := d.out = c.out ∧ d.wq = c.wq

theorem Quiet.refl (c : Core) : Quiet c c := ⟨rfl, rfl⟩

theorem Quiet.trans {c d e : Core} (h : Quiet c d) (k : Quiet d e) : Quiet c e := ⟨k.1.trans h.1, k.2.trans h.2⟩

theorem Quiet.upd {c d e : Core} (h : Quiet c d) (ho : e.out = d.out) (hw : e.wq = d.wq) : Quiet c e :=
  h.trans ⟨ho, hw⟩

theorem Quiet.ite {c d e : Core} (p : Prop) {_ : Decidable p} (h : p → Quiet c d) (k : ¬p → Quiet c e) :
    Quiet c (if p then d else e) := by
  split
  · exact h ‹_›
  · exact k ‹_›

theorem Quiet.unlessHeld {c d : Core} (n : Nat) (g : Core → Core) (h : Quiet c d) (k : Quiet c (g d)) :
    Quiet c (d.unlessHeld n g) := Quiet.ite _ (fun _ => h) (fun _ => k)

theorem Quiet.foldl {α : Type} {c : Core} (g : Core → α → Core) (l : List α)
    (hg : ∀ d x, x ∈ l → Quiet c d → Quiet c (g d x)) : ∀ d, Quiet c d → Quiet c (l.foldl g d) := by
  induction l with
  | nil => intro d h; exact h
  | cons x l ih =>
    intro d h
    exact ih (fun d y hy => hg d y (List.mem_cons_of_mem x hy)) _ (hg d x List.mem_cons_self h)

theorem Quiet.forEach {c d : Core} (n : Nat) (g : Core → Nat → Core)
    (hg : ∀ e i, i < n → Quiet c e → Quiet c (g e i)) (h : Quiet c d) : Quiet c (d.forEach n g) :=
  Quiet.foldl g _ (fun e i hi => hg e i (List.mem_range.mp hi)) d h

theorem Quiet.wr {c d : Core} (h : Quiet c d) (f : Field) (v i : Nat) : Quiet c (d.wr f v i) := h.upd rfl rfl
theorem Quiet.setFlag {c d : Core} (h : Quiet c d) (f : Field) (b : Bool) (i : Nat) : Quiet c (d.setFlag f b i) := h.upd rfl rfl
theorem Quiet.inc {c d : Core} (h : Quiet c d) (f : Field) (i n : Nat) : Quiet c (d.inc f i n) := h.upd rfl rfl
theorem Quiet.wrI {c d : Core} (h : Quiet c d) (f : Field) (v : Int) (i : Nat) : Quiet c (d.wrI f v i) := h.upd rfl rfl
theorem Quiet.keepMax {c d : Core} (h : Quiet c d) (f : Field) (v i : Nat) : Quiet c (d.keepMax f v i) := h.upd rfl rfl
theorem Quiet.post {c d : Core} (h : Quiet c d) (e n : Nat) (b : Bytes) (t : Option Time) : Quiet c (d.post e n b t) := h.upd rfl rfl
theorem Quiet.raiseHold {c d : Core} (h : Quiet c d) (v : Nat) : Quiet c (d.raiseHold v) := h.upd rfl rfl
theorem Quiet.raiseSafe {c d : Core} (h : Quiet c d) (v : Nat) : Quiet c (d.raiseSafe v) := h.upd rfl rfl
theorem Quiet.setCh {c d : Core} (h : Quiet c d) (i : Nat) (x : SeqCh) : Quiet c (d.setCh i x) := h.upd rfl rfl
theorem Quiet.setPort {c d : Core} (h : Quiet c d) (i : Nat) (x : Port) : Quiet c (d.setPort i x) := h.upd rfl rfl
theorem Quiet.modPilot {c d : Core} (h : Quiet c d) (g : Pilot → Pilot) : Quiet c (d.modPilot g) := h.upd rfl rfl
theorem Quiet.modHbr {c d : Core} (h : Quiet c d) (g : Harbour → Harbour) : Quiet c (d.modHbr g) := h.upd rfl rfl
theorem Quiet.modTwin {c d : Core} (h : Quiet c d) (g : Twin → Twin) : Quiet c (d.modTwin g) := h.upd rfl rfl
theorem Quiet.modCasc {c d : Core} (h : Quiet c d) (g : Casc → Casc) : Quiet c (d.modCasc g) := h.upd rfl rfl
theorem Quiet.modTim {c d : Core} (h : Quiet c d) (g : Tim → Tim) : Quiet c (d.modTim g) := h.upd rfl rfl
theorem Quiet.modLog {c d : Core} (h : Quiet c d) (g : LogBook → LogBook) : Quiet c (d.modLog g) := h.upd rfl rfl
theorem Quiet.modDrc {c d : Core} (h : Quiet c d) (g : Drc → Drc) : Quiet c (d.modDrc g) := h.upd rfl rfl
theorem Quiet.modRst {c d : Core} (h : Quiet c d) (g : RstSt → RstSt) : Quiet c (d.modRst g) := h.upd rfl rfl
theorem Quiet.modBst {c d : Core} (h : Quiet c d) (g : Bst → Bst) : Quiet c (d.modBst g) := h.upd rfl rfl
theorem Quiet.setBwk {c d : Core} (h : Quiet c d) (b : Bwk) : Quiet c (d.setBwk b) := h.upd rfl rfl
theorem Quiet.modSink {c d : Core} (h : Quiet c d) (n : Nat) (g : Sink → Sink) : Quiet c (d.modSink n g) := h.upd rfl rfl
theorem Quiet.modShw {c d : Core} (h : Quiet c d) (n : Nat) (g : Shw → Shw) : Quiet c (d.modShw n g) := h.upd rfl rfl
theorem Quiet.seeLamps {c d : Core} (h : Quiet c d) (n : Nat) : Quiet c (d.seeLamps n) := h.upd rfl rfl
theorem Quiet.modAxis {c d : Core} (h : Quiet c d) (n : Nat) (g : Axis → Axis) : Quiet c (d.modAxis n g) := h.upd rfl rfl
theorem Quiet.modCmp {c d : Core} (h : Quiet c d) (n : Nat) (g : Cmp → Cmp) : Quiet c (d.modCmp n g) := h.upd rfl rfl
theorem Quiet.modInc {c d : Core} (h : Quiet c d) (n : Nat) (g : IncIn → IncIn) : Quiet c (d.modInc n g) := h.upd rfl rfl
theorem Quiet.modSsi {c d : Core} (h : Quiet c d) (n : Nat) (g : SsiIn → SsiIn) : Quiet c (d.modSsi n g) := h.upd rfl rfl
theorem Quiet.modIctx {c d : Core} (h : Quiet c d) (n : Nat) (g : IplCtx → IplCtx) : Quiet c (d.modIctx n g) := h.upd rfl rfl
theorem Quiet.modCam {c d : Core} (h : Quiet c d) (n : Nat) (g : CamPort → CamPort) : Quiet c (d.modCam n g) := h.upd rfl rfl
theorem Quiet.setFrames {c d : Core} (h : Quiet c d) (l : List CamFrame) : Quiet c (d.setFrames l) := h.upd rfl rfl
theorem Quiet.modPort {c d : Core} (h : Quiet c d) (p : Nat) (g : Port → Port) : Quiet c (d.modPort p g) := h.upd rfl rfl
theorem Quiet.modCh {c d : Core} (h : Quiet c d) (i : Nat) (g : SeqCh → SeqCh) : Quiet c (d.modCh i g) := h.upd rfl rfl
theorem Quiet.setLinkRx {c d : Core} (h : Quiet c d) (a b : Nat) : Quiet c (d.setLinkRx a b) := h.upd rfl rfl

end Sys2Proof.Machine
end

