-- ==== Sys2Proof/Laws/PerInstr.lean ====
section
/-!
SUPPORT. Laws/PerInstr.lean: what holds of every command as syntax, one lemma a constructor.
-/
namespace Sys2Proof.Laws.RowShape

/-- A well-formed command carries at most 16 MiB. -/
def Statement (i : Instr) : Prop := WellFormed i → i.carried ≤ maxCopy

theorem both {a b : Bool} (h : (a && b) = true) : a = true ∧ b = true := by simpa using h

theorem bounded {n m : Nat} (hm : m ≤ maxCopy) (h : decide (n ≤ m) = true) : n ≤ maxCopy :=
  Nat.le_trans (of_decide_eq_true h) hm

theorem bounded_add {n m k j : Nat} (hm : m + j ≤ maxCopy) (h : decide (n ≤ m) = true) (hk : decide (k = j) = true) :
    n + k ≤ maxCopy :=
  Nat.le_trans (Nat.add_le_add (of_decide_eq_true h) (Nat.le_of_eq (of_decide_eq_true hk))) hm

theorem tick : Statement (.tick) := fun _ => Nat.zero_le _

theorem controlTick : Statement (.controlTick) := fun _ => Nat.zero_le _

theorem profileTick : Statement (.profileTick) := fun _ => Nat.zero_le _

theorem bell (inTx : List (Fin 7)) : Statement (.bell inTx) := fun _ => Nat.zero_le _

theorem gateEdge (ch : Fin 64) : Statement (.gateEdge ch) := fun _ => Nat.zero_le _

theorem tileCheckAtUse (ch : Fin 64) (corr : BitVec 16) (bad : Bool) : Statement (.tileCheckAtUse ch corr bad) :=
  fun _ => Nat.zero_le _

theorem tileReread (ch : Fin 64) (ue : Option (Fin 64 × Bool)) : Statement (.tileReread ch ue) := fun _ => Nat.zero_le _

theorem firstTileRecheck (ch : Fin 64) (ue : Option (Fin 64 × Bool)) : Statement (.firstTileRecheck ch ue) :=
  fun _ => Nat.zero_le _

theorem vstFetch (ns : BitVec 32) (ue : Option (Fin 64 × Bool)) : Statement (.vstFetch ns ue) := fun _ => Nat.zero_le _

theorem syncTimeout (ch : Fin 64) : Statement (.syncTimeout ch) := fun _ => Nat.zero_le _

theorem tickUp (p : Fin 21) (h : FrameHdr) (b : Bytes) : Statement (.tickUp p h b) := fun h =>
  bounded (n := b.length) (m := maxFrame) (by decide) h

theorem ackLost (p : Fin 16) : Statement (.ackLost p) := fun _ => Nat.zero_le _

theorem feedbackLost (ch : Fin 64) : Statement (.feedbackLost ch) := fun _ => Nat.zero_le _

theorem followingErrorLimit (ch : Fin 64) : Statement (.followingErrorLimit ch) := fun _ => Nat.zero_le _

theorem gateMismatch (ch : Fin 64) : Statement (.gateMismatch ch) := fun _ => Nat.zero_le _

theorem adoptionPlanningDone : Statement (.adoptionPlanningDone) := fun _ => Nat.zero_le _

theorem adoptionDone (ch : Fin 64) : Statement (.adoptionDone ch) := fun _ => Nat.zero_le _

theorem sample (p : Fin 16) (lane : Fin 2) (word : BitVec 32) (codeError : Bool) (lead : BitVec 32) (off : SubTick)
    : Statement (.sample p lane word codeError lead off) :=
  fun _ => Nat.zero_le _

theorem surgeWordTx (p : Fin 16) (lane : Fin 2) (off : SubTick) : Statement (.surgeWordTx p lane off) :=
  fun _ => Nat.zero_le _

theorem starve (ch : Fin 64) : Statement (.starve ch) := fun _ => Nat.zero_le _

theorem reservationRelease : Statement (.reservationRelease) := fun _ => Nat.zero_le _

theorem requestCapped (ch : Fin 64) : Statement (.requestCapped ch) := fun _ => Nat.zero_le _

theorem bwkWaitLong (ch : Fin 64) : Statement (.bwkWaitLong ch) := fun _ => Nat.zero_le _

theorem yield_ (ch : Fin 64) : Statement (.yield_ ch) := fun _ => Nat.zero_le _

theorem borderReq (p : Fin 21) (lane : Fin 2) (h : FrameHdr) (b : Bytes) : Statement (.borderReq p lane h b) := fun h =>
  bounded (n := b.length) (m := maxFrame) (by decide) h

theorem borderRound : Statement (.borderRound) := fun _ => Nat.zero_le _

theorem borderAns (p : Fin 21) (lane : Fin 2) (h : FrameHdr) (b : Bytes) : Statement (.borderAns p lane h b) := fun h =>
  bounded (n := b.length) (m := maxFrame) (by decide) h

theorem borderAnswerLatch : Statement (.borderAnswerLatch) := fun _ => Nat.zero_le _

theorem borderRel (p : Fin 21) (lane : Fin 2) (h : FrameHdr) (b : Bytes) : Statement (.borderRel p lane h b) := fun h =>
  bounded (n := b.length) (m := maxFrame) (by decide) h

theorem borderFenceExpiry : Statement (.borderFenceExpiry) := fun _ => Nat.zero_le _

theorem doorbell (v : BitVec 32) : Statement (.doorbell v) := fun _ => Nat.zero_le _

theorem mgmtDatagram (ip : BitVec 32) (port : BitVec 16) (data : Bytes) : Statement (.mgmtDatagram ip port data) := fun h =>
  bounded (n := data.length) (m := maxDatagram) (by decide) h

theorem arpRequest (ip : BitVec 32) : Statement (.arpRequest ip) := fun _ => Nat.zero_le _

theorem icmpEcho (ip : BitVec 32) (data : Bytes) : Statement (.icmpEcho ip data) := fun h =>
  bounded (n := data.length) (m := maxDatagram) (by decide) h

theorem sessionOpen (x : CmdImage) : Statement (.sessionOpen x) := fun h =>
  bounded (n := x.payload.length) (m := 240) (by decide) h

theorem sessionClose (x : CmdImage) : Statement (.sessionClose x) := fun h =>
  bounded (n := x.payload.length) (m := 240) (by decide) h

theorem tokenTake (x : CmdImage) : Statement (.tokenTake x) := fun h =>
  bounded (n := x.payload.length) (m := 240) (by decide) h

theorem tokenRelease (x : CmdImage) : Statement (.tokenRelease x) := fun h =>
  bounded (n := x.payload.length) (m := 240) (by decide) h

theorem keepalive (x : CmdImage) : Statement (.keepalive x) := fun h =>
  bounded (n := x.payload.length) (m := 240) (by decide) h

theorem eventRead (x : CmdImage) : Statement (.eventRead x) := fun h =>
  bounded (n := x.payload.length) (m := 240) (by decide) h

theorem objRead (x : CmdImage) : Statement (.objRead x) := fun h =>
  bounded (n := x.payload.length) (m := 240) (by decide) h

theorem objWrite (x : CmdImage) : Statement (.objWrite x) := fun h =>
  bounded (n := x.payload.length) (m := 240) (by decide) h

theorem objStage (x : CmdImage) : Statement (.objStage x) := fun h =>
  bounded (n := x.payload.length) (m := 240) (by decide) h

theorem stageCopyDone (bad : Option (BitVec 32 × Bool)) : Statement (.stageCopyDone bad) := fun _ => Nat.zero_le _

theorem stageRead (x : CmdImage) : Statement (.stageRead x) := fun h =>
  bounded (n := x.payload.length) (m := 240) (by decide) h

theorem check (x : CmdImage) : Statement (.check x) := fun h =>
  bounded (n := x.payload.length) (m := 240) (by decide) h

theorem checkDone (ue : Option (BitVec 48 × Bool)) (partner : Option (BitVec 32)) : Statement (.checkDone ue partner) :=
  fun _ => Nat.zero_le _

theorem commit (x : CmdImage) : Statement (.commit x) := fun h =>
  bounded (n := x.payload.length) (m := 240) (by decide) h

theorem discard (x : CmdImage) : Statement (.discard x) := fun h =>
  bounded (n := x.payload.length) (m := 240) (by decide) h

theorem stop (x : CmdImage) : Statement (.stop x) := fun h =>
  bounded (n := x.payload.length) (m := 240) (by decide) h

theorem hold (x : CmdImage) : Statement (.hold x) := fun h =>
  bounded (n := x.payload.length) (m := 240) (by decide) h

theorem abort (x : CmdImage) : Statement (.abort x) := fun h =>
  bounded (n := x.payload.length) (m := 240) (by decide) h

theorem arm (x : CmdImage) : Statement (.arm x) := fun h =>
  bounded (n := x.payload.length) (m := 240) (by decide) h

theorem disarm (x : CmdImage) : Statement (.disarm x) := fun h =>
  bounded (n := x.payload.length) (m := 240) (by decide) h

theorem resume (x : CmdImage) : Statement (.resume x) := fun h =>
  bounded (n := x.payload.length) (m := 240) (by decide) h

theorem safeClear (x : CmdImage) : Statement (.safeClear x) := fun h =>
  bounded (n := x.payload.length) (m := 240) (by decide) h

theorem serviceEnter (x : CmdImage) : Statement (.serviceEnter x) := fun h =>
  bounded (n := x.payload.length) (m := 240) (by decide) h

theorem serviceExit (x : CmdImage) : Statement (.serviceExit x) := fun h =>
  bounded (n := x.payload.length) (m := 240) (by decide) h

theorem tokenLapse : Statement (.tokenLapse) := fun _ => Nat.zero_le _

theorem tideMark : Statement (.tideMark) := fun _ => Nat.zero_le _

theorem tideMarkNoManifest : Statement (.tideMarkNoManifest) := fun _ => Nat.zero_le _

theorem evConsWrite (v : BitVec 32) : Statement (.evConsWrite v) := fun _ => Nat.zero_le _

theorem evHoldoffExpiry : Statement (.evHoldoffExpiry) := fun _ => Nat.zero_le _

theorem msixUnmask (v : Fin 64) (masked : Bool) : Statement (.msixUnmask v masked) := fun _ => Nat.zero_le _

theorem registerWrite (off : BitVec 32) (data : Bytes) : Statement (.registerWrite off data) := fun h =>
  bounded (n := data.length) (m := maxBus) (by decide) (both h).2

theorem statReadClear (obj : BitVec 16) (inst : BitVec 16) : Statement (.statReadClear obj inst) :=
  fun _ => Nat.zero_le _

theorem slackEntry : Statement (.slackEntry) := fun _ => Nat.zero_le _

theorem slackLong : Statement (.slackLong) := fun _ => Nat.zero_le _

theorem holdSettled : Statement (.holdSettled) := fun _ => Nat.zero_le _

theorem safetyInputTrip (inp : Fin 3) (gateNs : BitVec 16) : Statement (.safetyInputTrip inp gateNs) :=
  fun _ => Nat.zero_le _

theorem safetyInputRelease (inp : Fin 3) : Statement (.safetyInputRelease inp) := fun _ => Nat.zero_le _

theorem safetyDiscrepancy : Statement (.safetyDiscrepancy) := fun _ => Nat.zero_le _

theorem watchdogMiss : Statement (.watchdogMiss) := fun _ => Nat.zero_le _

theorem watchdogReset : Statement (.watchdogReset) := fun _ => Nat.zero_le _

theorem adpRestore (ch : Fin 64) : Statement (.adpRestore ch) := fun _ => Nat.zero_le _

theorem alignmentLoss (sight : LinkSight) : Statement (.alignmentLoss sight) := fun _ => Nat.zero_le _

theorem ts1 (p : Fin 21) (lane : Fin 2) (p0 : BitVec 8) (p1 : BitVec 8) (p2 : BitVec 8) (p3 : BitVec 8) : Statement
    (.ts1 p lane p0 p1 p2 p3) :=
  fun _ => Nat.zero_le _

theorem ts2 (p : Fin 21) (lane : Fin 2) (p0 : BitVec 8) (p1 : BitVec 8) (p2 : BitVec 8) (p3 : BitVec 8) : Statement
    (.ts2 p lane p0 p1 p2 p3) :=
  fun _ => Nat.zero_le _

theorem rate (p : Fin 21) (lane : Fin 2) (p0 : BitVec 8) : Statement (.rate p lane p0) := fun _ => Nat.zero_le _

theorem eqReq (p : Fin 21) (lane : Fin 2) (p0 : BitVec 8) (p1 : BitVec 8) (p2 : BitVec 8) (p3 : BitVec 8) :
    Statement (.eqReq p lane p0 p1 p2 p3) :=
  fun _ => Nat.zero_le _

theorem eqAck (p : Fin 21) (lane : Fin 2) (p1 : BitVec 8) (p2 : BitVec 8) (p3 : BitVec 8) (verdict : Fin 3) (actions
    : BitVec 8) : Statement (.eqAck p lane p1 p2 p3 verdict actions) :=
  fun _ => Nat.zero_le _

theorem eqDone (p : Fin 21) (lane : Fin 2) (p0 : BitVec 8) (p1 : BitVec 8) : Statement (.eqDone p lane p0 p1) :=
  fun _ => Nat.zero_le _

theorem eqTimeout (p : Fin 21) : Statement (.eqTimeout p) := fun _ => Nat.zero_le _

theorem echoReq (p : Fin 21) (lane : Fin 2) (p0 : BitVec 8) (p1 : BitVec 8) (turnaround : BitVec 16) : Statement
    (.echoReq p lane p0 p1 turnaround) :=
  fun _ => Nat.zero_le _

theorem echoRsp (p : Fin 21) (lane : Fin 2) (p0 : BitVec 8) (p1 : BitVec 8) (p2 : BitVec 8) (p3 : BitVec 8) (rtt :
    BitVec 32) : Statement (.echoRsp p lane p0 p1 p2 p3 rtt) :=
  fun _ => Nat.zero_le _

theorem linkUp (p : Fin 21) (lane : Fin 2) (p0 : BitVec 8) : Statement (.linkUp p lane p0) := fun _ => Nat.zero_le _

theorem retrain (p : Fin 21) (lane : Fin 2) : Statement (.retrain p lane) := fun _ => Nat.zero_le _

theorem portTrainTimeout (p : Fin 21) : Statement (.portTrainTimeout p) := fun _ => Nat.zero_le _

theorem portRetry (p : Fin 21) : Statement (.portRetry p) := fun _ => Nat.zero_le _

theorem neapReq (p : Fin 21) (lane : Fin 2) : Statement (.neapReq p lane) := fun _ => Nat.zero_le _

theorem neapAck (p : Fin 21) (lane : Fin 2) (p0 : BitVec 8) : Statement (.neapAck p lane p0) := fun _ => Nat.zero_le _

theorem wake (p : Fin 21) (lane : Fin 2) : Statement (.wake p lane) := fun _ => Nat.zero_le _

theorem neapWakeDetect (p : Fin 21) : Statement (.neapWakeDetect p) := fun _ => Nat.zero_le _

theorem neapExitTimeout (p : Fin 21) : Statement (.neapExitTimeout p) := fun _ => Nat.zero_le _

theorem retrainWrite (p : Fin 21) : Statement (.retrainWrite p) := fun _ => Nat.zero_le _

theorem neapEnter (p : Fin 21) : Statement (.neapEnter p) := fun _ => Nat.zero_le _

theorem neapExit (p : Fin 21) : Statement (.neapExit p) := fun _ => Nat.zero_le _

theorem clearStats (p : Fin 21) : Statement (.clearStats p) := fun _ => Nat.zero_le _

theorem timeSet : Statement (.timeSet) := fun _ => Nat.zero_le _

theorem cfgWrRsp (p : Fin 21) (h : FrameHdr) (b : Bytes) : Statement (.cfgWrRsp p h b) := fun h =>
  bounded (n := b.length) (m := maxFrame) (by decide) h

theorem cfgRdRsp (p : Fin 21) (h : FrameHdr) (b : Bytes) : Statement (.cfgRdRsp p h b) := fun h =>
  bounded (n := b.length) (m := maxFrame) (by decide) h

theorem cfgRetransmit (p : Fin 21) : Statement (.cfgRetransmit p) := fun _ => Nat.zero_le _

theorem enumRsp (p : Fin 21) (h : FrameHdr) (b : Bytes) : Statement (.enumRsp p h b) := fun h =>
  bounded (n := b.length) (m := maxFrame) (by decide) h

theorem auxDataUp (p : Fin 21) (h : FrameHdr) (b : Bytes) : Statement (.auxDataUp p h b) := fun h =>
  bounded (n := b.length) (m := maxFrame) (by decide) h

theorem nodeEvent (p : Fin 21) (h : FrameHdr) (b : Bytes) : Statement (.nodeEvent p h b) := fun h =>
  bounded (n := b.length) (m := maxFrame) (by decide) h

theorem cassRsp (p : Fin 21) (h : FrameHdr) (b : Bytes) (issuerKey : Bytes) : Statement (.cassRsp p h b issuerKey)
    := fun h =>
  bounded_add (n := b.length) (m := maxFrame) (k := issuerKey.length) (j := 64) (by decide) (both h).1 (both h).2

theorem cassetteAuthDone (k : Fin 68) : Statement (.cassetteAuthDone k) := fun _ => Nat.zero_le _

theorem csiFrameStart (port : Fin 8) (vc : Fin 16) (fn : BitVec 16) (ecc : Fin 3) (off : SubTick) : Statement
    (.csiFrameStart port vc fn ecc off) :=
  fun _ => Nat.zero_le _

theorem csiLongPacket (port : Fin 8) (vc : Fin 16) (dt : BitVec 6) (ecc : Fin 3) (crcOk : Bool) (data : Bytes) :
    Statement (.csiLongPacket port vc dt ecc crcOk data) := fun h =>
  bounded (n := data.length) (m := maxPacket) (by decide) h

theorem csiFrameEnd (port : Fin 8) (vc : Fin 16) (ecc : Fin 3) : Statement (.csiFrameEnd port vc ecc) :=
  fun _ => Nat.zero_le _

theorem frameTimeout (k : Fin 32) : Statement (.frameTimeout k) := fun _ => Nat.zero_le _

theorem frameMissing (k : Fin 32) : Statement (.frameMissing k) := fun _ => Nat.zero_le _

theorem pipelineTake (pipe : Fin 2) : Statement (.pipelineTake pipe) := fun _ => Nat.zero_le _

theorem featureRecordDone (pass : PipelinePass) : Statement (.featureRecordDone pass) := fun _ => Nat.zero_le _

theorem iplCaptureDark (x : CmdImage) : Statement (.iplCaptureDark x) := fun h =>
  bounded (n := x.payload.length) (m := 240) (by decide) h

theorem iplCaptureFlat (x : CmdImage) : Statement (.iplCaptureFlat x) := fun h =>
  bounded (n := x.payload.length) (m := 240) (by decide) h

theorem ctrigPeriodic (p : Fin 8) (off : SubTick) : Statement (.ctrigPeriodic p off) := fun _ => Nat.zero_le _

theorem pulse (p : Fin 8) : Statement (.pulse p) := fun _ => Nat.zero_le _

theorem sinkPeriodStart (n : Fin 16) (off : SubTick) (openLamps : BitVec 16) : Statement (.sinkPeriodStart n off
    openLamps) :=
  fun _ => Nat.zero_le _

theorem fadeStep : Statement (.fadeStep) := fun _ => Nat.zero_le _

theorem levelWrite (n : Fin 16) (v : BitVec 16) : Statement (.levelWrite n v) := fun _ => Nat.zero_le _

theorem globalWrite (v : BitVec 16) : Statement (.globalWrite v) := fun _ => Nat.zero_le _

theorem shortDetect (lower : Fin 15) : Statement (.shortDetect lower) := fun _ => Nat.zero_le _

theorem clearShort (n : Fin 16) : Statement (.clearShort n) := fun _ => Nat.zero_le _

theorem openchkMaxdefer (n : Fin 16) : Statement (.openchkMaxdefer n) := fun _ => Nat.zero_le _

theorem diagPulse (n : Fin 16) (off : SubTick) (heldUA : BitVec 32) (openLamps : BitVec 16) :
    Statement (.diagPulse n off heldUA openLamps) :=
  fun _ => Nat.zero_le _

theorem shwFrameStart (chain : Fin 2) : Statement (.shwFrameStart chain) := fun _ => Nat.zero_le _

theorem shwFrameDone (chain : Fin 2) (returned : Bytes) : Statement (.shwFrameDone chain returned) := fun h =>
  bounded (n := returned.length) (m := maxPacket) (by decide) h

theorem update (chain : Fin 2) : Statement (.update chain) := fun _ => Nat.zero_le _

theorem motMove (x : CmdImage) : Statement (.motMove x) := fun h =>
  bounded (n := x.payload.length) (m := 240) (by decide) h

theorem motHalt (x : CmdImage) : Statement (.motHalt x) := fun h =>
  bounded (n := x.payload.length) (m := 240) (by decide) h

theorem motContinue (x : CmdImage) : Statement (.motContinue x) := fun h =>
  bounded (n := x.payload.length) (m := 240) (by decide) h

theorem motSetPos (x : CmdImage) : Statement (.motSetPos x) := fun h =>
  bounded (n := x.payload.length) (m := 240) (by decide) h

theorem motClear (x : CmdImage) : Statement (.motClear x) := fun h =>
  bounded (n := x.payload.length) (m := 240) (by decide) h

theorem mfltNFault (n : Fin 8) (active : Bool) : Statement (.mfltNFault n active) := fun _ => Nat.zero_le _

theorem axisStall (n : Fin 8) : Statement (.axisStall n) := fun _ => Nat.zero_le _

theorem recoatStep : Statement (.recoatStep) := fun _ => Nat.zero_le _

theorem rcSettleExpiry : Statement (.rcSettleExpiry) := fun _ => Nat.zero_le _

theorem encoderCount (enc : Fin 8) (levels : EncLevels) (lasts : BitVec 8) (off : SubTick) :
    Statement (.encoderCount enc levels lasts off) := fun _ => Nat.zero_le _

theorem indexEvent (enc : Fin 8) : Statement (.indexEvent enc) := fun _ => Nat.zero_le _

theorem ssiReadingStart (j : Fin 4) : Statement (.ssiReadingStart j) := fun _ => Nat.zero_le _

theorem ssiReadingDone (j : Fin 4) (raw : BitVec 32) (ends : SsiEnds) (off : SubTick) :
    Statement (.ssiReadingDone j raw ends off) := fun _ => Nat.zero_le _

theorem compareArm (u : Fin 8) : Statement (.compareArm u) := fun _ => Nat.zero_le _

theorem incStickyClear (enc : Fin 8) : Statement (.incStickyClear enc) := fun _ => Nat.zero_le _

theorem incFaultClear (enc : Fin 8) : Statement (.incFaultClear enc) := fun _ => Nat.zero_le _

theorem ssiFaultClear (j : Fin 4) : Statement (.ssiFaultClear j) := fun _ => Nat.zero_le _

theorem cmpStickyClear (u : Fin 8) : Statement (.cmpStickyClear u) := fun _ => Nat.zero_le _

theorem twnHandover (x : CmdImage) : Statement (.twnHandover x) := fun h =>
  bounded (n := x.payload.length) (m := 240) (by decide) h

theorem heartbeatSend : Statement (.heartbeatSend) := fun _ => Nat.zero_le _

theorem twnHb (h : FrameHdr) (b : Bytes) : Statement (.twnHb h b) := fun h =>
  bounded (n := b.length) (m := maxFrame) (by decide) h

theorem heartbeatPulse (width : BitVec 16) : Statement (.heartbeatPulse width) := fun _ => Nat.zero_le _

theorem partnerFailed : Statement (.partnerFailed) := fun _ => Nat.zero_le _

theorem pathAlarm : Statement (.pathAlarm) := fun _ => Nat.zero_le _

theorem soloTimeout : Statement (.soloTimeout) := fun _ => Nat.zero_le _

theorem heartbeatWithheld : Statement (.heartbeatWithheld) := fun _ => Nat.zero_le _

theorem twnCmd (h : FrameHdr) (b : Bytes) : Statement (.twnCmd h b) := fun h =>
  bounded (n := b.length) (m := maxFrame) (by decide) h

theorem twnInput (h : FrameHdr) (b : Bytes) : Statement (.twnInput h b) := fun h =>
  bounded (n := b.length) (m := maxFrame) (by decide) h

theorem twnTick (h : FrameHdr) (b : Bytes) : Statement (.twnTick h b) := fun h =>
  bounded (n := b.length) (m := maxFrame) (by decide) h

theorem stateDigest : Statement (.stateDigest) := fun _ => Nat.zero_le _

theorem twnDigest (h : FrameHdr) (b : Bytes) : Statement (.twnDigest h b) := fun h =>
  bounded (n := b.length) (m := maxFrame) (by decide) h

theorem twnSync (h : FrameHdr) (b : Bytes) : Statement (.twnSync h b) := fun h =>
  bounded (n := b.length) (m := maxFrame) (by decide) h

theorem twnRole (h : FrameHdr) (b : Bytes) : Statement (.twnRole h b) := fun h =>
  bounded (n := b.length) (m := maxFrame) (by decide) h

theorem resyncBoundary (snap : Snapshot) : Statement (.resyncBoundary snap) := fun _ => Nat.zero_le _

theorem takebackProposal : Statement (.takebackProposal) := fun _ => Nat.zero_le _

theorem roleExchange : Statement (.roleExchange) := fun _ => Nat.zero_le _

theorem cscHbSend : Statement (.cscHbSend) := fun _ => Nat.zero_le _

theorem cscHb (p : Fin 21) (h : FrameHdr) (b : Bytes) : Statement (.cscHb p h b) := fun h =>
  bounded (n := b.length) (m := maxFrame) (by decide) h

theorem cscReady (p : Fin 21) (h : FrameHdr) (b : Bytes) : Statement (.cscReady p h b) := fun h =>
  bounded (n := b.length) (m := maxFrame) (by decide) h

theorem cscAnnounce (p : Fin 21) (h : FrameHdr) (b : Bytes) : Statement (.cscAnnounce p h b) := fun h =>
  bounded (n := b.length) (m := maxFrame) (by decide) h

theorem announcedBoundary : Statement (.announcedBoundary) := fun _ => Nat.zero_le _

theorem cscHold (p : Fin 21) (h : FrameHdr) (b : Bytes) : Statement (.cscHold p h b) := fun h =>
  bounded (n := b.length) (m := maxFrame) (by decide) h

theorem cscMemberLost : Statement (.cscMemberLost) := fun _ => Nat.zero_le _

theorem cscLeadLost : Statement (.cscLeadLost) := fun _ => Nat.zero_le _

theorem ppsInEdge (quarter : Fin 2000) : Statement (.ppsInEdge quarter) := fun _ => Nat.zero_le _

theorem plantSync (ident : BitVec 64) (sec : BitVec 48) (ns : BitVec 32) (corr : BitVec 64) (logInt : BitVec 8) (off
    : SubTick) : Statement (.plantSync ident sec ns corr logInt off) :=
  fun _ => Nat.zero_le _

theorem linkMeasurement (bells : List (Fin 3 × BitVec 32)) : Statement (.linkMeasurement bells) := fun _ => Nat.zero_le _

theorem sourceLost : Statement (.sourceLost) := fun _ => Nat.zero_le _

theorem srcWrite (v : Fin 3) : Statement (.srcWrite v) := fun _ => Nat.zero_le _

theorem timSet (x : CmdImage) : Statement (.timSet x) := fun h =>
  bounded (n := x.payload.length) (m := 240) (by decide) h

theorem timRestep (x : CmdImage) : Statement (.timRestep x) := fun h =>
  bounded (n := x.payload.length) (m := 240) (by decide) h

theorem ptpSyncTx (off : SubTick) : Statement (.ptpSyncTx off) := fun _ => Nat.zero_le _

theorem ptpAnnounceTx (off : SubTick) : Statement (.ptpAnnounceTx off) := fun _ => Nat.zero_le _

theorem delayReq (port : Fin 2) (ty : BitVec 4) (dom : BitVec 8) (seq : BitVec 16) (off : SubTick) : Statement
    (.delayReq port ty dom seq off) :=
  fun _ => Nat.zero_le _

theorem foreignAnnounce (port : Fin 2) (ident : BitVec 64) : Statement (.foreignAnnounce port ident) :=
  fun _ => Nat.zero_le _

theorem tcForward (port : Fin 2) (ty : BitVec 4) (dom : BitVec 8) (ident : BitVec 80) (seq : BitVec 16) (twoStep :
    Bool) (corr : BitVec 64) (off : SubTick) (residence : BitVec 32) : Statement (.tcForward port ty dom ident seq
    twoStep corr off residence) :=
  fun _ => Nat.zero_le _

theorem timTxqRead : Statement (.timTxqRead) := fun _ => Nat.zero_le _

theorem ppsOutSecond : Statement (.ppsOutSecond) := fun _ => Nat.zero_le _

theorem dramTrainingDone (t : TrainResult) : Statement (.dramTrainingDone t) := fun _ => Nat.zero_le _

theorem drcInitDone : Statement (.drcInitDone) := fun _ => Nat.zero_le _

theorem refresh (sub : Fin 4) (bank : Fin 64) (hits : Bool) : Statement (.refresh sub bank hits) :=
  fun _ => Nat.zero_le _

theorem mr4Poll (rank : Fin 2) (raised : Bool) : Statement (.mr4Poll rank raised) := fun _ => Nat.zero_le _

theorem rowActThreshold (sub : Fin 4) (bank : Fin 64) (row : BitVec 18) : Statement (.rowActThreshold sub bank row) :=
  fun _ => Nat.zero_le _

theorem patrolScrub (result : Fin 3) : Statement (.patrolScrub result) := fun _ => Nat.zero_le _

theorem dramCalSlice (sub : Fin 4) (fifosLow : Bool) (last : Bool) (passed : Bool) : Statement (.dramCalSlice sub
    fifosLow last passed) :=
  fun _ => Nat.zero_le _

theorem bar2Read (addr : BitVec 48) (n : BitVec 16) (bad : Option (BitVec 16 × Bool)) : Statement (.bar2Read addr n bad) :=
  fun _ => Nat.zero_le _

theorem bar2Write (addr : BitVec 48) (data : Bytes) : Statement (.bar2Write addr data) := fun h =>
  bounded (n := data.length) (m := maxBus) (by decide) (both h).2

theorem tswProdWrite (v : BitVec 32) : Statement (.tswProdWrite v) := fun _ => Nat.zero_le _

theorem tswDescriptorDone (data : Bytes) (hostErr : Bool) : Statement (.tswDescriptorDone data hostErr) := fun h =>
  bounded (n := data.length) (m := maxCopy) (by decide) h

theorem perstN (low : Bool) : Statement (.perstN low) := fun _ => Nat.zero_le _

theorem calRun (x : CmdImage) : Statement (.calRun x) := fun h =>
  bounded (n := x.payload.length) (m := 240) (by decide) h

theorem calGroupDone (chan : Option (Fin 64)) (passed : Bool) (values : Bytes) : Statement (.calGroupDone chan
    passed values) := fun h =>
  bounded (n := values.length) (m := maxValues) (by decide) h

theorem calExpired : Statement (.calExpired) := fun _ => Nat.zero_le _

theorem calRecordWrite (part : Fin 9) (failed : Fin 3) : Statement (.calRecordWrite part failed) :=
  fun _ => Nat.zero_le _

theorem hkSlotConversion (reading : Option (BitVec 16)) : Statement (.hkSlotConversion reading) :=
  fun _ => Nat.zero_le _

theorem lockstepMismatch : Statement (.lockstepMismatch) := fun _ => Nat.zero_le _

theorem hbrRestart : Statement (.hbrRestart) := fun _ => Nat.zero_le _

theorem updStage (x : CmdImage) : Statement (.updStage x) := fun h =>
  bounded (n := x.payload.length) (m := 240) (by decide) h

theorem updStageDone (good : Bool) : Statement (.updStageDone good) := fun _ => Nat.zero_le _

theorem updActivate (x : CmdImage) : Statement (.updActivate x) := fun h =>
  bounded (n := x.payload.length) (m := 240) (by decide) h

theorem updConfirm (x : CmdImage) : Statement (.updConfirm x) := fun h =>
  bounded (n := x.payload.length) (m := 240) (by decide) h

theorem conReauth (x : CmdImage) : Statement (.conReauth x) := fun h =>
  bounded (n := x.payload.length) (m := 240) (by decide) h

theorem conOverride (x : CmdImage) : Statement (.conOverride x) := fun h =>
  bounded (n := x.payload.length) (m := 240) (by decide) h

theorem conIssuer (x : CmdImage) : Statement (.conIssuer x) := fun h =>
  bounded (n := x.payload.length) (m := 240) (by decide) h

theorem hbrTrimWrite (x : CmdImage) : Statement (.hbrTrimWrite x) := fun h =>
  bounded (n := x.payload.length) (m := 240) (by decide) h

theorem recordSeal : Statement (.recordSeal) := fun _ => Nat.zero_le _

theorem summaryBatchDone : Statement (.summaryBatchDone) := fun _ => Nat.zero_le _

theorem recClear (x : CmdImage) : Statement (.recClear x) := fun h =>
  bounded (n := x.payload.length) (m := 240) (by decide) h

theorem recSummaryRead (x : CmdImage) : Statement (.recSummaryRead x) := fun h =>
  bounded (n := x.payload.length) (m := 240) (by decide) h

theorem powerOn (percent : BitVec 8) (us : BitVec 16) : Statement (.powerOn percent us) := fun _ => Nat.zero_le _

theorem powerFail : Statement (.powerFail) := fun _ => Nat.zero_le _

theorem resetNAssert : Statement (.resetNAssert) := fun _ => Nat.zero_le _

theorem resetNRelease : Statement (.resetNRelease) := fun _ => Nat.zero_le _

theorem clockQualified (d : Fin 10) : Statement (.clockQualified d) := fun _ => Nat.zero_le _

theorem domainRelease (r : ReleaseStep) : Statement (.domainRelease r) := fun _ => Nat.zero_le _

theorem clockQualLost (d : Fin 10) (reason : Fin 2) : Statement (.clockQualLost d reason) := fun _ => Nat.zero_le _

theorem swResetSet (d : Fin 10) : Statement (.swResetSet d) := fun _ => Nat.zero_le _

theorem swResetClear (d : Fin 10) : Statement (.swResetClear d) := fun _ => Nat.zero_le _

theorem devReset (x : CmdImage) : Statement (.devReset x) := fun h =>
  bounded (n := x.payload.length) (m := 240) (by decide) h

theorem bootImageSelect (t : BistResult) : Statement (.bootImageSelect t) := fun _ => Nat.zero_le _

theorem bringupDone : Statement (.bringupDone) := fun _ => Nat.zero_le _

theorem bstShutdown (x : CmdImage) : Statement (.bstShutdown x) := fun h =>
  bounded (n := x.payload.length) (m := 240) (by decide) h

theorem shutdownTestDone (t : BistResult) : Statement (.shutdownTestDone t) := fun _ => Nat.zero_le _

theorem bstFuseRepair (x : CmdImage) : Statement (.bstFuseRepair x) := fun h =>
  bounded (n := x.payload.length) (m := 240) (by decide) h

theorem jtagInstruction (instr : JtagInstr) : Statement (.jtagInstruction instr) := fun _ => Nat.zero_le _

theorem cassRspTimeout (k : Fin 68) : Statement (.cassRspTimeout k) := fun _ => Nat.zero_le _

theorem internalResetRelease : Statement (.internalResetRelease) := fun _ => Nat.zero_le _

theorem busMasterEnable (on : Bool) : Statement (.busMasterEnable on) := fun _ => Nat.zero_le _

theorem frameDiscarded (p : Fin 21) (positive : Bool) (groups : List (BitVec 10)) (ending : BitVec 10) :
    Statement (.frameDiscarded p positive groups ending) :=
  fun h => bounded (by decide) h

theorem lmSetBad (at_ : PortLane) (set : BitVec 72) : Statement (.lmSetBad at_ set) := fun _ => Nat.zero_le _

theorem plantAnnounce (ident : BitVec 64) (utc : BitVec 16) (rank : List (BitVec 64)) : Statement (.plantAnnounce
    ident utc rank) :=
  fun _ => Nat.zero_le _

theorem ptpDelayResp (port : Fin 2) (seq : BitVec 16) (sec : BitVec 48) (ns : BitVec 32) (turn : BitVec 32) (corr :
    BitVec 64) (off : SubTick) : Statement (.ptpDelayResp port seq sec ns turn corr off) :=
  fun _ => Nat.zero_le _

theorem ptpDelayReqTx (port : Fin 2) (off : SubTick) : Statement (.ptpDelayReqTx port off) := fun _ => Nat.zero_le _

theorem machSyncRx (sec : BitVec 48) (ns : BitVec 32) (corr : BitVec 64) (off : SubTick) : Statement (.machSyncRx
    sec ns corr off) :=
  fun _ => Nat.zero_le _

end Sys2Proof.Laws.RowShape
end

