-- ==== Sys2Proof/Tests/Slice0.lean ====
section
/-!
SUPPORT. Tests/Slice0.lean: tests of the model's own: an ill-formed command for each check of WellFormed, small checks against
numbers that the manual or a hand calculation gives, and for each clause of the statements a state and operands that meet its
hypotheses.
-/
open Sys2Proof Sys2Proof.Machine
namespace Sys2Proof.Tests

set_option Elab.async false

/-- A core in a mode with no domain held, and some registers written. -/
def inMode (m : Mode) (l : List (Field × Nat × Nat)) : Core :=
  l.foldl (fun c w => c.wr w.1 w.2.2 w.2.1) ((Core.reset.wr RST_STATE.IN_RESET 0).wr PLT_MODE.MODE m.code)

/-- A state of a core, with no DRAM written and nothing waiting. -/
def st (c : Core) : State := ⟨c, [], [], State.reset.wire⟩

/-- A good frame header of a type over a payload (R163). -/
def hdrOf (ftype flags node seq tag aux : Nat) (b : Bytes := []) : FrameHdr :=
  ⟨.ofNat 8 flags, .ofNat 16 node, .ofNat 16 seq, .ofNat 32 tag, .ofNat 16 aux,
    .ofNat 32 (crc32c (hdrBytes ftype flags node seq tag aux ++ b))⟩

theorem crcBit_lt (r : Nat) (h : r < 2 ^ 32) : crcBit r < 2 ^ 32 := by
  unfold crcBit
  split
  · exact Nat.xor_lt_two_pow (by omega) (by decide)
  · omega

theorem crcByte_lt (r : Nat) (b : Byte) (h : r < 2 ^ 32) : crcByte r b < 2 ^ 32 := by
  have hb : b.toNat < 2 ^ 32 := Nat.lt_trans b.isLt (by decide)
  exact crcBit_lt _ (crcBit_lt _ (crcBit_lt _ (crcBit_lt _ (crcBit_lt _ (crcBit_lt _ (crcBit_lt _ (crcBit_lt _
    (Nat.xor_lt_two_pow h hb))))))))

theorem crc_lt (bs : Bytes) (r : Nat) (h : r < 2 ^ 32) : bs.foldl crcByte r < 2 ^ 32 := by
  induction bs generalizing r with
  | nil => exact h
  | cons b bs ih => exact ih _ (crcByte_lt r b h)

/-- A header built by `hdrOf` carries the check word of its frame. -/
theorem hdrOf_check (ft fl nd sq tg ax : Nat) (b : Bytes) (h1 : fl < 2 ^ 8) (h2 : nd < 2 ^ 16) (h3 : sq < 2 ^ 16)
    (h4 : tg < 2 ^ 32) (h5 : ax < 2 ^ 16) : checkOk ft (hdrOf ft fl nd sq tg ax b) b = true := by
  have hc : crc32c (hdrBytes ft fl nd sq tg ax ++ b) < 2 ^ 32 := Nat.xor_lt_two_pow (crc_lt _ _ (by decide)) (by decide)
  simp only [checkOk, hdrOf, BitVec.toNat_ofNat, Nat.mod_eq_of_lt h1, Nat.mod_eq_of_lt h2, Nat.mod_eq_of_lt h3,
    Nat.mod_eq_of_lt h4, Nat.mod_eq_of_lt h5, Nat.mod_eq_of_lt hc, beq_self_eq_true]

/-- The frame of a forwarded command over 256 zeros is good. -/
theorem longCmd_good (flags tag : Nat) (h1 : flags < 2 ^ 8) (h4 : tag < 2 ^ 32)
    (h : hdrOk lp2 (hdrOf 0x51 flags 0 7 tag 0 ([2#8, 7#8, 0#8, 0#8] ++ zeros 256)) = true) :
    frameGood lp2 0x51 (hdrOf 0x51 flags 0 7 tag 0 ([2#8, 7#8, 0#8, 0#8] ++ zeros 256)) ([2#8, 7#8, 0#8, 0#8] ++ zeros 256) =
      true := by
  rw [frameGood, hdrOf_check 0x51 flags 0 7 tag 0 _ h1 (by decide) (by decide) h4 (by decide), h]
  decide +kernel

/-! ### Ill-formed commands are refused -/

theorem length_zeros (n : Nat) : (zeros n).length = n := List.length_replicate

theorem test_wf_bell : wellFormed (.bell (List.replicate 22 0)) = false := by decide
theorem test_wf_frame (h : FrameHdr) : wellFormed (.twnSync h (zeros 4105)) = false := by
  simp only [wellFormed, length_zeros]; decide
theorem test_wf_datagram : wellFormed (.mgmtDatagram 0 0 (zeros 1473)) = false := by
  simp only [wellFormed, length_zeros]; decide
theorem test_wf_echo : wellFormed (.icmpEcho 0 (zeros 1473)) = false := by
  simp only [wellFormed, length_zeros]; decide
theorem test_wf_command : wellFormed (.keepalive ⟨0, 0, 0, 0, 0, 0, 0, 0, 0, zeros 241⟩) = false := by
  simp only [wellFormed, CmdImage.wellFormed, length_zeros]; decide
theorem test_wf_register_empty : wellFormed (.registerWrite 0 []) = false := by decide
theorem test_wf_register_long : wellFormed (.registerWrite 0 (zeros 4097)) = false := by
  simp only [wellFormed, length_zeros]; decide
theorem test_wf_bar2_write : wellFormed (.bar2Write 0 []) = false := by decide
theorem test_wf_bar2_read : wellFormed (.bar2Read 0 0 none) = false := by decide
theorem test_wf_bar2_read_long : wellFormed (.bar2Read 0 4097 none) = false := by decide
theorem test_wf_cassette_frame (h : FrameHdr) : wellFormed (.cassRsp 0 h (zeros 4105) (zeros 64)) = false := by
  simp only [wellFormed, length_zeros]; decide
theorem test_wf_issuer_key (h : FrameHdr) : wellFormed (.cassRsp 0 h [] (zeros 63)) = false := by
  simp only [wellFormed, length_zeros]; decide
theorem test_wf_packet : wellFormed (.csiLongPacket 0 0 0 0 true (zeros 65536)) = false := by
  simp only [wellFormed, length_zeros]; decide
theorem test_wf_shingle : wellFormed (.shwFrameDone 0 (zeros 65536)) = false := by
  simp only [wellFormed, length_zeros]; decide
theorem test_wf_snapshot_port : wellFormed (.resyncBoundary ⟨0, [], [], [], [], [], [(21, 0, 0)], [], []⟩) = false := by
  decide
theorem test_wf_snapshot_link : wellFormed (.resyncBoundary ⟨0, [], [], [], [], [], [], [(0, 65536)], []⟩) = false := by
  decide
theorem test_wf_snapshot_border :
    wellFormed (.resyncBoundary ⟨0, [], [], [], [], [], [], [], [(0, zeros 4105)]⟩) = false := by
  simp only [wellFormed, Snapshot.wellFormed, List.all_cons, List.all_nil, length_zeros]; decide
theorem test_wf_copy : wellFormed (.tswDescriptorDone (zeros 16777217) false) = false := by
  simp only [wellFormed, length_zeros]; decide
theorem test_wf_values : wellFormed (.calGroupDone none true (zeros 225)) = false := by
  simp only [wellFormed, length_zeros]; decide
theorem test_wf_unrepaired : wellFormed (.bootImageSelect ⟨false, [(5, 0, 0), (5, 0, 0)], 0, [], 9⟩) = false := by decide
theorem test_wf_lane_twice : wellFormed (.shutdownTestDone ⟨false, [], 0, [(5, 1), (5, 1)], 9⟩) = false := by decide
theorem test_wf_groups : wellFormed (.frameDiscarded 0 true (List.replicate 32969 0) 0) = false := by
  simp only [wellFormed, List.length_replicate]; decide
theorem test_wf_rank : wellFormed (.plantAnnounce 0 0 (List.replicate 9 0)) = false := by decide
theorem test_wf_tick : wellFormed .tick = true := by decide

/-! ### Numbers that the manual gives -/

/-- R6: the check value over the string "123456789". -/
theorem test_crc : crc32c [0x31#8, 0x32#8, 0x33#8, 0x34#8, 0x35#8, 0x36#8, 0x37#8, 0x38#8, 0x39#8] = 0xE3069283 := by
  decide +kernel

/-- FIPS 180-4, the digest of the string "abc". -/
theorem test_sha256 : sha256 [0x61#8, 0x62#8, 0x63#8] =
    0xBA7816BF8F01CFEA414140DE5DAE2223B00361A396177A9CB410FF61F20015AD := by decide +kernel

/-- R5: 0 is newer than 65535, 32768 ahead is stale. -/
theorem test_seq_newer : seqNewer 16 0 65535 = true := by decide
theorem test_seq_stale : seqNewer 16 32768 0 = false := by decide

/-- R14: a tick advances machine time by 500 ns once TIM runs. -/
theorem test_tick_time : (match exec .tick (st (Core.reset.wr RST_STATE.IN_RESET (0x3FE - 2 ^ domTIM))) with
    | .next t => t.core.now
    | _ => 0) = 500 * 65536 := by decide +kernel

/-- A queue is served first in, first out. -/
theorem test_step_order : ∃ t, step { st (inMode .standby []) with pending := [.busMasterEnable true, .tick] } = .next t ∧
    t.pending = [.tick] := by
  refine ⟨_, rfl, ?_⟩
  decide +kernel

/-- No row of the table gives bits. -/
theorem test_no_word : decodeTableWord 16 0x3001 = none := by decide

/-! ### States and operands that meet the hypotheses of the statements -/

/-- What DRAM holds after a string was written into empty memory. -/
theorem readBytes_written (a n : Nat) (bs : Bytes) (h : bs.length ≤ n) :
    readBytesUnder (Mem.writeBytes [] a bs) [] a n = bs ++ zeros (n - bs.length) := by
  apply List.ext_getElem
  · simp [readBytesUnder, zeros]; omega
  · intro i h1 h2
    simp only [readBytesUnder, List.length_map, List.length_range] at h1
    simp only [readBytesUnder, List.getElem_map, List.getElem_range, readUnder, pendingByte,
      Mem.read_writeBytes, List.getElem_append, zeros, List.getElem_replicate]
    by_cases hi : i < bs.length
    · simp [hi]
    · simp [hi, Mem.read, Kv.get, Kv.find, Mem.unlisted]

namespace WitGeneral

def hd (d : Nat) : Core := inMode .standby [(RST_STATE.IN_RESET, 0, 2 ^ d)]
def img : CmdImage := ⟨2, 7, 5, 1, 0, 0, 0, 0, 0, []⟩
def hh : FrameHdr := ⟨0, 1, 2, 3, 0, 0⟩

theorem witness_StepRunsTheFrontCommand_0 : ∃ (i : Instr) (rest : List Instr) (s : State),
    s.pending = i :: rest :=
  ⟨.tick, [.bell []], ⟨inMode .standby [], [], [.tick, .bell []], []⟩, by decide +kernel⟩

theorem witness_StepRunsTheFrontCommand_1 : ∃ (s : State),
    s.pending = [] :=
  ⟨State.reset, by decide +kernel⟩

theorem witness_EveryStepKeepsTheInvariant_0 : ∃ (s : State),
    s.Inv :=
  ⟨⟨inMode .standby [], [(4096, 7#8)], [.tick], []⟩, by unfold State.Inv; decide +kernel⟩

theorem witness_ResetAsSpecified_3 : ∃ (f : Field) (k : Nat),
    f.key k ≠ TWN_STATE.PREFERRED.key 0 :=
  ⟨TWN_STATE.PREFERRED, 1, by decide +kernel⟩

theorem witness_ReservationsConflictByGeometry_2 : ∃ (u : Box) (v : Box),
    (u.xhi = v.xlo ∨ v.xhi = u.xlo ∨ u.yhi = v.ylo ∨ v.yhi = u.ylo) :=
  ⟨⟨0, 1, 0, 1⟩, ⟨1, 2, 0, 1⟩, by decide +kernel⟩

theorem witness_HeldDomainsIgnoreInputs_0 : ∃ (s : State) (r : Nat × (CmdImage → Instr)) (_x : CmdImage) (_v : BitVec 32),
    r ∈ mailboxRows ∧
    s.core.held domPLT = true :=
  ⟨st (hd domPLT), (0xA001, .twnHandover), img, 255, by simp [mailboxRows], by decide +kernel⟩

theorem witness_HeldDomainsIgnoreInputs_1 : ∃ (s : State) (_p : Fin 21) (_lane : Fin 2) (_h : FrameHdr) (_b : Bytes),
    s.core.held domFAB = true :=
  ⟨st (hd domFAB), 20, 1, hh, zeros 8, by decide +kernel⟩

theorem witness_HeldDomainsIgnoreInputs_2 : ∃ (s : State) (_p : Fin 16) (_lane : Fin 2) (_w : BitVec 32) (_lead : BitVec 32) (_e : Bool) (_off : SubTick),
    s.core.held domEXP = true :=
  ⟨st (hd domEXP), 15, 1, 0, 0, false, 0, by decide +kernel⟩

theorem witness_HeldDomainsIgnoreInputs_3 : ∃ (s : State) (_p : Fin 8) (_vc : Fin 16) (_fn : BitVec 16) (_dt : BitVec 6) (_ecc : Fin 3) (_ok : Bool) (_b : Bytes) (_off : SubTick),
    s.core.held domCAM = true :=
  ⟨st (hd domCAM), 7, 15, 0, 0, 0, true, [], 0, by decide +kernel⟩

theorem witness_HeldDomainsIgnoreInputs_4 : ∃ (s : State) (_n : Fin 8) (_j : Fin 4) (_lv : EncLevels) (_ends : SsiEnds) (_k : BitVec 8) (_raw : BitVec 32) (_off : SubTick),
    s.core.held domMOT = true :=
  ⟨st (hd domMOT), 7, 3, ⟨true, true, true⟩, ⟨true, true⟩, 0, 0, 0, by decide +kernel⟩

theorem witness_HeldDomainsIgnoreInputs_5 : ∃ (s : State) (_n : Fin 16) (_off : SubTick) (_lamps : BitVec 16),
    s.core.held domLUM = true :=
  ⟨st (hd domLUM), 15, 0, 0, by decide +kernel⟩

theorem witness_HeldDomainsIgnoreInputs_6 : ∃ (s : State) (_q : Fin 2000) (_v : Fin 3),
    s.core.held domTIM = true :=
  ⟨st (hd domTIM), 1999, 2, by decide +kernel⟩

theorem witness_HeldDomainsIgnoreInputs_7 : ∃ (s : State) (_sub : Fin 4) (_bank : Fin 64) (_fields : Fin 64) (_row : BitVec 18) (_hits : Bool) (_k : Fin 3),
    s.core.held domMEM = true :=
  ⟨st (hd domMEM), 3, 63, 63, 0, true, 2, by decide +kernel⟩

theorem witness_HeldDomainsIgnoreInputs_8 : ∃ (s : State) (_r : BistResult) (_x : Option (BitVec 16)),
    s.core.held domHBR = true :=
  ⟨st (hd domHBR), ⟨true, [], 0, [], 0⟩, some 5, by decide +kernel⟩

end WitGeneral

namespace WitClock

def quiet (l : List (Field × Nat × Nat)) : Core := inMode .standby ([(RST_STATE.IN_RESET, 0, 2 ^ domFAB + 2 ^ domCAM + 2 ^ domMOT + 2 ^ domLUM + 2 ^ domHBR)] ++ l)
def ax7 (st_ : Nat) (f : Axis → Axis) : Core := (inMode .standby [(MOT_STATE.STATE, 7, st_), (MOT_CONFIG.ENC_SRC, 7, 12), (MOT_CONFIG.VMAX, 7, 100000), (MOT_CONFIG.AMAX, 7, 1000000), (MOT_CONFIG.JMAX, 7, 10000)]).modAxis 7 f

theorem witness_TicksLatchAndAdvance_0 : ∃ (s : State),
    s.core.rst.dueAt = none :=
  ⟨st (quiet []), by decide +kernel⟩

theorem witness_TicksLatchAndAdvance_1 : ∃ (s : State),
    s.core.held domTIM = true ∧
    s.core.held domPLT = true ∧
    s.core.planeDue = false ∧
    s.core.rst.dueAt = none ∧
    s.core.pilot.discSince = none ∧
    s.core.pilot.eventSince = false :=
  ⟨st (inMode .standby [(RST_STATE.IN_RESET, 0, 0x3FE)]), by decide +kernel⟩

theorem witness_TicksLatchAndAdvance_2 : ∃ (s : State) (ch : Fin 64) (v : Fin 2),
    s.core.tickQuiet ∧
    s.core.escSafe = [] ∧
    s.core.escHold = [] ∧
    s.core.pilot.modeReqs = [] ∧
    s.core.tickW = [(RFX_SELECT.SEL, ch.val, v.val)] :=
  ⟨st { quiet [] with tickW := [(RFX_SELECT.SEL, 63, 1)] }, 63, 1, by decide +kernel⟩

theorem witness_TicksLatchAndAdvance_3 : ∃ (s : State),
    s.core.tickQuiet ∧
    s.core.escSafe = [] ∧
    s.core.escHold = [] ∧
    s.core.tickW = [] ∧
    s.core.pilot.modeReqs = [.serviceEnter] :=
  ⟨st ((quiet []).modPilot (fun p => { p with modeReqs := [.serviceEnter] })), by decide +kernel⟩

theorem witness_TicksLatchAndAdvance_4 : ∃ (s : State) (src : BitVec 16),
    s.core.tickQuiet ∧
    s.core.escSafe = [src.toNat] ∧
    s.core.escHold = [] ∧
    s.core.tickW = [] ∧
    s.core.pilot.modeReqs = [] ∧
    src.toNat ≠ evSafetyTrip ∧
    s.core.bwk.table = [] ∧
    (∀ n : Fin 8, s.core.axState n = axDisabled) ∧
    s.core.mot.recoat.step = 0 ∧
    s.core.hbr.cal.gateRuns = [] ∧
    (∀ ch : Fin 64, (s.core.ch ch).armed = false) :=
  ⟨st { quiet [] with escSafe := [0xFFFF] }, 0xFFFF, by decide +kernel⟩

theorem witness_TicksLatchAndAdvance_5 : ∃ (s : State),
    s.core.held domTIM = false ∧
    s.core.held domPLT = true ∧
    s.core.held domFAB = false ∧
    s.core.held domEXP = true ∧
    s.core.held domCAM = true ∧
    s.core.held domMOT = true ∧
    s.core.held domLUM = true ∧
    s.core.held domHBR = true ∧
    s.core.mode ≠ .shutdownTest ∧
    s.core.mode ≠ .expose ∧
    s.core.muted = false ∧
    s.core.inPair = false ∧
    s.core.planeDue = false ∧
    s.core.rst.dueAt = none ∧
    s.core.tickW = [] ∧
    s.core.pilot.discSince = none ∧
    s.core.pilot.eventSince = false ∧
    s.core.rd TIM_STATE.EFF_SRC = 0 ∧
    s.core.rd TIM_CONFIG.PPS_OUT_EN = 0 ∧
    s.core.tim.ppsAt = none ∧
    s.core.hbr.cal.phyDue = none ∧
    (∀ ch : Fin 64, (s.core.ch ch).gat.placed = []) ∧
    (∀ p : Fin 16, (s.core.port p).cassFaults = 0) :=
  ⟨st (inMode .standby [(RST_STATE.IN_RESET, 0, 0x3FE - 2 ^ domTIM - 2 ^ domFAB), (STR_PORT_STATE.STATE, 0, 3), (STR_PORT_STATE.STATE, 15, 3)]),
    by decide +kernel⟩

theorem witness_PeriodsBringTheirWork_0 : ∃ (s : State),
    s.core.pilotServes = true ∧
    s.core.pilot.resetDue ≠ some 0 :=
  ⟨st (inMode .standby []), by decide +kernel⟩

theorem witness_PeriodsBringTheirWork_1 : ∃ (s : State),
    s.core.pilotQuiet ∧
    s.core.events = [] :=
  ⟨st (inMode .standby []), by decide +kernel⟩

theorem witness_PeriodsBringTheirWork_2 : ∃ (s : State) (e : Ev),
    s.core.pilotQuiet ∧
    s.core.events = [e] ∧
    e.tick < s.core.ticks ∧
    e.code ≠ evModeChanged ∧
    s.core.evWaiting < 1024 ∧
    s.core.rd BAR0.EV_PROD < 2 ^ 32 ∧
    s.core.log.rec_ = none ∧
    s.core.logReady = false ∧
    s.core.log.fifo.length < 64 ∧
    s.core.pilot.ethPeer = none ∧
    s.core.pilot.holdoffUntil ≤ s.core.ticks ∧
    bitOf s.core.pilot.msixMasked 8 = false :=
  ⟨st { inMode .standby [(DRC_STATE.TRAINED, 0, 0)] with events := [⟨evNodeLost, 3, none, [1#8], 0⟩], ticks := 40 },
    ⟨evNodeLost, 3, none, [1#8], 0⟩,
    by decide +kernel⟩

theorem witness_PeriodsBringTheirWork_3 : ∃ (s : State) (n : Fin 8) (g : Int),
    let a := s.core.axis n
    let x : Axis := match a.latch with
    | some (g, t) => if t ≤ s.core.ticks then
    { a with target := some g, latch := none, kept := none, stopping := false } else a
    | none => a
    s.core.held domMOT = false ∧
    s.core.held domTIM = false ∧
    s.core.now % (16 * usU) = 0 ∧
    (∀ k : Fin 8, k ≠ n → s.core.axState k = axDisabled ∧ (s.core.axis k).v = F64.zero ∧ s.core.rd MOT_STATE.CUR_MODE k = 0 ∧ (s.core.axis k).mdir = (s.core.flag MOT_STATE.DIR k != s.core.flag MOT_CONFIG.DIR_INV k)) ∧
    s.core.axState n ∈ [axMoving, axIdle, axKept] ∧
    12 ≤ s.core.rd MOT_CONFIG.ENC_SRC n ∧
    x.stopping = false ∧
    x.target = some g ∧
    s.core.moveDone n g = false ∧
    (∀ k : Fin 4, s.core.rd PFI_SSI.ENABLE k = 0) ∧
    s.core.mot.recoat.step = 0 ∧
    s.core.mot.recoat.settleAt = none :=
  ⟨st (ax7 axIdle (fun a => { a with target := some 1000 })), 7, 1000, by decide +kernel⟩

theorem witness_PeriodsBringTheirWork_4 : ∃ (s : State) (_inTx : List (Fin 7)),
    let at_ := s.core.now / tickU * tickU + tickU
    s.core.held domFAB = false ∧
    s.core.held domTIM = false ∧
    s.core.muted = false ∧
    at_ % usU = 0 :=
  ⟨st { inMode .standby [(STR_PORT_STATE.STATE, 15, 3), (STR_PORT_STATE.STATE, 17, 3), (STR_PORT_STATE.STATE, 20, 3), (STR_PORT_CFG.BELL_TX, 20, 1)] with now := tickU },
    [],
    by decide +kernel⟩

theorem witness_PeriodsBringTheirWork_5 : ∃ (s : State),
    s.core.held domFAB = false ∧
    s.core.held domTIM = false ∧
    s.core.muted = false :=
  ⟨st (inMode .standby [(STR_PORT_STATE.STATE, 0, 3), (STR_PORT_STATE.STATE, 17, 3), (STR_PORT_STATE.STATE, 20, 3)]),
    by decide +kernel⟩

theorem witness_PeriodsBringTheirWork_6 : ∃ (s : State) (n : Fin 8) (g : Int),
    let a := s.core.axis n
    s.core.held domMOT = false ∧
    s.core.held domTIM = false ∧
    s.core.now % (16 * usU) = 0 ∧
    s.core.axState n ∈ [axMoving, axIdle, axKept] ∧
    12 ≤ s.core.rd MOT_CONFIG.ENC_SRC n ∧
    a.latch = none ∧
    a.stopping = false ∧
    a.target = some g ∧
    s.core.moveDone n g = false ∧
    s.core.mot.recoat.step = 0 :=
  ⟨st (ax7 axIdle (fun a => { a with target := some 1000 })), 7, 1000, by decide +kernel⟩

end WitClock

namespace WitModes

def safe1 : List (Field × Nat × Nat) := [(SAF_STATUS.LEVEL_A, 0, 1), (SAF_STATUS.LEVEL_B, 0, 1), (SAF_STATUS.LEVEL_E, 0, 1)]
def setOf (id : Nat) (o : List SetObj) (m : Option Bytes) : CommSet := ⟨id, o, none, 0, m⟩
def pq (c : Core) (q : List CommSet) : Core := c.modPilot (fun p => { p with queue := q })
def man63 : Bytes := zeros 4 ++ leBytes 4 9 ++ leBytes 8 (2 ^ 63) ++ leBytes 4 50 ++ zeros (64 - 20) ++ zeros (16 * 63) ++ leBytes 8 4096 ++ leBytes 4 3 ++ zeros 4
def idle9 : BufTile := ⟨9, 0, zeros 64, false, .passed, none⟩

theorem witness_ModeControllerActs_0 : ∃ (s : State),
    s.core.pilotServes = true ∧
    s.core.inPair = false ∧
    s.core.holder ≠ noHolder ∧
    s.core.setQuiet ∧
    (∀ x ∈ s.core.postedCmds, x.master ≠ s.core.holder) ∧
    s.core.pilot.holderSince + s.core.rd PLT_TOKEN.TOKEN_TIMEOUT * ticksPerMs ≤ s.core.ticks :=
  ⟨st { inMode .standby [(PLT_TOKEN.HOLDER, 0, 2), (PLT_TOKEN.TOKEN_TIMEOUT, 0, 1), (PLT_STAGE.STATE, 0, 1)] with ticks := 2000 },
    by decide +kernel⟩

theorem witness_ModeControllerActs_1 : ∃ (s : State) (q : CommSet) (rest : List CommSet) (o : SetObj) (d : ObjDesc),
    s.core.pilotServes = true ∧
    s.core.pilot.queue = q :: rest ∧
    q.manifest = none ∧
    s.core.plainModeOk = true ∧
    s.core.setMature q = true ∧
    q.objs = [o] ∧
    o.obj = d.id ∧
    o.inst < 64 ∧
    d ∈ [Obj.SEQ_DYN, Obj.GAT_CONFIG, Obj.GAT_TRIM, Obj.BWK_GEOM, Obj.BWK_WAIT, Obj.ADP_CONFIG, Obj.MOT_RECOAT] :=
  ⟨st (pq (inMode .standby []) [setOf 5 [⟨Obj.SEQ_DYN.id, 63, List.replicate 32 3#8, []⟩] none, setOf 6 [] none]),
    setOf 5 [⟨Obj.SEQ_DYN.id, 63, List.replicate 32 3#8, []⟩] none, [setOf 6 [] none], ⟨Obj.SEQ_DYN.id, 63, List.replicate 32 3#8, []⟩, Obj.SEQ_DYN,
    by decide +kernel⟩

theorem witness_ModeControllerActs_2 : ∃ (s : State) (q : CommSet) (rest : List CommSet) (ch : Fin 64) (image : Bytes) (data : Bytes),
    s.core.pilotServes = true ∧
    s.core.pilot.queue = q :: rest ∧
    q.manifest = none ∧
    s.core.plainModeOk = true ∧
    s.core.setMature q = true ∧
    q.objs = [⟨idChtNodes, ch, image, data⟩] :=
  ⟨st (pq (inMode .standby [(CHT_BANK.CURRENT, 63, 1), (CHT_BANK.INACTIVE_STATE, 63, 3)]) [setOf 5 [⟨idChtNodes, 63, [], []⟩] none, setOf 6 [] (some man63)]),
    setOf 5 [⟨idChtNodes, 63, [], []⟩] none, [setOf 6 [] (some man63)], 63, [], [],
    by decide +kernel⟩

theorem witness_ModeControllerActs_3 : ∃ (s : State) (q : CommSet) (rest : List CommSet) (m : Bytes),
    s.core.pilotServes = true ∧
    s.core.pilot.queue = q :: rest ∧
    q.manifest = some m ∧
    q.objs = [⟨idManifest, 0, m, []⟩] ∧
    s.core.inCascade = false ∧
    s.core.entryOk m = true ∧
    s.core.setMature q = true ∧
    (∀ ch : Fin 64, s.core.failed ch = false) ∧
    (∀ k : Fin 32, (s.core.ictx k).capture = none) ∧
    (∀ n : Fin 8, s.core.axBusy n = false ∧ (s.core.axis n).latch = none) :=
  ⟨st ((pq (inMode .armed safe1) [setOf 5 [⟨idManifest, 0, man63, []⟩] (some man63)]).modCh 63 (fun s => { s with idle := some idle9, ring := [⟨9, 1, [], false⟩, ⟨9, 2, [], false⟩] })),
    setOf 5 [⟨idManifest, 0, man63, []⟩] (some man63), [], man63,
    by decide +kernel⟩

theorem witness_ModeControllerActs_4 : ∃ (s : State) (v : Nat),
    s.core.inCascade = false ∧
    s.core.layerDone = true ∧
    s.core.mode = .expose ∧
    (∀ r ∈ s.core.bwk.table, r.border = false) ∧
    s.core.rd ADP_POLICY.NEXT_LAYER ≠ 0 ∧
    s.core.logWriting = true ∧
    s.core.slackW = [(PLT_SLACK.SLACK_MIN, 0, v)] ∧
    v < 2 ^ 32 ∧
    s.core.rd MOT_RECOAT.RC_EN = 0 ∧
    (∀ k : Fin 68, s.core.con k CON_WINDOW.STATE ≠ csOk) ∧
    s.core.hbr.cal.reqs = [] ∧
    s.core.hbr.cal.due = 0 ∧
    s.core.rd CAL_GATE.DUE = 0 ∧
    s.core.hbr.cal.run = none ∧
    s.core.pilot.slackWork = [] :=
  ⟨st { inMode .expose [(SEQ_LAYER_STATE.LAYER_ACTIVE, 0, 1), (SEQ_LAYER_STATE.LAYER_NOW, 0, 9), (ADP_POLICY.NEXT_LAYER, 0, 1)] with layer := { Layer.init with mask := 2 ^ 63 }, log := { LogBook.init with rec_ := some ⟨4096, 1, 0, 3, 7, 2, 0, 0, 0, 0, 0, [], false⟩ }, slackW := [(PLT_SLACK.SLACK_MIN, 0, 7)] },
    7,
    by decide +kernel⟩

theorem witness_ModeControllerActs_5 : ∃ (s : State),
    s.core.mode = .slack ∧
    s.core.rd PLT_SLACK.SLACK_WARN ≠ 0 ∧
    s.core.pilot.slackWarned = false ∧
    s.core.pilot.slackSince + s.core.rd PLT_SLACK.SLACK_WARN * ticksPerUs ≤ s.core.ticks ∧
    s.core.slackEnded = false :=
  ⟨st { inMode .slack [(PLT_SLACK.SLACK_WARN, 0, 100)] with mot := { Axes.init with recoat := ⟨3, false, false, none, false⟩ }, ticks := 200 },
    by decide +kernel⟩

theorem witness_ModeControllerActs_6 : ∃ (s : State),
    s.core.mode = .hold ∧
    s.core.rd PLT_MODE.PHASE = phSettling ∧
    (∀ ch : Fin 64, s.core.channelSettled ch = true) ∧
    s.core.anyAxisBusy = false :=
  ⟨st ((inMode .hold [(PLT_MODE.PHASE, 0, 1), (SEQ_LAYER_STATE.LAYER_ACTIVE, 0, 1), (SEQ_MOTION.STATE, 63, 5)]).modCh 63 (fun s => { s with armed := true, ended := false, halt := .inPath })),
    by decide +kernel⟩

theorem witness_ModeControllerActs_7 : ∃ (s : State),
    s.core.pilotServes = true ∧
    s.core.holder ≠ noHolder ∧
    s.core.holderPosted (if s.core.inPair then s.core.forwardedCmds else s.core.postedCmds) = false ∧
    s.core.pilot.holderSince + s.core.rd PLT_TOKEN.TOKEN_TIMEOUT * ticksPerMs ≤ s.core.ticks :=
  ⟨st { inMode .standby [(PLT_TOKEN.HOLDER, 0, 2), (PLT_TOKEN.TOKEN_TIMEOUT, 0, 1), (PLT_STAGE.STATE, 0, 1)] with ticks := 2000 },
    by decide +kernel⟩

theorem witness_ModeControllerActs_8 : ∃ (s : State) (q : CommSet) (rest : List CommSet),
    s.core.pilotServes = true ∧
    s.core.pilot.queue = q :: rest ∧
    q.manifest = none ∧
    s.core.plainModeOk = true ∧
    s.core.setMature q = true ∧
    s.core.nodesReady q = true :=
  ⟨st (pq (inMode .standby []) [setOf 5 [⟨Obj.SEQ_DYN.id, 63, List.replicate 32 3#8, []⟩, ⟨idPset, 3, [], []⟩] none, setOf 6 [] none]),
    setOf 5 [⟨Obj.SEQ_DYN.id, 63, List.replicate 32 3#8, []⟩, ⟨idPset, 3, [], []⟩] none, [setOf 6 [] none],
    by decide +kernel⟩

theorem witness_ModeControllerActs_9 : ∃ (s : State) (q : CommSet) (rest : List CommSet) (m : Bytes),
    s.core.pilotServes = true ∧
    s.core.pilot.queue = q :: rest ∧
    q.manifest = some m ∧
    s.core.inCascade = false ∧
    s.core.entryOk m = true ∧
    s.core.setMature q = true ∧
    s.core.nodesReady q = true :=
  ⟨st ((pq (inMode .armed safe1) [setOf 5 [⟨idManifest, 0, man63, []⟩] (some man63)]).modCh 63 (fun s => { s with idle := some idle9, ring := [⟨9, 1, [], false⟩, ⟨9, 2, [], false⟩] })),
    setOf 5 [⟨idManifest, 0, man63, []⟩] (some man63), [], man63,
    by decide +kernel⟩

theorem witness_ModeControllerActs_10 : ∃ (s : State),
    s.core.inCascade = false ∧
    s.core.layerDone = true ∧
    s.core.mode = .expose :=
  ⟨st { inMode .expose [(SEQ_LAYER_STATE.LAYER_ACTIVE, 0, 1), (SEQ_LAYER_STATE.LAYER_NOW, 0, 9), (ADP_POLICY.NEXT_LAYER, 0, 1)] with layer := { Layer.init with mask := 2 ^ 63 } },
    by decide +kernel⟩

theorem witness_InterlockAndWatchdogAct_0 : ∃ (s : State) (n : Fin 3) (_ns : BitVec 16),
    s.core.held domAON = false ∧
    bitOf (s.core.rd SAF_STATUS.CAUSE) n = false :=
  ⟨st ((inMode .standby safe1).modCh 63 (fun s => { s with gat := { s.gat with lgHigh := true } })),
    2, 0xFFFF,
    by decide +kernel⟩

theorem witness_InterlockAndWatchdogAct_1 : ∃ (s : State) (_n : Fin 3),
    s.core.held domAON = false :=
  ⟨st ((inMode .standby [(SAF_STATUS.LEVEL_A, 0, 1), (SAF_STATUS.DISC, 0, 1)]).modPilot (fun p => { p with discClear := true })),
    1,
    by decide +kernel⟩

theorem witness_InterlockAndWatchdogAct_2 : ∃ (s : State) (since : Nat),
    s.core.held domAON = false ∧
    s.core.pilot.discSince = some since ∧
    since + 10 * ticksPerMs ≤ s.core.ticks ∧
    s.core.rd SAF_STATUS.LEVEL_A ≠ s.core.rd SAF_STATUS.LEVEL_B ∧
    s.core.rd SAF_STATUS.DISC = 0 :=
  ⟨st { (inMode .standby [(SAF_STATUS.LEVEL_B, 0, 1)]).modPilot (fun p => { p with discSince := some 5, discClear := true }) with ticks := 20005 },
    5,
    by decide +kernel⟩

theorem witness_InterlockAndWatchdogAct_3 : ∃ (s : State),
    s.core.held domPLT = false ∧
    s.core.planeDue = false :=
  ⟨st (inMode .expose []), by decide +kernel⟩

theorem witness_InterlockAndWatchdogAct_4 : ∃ (s : State),
    s.core.held domPLT = false ∧
    s.core.rd RST_CONFIG.WDOG_RESET_MS ≠ 0 ∧
    100 * s.core.rd RST_CONFIG.WDOG_RESET_MS ≤ s.core.pilot.wdogMissed :=
  ⟨st ((inMode .expose [(RST_CONFIG.WDOG_RESET_MS, 0, 5)]).modPilot (fun p => { p with wdogMissed := 500 })),
    by decide +kernel⟩

theorem witness_InterlockAndWatchdogAct_5 : ∃ (s : State) (_ch : Fin 64),
    s.core.held domEXP = false ∧
    s.core.mode = .service :=
  ⟨st { inMode .service [(ADP_STATE.STATE, 63, 3), (ADP_REPORT.CAUSE, 63, 3)] with losses := [⟨63, 7, 0, 3, 5, true, true, [], [], [], [], [], 0⟩] },
    63,
    by decide +kernel⟩

end WitModes

namespace WitReset

def rs (c : Core) (f : RstSt → RstSt) : Core := { c with rst := f c.rst }
def bad : BistResult := ⟨true, [], 0, [], 0⟩
def good : BistResult := ⟨false, [], 0, [], 9⟩

theorem witness_ResetsAreAssertedAndReleased_1 : ∃ (s : State),
    s.core.rst.asserted ≠ some 0 :=
  ⟨st { inMode .expose [(TWN_CONFIG.TWIN_EN, 0, 1), (CSC_STATE.CASC_ID, 0, 5)] with bootRegs := [(TWN_CONFIG.TWIN_EN.key 0, 1)] },
    by decide +kernel⟩

theorem witness_ResetsAreAssertedAndReleased_2 : ∃ (s : State) (percent : BitVec 8) (us : BitVec 16),
    92 < percent.toNat ∧
    100 ≤ us.toNat ∧
    s.core.rst.asserted = some 0 :=
  ⟨st (rs (inMode .dormant []) (fun x => { x with asserted := some 0 })), 93, 100, by decide +kernel⟩

theorem witness_ResetsAreAssertedAndReleased_3 : ∃ (_s : State) (percent : BitVec 8) (us : BitVec 16),
    (percent.toNat ≤ 92 ∨ us.toNat < 100) :=
  ⟨st (rs (inMode .dormant []) (fun x => { x with asserted := some 0 })), 92, 100, by decide +kernel⟩

theorem witness_ResetsAreAssertedAndReleased_4 : ∃ (s : State),
    s.core.rst.asserted = some 1 :=
  ⟨st (rs (inMode .dormant [(RST_HIST.RESETN_COUNT, 0, 65535)]) (fun x => { x with asserted := some 1 })),
    by decide +kernel⟩

theorem witness_ResetsAreAssertedAndReleased_5 : ∃ (s : State) (due : Nat) (k : Nat) (cause : Nat),
    s.core.rst.dueAt = some (due, k) ∧
    due ≤ s.core.ticks ∧
    s.core.rst.asserted = some cause ∧
    cause ∈ [2, 3, 4] :=
  ⟨st { rs (inMode .dormant []) (fun x => { x with asserted := some 2, dueAt := some (8, 2) }) with ticks := 8 },
    8, 2, 2,
    by decide +kernel⟩

theorem witness_ResetsAreAssertedAndReleased_6 : ∃ (s : State) (_r : BistResult),
    s.core.mode = .shutdownTest ∧
    s.core.bst.restart = true ∧
    s.core.bst.abandoned = false :=
  ⟨st { inMode .shutdownTest [] with bst := { Bst.init with restart := true } }, bad, by decide +kernel⟩

theorem witness_ResetsAreAssertedAndReleased_7 : ∃ (s : State) (_r : BistResult),
    s.core.mode = .shutdownTest ∧
    s.core.bst.restart = false ∧
    s.core.bst.abandoned = false :=
  ⟨st { inMode .shutdownTest [] with bst := { Bst.init with jtagOpen := true } }, good, by decide +kernel⟩

theorem witness_ResetsAreAssertedAndReleased_8 : ∃ (s : State) (_r : BistResult),
    (s.core.mode ≠ .shutdownTest ∨ s.core.bst.abandoned = true) :=
  ⟨st (inMode .dormant []), good, by decide +kernel⟩

theorem witness_DomainsAreHeldAndReleased_0 : ∃ (s : State) (d : Fin 10),
    s.core.rst.asserted = none ∧
    (d.val = 0 ∨ s.core.held domAON = false) :=
  ⟨st (inMode .boot [(RST_STATE.IN_RESET, 0, 0x3FF)]), 0, by decide +kernel⟩

theorem witness_DomainsAreHeldAndReleased_1 : ∃ (s : State) (d : Fin 10),
    6 ≤ d.val ∧
    s.core.rst.asserted = none ∧
    s.core.mode ≠ .dormant ∧
    s.core.held d = true ∧
    (∀ e : Fin 10, e.val < d.val → s.core.held e = false) ∧
    s.core.clkQual d = true ∧
    s.core.swHeld d = false ∧
    s.core.rd RST_CONFIG.GAP ≤ 50 * (s.core.ticks - s.core.rst.lastRelease) :=
  ⟨st { inMode .bringup [(RST_STATE.IN_RESET, 0, 0x3C0), (RST_STATE.CLK_QUAL, 0, 0x3FF)] with ticks := 50 },
    6,
    by decide +kernel⟩

theorem witness_DomainsAreHeldAndReleased_2 : ∃ (s : State),
    s.core.rst.asserted = none ∧
    s.core.mode ≠ .dormant ∧
    s.core.held domTIM = true ∧
    (∀ e : Fin 5, s.core.held e = false) ∧
    s.core.clkQual domTIM = true ∧
    s.core.swHeld domTIM = false ∧
    s.core.rd RST_CONFIG.GAP ≤ 50 * (s.core.ticks - s.core.rst.lastRelease) ∧
    s.core.isStandby = false ∧
    s.core.inCascade = false :=
  ⟨st { inMode .bringup [(RST_STATE.IN_RESET, 0, 0x3E0), (RST_STATE.CLK_QUAL, 0, 0x3FF), (TIM_CONFIG.SRC, 0, 1)] with ticks := 50, now := 7 },
    by decide +kernel⟩

theorem witness_DomainsAreHeldAndReleased_3 : ∃ (s : State) (d : Fin 10) (_reason : Fin 2),
    s.core.rst.asserted = none ∧
    s.core.held d = true :=
  ⟨st (inMode .boot [(RST_STATE.IN_RESET, 0, 0x3FE), (RST_STATE.CLK_QUAL, 0, 0x3FF)]), 9, 1, by decide +kernel⟩

theorem witness_DomainsAreHeldAndReleased_4 : ∃ (s : State) (d : Fin 10) (_reason : Fin 2),
    6 ≤ d.val ∧
    s.core.rst.asserted = none ∧
    s.core.held d = false ∧
    s.core.held domPLT = false ∧
    (∀ k : Fin 32, (s.core.ictx k).capture = none) :=
  ⟨st (inMode .expose [(RST_STATE.CLK_QUAL, 0, 0x3FF), (SEQ_LAYER_STATE.LAYER_ACTIVE, 0, 1)]),
    9, 1,
    by decide +kernel⟩

theorem witness_DomainsAreHeldAndReleased_5 : ∃ (s : State) (d : Fin 2) (_reason : Fin 2),
    s.core.rst.asserted = none ∧
    s.core.held d = false :=
  ⟨st (inMode .standby [(RST_STATE.CLK_QUAL, 0, 0x3FF)]), 0, 0, by decide +kernel⟩

theorem witness_DomainsAreHeldAndReleased_6 : ∃ (s : State) (d : Fin 10),
    6 ≤ d.val ∧
    s.core.held domPLT = false ∧
    s.core.mode = .service ∧
    s.core.layerActive = false ∧
    s.core.anyAxisBusy = false ∧
    s.core.swHeld d = false ∧
    (∀ k : Fin 32, (s.core.ictx k).capture = none) :=
  ⟨st (inMode .service [(RST_STATE.CLK_QUAL, 0, 0x3FF)]), 6, by decide +kernel⟩

theorem witness_DomainsAreHeldAndReleased_7 : ∃ (s : State) (d : Fin 10),
    3 ≤ d.val ∧
    s.core.mode = .armed ∧
    s.core.swHeld d = false :=
  ⟨st (inMode .armed []), 9, by decide +kernel⟩

theorem witness_DomainsAreHeldAndReleased_8 : ∃ (s : State) (d : Fin 10),
    3 ≤ d.val ∧
    s.core.rst.asserted = none ∧
    s.core.held domPLT = false ∧
    s.core.mode = .service ∧
    s.core.layerActive = false ∧
    s.core.swHeld d = true :=
  ⟨st (inMode .service [(RST_SW.SW_RESET, 0, 0x41)]), 9, by decide +kernel⟩

theorem witness_DomainsAreHeldAndReleased_9 : ∃ (s : State) (d : Fin 10) (_pref : Bool) (_casc : Fin 16),
    s.core.rst.asserted = none ∧
    s.core.mode ≠ .dormant ∧
    s.core.held d = true ∧
    (∀ e : Fin 10, e.val < d.val → s.core.held e = false) ∧
    s.core.clkQual d = true ∧
    s.core.swHeld d = false ∧
    (d.val = 0 ∨ s.core.rd RST_CONFIG.GAP ≤ 50 * (s.core.ticks - s.core.rst.lastRelease)) ∧
    (d.val = domPLT → s.core.imageRuns = true) :=
  ⟨st { inMode .boot [(RST_STATE.IN_RESET, 0, 0x3FF), (RST_STATE.CLK_QUAL, 0, 1)] with ticks := 50 },
    0, true, 15,
    by decide +kernel⟩

theorem witness_DomainsAreHeldAndReleased_10 : ∃ (s : State) (d : Fin 10) (_reason : Fin 2),
    2 ≤ d.val ∧
    s.core.rst.asserted = none ∧
    s.core.held d = false :=
  ⟨st (inMode .expose [(RST_STATE.CLK_QUAL, 0, 0x3FF)]), 2, 0, by decide +kernel⟩

theorem witness_DomainsAreHeldAndReleased_11 : ∃ (s : State) (d : Fin 10),
    3 ≤ d.val ∧
    s.core.held domPLT = false ∧
    s.core.swHeld d = false ∧
    s.core.swAllowed [d] [d] = true :=
  ⟨st (inMode .service [(RST_STATE.CLK_QUAL, 0, 0x3FF)]), 3, by decide +kernel⟩

theorem witness_BootReachesStandby_0 : ∃ (s : State) (_r : BistResult),
    let u := s.core.updState
    s.core.held domHBR = false ∧
    s.core.held domPLT = true ∧
    s.core.mode = .boot ∧
    s.core.hbr.booted = false ∧
    u.trial = 0xFF ∧
    u.active < 2 :=
  ⟨st (inMode .boot [(RST_STATE.IN_RESET, 0, 2 ^ domPLT)]), good, by decide +kernel⟩

theorem witness_BootReachesStandby_1 : ∃ (s : State),
    s.core.mode = .bringup ∧
    s.core.rst.dramTrained = true ∧
    (∀ p : Fin 21, s.core.portReady p = true) ∧
    s.core.inPair = false ∧
    s.core.rst.degraded = [] ∧
    s.core.rd CAL_TRIM.OTP_SRC = 0 ∧
    s.core.rd CAL_TRIM.FALLBACK = 0 ∧
    s.core.rd CAL_TRIM.DEFAULT = 0 ∧
    s.core.hbr.fallback = none :=
  ⟨st { inMode .bringup ((List.range 21).map (fun p => (STR_PORT_CFG.ENABLE, p, 0))) with rst := { RstSt.init with dramTrained := true }, log := { LogBook.init with rec_ := some ⟨4096, 1, 0, 3, 7, 2, 0, 0, 0, 0, 0, [], false⟩ } },
    by decide +kernel⟩

theorem witness_BootReachesStandby_2 : ∃ (s : State) (_r : BistResult),
    s.core.held domHBR = false ∧
    s.core.held domPLT = true ∧
    s.core.mode = .boot ∧
    s.core.hbr.booted = false :=
  ⟨st (inMode .boot [(RST_STATE.IN_RESET, 0, 2 ^ domPLT)]), good, by decide +kernel⟩

theorem witness_BootReachesStandby_3 : ∃ (s : State),
    s.core.mode = .bringup ∧
    s.core.rst.dramTrained = true ∧
    (∀ p : Fin 21, s.core.portReady p = true) :=
  ⟨st { inMode .bringup ((List.range 21).map (fun p => (STR_PORT_CFG.ENABLE, p, 0))) with rst := { RstSt.init with dramTrained := true } },
    by decide +kernel⟩

end WitReset

namespace WitCommands1

def ses : List (Field × Nat × Nat) := [(PLT_TOKEN.EPOCH2, 0, 1), (PLT_TOKEN.EPOCH0, 0, 1), (PLT_TOKEN.HOLDER, 0, 2)]
def ci (flags len obj inst : Nat) (p : Bytes) : CmdImage := ⟨2, 7, 5, 1, BitVec.ofNat 16 flags, BitVec.ofNat 16 len, BitVec.ofNat 16 obj, BitVec.ofNat 16 inst, 0, p⟩
def ci0 (flags len obj inst : Nat) (p : Bytes) : CmdImage := ⟨0, 7, 5, 1, BitVec.ofNat 16 flags, BitVec.ofNat 16 len, BitVec.ofNat 16 obj, BitVec.ofNat 16 inst, 0, p⟩
def sgd (c : Core) (l : List SetObj) : Core := c.modPilot (fun p => { p with staged := l })
def lng (c : Core) (l : List LongCmd) : Core := c.modPilot (fun p => { p with long := l })
def lc (op obj inst len : Nat) (p : Bytes) (k : LongKind) : LongCmd := ⟨⟨2, 7, op, 5, 1, 0, len, obj, inst, 0, p⟩, k, 0⟩
def objD (i : Nat) : ObjDesc := (findObj i).getD Obj.SEQ_DYN
def objSize (i : Nat) : Nat := (objD i).size
def blkImg : Bytes := leBytes 8 4096 ++ leBytes 1 0 ++ leBytes 1 1 ++ zeros 2 ++ leBytes 4 (crc32c (zeros 16))
def dynFF : Bytes := List.replicate 24 255#8
def dyn0 : Bytes := Core.reset.imageBytes Obj.SEQ_DYN 63

theorem witness_CommandsAreTestedInOrder_0 : ∃ (s : State) (q : Nat × (CmdImage → Instr)) (_i : CmdImage),
    q ∈ mailboxRows ∧
    s.core.serves = false :=
  ⟨st (inMode .shutdownTest ses), (0x0005, .keepalive), ci 0 0 0 0 [], by simp [mailboxRows], by decide +kernel⟩

theorem witness_CommandsAreTestedInOrder_1 : ∃ (s : State) (q : Nat × (CmdImage → Instr)) (i : CmdImage),
    let x := cmdOf i q.1
    q ∈ mailboxRows ∧
    s.core.serves = true ∧
    s.core.isRepeat x = true :=
  ⟨st ((inMode .standby ses).modMbox 2 7 (fun m => { m with last := some (5, 0xA001, 1), respSlot := zeros 256 })),
    (0xA001, .twnHandover), ci 0 0 0 0 [],
    by simp [mailboxRows], by decide +kernel⟩

theorem witness_CommandsAreTestedInOrder_2 : ∃ (s : State) (q : Nat × (CmdImage → Instr)) (i : CmdImage) (r : Reply),
    let x := cmdOf i q.1
    q ∈ mailboxRows ∧
    s.core.serves = true ∧
    s.core.isRepeat x = false ∧
    s.core.preTests x = some r :=
  ⟨st (inMode .standby ses),
    (0x0006, .eventRead), ci 0 4 0 0 [], errReply stBadLength 8,
    by simp [mailboxRows], by decide +kernel⟩

theorem witness_CommandsAreTestedInOrder_3 : ∃ (s : State) (q : Nat × (CmdImage → Instr)) (i : CmdImage),
    let x := cmdOf i q.1
    q ∈ mailboxRows ∧
    s.core.serves = true ∧
    s.core.isRepeat x = false ∧
    s.core.preTests x = none ∧
    (opInfo q.1).map OpInfo.token = some true ∧
    x.master ≠ s.core.holder :=
  ⟨st (inMode .standby [(PLT_TOKEN.EPOCH2, 0, 1), (PLT_TOKEN.HOLDER, 0, 0)]),
    (0x2003, .discard), ci 0 0 0 0 [],
    by simp [mailboxRows], by decide +kernel⟩

theorem witness_SessionsTokenAndEvents_0 : ∃ (s : State) (i : CmdImage),
    let x := cmdOf i 0x0001
    s.core.Ready x ∧
    s.core.holder ≠ x.master :=
  ⟨st (inMode .standby []), ci 0 0 0 0 [], by decide +kernel⟩

theorem witness_SessionsTokenAndEvents_1 : ∃ (s : State) (i : CmdImage),
    let x := cmdOf i 0x0002
    s.core.Ready x ∧
    s.core.holder ≠ x.master :=
  ⟨st (inMode .standby [(PLT_TOKEN.EPOCH2, 0, 1), (PLT_TOKEN.HOLDER, 0, 1)]), ci 0 0 0 0 [], by decide +kernel⟩

theorem witness_SessionsTokenAndEvents_2 : ∃ (s : State) (i : CmdImage),
    let x := cmdOf i 0x0003
    s.core.Ready x ∧
    s.core.holder = noHolder :=
  ⟨st (inMode .standby [(PLT_TOKEN.EPOCH2, 0, 1)]), ci 0 0 0 0 [], by decide +kernel⟩

theorem witness_SessionsTokenAndEvents_3 : ∃ (s : State) (i : CmdImage),
    let x := cmdOf i 0x0003
    s.core.Ready x ∧
    x.force = false ∧
    s.core.holder ≠ noHolder ∧
    s.core.holder ≠ x.master :=
  ⟨st (inMode .standby [(PLT_TOKEN.EPOCH2, 0, 1), (PLT_TOKEN.HOLDER, 0, 1)]), ci 0 0 0 0 [], by decide +kernel⟩

theorem witness_SessionsTokenAndEvents_4 : ∃ (s : State) (i : CmdImage),
    let x := cmdOf i 0x0003
    s.core.Ready x ∧
    x.force = true ∧
    s.core.holder ≠ noHolder ∧
    s.core.holder ≠ x.master ∧
    s.core.setQuiet :=
  ⟨st (sgd (inMode .standby [(PLT_TOKEN.EPOCH0, 0, 1), (PLT_TOKEN.HOLDER, 0, 1)]) [⟨Obj.SEQ_DYN.id, 63, dynFF, []⟩]),
    ci0 2 0 0 0 [],
    by decide +kernel⟩

theorem witness_SessionsTokenAndEvents_5 : ∃ (s : State) (i : CmdImage),
    let x := cmdOf i 0x0004
    s.core.Ready x ∧
    s.core.setQuiet :=
  ⟨st (sgd (inMode .standby ses) [⟨idChtGeom, 63, dynFF, []⟩]), ci 0 0 0 0 [], by decide +kernel⟩

theorem witness_SessionsTokenAndEvents_6 : ∃ (s : State) (i : CmdImage),
    let x := cmdOf i 0x0005
    s.core.Ready x :=
  ⟨st (inMode .standby ses), ci 0 0 0 0 [], by decide +kernel⟩

theorem witness_SessionsTokenAndEvents_7 : ∃ (s : State) (i : CmdImage),
    let x := cmdOf i 0x0006
    let seq := x.at_ 16 4
    let n := x.at_ 20 1
    let age (j : Nat) : Nat := (s.core.rd BAR0.EV_PROD + 2 * 2 ^ 32 - (seq + j)) % 2 ^ 32
    s.core.Ready x ∧
    1 ≤ n ∧
    n ≤ 3 ∧
    x.at_ 21 3 = 0 ∧
    (∀ j : Nat, j < n → 1 ≤ age j ∧ age j ≤ 1024 ∧ fieldLE (s.core.ringRecordAt ((seq + j) % 2 ^ 32)) 4 4 = (seq + j) % 2 ^ 32) :=
  ⟨st { (inMode .standby (ses ++ [(BAR0.EV_PROD, 0, 2)])) with pilot := { Pilot.init with ring := [(0, zeros 64), (1, zeros 4 ++ leBytes 4 1 ++ zeros 56)] } },
    ci 0 8 0 0 (leBytes 4 0 ++ leBytes 4 2),
    by decide +kernel⟩

theorem witness_SessionsTokenAndEvents_8 : ∃ (s : State) (i : CmdImage),
    let x := cmdOf i 0x0001
    s.core.Ready x :=
  ⟨st (inMode .hold [(PLT_TOKEN.EPOCH0, 0, 9), (PLT_TOKEN.HOLDER, 0, 0)]), ci0 0 0 0 0 [], by decide +kernel⟩

theorem witness_SessionsTokenAndEvents_9 : ∃ (s : State) (i : CmdImage),
    let x := cmdOf i 0x0002
    s.core.Ready x :=
  ⟨st (inMode .hold ses), ci 0 0 0 0 [], by decide +kernel⟩

theorem witness_SessionsTokenAndEvents_10 : ∃ (s : State) (i : CmdImage),
    let x := cmdOf i 0x0003
    s.core.Ready x ∧
    (x.force = true ∨ s.core.holder = noHolder ∨ s.core.holder = x.master) :=
  ⟨st (inMode .hold ses), ci 0 0 0 0 [], by decide +kernel⟩

theorem witness_SessionsTokenAndEvents_11 : ∃ (s : State) (i : CmdImage),
    let x := cmdOf i 0x0004
    s.core.Ready x :=
  ⟨st (lng (inMode .hold (ses ++ [(PLT_STAGE.STATE, 0, sgChecking)])) [lc 0x2001 0 0 0 [] .check]),
    ci 0 0 0 0 [],
    by decide +kernel⟩

theorem witness_ObjectsAreReadWrittenAndStaged_0 : ∃ (s : State) (i : CmdImage) (d : ObjDesc),
    let x := cmdOf i 0x1001
    s.core.Ready x ∧
    findObj x.object = some d ∧
    d.id ∉ [0x6010, 0x6003, 0x6002] :=
  ⟨st (inMode .standby (ses ++ [(PLT_MB_STAT.COMMANDS, 2, 7)])),
    ci 0 0 Obj.PLT_MB_STAT.id 2 [], Obj.PLT_MB_STAT,
    by decide +kernel⟩

theorem witness_ObjectsAreReadWrittenAndStaged_1 : ∃ (s : State) (i : CmdImage),
    let x := cmdOf i 0x1001
    s.core.Ready x ∧
    x.object = 0x6003 :=
  ⟨st { (inMode .standby ses) with now := 5 * 2 ^ 40 }, ci 0 0 0x6003 0 [], by decide +kernel⟩

theorem witness_ObjectsAreReadWrittenAndStaged_2 : ∃ (s : State) (i : CmdImage) (d : ObjDesc),
    let x := cmdOf i 0x1002
    let v := leNat (x.payload.take x.length)
    s.core.Ready x ∧
    findObj x.object = some d ∧
    s.core.writeModeBad d x.inst v = false ∧
    s.core.writeFault s.dram d x.inst v = none ∧
    s.core.held d.domain = false ∧
    d.id ∉ [0x1504, 0x2001, 0x2002, 0x3001, 0x3002, 0x3101, 0x3204, 0x3210, 0x4001, 0x4105, 0x4110, 0x4120, 0x6001, 0xA002] :=
  ⟨st (inMode .standby ses),
    ci 0 8 Obj.PLT_SLACK.id 0 (leBytes 4 5 ++ leBytes 4 9), Obj.PLT_SLACK,
    by decide +kernel⟩

theorem witness_ObjectsAreReadWrittenAndStaged_3 : ∃ (s : State) (i : CmdImage),
    let x := cmdOf i 0x1003
    s.core.Ready x ∧
    s.core.cmdMode.mayStage = true ∧
    x.object ≠ idPset ∧
    x.object ≠ idPsetBlock ∧
    x.object ≠ idManifest ∧
    x.object ≠ idChtNodes ∧
    x.object ≠ idChtGeom ∧
    s.core.checkRuns = false ∧
    s.core.setFull x.object x.inst = false :=
  ⟨st (inMode .standby ses), ci 0 24 Obj.SEQ_DYN.id 63 (zeros 24), by decide +kernel⟩

theorem witness_ObjectsAreReadWrittenAndStaged_4 : ∃ (s : State) (i : CmdImage),
    let x := cmdOf i 0x1003
    s.core.Ready x ∧
    s.core.cmdMode.mayStage = true ∧
    copiesDram x.object = true ∧
    s.core.chartBlocked x.object x.inst = false ∧
    s.core.descriptorFault x.object (leNat (x.payload.take x.length)) = none ∧
    s.core.checkRuns = false ∧
    s.core.setFull x.object x.inst = false :=
  ⟨st (inMode .standby (ses ++ [(DRC_STATE.HOST_MIB, 0, 64), (REC_STATE.REC_BASE, 0, 2 ^ 22)])),
    ci 0 16 idPsetBlock 0 blkImg,
    by decide +kernel⟩

theorem witness_ObjectsAreReadWrittenAndStaged_5 : ∃ (s : State) (i : CmdImage) (d : ObjDesc) (o : SetObj),
    let x := cmdOf i 0x1004
    s.core.Ready x ∧
    findObj x.object = some d ∧
    s.core.stagedObj d.id x.inst = some o ∧
    d.id ≠ idPset :=
  ⟨st (sgd (inMode .standby ses) [⟨Obj.SEQ_DYN.id, 63, dyn0, []⟩]),
    ci 0 0 Obj.SEQ_DYN.id 63 [], Obj.SEQ_DYN, ⟨Obj.SEQ_DYN.id, 63, dyn0, []⟩,
    by decide +kernel⟩

theorem witness_ObjectsAreReadWrittenAndStaged_6 : ∃ (s : State) (i : CmdImage) (d : ObjDesc),
    let x := cmdOf i 0x1004
    s.core.Ready x ∧
    findObj x.object = some d ∧
    s.core.stagedObj d.id x.inst = none :=
  ⟨st (inMode .standby ses), ci 0 0 Obj.SEQ_DYN.id 63 [], Obj.SEQ_DYN, by decide +kernel⟩

theorem witness_ObjectsAreReadWrittenAndStaged_7 : ∃ (s : State) (i : CmdImage) (d : ObjDesc),
    let x := cmdOf i 0x1001
    s.core.Ready x ∧
    findObj x.object = some d :=
  ⟨st (inMode .standby (ses ++ [(PLT_MB_STAT.COMMANDS, 2, 7)])),
    ci 0 0 Obj.PLT_MB_STAT.id 2 [], Obj.PLT_MB_STAT,
    by decide +kernel⟩

theorem witness_ObjectsAreReadWrittenAndStaged_8 : ∃ (s : State) (i : CmdImage) (d : ObjDesc),
    let x := cmdOf i 0x1002
    let v := leNat (x.payload.take x.length)
    s.core.Ready x ∧
    findObj x.object = some d ∧
    s.core.writeModeBad d x.inst v = false ∧
    s.core.writeFault s.dram d x.inst v = none :=
  ⟨st (inMode .standby ses),
    ci 0 (objSize 0x1504) 0x1504 0 (Core.reset.imageBytes (objD 0x1504) 0), objD 0x1504,
    by decide +kernel⟩

theorem witness_ObjectsAreReadWrittenAndStaged_9 : ∃ (s : State) (i : CmdImage),
    let x := cmdOf i 0x1003
    let image := x.payload.take x.length
    let o : SetObj := if x.object = idPset then ⟨x.object, x.inst, image.take 16, image.drop 16⟩
    else ⟨x.object, x.inst, image, []⟩
    s.core.Ready x ∧
    s.core.cmdMode.mayStage = true ∧
    copiesDram x.object = false ∧
    s.core.chartBlocked x.object x.inst = false ∧
    s.core.descriptorFault x.object (leNat o.image) = none ∧
    s.core.checkRuns = false ∧
    s.core.setFull x.object x.inst = false :=
  ⟨st (inMode .standby ses), ci 0 24 Obj.SEQ_DYN.id 63 (zeros 24), by decide +kernel⟩

theorem witness_ObjectsAreReadWrittenAndStaged_10 : ∃ (s : State) (i : CmdImage) (d : ObjDesc) (o : SetObj),
    let x := cmdOf i 0x1004
    s.core.Ready x ∧
    findObj x.object = some d ∧
    s.core.stagedObj d.id x.inst = some o :=
  ⟨st (sgd (inMode .standby ses) [⟨idPset, 3, zeros 16, zeros 16⟩]),
    ci 0 0 idPset 3 [], objD idPset, ⟨idPset, 3, zeros 16, zeros 16⟩,
    by decide +kernel⟩

theorem witness_StagedSetsAreCheckedAndCommitted_0 : ∃ (s : State) (l : LongCmd),
    let x := l.cmd
    let image := x.payload.take x.length
    let span := copySpan x.object (leNat image)
    let data := readBytesUnder s.dram [] span.1 span.2
    s.core.held domMEM = false ∧
    s.core.pilot.long = [l] ∧
    l.kind = .stageCopy ∧
    x.op = 0x1003 ∧
    (x.object = idManifest ∨ x.object = idPsetBlock) ∧
    dataFault x.object (leNat image) data = none ∧
    s.core.setFull x.object x.inst = false ∧
    (s.core.mbox x.master x.mailbox).posted = false ∧
    x.mailbox < 8 :=
  ⟨st (lng (inMode .standby ses) [lc 0x1003 idPsetBlock 0 16 blkImg .stageCopy]),
    lc 0x1003 idPsetBlock 0 16 blkImg .stageCopy,
    by decide +kernel⟩

theorem witness_StagedSetsAreCheckedAndCommitted_1 : ∃ (s : State) (i : CmdImage),
    let x := cmdOf i 0x2001
    s.core.Ready x ∧
    s.core.checkRuns = false ∧
    s.core.anyLong (fun k => k == .stageCopy) = false :=
  ⟨st (inMode .standby ses), ci 0 0 0 0 [], by decide +kernel⟩

theorem witness_StagedSetsAreCheckedAndCommitted_2 : ∃ (s : State) (l : LongCmd) (n : Nat),
    let x := l.cmd
    s.core.held domMEM = false ∧
    s.core.checkRuns = true ∧
    s.core.pilot.long = [l] ∧
    l.kind = .check ∧
    s.core.begin.checkAll s.dram none = ([], n) ∧
    (s.core.mbox x.master x.mailbox).posted = false ∧
    x.mailbox < 8 :=
  ⟨st (lng (sgd (inMode .standby (ses ++ [(PLT_STAGE.STATE, 0, sgChecking)])) [⟨Obj.SEQ_DYN.id, 63, dyn0, []⟩]) [lc 0x2001 0 0 0 [] .check]),
    lc 0x2001 0 0 0 [] .check, 0,
    by decide +kernel⟩

theorem witness_StagedSetsAreCheckedAndCommitted_3 : ∃ (s : State) (l : LongCmd) (e : Fail) (es : List Fail) (n : Nat),
    let x := l.cmd
    s.core.held domMEM = false ∧
    s.core.checkRuns = true ∧
    s.core.pilot.long = [l] ∧
    l.kind = .check ∧
    s.core.begin.checkAll s.dram none = (e :: es, n) ∧
    (s.core.mbox x.master x.mailbox).posted = false ∧
    x.mailbox < 8 :=
  ⟨st (lng (sgd (inMode .standby (ses ++ [(PLT_STAGE.STATE, 0, sgChecking)])) [⟨Obj.SEQ_DYN.id, 63, dynFF, []⟩]) [lc 0x2001 0 0 0 [] .check]),
    lc 0x2001 0 0 0 [] .check, ⟨0x43, 0xFF, 0x1012, 63, 0⟩, [], 0,
    by decide +kernel⟩

theorem witness_StagedSetsAreCheckedAndCommitted_4 : ∃ (s : State) (i : CmdImage),
    let x := cmdOf i 0x2002
    s.core.Ready x ∧
    s.core.cmdMode.mayCommit = true ∧
    x.at_ 24 4 ≤ 999999999 ∧
    s.core.rd PLT_STAGE.STATE = sgPassed ∧
    s.core.commitTests = [] :=
  ⟨st (sgd (inMode .standby (ses ++ [(PLT_STAGE.STATE, 0, sgPassed)])) [⟨Obj.SEQ_DYN.id, 63, dyn0, []⟩]),
    ci 0 12 0 0 (zeros 12),
    by decide +kernel⟩

theorem witness_StagedSetsAreCheckedAndCommitted_5 : ∃ (s : State) (i : CmdImage),
    let x := cmdOf i 0x2003
    s.core.Ready x ∧
    s.core.cmdMode.mayStage = true ∧
    s.core.setQuiet :=
  ⟨st (sgd (inMode .standby ses) [⟨Obj.SEQ_DYN.id, 63, dyn0, []⟩]), ci 0 0 0 0 [], by decide +kernel⟩

theorem witness_StagedSetsAreCheckedAndCommitted_6 : ∃ (s : State) (l : LongCmd),
    s.core.held domMEM = false ∧
    s.core.pilot.long.find? (fun y => y.kind == .stageCopy) = some l ∧
    l.cmd.mailbox < 8 ∧
    l.cmd.master < 3 :=
  ⟨st (lng (inMode .standby ses) [lc 0x1003 idPsetBlock 0 16 blkImg .stageCopy]),
    lc 0x1003 idPsetBlock 0 16 blkImg .stageCopy,
    by decide +kernel⟩

theorem witness_StagedSetsAreCheckedAndCommitted_7 : ∃ (s : State) (_partner : Option (BitVec 32)),
    s.core.held domMEM = false ∧
    s.core.checkRuns = true :=
  ⟨st (lng (sgd (inMode .standby (ses ++ [(PLT_STAGE.STATE, 0, sgChecking)])) [⟨Obj.SEQ_DYN.id, 63, dyn0, []⟩]) [lc 0x2001 0 0 0 [] .check]),
    none,
    by decide +kernel⟩

theorem witness_StagedSetsAreCheckedAndCommitted_8 : ∃ (s : State) (i : CmdImage),
    let x := cmdOf i 0x2003
    s.core.Ready x ∧
    s.core.cmdMode.mayStage = true :=
  ⟨st (sgd (inMode .standby ses) [⟨Obj.SEQ_DYN.id, 63, dyn0, []⟩]), ci 0 0 0 0 [], by decide +kernel⟩

end WitCommands1

namespace WitCommands2

def ses : List (Field × Nat × Nat) := [(PLT_TOKEN.EPOCH2, 0, 1), (PLT_TOKEN.EPOCH0, 0, 1), (PLT_TOKEN.HOLDER, 0, 2)]
def hi : List (Field × Nat × Nat) := ses ++ [(SAF_STATUS.LEVEL_A, 0, 1), (SAF_STATUS.LEVEL_B, 0, 1), (SAF_STATUS.LEVEL_E, 0, 1)]
def ci (flags len obj inst : Nat) (p : Bytes) : CmdImage := ⟨2, 7, 5, 1, BitVec.ofNat 16 flags, BitVec.ofNat 16 len, BitVec.ofNat 16 obj, BitVec.ofNat 16 inst, 0, p⟩
def e : CmdImage := ci 0 0 0 0 []
def mo (st : Nat) (l : List (Field × Nat × Nat)) (x : Axis) : Core := { inMode .standby (ses ++ (MOT_STATE.STATE, 7, st) :: l) with mot := { Axes.init with axes := List.replicate 7 Axis.init ++ [x] } }

theorem witness_ModeCommandsAskOrRefuse_0 : ∃ (s : State) (i : CmdImage),
    let x := cmdOf i 0x3001
    s.core.Ready x :=
  ⟨st (inMode .expose ses), e, by decide +kernel⟩

theorem witness_ModeCommandsAskOrRefuse_1 : ∃ (s : State) (i : CmdImage),
    let x := cmdOf i 0x3002
    let m := s.core.cmdMode
    s.core.Ready x ∧
    (m = .expose ∨ m = .slack ∨ m = .hold) :=
  ⟨st (inMode .expose ses), ci 1 0 0 0 [], by decide +kernel⟩

theorem witness_ModeCommandsAskOrRefuse_2 : ∃ (s : State) (i : CmdImage),
    let x := cmdOf i 0x3002
    let m := s.core.cmdMode
    s.core.Ready x ∧
    m ≠ .expose ∧
    m ≠ .slack ∧
    m ≠ .hold :=
  ⟨st (inMode .standby ses), e, by decide +kernel⟩

theorem witness_ModeCommandsAskOrRefuse_3 : ∃ (s : State) (i : CmdImage),
    let x := cmdOf i 0x3003
    let m := s.core.cmdMode
    s.core.Ready x ∧
    (m = .armed ∨ m = .hold) :=
  ⟨st ((inMode .hold ses).modPilot (fun p => { p with queue := [⟨5, [], none, 0, none⟩] })), e, by decide +kernel⟩

theorem witness_ModeCommandsAskOrRefuse_4 : ∃ (s : State) (i : CmdImage),
    let x := cmdOf i 0x3003
    let m := s.core.cmdMode
    s.core.Ready x ∧
    m = .slack :=
  ⟨st (inMode .slack ses), e, by decide +kernel⟩

theorem witness_ModeCommandsAskOrRefuse_5 : ∃ (s : State) (i : CmdImage) (f : CommSet) (l : CommSet),
    let x := cmdOf i 0x3003
    let p := s.core.pilot
    s.core.Ready x ∧
    s.core.cmdMode = .standby ∧
    p.queue.head? = some f ∧
    p.queue.getLast? = some l :=
  ⟨st ((inMode .standby ses).modPilot (fun p => { p with queue := [⟨5, [⟨idChtNodes, 63, [], []⟩], none, 0, none⟩, ⟨6, [⟨idChtGeom, 0, [], []⟩], none, 0, none⟩] })),
    e, ⟨5, [⟨idChtNodes, 63, [], []⟩], none, 0, none⟩, ⟨6, [⟨idChtGeom, 0, [], []⟩], none, 0, none⟩,
    by decide +kernel⟩

theorem witness_ModeCommandsAskOrRefuse_6 : ∃ (s : State) (i : CmdImage),
    let x := cmdOf i 0x3003
    s.core.Ready x ∧
    s.core.cmdMode = .standby ∧
    s.core.pilot.queue = [] :=
  ⟨st (inMode .standby ses), e, by decide +kernel⟩

theorem witness_ModeCommandsAskOrRefuse_7 : ∃ (s : State) (i : CmdImage),
    let x := cmdOf i 0x3003
    let m := s.core.cmdMode
    s.core.Ready x ∧
    m ≠ .standby ∧
    m ≠ .armed ∧
    m ≠ .hold ∧
    m ≠ .slack :=
  ⟨st (inMode .service ses), e, by decide +kernel⟩

theorem witness_ModeCommandsAskOrRefuse_8 : ∃ (s : State) (i : CmdImage),
    let x := cmdOf i 0x3004
    let m := s.core.cmdMode
    s.core.Ready x ∧
    m = .standby ∧
    s.core.armFails = none :=
  ⟨st (((inMode .standby (hi ++ [(CAL_TRIM.TRIM_VALID, 0, 1)])).modCal (fun s => { s with validParts := 2 ^ 64 - 1 })).modHbr (fun h => { h with cal := { h.cal with gateTemp := (List.range 64).map (fun k => (k, 5)) } })),
    e,
    by decide +kernel⟩

theorem witness_ModeCommandsAskOrRefuse_9 : ∃ (s : State) (i : CmdImage) (n : Nat),
    let x := cmdOf i 0x3004
    let m := s.core.cmdMode
    s.core.Ready x ∧
    m = .standby ∧
    s.core.armFails = some n :=
  ⟨st (inMode .standby ses), e, 1, by decide +kernel⟩

theorem witness_ModeCommandsAskOrRefuse_10 : ∃ (s : State) (i : CmdImage),
    let x := cmdOf i 0x3004
    let m := s.core.cmdMode
    s.core.Ready x ∧
    m ≠ .standby :=
  ⟨st (inMode .armed hi), e, by decide +kernel⟩

theorem witness_ModeCommandsAskOrRefuse_11 : ∃ (s : State) (i : CmdImage),
    let x := cmdOf i 0x3005
    let m := s.core.cmdMode
    s.core.Ready x ∧
    m = .standby :=
  ⟨st (inMode .standby ses), e, by decide +kernel⟩

theorem witness_ModeCommandsAskOrRefuse_12 : ∃ (s : State) (i : CmdImage),
    let x := cmdOf i 0x3005
    let m := s.core.cmdMode
    s.core.Ready x ∧
    m = .armed :=
  ⟨st (inMode .armed ses), e, by decide +kernel⟩

theorem witness_ModeCommandsAskOrRefuse_13 : ∃ (s : State) (i : CmdImage),
    let x := cmdOf i 0x3005
    let m := s.core.cmdMode
    s.core.Ready x ∧
    m = .slack :=
  ⟨st (inMode .slack ses), e, by decide +kernel⟩

theorem witness_ModeCommandsAskOrRefuse_14 : ∃ (s : State) (i : CmdImage),
    let x := cmdOf i 0x3005
    let m := s.core.cmdMode
    s.core.Ready x ∧
    m ≠ .standby ∧
    m ≠ .armed ∧
    m ≠ .slack :=
  ⟨st (inMode .expose ses), e, by decide +kernel⟩

theorem witness_ModeCommandsAskOrRefuse_15 : ∃ (s : State) (i : CmdImage),
    let x := cmdOf i 0x3006
    let m := s.core.cmdMode
    s.core.Ready x ∧
    m = .hold ∧
    s.core.inCascade = false ∧
    s.core.armFirst3 = none :=
  ⟨st (inMode .hold hi), e, by decide +kernel⟩

theorem witness_ModeCommandsAskOrRefuse_16 : ∃ (s : State) (i : CmdImage),
    let x := cmdOf i 0x3006
    let m := s.core.cmdMode
    s.core.Ready x ∧
    m = .hold ∧
    s.core.inCascade = true ∧
    s.core.isLead = true ∧
    s.core.membersHeld = true ∧
    s.core.armFirst3 = none :=
  ⟨st { inMode .hold (hi ++ [(CSC_CONFIG.MEMBERS, 0, 3)]) with casc := { Casc.init with ready := [(1, ⟨0, false, false, true⟩)] } },
    e,
    by decide +kernel⟩

theorem witness_ModeCommandsAskOrRefuse_17 : ∃ (s : State) (i : CmdImage) (n : Nat),
    let x := cmdOf i 0x3006
    let m := s.core.cmdMode
    s.core.Ready x ∧
    m = .hold ∧
    (s.core.inCascade = false ∨ s.core.isLead = true) ∧
    s.core.armFirst3 = some n :=
  ⟨st (inMode .hold ses), e, 1, by decide +kernel⟩

theorem witness_ModeCommandsAskOrRefuse_18 : ∃ (s : State) (i : CmdImage),
    let x := cmdOf i 0x3006
    let m := s.core.cmdMode
    s.core.Ready x ∧
    m ≠ .hold :=
  ⟨st (inMode .slack hi), e, by decide +kernel⟩

theorem witness_ModeCommandsAskOrRefuse_19 : ∃ (s : State) (i : CmdImage),
    let x := cmdOf i 0x3007
    let m := s.core.cmdMode
    s.core.Ready x ∧
    m = .safe ∧
    s.core.clearOk = true :=
  ⟨st (inMode .safe (hi ++ [(SAF_STATUS.HIGH_FOR, 0, 100)])), e, by decide +kernel⟩

theorem witness_ModeCommandsAskOrRefuse_20 : ∃ (s : State) (i : CmdImage),
    let x := cmdOf i 0x3007
    let m := s.core.cmdMode
    s.core.Ready x ∧
    (¬(m = .safe ∧ s.core.clearOk = true)) :=
  ⟨st (inMode .safe (hi ++ [(SAF_STATUS.HIGH_FOR, 0, 99)])), e, by decide +kernel⟩

theorem witness_ModeCommandsAskOrRefuse_21 : ∃ (s : State) (i : CmdImage),
    let x := cmdOf i 0x3008
    let m := s.core.cmdMode
    s.core.Ready x ∧
    m = .standby ∧
    s.core.layerActive = false :=
  ⟨st (inMode .standby ses), e, by decide +kernel⟩

theorem witness_ModeCommandsAskOrRefuse_22 : ∃ (s : State) (i : CmdImage),
    let x := cmdOf i 0x3008
    let m := s.core.cmdMode
    s.core.Ready x ∧
    (¬(m = .standby ∧ s.core.layerActive = false)) :=
  ⟨st (inMode .hold ses), e, by decide +kernel⟩

theorem witness_ModeCommandsAskOrRefuse_23 : ∃ (s : State) (i : CmdImage),
    let x := cmdOf i 0x3009
    let m := s.core.cmdMode
    s.core.Ready x ∧
    m = .service :=
  ⟨st (inMode .service ses), e, by decide +kernel⟩

theorem witness_ModeCommandsAskOrRefuse_24 : ∃ (s : State) (i : CmdImage),
    let x := cmdOf i 0x3009
    let m := s.core.cmdMode
    s.core.Ready x ∧
    m ≠ .service :=
  ⟨st (inMode .standby ses), e, by decide +kernel⟩

theorem witness_AxisAndCaptureCommandsAct_0 : ∃ (s : State) (i : CmdImage) (n : Fin 8),
    let x := cmdOf i 0x5001
    let a := s.core.axis n
    let base : Int := if x.at_ 24 1 = 0 then 0 else (a.target.orElse (fun _ => a.kept)).getD (s.core.posCmd n)
    let g := (s.core.steps32 (base + x.atI 20 4)).1
    s.core.Ready x ∧
    s.core.cmdMode.mayMove = true ∧
    x.at_ 16 1 = n ∧
    s.core.axisUp n = true ∧
    x.at_ 17 3 = 0 ∧
    x.at_ 24 1 ≤ 1 ∧
    x.at_ 25 3 = 0 ∧
    s.core.recoatHolds n = false ∧
    s.core.beyondLimit n g = false :=
  ⟨st (mo axIdle [] Axis.init), ci 0 12 0 0 (leBytes 4 7 ++ leBytes 4 100 ++ zeros 4), 7, by decide +kernel⟩

theorem witness_AxisAndCaptureCommandsAct_1 : ∃ (s : State) (i : CmdImage) (n : Fin 8),
    let x := cmdOf i 0x5001
    let a := s.core.axis n
    let base : Int := if x.at_ 24 1 = 0 then 0 else (a.target.orElse (fun _ => a.kept)).getD (s.core.posCmd n)
    let g := (s.core.steps32 (base + x.atI 20 4)).1
    s.core.Ready x ∧
    s.core.cmdMode.mayMove = true ∧
    x.at_ 16 1 = n ∧
    s.core.axisUp n = true ∧
    x.at_ 17 3 = 0 ∧
    x.at_ 24 1 ≤ 1 ∧
    x.at_ 25 3 = 0 ∧
    s.core.recoatHolds n = false ∧
    s.core.beyondLimit n g = true :=
  ⟨st (mo axIdle [(MOT_CONFIG.LIM_EN, 7, 1), (MOT_CONFIG.LIM_HI, 7, 99)] Axis.init),
    ci 0 12 0 0 (leBytes 4 7 ++ leBytes 4 100 ++ zeros 4), 7,
    by decide +kernel⟩

theorem witness_AxisAndCaptureCommandsAct_2 : ∃ (s : State) (i : CmdImage) (n : Fin 8) (g : Int),
    let x := cmdOf i 0x5002
    let a := s.core.axis n
    s.core.Ready x ∧
    x.at_ 16 1 = n ∧
    x.at_ 17 1 ≤ 1 ∧
    x.at_ 18 2 = 0 ∧
    s.core.recoatHolds n = false ∧
    s.core.axState n = axMoving ∧
    a.latch = none ∧
    a.target = some g :=
  ⟨st (mo axMoving [] { Axis.init with target := some 50 }), ci 0 4 0 0 (leBytes 4 0x107), 7, 50, by decide +kernel⟩

theorem witness_AxisAndCaptureCommandsAct_3 : ∃ (s : State) (i : CmdImage) (n : Fin 8) (g : Int × Nat),
    let x := cmdOf i 0x5002
    let a := s.core.axis n
    s.core.Ready x ∧
    x.at_ 16 1 = n ∧
    x.at_ 17 1 ≤ 1 ∧
    x.at_ 18 2 = 0 ∧
    s.core.recoatHolds n = false ∧
    s.core.axState n ∈ [axIdle, axMoving, axStopping, axKept] ∧
    a.latch = some g :=
  ⟨st (mo axMoving [] { Axis.init with target := some 50, latch := some (3, 7) }),
    ci 0 4 0 0 (leBytes 4 0x107), 7, (3, 7),
    by decide +kernel⟩

theorem witness_AxisAndCaptureCommandsAct_4 : ∃ (s : State) (i : CmdImage) (n : Fin 8),
    let x := cmdOf i 0x5002
    let a := s.core.axis n
    s.core.Ready x ∧
    x.at_ 16 1 = n ∧
    x.at_ 17 1 ≤ 1 ∧
    x.at_ 18 2 = 0 ∧
    s.core.recoatHolds n = false ∧
    s.core.axState n ∈ [axIdle, axKept] ∧
    a.latch = none :=
  ⟨st (mo axKept [] { Axis.init with kept := some 9 }), ci 0 4 0 0 (leBytes 4 0x7), 7, by decide +kernel⟩

theorem witness_AxisAndCaptureCommandsAct_5 : ∃ (s : State) (i : CmdImage) (n : Fin 8),
    let x := cmdOf i 0x5002
    s.core.Ready x ∧
    x.at_ 16 1 = n ∧
    x.at_ 17 1 ≤ 1 ∧
    x.at_ 18 2 = 0 ∧
    s.core.recoatHolds n = false ∧
    s.core.axState n ∈ [axDisabled, axFault] :=
  ⟨st (mo axFault [] Axis.init), ci 0 4 0 0 (leBytes 4 0x107), 7, by decide +kernel⟩

theorem witness_AxisAndCaptureCommandsAct_6 : ∃ (s : State) (i : CmdImage) (n : Fin 8) (g : Int),
    let x := cmdOf i 0x5003
    s.core.Ready x ∧
    s.core.cmdMode.mayMove = true ∧
    x.at_ 16 1 = n ∧
    (s.core.axis n).kept = some g ∧
    s.core.axisUp n = true ∧
    x.at_ 17 3 = 0 ∧
    s.core.recoatHolds n = false ∧
    s.core.beyondLimit n g = false :=
  ⟨st (mo axKept [] { Axis.init with kept := some (-9) }), ci 0 4 0 0 (leBytes 4 0x7), 7, (-9), by decide +kernel⟩

theorem witness_AxisAndCaptureCommandsAct_7 : ∃ (s : State) (i : CmdImage) (n : Fin 8),
    let x := cmdOf i 0x5004
    let g := x.atI 20 4
    s.core.Ready x ∧
    x.at_ 16 1 = n ∧
    s.core.axState n = axIdle ∧
    x.at_ 17 3 = 0 ∧
    s.core.recoatHolds n = false ∧
    s.core.beyondLimit n g = false :=
  ⟨st (mo axIdle [(MOT_STATE.DEV, 7, 5)] Axis.init),
    ci 0 8 0 0 (leBytes 4 7 ++ leBytes 4 0xFFFFFFF0), 7,
    by decide +kernel⟩

theorem witness_AxisAndCaptureCommandsAct_8 : ∃ (s : State) (i : CmdImage) (n : Fin 8),
    let x := cmdOf i 0x5005
    s.core.Ready x ∧
    x.at_ 16 1 = n ∧
    s.core.axState n = axFault ∧
    s.core.faultGone n = true ∧
    x.at_ 17 3 = 0 ∧
    s.core.recoatHolds n = false :=
  ⟨st (mo axFault [(MOT_CONFIG.ENABLE, 7, 1), (MOT_STATE.FAULT_CAUSE, 7, 1), (MOT_CONFIG.ENC_SRC, 7, 3), (PFI_INC_STATE.POS, 3, 40)] Axis.init),
    ci 0 4 0 0 (leBytes 4 7), 7,
    by decide +kernel⟩

theorem witness_AxisAndCaptureCommandsAct_9 : ∃ (s : State) (i : CmdImage) (flat : Bool),
    let x := cmdOf i (if flat then 0x6002 else 0x6001)
    let k := x.inst
    s.core.Ready x ∧
    s.core.cmdMode ∈ [.standby, .armed, .slack, .hold, .service] ∧
    s.core.rd IPL_CTX.ENABLE k ≠ 0 ∧
    s.core.dramOk (x.at_ 16 8) (4 * (s.core.rd IPL_CTX.WIDTH k * s.core.rd IPL_CTX.HEIGHT k)) = true ∧
    1 ≤ x.at_ 24 2 ∧
    x.at_ 24 2 ≤ 256 ∧
    x.at_ 26 6 = 0 ∧
    (s.core.ictx k).capture = none :=
  ⟨st (inMode .standby (ses ++ [(DRC_STATE.HOST_MIB, 0, 64), (REC_STATE.REC_BASE, 0, 2 ^ 22), (IPL_CTX.ENABLE, 31, 1), (IPL_CTX.WIDTH, 31, 16), (IPL_CTX.HEIGHT, 31, 16)])),
    ci 0 16 0 31 (leBytes 8 4096 ++ leBytes 2 256 ++ zeros 6), true,
    by decide +kernel⟩

end WitCommands2

namespace WitCommands3

def ses : List (Field × Nat × Nat) := [(PLT_TOKEN.EPOCH2, 0, 1), (PLT_TOKEN.EPOCH0, 0, 1), (PLT_TOKEN.HOLDER, 0, 2)]
def ram : List (Field × Nat × Nat) := ses ++ [(DRC_STATE.HOST_MIB, 0, 64), (REC_STATE.REC_BASE, 0, 2 ^ 22)]
def ci (flags len obj inst : Nat) (p : Bytes) : CmdImage := ⟨2, 7, 5, 1, BitVec.ofNat 16 flags, BitVec.ofNat 16 len, BitVec.ofNat 16 obj, BitVec.ofNat 16 inst, 0, p⟩
def e : CmdImage := ci 0 0 0 0 []
def keyB : Bytes := (leBytes 32 p256Gx).reverse ++ (leBytes 32 p256Gy).reverse
def hdr : Bytes := leBytes 4 0x5A494D47 ++ leBytes 2 1 ++ zeros 2 ++ leBytes 4 1 ++ zeros 20 ++ (leBytes 32 (sha256 [])).reverse ++ keyB ++ (leBytes 32 p256Gx).reverse ++ (leBytes 32 0x39f957691c61e70e28ee48d5df3e6c04c85ef9db21387c5aa7bbc2d792dd2320).reverse
def withKey (c : Core) : Core := c.modHbr (fun h => { h with otp := { h.otp with imageKeys := ⟨some (sha256 keyB), false⟩ :: List.replicate 3 KeySlot.init } })
def bootd (c : Core) : Core := c.modHbr (fun h => { h with booted := true })
def stOk : State := { st (withKey (inMode .expose ram)) with dram := Mem.writeBytes [] 4096 hdr }

/-- The command that stages the image at 4096. -/
def iOk : CmdImage := ci 0 8 0 0 (leBytes 8 4096)

theorem hdr_length : hdr.length = 192 := by decide +kernel

/-- The header is signed by the key that OTP holds (R398); the signature was computed outside the model. -/
theorem hdr_ok : stOk.core.imageHeaderOk (hdr ++ zeros 3904) = true := by decide +kernel

theorem image_ok : stOk.core.imageOk
    (fun b n => readBytesUnder stOk.dram [] ((cmdOf iOk 0x7010).at_ 16 8 + b) n) = true := by
  have ha : (cmdOf iOk 0x7010).at_ 16 8 = 4096 := by decide +kernel
  have h0 : readBytesUnder stOk.dram [] (4096 + 0) 4096 = hdr ++ zeros 3904 := by
    have h := readBytes_written 4096 4096 hdr (by rw [hdr_length]; decide)
    rw [hdr_length, show 4096 - 192 = 3904 from rfl] at h
    have hd : stOk.dram = Mem.writeBytes [] 4096 hdr := by simp only [stOk]
    simpa only [hd, Nat.add_zero] using h
  have hl : fieldLE (hdr ++ zeros 3904) 12 4 = 0 := by decide +kernel
  unfold Core.imageOk
  rw [ha]
  simp only [h0, hl, hdr_ok, Bool.true_and]
  decide +kernel

theorem witness_HarbourCommandsAct_0 : ∃ (s : State) (i : CmdImage),
    let x := cmdOf i 0x7001
    let m := s.core.cmdMode
    let cal := s.core.hbr.cal
    s.core.Ready x ∧
    1 ≤ x.at_ 16 1 ∧
    x.at_ 16 1 < 32 ∧
    x.at_ 17 1 = 0 ∧
    x.at_ 18 2 ≤ 3600 ∧
    cal.reqs.length < 16 ∧
    x.urgent = false ∧
    (m = .armed ∨ m = .expose ∨ m = .hold) :=
  ⟨st (inMode .expose ses), ci 0 4 0 0 (leBytes 4 0xE10001F), by decide +kernel⟩

theorem witness_HarbourCommandsAct_1 : ∃ (s : State) (i : CmdImage),
    let x := cmdOf i 0x7001
    let m := s.core.cmdMode
    let cal := s.core.hbr.cal
    s.core.Ready x ∧
    1 ≤ x.at_ 16 1 ∧
    x.at_ 16 1 < 32 ∧
    x.at_ 17 1 = 0 ∧
    x.at_ 18 2 ≤ 3600 ∧
    cal.reqs.length < 16 ∧
    x.urgent = false ∧
    m = .standby ∧
    s.core.layerActive = false ∧
    (cal.run.isSome = true ∨ s.core.mode = .standby ∧ ∀ g : Fin 5, s.core.isDue g = false) :=
  ⟨st (inMode .standby ses), ci 0 4 0 0 (leBytes 4 0x1F), by decide +kernel⟩

theorem witness_HarbourCommandsAct_2 : ∃ (s : State) (i : CmdImage),
    let x := cmdOf i 0x7001
    let m := s.core.cmdMode
    let cal := s.core.hbr.cal
    s.core.Ready x ∧
    1 ≤ x.at_ 16 1 ∧
    x.at_ 16 1 < 32 ∧
    x.at_ 17 1 = 0 ∧
    x.at_ 18 2 ≤ 3600 ∧
    cal.reqs.length < 16 ∧
    x.urgent = true ∧
    (m = .expose ∨ m = .hold) ∧
    cal.run.isSome = true :=
  ⟨st ((inMode .expose ses).modCal (fun s => { s with run := some ⟨1, 0, [], 0, [], false⟩ })),
    ci 4 4 0 0 (leBytes 4 0x1F),
    by decide +kernel⟩

theorem witness_HarbourCommandsAct_3 : ∃ (s : State) (i : CmdImage),
    let x := cmdOf i 0x7010
    let a := x.at_ 16 8
    let rd := fun b n => readBytesUnder s.dram [] (a + b) n
    s.core.Ready x ∧
    s.core.anyLong (fun k => k == .updStage) = false ∧
    s.core.dramOk a 4096 = true ∧
    s.core.dramOk a (4096 + fieldLE (rd 0 4096) 12 4) = true ∧
    s.core.imageOk rd = true :=
  ⟨stOk, iOk, by decide +kernel, by decide +kernel, by decide +kernel, by decide +kernel, image_ok⟩

theorem witness_HarbourCommandsAct_4 : ∃ (s : State) (i : CmdImage),
    let x := cmdOf i 0x7010
    let a := x.at_ 16 8
    let rd := fun b n => readBytesUnder s.dram [] (a + b) n
    s.core.Ready x ∧
    s.core.anyLong (fun k => k == .updStage) = false ∧
    s.core.dramOk a 4096 = true ∧
    s.core.dramOk a (4096 + fieldLE (rd 0 4096) 12 4) = true ∧
    s.core.imageOk rd = false :=
  ⟨{ st (inMode .standby ram) with dram := [(4096, 7#8)] }, ci 0 8 0 0 (leBytes 8 4096), by decide +kernel⟩

theorem witness_HarbourCommandsAct_5 : ∃ (s : State) (i : CmdImage),
    let x := cmdOf i 0x7011
    s.core.Ready x ∧
    s.core.cmdMode.mayUpdate = true ∧
    s.core.rd UPD_STATE.STAGED_OK ≠ 0 :=
  ⟨st (inMode .standby (ses ++ [(UPD_STATE.STAGED_OK, 0, 1)])), e, by decide +kernel⟩

theorem witness_HarbourCommandsAct_6 : ∃ (s : State) (i : CmdImage),
    let x := cmdOf i 0x7011
    s.core.Ready x ∧
    s.core.cmdMode.mayUpdate = true ∧
    s.core.rd UPD_STATE.STAGED_OK = 0 :=
  ⟨st (inMode .service ses), e, by decide +kernel⟩

theorem witness_HarbourCommandsAct_7 : ∃ (s : State) (i : CmdImage),
    let x := cmdOf i 0x7012
    let u := s.core.updState
    s.core.Ready x ∧
    s.core.cmdMode.mayUpdate = true ∧
    u.trial < 2 ∧
    u.tried = 1 ∧
    s.core.rd UPD_STATE.RUNNING = u.trial :=
  ⟨st ((inMode .standby (ses ++ [(UPD_STATE.RUNNING, 0, 1), (UPD_STATE.RUN_SVN, 0, 64)])).writePart 10 0 0 3 0 (leBytes 1 0 ++ leBytes 1 1 ++ leBytes 1 1 ++ zeros 1 ++ leBytes 4 5) true).begin,
    e,
    by decide +kernel⟩

theorem witness_HarbourCommandsAct_8 : ∃ (s : State) (i : CmdImage) (k : Fin 68),
    let x := cmdOf i 0x7020
    s.core.Ready x ∧
    cassOf (x.at_ 16 1) (x.at_ 17 1) = some k.val ∧
    x.at_ 18 2 = 0 ∧
    s.core.anyLong (fun l => l == .reauth k) = false ∧
    s.core.harbourRuns = true ∧
    (s.core.cass k).step = 0 ∧
    s.core.cassBusy < 8 ∧
    s.core.cassQuiet k :=
  ⟨st (bootd (inMode .expose ses)), ci 0 4 0 0 (leBytes 4 0x3F01), 63, by decide +kernel⟩

theorem witness_HarbourCommandsAct_9 : ∃ (s : State) (i : CmdImage) (k : Fin 68),
    let x := cmdOf i 0x7021
    s.core.Ready x ∧
    s.core.cmdMode = .service ∧
    cassOf (x.at_ 16 1) (x.at_ 17 1) = some k.val ∧
    s.core.con k CON_WINDOW.STATE = csExhausted ∧
    x.at_ 18 1 ≤ 1 ∧
    x.at_ 19 1 = 0 :=
  ⟨st (inMode .service (ses ++ [(CON_BLADE.STATE, 3, csExhausted)])),
    ci 0 4 0 0 (leBytes 4 0x010302), 67,
    by decide +kernel⟩

theorem witness_HarbourCommandsAct_10 : ∃ (s : State) (i : CmdImage),
    let x := cmdOf i 0x7022
    let n := x.at_ 16 1
    let old := s.core.hbr.otp.issuerKeys.getD n KeySlot.init
    s.core.Ready x ∧
    s.core.cmdMode = .service ∧
    n < s.core.hbr.otp.issuerKeys.length ∧
    x.at_ 17 1 ≤ 1 ∧
    x.at_ 18 2 = 0 ∧
    (x.at_ 17 1 = 0 → old.hash = none) :=
  ⟨st (inMode .service ses), ci 0 36 0 0 (leBytes 4 3 ++ zeros 32), by decide +kernel⟩

theorem witness_HarbourCommandsAct_11 : ∃ (s : State) (i : CmdImage),
    let x := cmdOf i 0x7030
    s.core.Ready x ∧
    s.core.cmdMode = .service ∧
    x.at_ 16 1 ≤ 28 ∧
    x.at_ 17 3 = 0 ∧
    (∀ k : Fin 28, k.val < x.at_ 16 1 → x.at_ (22 + 8 * k) 2 = 0) :=
  ⟨st (inMode .service ses), ci 0 12 0 0 (leBytes 4 1 ++ leBytes 8 77), by decide +kernel⟩

theorem witness_HarbourCommandsAct_12 : ∃ (s : State) (i : CmdImage),
    let x := cmdOf i 0x7001
    let m := s.core.cmdMode
    s.core.Ready x ∧
    1 ≤ x.at_ 16 1 ∧
    x.at_ 16 1 < 32 ∧
    x.at_ 17 1 = 0 ∧
    x.at_ 18 2 ≤ 3600 ∧
    s.core.hbr.cal.reqs.length < 16 ∧
    (m = .standby ∨ m = .service ∨ m = .slack) ∧
    (m = .standby → s.core.layerActive = false) :=
  ⟨st (inMode .standby (ses ++ [(CAL_TRIM.TRIM_VALID, 0, 1)])), ci 0 4 0 0 (leBytes 4 0x1F), by decide +kernel⟩

theorem witness_HarbourCommandsAct_13 : ∃ (s : State) (i : CmdImage) (k : Fin 68),
    let x := cmdOf i 0x7020
    s.core.Ready x ∧
    cassOf (x.at_ 16 1) (x.at_ 17 1) = some k.val ∧
    x.at_ 18 2 = 0 ∧
    s.core.anyLong (fun l => l == .reauth k) = false :=
  ⟨st (bootd (inMode .expose ses)), ci 0 4 0 0 (leBytes 4 0x3F01), 63, by decide +kernel⟩

theorem witness_DeviceAndTimeCommandsAct_0 : ∃ (s : State) (i : CmdImage),
    let x := cmdOf i 0x7040
    let m := s.core.cmdMode
    s.core.Ready x ∧
    (m = .standby ∨ m = .service ∨ m = .safe) :=
  ⟨st (inMode .safe ses), e, by decide +kernel⟩

theorem witness_DeviceAndTimeCommandsAct_1 : ∃ (s : State) (i : CmdImage),
    let x := cmdOf i 0x7040
    let m := s.core.cmdMode
    s.core.Ready x ∧
    m ≠ .standby ∧
    m ≠ .service ∧
    m ≠ .safe :=
  ⟨st (inMode .hold ses), e, by decide +kernel⟩

theorem witness_DeviceAndTimeCommandsAct_2 : ∃ (s : State) (i : CmdImage),
    let x := cmdOf i 0x7050
    s.core.Ready x ∧
    s.core.cmdMode = .standby ∧
    s.core.layerActive = false ∧
    x.at_ 16 1 ≤ 3 ∧
    x.at_ 17 3 = 0 :=
  ⟨st (inMode .standby ses), ci 0 4 0 0 (leBytes 4 3), by decide +kernel⟩

theorem witness_DeviceAndTimeCommandsAct_3 : ∃ (s : State) (i : CmdImage),
    let x := cmdOf i 0x7051
    let l := s.core.softMap
    let r := s.core.hbr.otp.repairs ++ l
    s.core.Ready x ∧
    s.core.cmdMode = .service ∧
    r.length ≤ 128 :=
  ⟨st ((inMode .service ses).modHbr (fun h => { h with otp := { h.otp with repairs := List.replicate 128 ⟨1, 2, 3, 4⟩ } })),
    e,
    by decide +kernel⟩

theorem witness_DeviceAndTimeCommandsAct_4 : ∃ (s : State) (i : CmdImage),
    let x := cmdOf i 0x8001
    s.core.Ready x ∧
    s.core.cmdMode.upToService = true ∧
    (s.core.logWriting = true ∨ s.core.logReady = false) :=
  ⟨st (inMode .service ses), e, by decide +kernel⟩

theorem witness_DeviceAndTimeCommandsAct_5 : ∃ (s : State) (i : CmdImage),
    let x := cmdOf i 0x8002
    let off := x.at_ 16 2
    let n := x.at_ 18 2
    s.core.Ready x ∧
    s.core.cmdMode.upToService = true ∧
    off ≤ 4095 ∧
    1 ≤ n ∧
    n ≤ 224 ∧
    off + n ≤ 4096 :=
  ⟨st (inMode .standby ses), ci 0 4 0 0 (leBytes 2 4095 ++ leBytes 2 1), by decide +kernel⟩

theorem witness_DeviceAndTimeCommandsAct_6 : ∃ (s : State) (i : CmdImage),
    let x := cmdOf i 0x9001
    s.core.Ready x ∧
    s.core.stepAllowed = true ∧
    s.core.effSrcNow ≠ srcLink ∧
    x.at_ 24 4 ≤ 999999999 ∧
    x.at_ 28 4 = 0 :=
  ⟨st (inMode .standby ses), ci 0 16 0 0 (leBytes 8 5 ++ leBytes 4 999999999 ++ zeros 4), by decide +kernel⟩

theorem witness_DeviceAndTimeCommandsAct_7 : ∃ (s : State) (i : CmdImage),
    let x := cmdOf i 0x9002
    s.core.Ready x ∧
    s.core.effSrcNow ≠ srcLink :=
  ⟨st (inMode .standby ses), e, by decide +kernel⟩

theorem witness_DeviceAndTimeCommandsAct_8 : ∃ (s : State) (i : CmdImage),
    let x := cmdOf i 0x9002
    s.core.Ready x ∧
    s.core.effSrcNow = srcLink :=
  ⟨st (inMode .standby (ses ++ [(TIM_CONFIG.SRC, 0, srcLink)])), e, by decide +kernel⟩

theorem witness_DeviceAndTimeCommandsAct_9 : ∃ (s : State) (i : CmdImage),
    let x := cmdOf i 0xA001
    let elig := (s.core.role == roleActive && s.core.flag TWN_STATE.PARTNER_ELIG) ||
    (s.core.role == roleStandby && s.core.eligible)
    let good := s.core.inPair = true ∧ elig = true ∧ s.core.rd TWN_STATE.PATH_LINK ≠ 0
    s.core.Ready x ∧
    good :=
  ⟨st (inMode .standby (ses ++ [(TWN_CONFIG.TWIN_EN, 0, 1), (TWN_STATE.ROLE, 0, roleActive), (TWN_STATE.PARTNER_ELIG, 0, 1), (TWN_STATE.PATH_LINK, 0, 1)])),
    e,
    by decide +kernel⟩

theorem witness_DeviceAndTimeCommandsAct_10 : ∃ (s : State) (i : CmdImage),
    let x := cmdOf i 0xA001
    let elig := (s.core.role == roleActive && s.core.flag TWN_STATE.PARTNER_ELIG) ||
    (s.core.role == roleStandby && s.core.eligible)
    let good := s.core.inPair = true ∧ elig = true ∧ s.core.rd TWN_STATE.PATH_LINK ≠ 0
    s.core.Ready x ∧
    ¬good :=
  ⟨st (inMode .standby ses), e, by decide +kernel⟩

theorem witness_DeviceAndTimeCommandsAct_11 : ∃ (s : State) (i : CmdImage),
    let x := cmdOf i 0x8001
    let l := s.core.log
    s.core.Ready x ∧
    s.core.cmdMode.upToService = true ∧
    s.core.logWriting = false ∧
    s.core.logReady = true ∧
    l.due = [] ∧
    l.fifo = [] ∧
    l.batchBank = none :=
  ⟨st ((inMode .standby (ram ++ [(DRC_STATE.TRAINED, 0, 1), (REC_STATE.FULL, 0, 1), (REC_STATE.SEAL_PTR, 0, 640)])).modLog (fun l => { l with full := true })),
    e,
    by decide +kernel⟩

theorem witness_DeviceAndTimeCommandsAct_12 : ∃ (s : State) (i : CmdImage),
    let x := cmdOf i 0x8001
    s.core.Ready x ∧
    s.core.cmdMode.upToService = true :=
  ⟨st (inMode .standby ses), e, by decide +kernel⟩

end WitCommands3

namespace WitHost

def mg (l : List (Field × Nat × Nat)) : Core := inMode .standby ([(PLT_MGMT.MGMT_EN, 0, 1), (PLT_MGMT.PEER3, 0, 0x0A000001), (PLT_MGMT.MGMT_IP, 0, 0x0A000002)] ++ l)
def desc : List Host.Cell := ringWrite [] (32 * 1023) (leBytes 8 0x1000 ++ leBytes 8 4096 ++ leBytes 4 4096 ++ zeros 12)

theorem witness_MailboxesArePosted_0 : ∃ (s : State) (_v : BitVec 32),
    s.core.onBus = true ∧
    s.core.serves = true ∧
    s.core.rd BAR0.ID_BOOT = 0 ∧
    s.core.inPair = false :=
  ⟨st (inMode .standby [(BAR0.MB_BUSY, 0, 0x81), (BAR0.ID_BOOT, 0, 0)]), 0xFFFFFFFF, by decide +kernel⟩

theorem witness_MailboxesArePosted_1 : ∃ (s : State) (n : Fin 8),
    s.core.onBus = true ∧
    s.core.serves = true ∧
    s.core.rd BAR0.ID_BOOT = 0 ∧
    bitOf (s.core.rd BAR0.MB_BUSY) n = true :=
  ⟨st (inMode .standby [(BAR0.MB_BUSY, 0, 0x81), (BAR0.ID_BOOT, 0, 0)]), 7, by decide +kernel⟩

theorem witness_MailboxesArePosted_2 : ∃ (s : State) (ip : BitVec 32) (_port : BitVec 16) (box : Fin 8) (image : Bytes),
    s.core.serves = true ∧
    s.core.mgmtOn = true ∧
    ip.toNat ∈ s.core.peers ∧
    s.core.inPair = false ∧
    image.length = 16 + fieldLE image 8 2 ∧
    fieldLE image 8 2 ≤ 240 ∧
    (s.core.mbox 2 box).posted = false ∧
    (s.core.mbox 2 box).busy = none :=
  ⟨st (mg []), 0x0A000001, 5, 7, (zeros 8 ++ [240#8, 0#8] ++ zeros 246), by decide +kernel⟩

theorem witness_MailboxesArePosted_3 : ∃ (s : State) (ip : BitVec 32) (_port : BitVec 16) (_b : Bytes),
    s.core.serves = true ∧
    s.core.mgmtOn = true ∧
    s.core.peers ≠ [] ∧
    ip.toNat ∉ s.core.peers :=
  ⟨st (mg []), 0x0A000003, 5, [1#8], by decide +kernel⟩

theorem witness_MailboxesArePosted_4 : ∃ (s : State) (_ip : BitVec 32) (_port : BitVec 16) (_b : Bytes),
    s.core.mgmtOn = false :=
  ⟨st (inMode .standby []), 0, 5, [], by decide +kernel⟩

theorem witness_MailboxesArePosted_5 : ∃ (s : State) (_v : BitVec 32),
    s.core.onBus = true ∧
    s.core.serves = true ∧
    s.core.rd BAR0.ID_BOOT = 0 :=
  ⟨st (inMode .standby [(BAR0.MB_BUSY, 0, 0x81), (BAR0.ID_BOOT, 0, 0)]), 0xFFFFFF07, by decide +kernel⟩

theorem witness_MailboxesArePosted_6 : ∃ (s : State) (ip : BitVec 32) (_port : BitVec 16) (box : Fin 8) (image : Bytes),
    s.core.serves = true ∧
    s.core.mgmtOn = true ∧
    ip.toNat ∈ s.core.peers ∧
    image.length = 16 + fieldLE image 8 2 ∧
    (s.core.mbox 2 box).posted = false ∧
    (s.core.mbox 2 box).busy = none :=
  ⟨st (mg [(TWN_CONFIG.TWIN_EN, 0, 1), (TWN_STATE.PATH_LINK, 0, 1), (TWN_STATE.ROLE, 0, roleActive), (TWN_STATE.PARTNER_ELIG, 0, 1)]),
    0x0A000001, 5, 7, (zeros 8 ++ [240#8, 0#8] ++ zeros 246),
    by decide +kernel⟩

theorem witness_HostRegistersTakeEffect_0 : ∃ (s : State) (v : BitVec 32),
    s.core.onBus = true ∧
    s.core.held domPLT = false ∧
    (s.core.rd BAR0.EV_PROD + 2 ^ 32 - v.toNat) % 2 ^ 32 ≤ 1024 :=
  ⟨st (inMode .standby [(BAR0.EV_PROD, 0, 1023)]), 0xFFFFFFFF, by decide +kernel⟩

theorem witness_HostRegistersTakeEffect_1 : ∃ (s : State) (v : BitVec 32),
    1024 < (s.core.rd BAR0.EV_PROD + 2 ^ 32 - v.toNat) % 2 ^ 32 :=
  ⟨st (inMode .standby [(BAR0.EV_PROD, 0, 5)]), 6, by decide +kernel⟩

theorem witness_HostRegistersTakeEffect_2 : ∃ (s : State),
    s.core.pilot.eventSince = true ∧
    s.core.pilot.holdoffUntil ≤ s.core.ticks ∧
    bitOf (s.core.rd BAR0.INT_MASK) 8 = false ∧
    bitOf s.core.pilot.msixMasked 8 = false :=
  ⟨st ((inMode .standby [(BAR0.INT_MASK, 0, 0x2FF), (PLT_EVQ.EV_HOLDOFF, 0, 50)]).modPilot (fun p => { p with eventSince := true })),
    by decide +kernel⟩

theorem witness_HostRegistersTakeEffect_3 : ∃ (s : State) (v : Fin 64),
    s.core.onBus = true ∧
    bitOf s.core.pilot.msixMasked v = true :=
  ⟨st ((inMode .standby []).modPilot (fun p => { p with msixMasked := 2 ^ 63, msixHeld := 2 ^ 63 + 1 })),
    63,
    by decide +kernel⟩

theorem witness_HostRegistersTakeEffect_4 : ∃ (s : State) (_v : Fin 64),
    s.core.onBus = true :=
  ⟨st ((inMode .standby []).modPilot (fun p => { p with msixMasked := 3, msixHeld := 2 })), 63, by decide +kernel⟩

theorem witness_HostRegistersTakeEffect_5 : ∃ (s : State) (data : Bytes),
    s.core.onBus = true ∧
    s.core.held domPLT = false ∧
    data.length = 4 :=
  ⟨st (inMode .standby []), List.replicate 4 0xFF#8, by decide +kernel⟩

theorem witness_HostRegistersTakeEffect_6 : ∃ (s : State) (n : Fin 8) (data : Bytes),
    s.core.onBus = true ∧
    s.core.held domPLT = false ∧
    data.length ≤ 256 ∧
    (s.core.mbox s.core.localMaster n).cmdSlot.length = 256 :=
  ⟨st (inMode .standby []), 7, List.replicate 256 0xFF#8, by decide +kernel⟩

theorem witness_HostRegistersTakeEffect_7 : ∃ (s : State) (_off : BitVec 32) (_data : Bytes),
    s.core.onBus = false :=
  ⟨st { inMode .standby [] with pcie := { Pcie.init with perst := true } }, 0x1010, [1#8], by decide +kernel⟩

theorem witness_HostRegistersTakeEffect_8 : ∃ (_s : State) (obj : BitVec 16) (inst : BitVec 16) (d : ObjDesc),
    findObj obj.toNat = some d ∧
    obj ≠ 0x6010#16 ∧
    (d.fields.any (fun f => f.access == .rc)) = true ∧
    d.instLo ≤ inst.toNat ∧
    inst.toNat ≤ d.instHi :=
  ⟨st (inMode .standby [(CAM_STAT.FRAMES, 7, 9), (CAM_STAT.TRIG_SKIP, 7, 3)]),
    0x3003, 7, Obj.CAM_STAT,
    by decide +kernel⟩

theorem witness_HostRegistersTakeEffect_9 : ∃ (s : State) (_ip : BitVec 32),
    s.core.mgmtOn = true ∧
    s.core.peers ≠ [] :=
  ⟨st (mg []), 0x0A000002, by decide +kernel⟩

theorem witness_HostRegistersTakeEffect_10 : ∃ (s : State) (_ip : BitVec 32) (_data : Bytes),
    s.core.mgmtOn = true ∧
    s.core.peers ≠ [] :=
  ⟨st (mg []), 0x0A000002, [1#8, 2#8], by decide +kernel⟩

theorem witness_HostRegistersTakeEffect_11 : ∃ (_s : State) (obj : BitVec 16) (inst : BitVec 16) (d : ObjDesc),
    findObj obj.toNat = some d ∧
    (d.fields.any (fun f => f.access == .rc)) = true ∧
    d.instLo ≤ inst.toNat ∧
    inst.toNat ≤ d.instHi :=
  ⟨st (inMode .standby [(CAM_STAT.FRAMES, 7, 9), (CAM_STAT.TRIG_SKIP, 7, 3)]),
    0x3003, 7, Obj.CAM_STAT,
    by decide +kernel⟩

theorem witness_HostReachesDram_0 : ∃ (s : State) (addr : BitVec 48) (n : BitVec 16),
    s.core.pcie.perst = false ∧
    s.core.held domMEM = false ∧
    addr.toNat + n.toNat ≤ s.core.hostBytes :=
  ⟨{ st ({ inMode .standby [(DRC_STATE.HOST_MIB, 0, 1)] with drc := { Drc.init with wq := [[0], [], [], []] } }) with dram := [(0, 5#8), (1048575, 7#8)] },
    1048575, 1,
    by decide +kernel⟩

theorem witness_HostReachesDram_1 : ∃ (s : State) (addr : BitVec 48) (n : BitVec 16) (_bad : Option (BitVec 16 × Bool)),
    s.core.pcie.perst = false ∧
    (s.core.held domMEM = true ∨ s.core.hostBytes < addr.toNat + n.toNat) :=
  ⟨st (inMode .standby [(DRC_STATE.HOST_MIB, 0, 1)]), 1048575, 2, none, by decide +kernel⟩

theorem witness_HostReachesDram_2 : ∃ (s : State) (_addr : BitVec 48) (_data : Bytes),
    s.core.pcie.perst = false ∧
    s.core.held domMEM = false :=
  ⟨st (inMode .standby [(DRC_STATE.HOST_MIB, 0, 1)]), 1048575, [1#8, 2#8], by decide +kernel⟩

theorem witness_HostReachesDram_3 : ∃ (s : State) (v : BitVec 32),
    s.core.onBus = true ∧
    (v.toNat + 2 ^ 32 - s.core.rd BAR0.TSW_CONS) % 2 ^ 32 ≤ 1024 :=
  ⟨st (inMode .standby [(BAR0.TSW_CONS, 0, 0xFFFFFFFF)]), 1023, by decide +kernel⟩

theorem witness_HostReachesDram_4 : ∃ (s : State) (v : BitVec 32),
    1024 < (v.toNat + 2 ^ 32 - s.core.rd BAR0.TSW_CONS) % 2 ^ 32 :=
  ⟨st (inMode .standby [(BAR0.TSW_CONS, 0, 0xFFFFFFFF)]), 1024, by decide +kernel⟩

theorem witness_HostReachesDram_5 : ∃ (s : State) (_data : Bytes) (_hostErr : Bool),
    let cons := s.core.rd BAR0.TSW_CONS
    s.core.onBus = true ∧
    s.core.pcie.busMaster = true ∧
    s.core.held domMEM = false ∧
    s.core.rd BAR0.TSW_PROD ≠ cons :=
  ⟨st { inMode .standby [(BAR0.TSW_CONS, 0, 0xFFFFFFFF), (DRC_STATE.HOST_MIB, 0, 16)] with pcie := ⟨false, true, desc⟩ },
    List.replicate 4096 1#8, false,
    by decide +kernel⟩

theorem witness_HostReachesDram_6 : ∃ (s : State),
    s.core.held domPLT = true :=
  ⟨st (inMode .boot [(RST_STATE.IN_RESET, 0, 0x3FE)]), by decide +kernel⟩

theorem witness_HostReachesDram_7 : ∃ (s : State),
    s.core.held domPLT = false ∧
    s.core.holder ≠ s.core.localMaster :=
  ⟨st (inMode .standby [(PLT_TOKEN.EPOCH0, 0, 7)]), by decide +kernel⟩

theorem witness_HostReachesDram_9 : ∃ (s : State) (_on : Bool),
    s.core.onBus = true :=
  ⟨st (inMode .standby []), true, by decide +kernel⟩

end WitHost

namespace WitStrand1

def pt (p st_ : Nat) (l : List (Field × Nat × Nat)) (f : Port → Port) : Core := (inMode .standby ((STR_PORT_CFG.ENABLE, p, 1) :: (STR_PORT_STATE.STATE, p, st_) :: l)).modPort p f

theorem witness_PortRetrainsFromStepOne_0 : ∃ (s : State) (p : Fin 21) (noIdle : BitVec 32) (noClock : BitVec 32) (errors : BitVec 16),
    s.core.held domFAB = false ∧
    s.core.rd STR_PORT_CFG.ENABLE p ≠ 0 ∧
    bitOf s.core.bst.portsHeld p = false ∧
    (s.core.isUp p = true ∨ s.core.inTraining p = true ∨ (s.core.port p).neapStep = 3) ∧
    (4000 ≤ noIdle.toNat ∨ 16 ≤ errors.toNat ∨ 100 ≤ noClock.toNat) :=
  ⟨st (pt 20 ptUp [(STR_PORT_STATE.RATE, 20, 1), (STR_PORT_STAT.RETRAINS, 20, 65535)] id),
    20, 4000, 0, 0,
    by decide +kernel⟩

theorem witness_PortRetrainsFromStepOne_1 : ∃ (s : State) (p : Fin 21) (lane : Fin 2),
    s.core.lmActs p lane (lmCode 0x0D 0 0 0 0) ∧
    s.core.rd STR_PORT_CFG.ENABLE p ≠ 0 ∧
    bitOf s.core.bst.portsHeld p = false ∧
    (s.core.isUp p = true ∨ s.core.inTraining p = true ∨ (s.core.port p).neapStep = 3) :=
  ⟨st (pt 16 ptUp [] id), 16, 0, by decide +kernel⟩

theorem witness_PortRetrainsFromStepOne_2 : ∃ (s : State) (p : Fin 21),
    s.core.held domFAB = false ∧
    s.core.rd STR_PORT_CFG.ENABLE p ≠ 0 ∧
    bitOf s.core.bst.portsHeld p = false :=
  ⟨st (pt 20 ptUp [] id), 20, by decide +kernel⟩

theorem witness_PortRetrainsFromStepOne_3 : ∃ (s : State) (p : Fin 21),
    s.core.held domFAB = false ∧
    s.core.rd STR_PORT_CFG.ENABLE p ≠ 0 ∧
    bitOf s.core.bst.portsHeld p = false ∧
    s.core.ptState p = ptNeap ∧
    (s.core.port p).neapStep = 3 ∧
    (s.core.port p).since + 40 ≤ s.core.ticks :=
  ⟨st { pt 18 ptNeap [] (fun q => { q with neapStep := 3 }) with ticks := 40 }, 18, by decide +kernel⟩

theorem witness_PortRetrainsFromStepOne_4 : ∃ (s : State) (p : Fin 21),
    s.core.held domFAB = false ∧
    s.core.rd STR_PORT_CFG.ENABLE p ≠ 0 ∧
    bitOf s.core.bst.portsHeld p = false ∧
    s.core.ptState p = ptFailed ∧
    (s.core.port p).failedAt + 200000 ≤ s.core.ticks :=
  ⟨st { pt 20 ptFailed [] id with ticks := 200000 }, 20, by decide +kernel⟩

theorem witness_PortRetrainsFromStepOne_5 : ∃ (_s : State) (_p : Fin 21) (noIdle : BitVec 32) (noClock : BitVec 32) (errors : BitVec 16),
    noIdle.toNat < 4000 ∧
    errors.toNat < 16 ∧
    noClock.toNat < 100 :=
  ⟨st (pt 20 ptUp [] id), 20, 3999, 99, 15, by decide +kernel⟩

theorem witness_BringUpStepsFollowTheOrder_0 : ∃ (s : State) (p : Fin 21) (lane : Fin 2) (_p0 : BitVec 8) (_p1 : BitVec 8) (_p2 : BitVec 8) (_p3 : BitVec 8),
    s.core.held domFAB = false ∧
    s.core.ptState p = ptTraining ∧
    lane.val < laneCount p :=
  ⟨st (pt 20 ptTraining [] (fun q => { q with ts1 := [7, 8], lastLm := [(0, lmCode 1 0 3 1 1)] })),
    20, 0, 0, 3, 1, 1,
    by decide +kernel⟩

theorem witness_BringUpStepsFollowTheOrder_1 : ∃ (s : State) (p : Fin 21) (lane : Fin 2) (_p0 : BitVec 8) (_p1 : BitVec 8) (_p2 : BitVec 8) (_p3 : BitVec 8),
    let q := s.core.port p
    s.core.held domFAB = false ∧
    s.core.ptState p = ptTraining ∧
    lane.val < laneCount p ∧
    eightEach p q.ts1 = true ∧
    s.core.rd STR_PORT_STATE.RATE p = 0 :=
  ⟨st (pt 20 ptTraining [] (fun q => { q with ts1 := [8, 8], ts2 := [8, 7], lastLm := [(1, lmCode 2 1 3 1 1)] })),
    20, 1, 1, 3, 1, 1,
    by decide +kernel⟩

theorem witness_BringUpStepsFollowTheOrder_2 : ∃ (s : State) (p : Fin 21) (lane : Fin 2),
    s.core.lmActs p lane (lmCode 0x03 1 0 0 0) ∧
    s.core.ptState p = ptTraining ∧
    (s.core.port p).rateSent = true ∧
    s.core.rd STR_PORT_STATE.RATE p = 0 :=
  ⟨st (pt 20 ptTraining [] (fun q => { q with rateSent := true, lastLm := [(0, lmCode 3 1 0 0 0)] })),
    20, 0,
    by decide +kernel⟩

theorem witness_BringUpStepsFollowTheOrder_3 : ∃ (s : State) (p : Fin 21) (lane : Fin 2) (p0 : BitVec 8) (p1 : BitVec 8) (_turn : BitVec 16),
    s.core.lmActs p lane (lmCode 0x07 p0.toNat p1.toNat 0 0) :=
  ⟨st (pt 20 ptUp [] id), 20, 0, 255, 255, 65535, by decide +kernel⟩

theorem witness_BringUpStepsFollowTheOrder_4 : ∃ (s : State) (p : Fin 21) (lane : Fin 2) (p0 : BitVec 8) (p1 : BitVec 8) (p2 : BitVec 8) (p3 : BitVec 8) (_rtt : BitVec 32),
    let q := s.core.port p
    s.core.lmActs p lane (lmCode 0x08 p0.toNat p1.toNat p2.toNat p3.toNat) ∧
    s.core.inTraining p = true ∧
    q.linkUpSent = false ∧
    p0.toNat + 256 * p1.toNat = q.echoes :=
  ⟨st (pt 20 ptTraining [] (fun q => { q with echoes := 63, echoSum := 5000, lastLm := [(0, lmCode 8 63 0 9 0)] })),
    20, 0, 63, 0, 9, 0, 5000,
    by decide +kernel⟩

theorem witness_BringUpStepsFollowTheOrder_5 : ∃ (s : State) (p : Fin 21) (lane : Fin 2) (p0 : BitVec 8),
    s.core.lmActs p lane (lmCode 0x09 p0.toNat 0 0 0) ∧
    s.core.inTraining p = true ∧
    (s.core.port p).linkUpSent = true ∧
    (p.val < 16 ∨ 18 ≤ p.val) :=
  ⟨st (pt 20 ptTraining [(STR_PORT_STATE.RATE, 20, 1)] (fun q => { q with linkUpSent := true, lastLm := [(0, lmCode 9 1 0 0 0)] })),
    20, 0, 1,
    by decide +kernel⟩

theorem witness_BringUpStepsFollowTheOrder_6 : ∃ (s : State) (p : Fin 21),
    s.core.held domFAB = false ∧
    s.core.inTraining p = true ∧
    (s.core.port p).since + 10000 ≤ s.core.ticks :=
  ⟨st { pt 20 ptTraining [] id with ticks := 10000 }, 20, by decide +kernel⟩

theorem witness_BringUpStepsFollowTheOrder_7 : ∃ (s : State) (p : Fin 21) (lane : Fin 2) (_p0 : BitVec 8) (_p1 : BitVec 8) (_p2 : BitVec 8) (_p3 : BitVec 8),
    let q := s.core.port p
    s.core.held domFAB = false ∧
    s.core.ptState p = ptTraining ∧
    lane.val < laneCount p ∧
    eightEach p q.ts1 = true :=
  ⟨st (pt 20 ptTraining [(STR_PORT_STATE.RATE, 20, 1), (STR_PORT_CFG.RATE_MAX, 20, 1)] (fun q => { q with ts1 := [8, 8], ts2 := [8, 7], lastLm := [(1, lmCode 2 1 3 1 1)] })),
    20, 1, 1, 3, 1, 1,
    by decide +kernel⟩

theorem witness_BringUpStepsFollowTheOrder_8 : ∃ (s : State) (p : Fin 21) (lane : Fin 2) (p0 : BitVec 8),
    s.core.lmActs p lane (lmCode 0x09 p0.toNat 0 0 0) ∧
    s.core.inTraining p = true ∧
    (s.core.port p).linkUpSent = true :=
  ⟨st (pt 16 ptTraining [(STR_PORT_STATE.RATE, 16, 1)] (fun q => { q with linkUpSent := true, lastLm := [(0, lmCode 9 1 0 0 0)] })),
    16, 0, 1,
    by decide +kernel⟩

theorem witness_EqualisationFollowsRequests_0 : ∃ (s : State) (p : Fin 21) (lane : Fin 2) (p0 : BitVec 8) (p1 : BitVec 8) (p2 : BitVec 8) (p3 : BitVec 8) (a : Nat) (b : Nat),
    s.core.lmActs p lane (lmCode 0x04 p0.toNat p1.toNat p2.toNat p3.toNat) ∧
    s.core.ptState p = ptEqualising ∧
    (s.core.port p).eqSeen.getD lane 0 ≠ p3.toNat + 1 ∧
    p1.toNat < 128 ∧
    (s.core.taps p lane).1 ≤ 6 ∧
    (s.core.taps p lane).2 ≤ 12 ∧
    tapAct (p1.toNat % 4) (s.core.taps p lane).1 6 = some a ∧
    tapAct (p1.toNat / 4 % 4) (s.core.taps p lane).2 12 = some b :=
  ⟨st (pt 20 ptEqualising [(STR_PORT_STATE.TX_PRE1, 20, 6), (STR_PORT_STATE.TX_POST1, 20, 11)] (fun q => { q with lastLm := [(1, lmCode 4 1 6 0 1)] })),
    20, 1, 1, 6, 0, 1, 5, 12,
    by decide +kernel⟩

theorem witness_EqualisationFollowsRequests_1 : ∃ (s : State) (p : Fin 21) (lane : Fin 2) (p0 : BitVec 8) (p1 : BitVec 8) (p2 : BitVec 8) (p3 : BitVec 8),
    s.core.lmActs p lane (lmCode 0x04 p0.toNat p1.toNat p2.toNat p3.toNat) ∧
    s.core.ptState p = ptEqualising ∧
    (s.core.port p).eqSeen.getD lane 0 ≠ p3.toNat + 1 ∧
    p1.toNat < 128 ∧
    tapAct (p1.toNat % 4) (s.core.taps p lane).1 6 = none :=
  ⟨st (pt 20 ptEqualising [(STR_PORT_STATE.TX_PRE1, 20, 6)] (fun q => { q with lastLm := [(1, lmCode 4 1 1 0 1)] })),
    20, 1, 1, 1, 0, 1,
    by decide +kernel⟩

theorem witness_EqualisationFollowsRequests_2 : ∃ (s : State) (p : Fin 21) (lane : Fin 2) (p1 : BitVec 8) (p2 : BitVec 8) (p3 : BitVec 8) (_actions : BitVec 8),
    let q := s.core.port p
    let asked := q.eqAsked.getD lane 0
    s.core.lmActs p lane (lmCode 0x05 lane p1.toNat p2.toNat p3.toNat) ∧
    s.core.ptState p = ptEqualising ∧
    bitOf q.eqOwn lane = false ∧
    asked < 64 :=
  ⟨st (pt 20 ptEqualising [] (fun q => { q with eqAsked := [63, 0], lastLm := [(0, lmCode 5 0 0 1 2)] })),
    20, 0, 0, 1, 2, 0xFF,
    by decide +kernel⟩

theorem witness_EqualisationFollowsRequests_3 : ∃ (s : State) (p : Fin 21) (lane : Fin 2) (p1 : BitVec 8) (p2 : BitVec 8) (p3 : BitVec 8) (_actions : BitVec 8),
    let q := s.core.port p
    s.core.lmActs p lane (lmCode 0x05 lane p1.toNat p2.toNat p3.toNat) ∧
    s.core.ptState p = ptEqualising ∧
    bitOf q.eqOwn lane = false ∧
    q.eqGaveUp = false :=
  ⟨st (pt 20 ptEqualising [] (fun q => { q with eqOwn := 1, eqFar := 3, lastLm := [(1, lmCode 5 1 0 1 2)] })),
    20, 1, 0, 1, 2, 0xFF,
    by decide +kernel⟩

theorem witness_EqualisationFollowsRequests_4 : ∃ (s : State) (p : Fin 21) (lane : Fin 2) (p0 : BitVec 8),
    let q := s.core.port p
    s.core.lmActs p lane (lmCode 0x06 p0.toNat 0 0 0) ∧
    s.core.ptState p = ptEqualising ∧
    q.eqGaveUp = false :=
  ⟨st (pt 20 ptEqualising [] (fun q => { q with eqOwn := 3, eqFar := 1, lastLm := [(1, lmCode 6 1 0 0 0)] })),
    20, 1, 1,
    by decide +kernel⟩

theorem witness_EqualisationFollowsRequests_5 : ∃ (s : State) (p : Fin 21),
    s.core.held domFAB = false ∧
    s.core.ptState p = ptEqualising ∧
    (s.core.port p).since + 5000 ≤ s.core.ticks :=
  ⟨st { pt 20 ptEqualising [(STR_PORT_STATE.RATE, 20, 1), (STR_PORT_STATE.TX_PRE1, 20, 6)] id with ticks := 5000 },
    20,
    by decide +kernel⟩

theorem witness_EqualisationFollowsRequests_6 : ∃ (s : State) (p : Fin 21) (lane : Fin 2) (p0 : BitVec 8) (p1 : BitVec 8) (p2 : BitVec 8) (p3 : BitVec 8),
    s.core.lmActs p lane (lmCode 0x04 p0.toNat p1.toNat p2.toNat p3.toNat) :=
  ⟨st (pt 20 ptEqualising [] (fun q => { q with lastLm := [(1, lmCode 4 1 0x80 5 1)] })),
    20, 1, 1, 0x80, 5, 1,
    by decide +kernel⟩

theorem witness_EqualisationFollowsRequests_7 : ∃ (s : State) (p : Fin 21) (lane : Fin 2) (p1 : BitVec 8) (p2 : BitVec 8) (p3 : BitVec 8) (_actions : BitVec 8) (_verdict : Fin 3),
    let q := s.core.port p
    s.core.lmActs p lane (lmCode 0x05 lane p1.toNat p2.toNat p3.toNat) ∧
    s.core.ptState p = ptEqualising ∧
    bitOf q.eqOwn lane = false :=
  ⟨st (pt 20 ptEqualising [] (fun q => { q with eqAsked := [64, 0], lastLm := [(0, lmCode 5 0 0 1 2)] })),
    20, 0, 0, 1, 2, 0xFF, 2,
    by decide +kernel⟩

theorem witness_EqualisationFollowsRequests_8 : ∃ (s : State) (p : Fin 21) (lane : Fin 2) (p0 : BitVec 8) (p1 : BitVec 8),
    s.core.lmActs p lane (lmCode 0x06 p0.toNat p1.toNat 0 0) ∧
    s.core.ptState p = ptEqualising :=
  ⟨st (pt 20 ptEqualising [] (fun q => { q with eqOwn := 3, eqFar := 1, lastLm := [(1, lmCode 6 1 1 0 0)] })),
    20, 1, 1, 1,
    by decide +kernel⟩

theorem witness_NeapAndPortCounters_0 : ∃ (s : State) (p : Fin 21),
    s.core.held domFAB = false ∧
    s.core.neapAllowed p = true :=
  ⟨st (pt 15 ptUp [(STR_PORT_CFG.NEAP_EN, 15, 1)] id), 15, by decide +kernel⟩

theorem witness_NeapAndPortCounters_1 : ∃ (s : State) (p : Fin 21) (lane : Fin 2),
    s.core.held domFAB = false ∧
    lane.val < laneCount p ∧
    s.core.isUp p = true :=
  ⟨st (pt 20 ptUp [] id), 20, 1, by decide +kernel⟩

theorem witness_NeapAndPortCounters_2 : ∃ (s : State) (p : Fin 21) (lane : Fin 2),
    s.core.held domFAB = false ∧
    lane.val < laneCount p ∧
    s.core.isUp p = true ∧
    (s.core.port p).neapStep = 1 :=
  ⟨st (pt 20 ptUp [] (fun q => { q with neapStep := 1 })), 20, 1, by decide +kernel⟩

theorem witness_NeapAndPortCounters_3 : ∃ (s : State) (p : Fin 21) (lane : Fin 2) (p0 : BitVec 8),
    s.core.held domFAB = false ∧
    lane.val < laneCount p ∧
    s.core.isUp p = true ∧
    (s.core.port p).neapStep = 1 ∧
    p0 ≠ 0#8 :=
  ⟨st (pt 20 ptUp [] (fun q => { q with neapStep := 1 })), 20, 1, 255, by decide +kernel⟩

theorem witness_NeapAndPortCounters_4 : ∃ (s : State) (p : Fin 21) (lane : Fin 2),
    s.core.held domFAB = false ∧
    lane.val < laneCount p ∧
    s.core.ptState p = ptNeap ∧
    (s.core.port p).neapStep = 3 ∧
    18 ≤ p.val :=
  ⟨st (pt 18 ptNeap [(STR_PORT_STAT.NEAP_EXITS, 18, 65535)] (fun q => { q with neapStep := 3 })),
    18, 1,
    by decide +kernel⟩

theorem witness_NeapAndPortCounters_5 : ∃ (s : State) (p : Fin 21),
    s.core.held domFAB = false ∧
    s.core.ptState p = ptNeap ∧
    (s.core.port p).neapStep ≠ 3 :=
  ⟨st (pt 20 ptNeap [(STR_PORT_STATE.RATE, 20, 1)] (fun q => { q with neapStep := 2 })), 20, by decide +kernel⟩

theorem witness_NeapAndPortCounters_6 : ∃ (s : State) (_p : Fin 21),
    s.core.held domFAB = false :=
  ⟨st (inMode .standby [(STR_PORT_STAT.LM_BAD, 20, 7), (STR_PORT_STAT.FRAME_BAD, 20, 7)]), 20, by decide +kernel⟩

theorem witness_NeapAndPortCounters_7 : ∃ (s : State) (p : Fin 21) (_lane : Fin 2) (set : BitVec 72),
    let b := leBytes 9 set.toNat
    s.core.held domFAB = false ∧
    fieldLE b 5 4 ≠ crc32c (b.take 5) ∧
    s.core.ptState p ≠ ptEqualising :=
  ⟨st (pt 20 ptTraining [] (fun q => { q with ts1 := [3, 4] })), 20, 1, 7, by decide +kernel⟩

theorem witness_NeapAndPortCounters_8 : ∃ (s : State) (p : Fin 21) (positive : Bool) (groups : List (BitVec 10)) (ending : BitVec 10),
    let ss := decodeGroups positive (groups ++ [ending])
    let r := assembleFrame (isHead p) 0 [] ss
    let bad := match r.1 with
    | .whole b => (match parseFrame b with
    | some (ftype, h, payload) => codeErrors (isHead p) ss != 0 || !frameGood p ftype h payload
    | none => true)
    | _ => true
    s.core.held domFAB = false ∧
    bad = true :=
  ⟨st (inMode .standby [(STR_PORT_STAT.CODE_ERR, 20, 65534), (STR_PORT_STAT.FRAME_BAD, 20, 65535)]),
    20, false, [0x3FF, 0], 0,
    by decide +kernel⟩

theorem witness_NeapAndPortCounters_9 : ∃ (s : State) (_p : Fin 21) (_lane : Fin 2) (set : BitVec 72),
    let b := leBytes 9 set.toNat
    s.core.held domFAB = false ∧
    fieldLE b 5 4 ≠ crc32c (b.take 5) :=
  ⟨st (pt 20 ptEqualising [] (fun q => { q with ts1 := [3, 4], eqTry := [4, 4] })), 20, 1, 7, by decide +kernel⟩

theorem witness_NeapAndPortCounters_10 : ∃ (s : State) (p : Fin 21) (lane : Fin 2),
    s.core.held domFAB = false ∧
    lane.val < laneCount p ∧
    s.core.ptState p = ptNeap ∧
    (s.core.port p).neapStep = 3 :=
  ⟨st (pt 0 ptNeap [] (fun q => { q with neapStep := 3 })), 0, 1, by decide +kernel⟩

end WitStrand1

namespace WitStrand2

def pt (p st_ : Nat) (l : List (Field × Nat × Nat)) (f : Port → Port) : Core := (inMode .standby ((STR_PORT_CFG.ENABLE, p, 1) :: (STR_PORT_STATE.STATE, p, st_) :: l)).modPort p f
def co (read : Bool) (retries : Nat) : CfgOut := ⟨3, 1, read, 7, true, [1#8], 0, retries, true⟩

theorem witness_BadAndOldFramesOnlyCount_0 : ∃ (s : State) (p : Fin 18) (h : FrameHdr) (b : Bytes) (r : Nat × Instr),
    r ∈ controlRows p h b ∧
    s.core.held domFAB = false ∧
    s.core.isUp p = true ∧
    frameGood p r.1 h b = false :=
  ⟨st (pt 0 ptUp [] id),
    0, hdrOf 0x88 1 1 2 3 0 (zeros 16), zeros 16, (0x88, .nodeEvent 0 (hdrOf 0x88 1 1 2 3 0 (zeros 16)) (zeros 16)),
    by simp [controlRows] <;> rfl, by decide +kernel⟩

theorem witness_BadAndOldFramesOnlyCount_1 : ∃ (s : State) (p : Fin 18) (h : FrameHdr) (b : Bytes) (r : Nat × Instr),
    r ∈ controlRows p h b ∧
    s.core.accepts p r.1 h b ∧
    seqJudge (s.core.ctlLast p h) (bitOf h.flags.toNat 6) h.seq.toNat = 1 :=
  ⟨st (pt 17 ptUp [] (fun q => { q with rxCtl := [(1, 3)] })),
    17, hdrOf 0x83 0 1 2 3 0 (zeros 4), zeros 4, (0x83, .cfgWrRsp 17 (hdrOf 0x83 0 1 2 3 0 (zeros 4)) (zeros 4)),
    by simp [controlRows] <;> rfl, by decide +kernel⟩

theorem witness_BadAndOldFramesOnlyCount_2 : ∃ (s : State) (p : Fin 18) (h : FrameHdr) (b : Bytes) (r : Nat × Instr),
    r ∈ controlRows p h b ∧
    s.core.accepts p r.1 h b ∧
    seqJudge (s.core.ctlLast p h) (bitOf h.flags.toNat 6) h.seq.toNat = 2 :=
  ⟨st (pt 17 ptUp [] (fun q => { q with rxCtl := [(1, 3)] })),
    17, hdrOf 0x83 0 1 1 3 0 (zeros 4), zeros 4, (0x83, .cfgWrRsp 17 (hdrOf 0x83 0 1 1 3 0 (zeros 4)) (zeros 4)),
    by simp [controlRows] <;> rfl, by decide +kernel⟩

theorem witness_NodeFramesAsSpecified_0 : ∃ (s : State) (p : Fin 21) (h : FrameHdr) (b : Bytes) (o : CfgOut),
    s.core.accepts p 0x83 h b ∧
    p.val < 18 ∧
    newIn h (s.core.ctlLast p h) ∧
    (s.core.port p).sent.find? (fun o => o.seq == h.tag.toNat && o.node == h.node.toNat && !o.read) = some o ∧
    fieldLE b 0 2 ≠ 3 :=
  ⟨st (pt 15 ptUp [] (fun q => { q with rxCtl := [(1, 0x10000)], sent := [co false 0] })),
    15, hdrOf 0x83 0 1 0x7FFE 3 0 (zeros 4), zeros 4, co false 0,
    by decide +kernel⟩

theorem witness_NodeFramesAsSpecified_1 : ∃ (s : State) (p : Fin 21) (h : FrameHdr) (b : Bytes) (o : CfgOut),
    s.core.accepts p 0x83 h b ∧
    p.val < 18 ∧
    newIn h (s.core.ctlLast p h) ∧
    (s.core.port p).sent.find? (fun o => o.seq == h.tag.toNat && o.node == h.node.toNat && !o.read) = some o ∧
    fieldLE b 0 2 = 3 :=
  ⟨st (pt 17 ptUp [] (fun q => { q with sent := [co false 0] })),
    17, hdrOf 0x83 0 1 65535 3 0 ([3#8, 0#8, 0#8, 0#8]), [3#8, 0#8, 0#8, 0#8], co false 0,
    by decide +kernel⟩

theorem witness_NodeFramesAsSpecified_2 : ∃ (s : State) (p : Fin 16) (h : FrameHdr) (b : Bytes) (o : CfgOut),
    s.core.accepts p 0x84 h b ∧
    newIn h (s.core.ctlLast p h) ∧
    (s.core.port p).sent.find? (fun o => o.seq == h.tag.toNat && o.node == h.node.toNat && o.read) = some o :=
  ⟨st (pt 15 ptUp [] (fun q => { q with sent := [co true 0] })),
    15, hdrOf 0x84 0 1 65535 3 0 ([0#8, 0#8, 1#8, 0#8, 0#8, 0#8, 0#8, 0#8]), [0#8, 0#8, 1#8, 0#8, 0#8, 0#8, 0#8, 0#8], co true 0,
    by decide +kernel⟩

theorem witness_NodeFramesAsSpecified_3 : ∃ (s : State) (p : Fin 21) (o : CfgOut),
    s.core.held domFAB = false ∧
    s.core.isUp p = true ∧
    (s.core.port p).sent = [o] ∧
    o.sentAt + 100 ≤ s.core.ticks ∧
    o.retries < 3 :=
  ⟨st { pt 17 ptUp [] (fun q => { q with sent := [co true 2] }) with ticks := 100 },
    17, co true 2,
    by decide +kernel⟩

theorem witness_NodeFramesAsSpecified_4 : ∃ (s : State) (p : Fin 21) (o : CfgOut),
    s.core.held domFAB = false ∧
    s.core.isUp p = true ∧
    (s.core.port p).sent = [o] ∧
    o.sentAt + 100 ≤ s.core.ticks ∧
    3 ≤ o.retries :=
  ⟨st { pt 17 ptUp [] (fun q => { q with sent := [co true 3] }) with ticks := 100 },
    17, co true 3,
    by decide +kernel⟩

theorem witness_NodeFramesAsSpecified_5 : ∃ (s : State) (p : Fin 21) (h : FrameHdr) (b : Bytes),
    let nodes := fieldLE b 0 2 - s.core.chainBase p
    let n (i : Nat) := s.core.chainBase p + i
    s.core.accepts p 0x85 h b ∧
    newIn h (s.core.ctlLast p h) ∧
    n nodes ≤ s.core.extBase :=
  ⟨st (pt 17 ptUp [] id),
    17, hdrOf 0x85 0 0x11 1 0 0 ([0x95#8, 0#8, 0x12#8, 1#8, 0#8, 1#8, 0#8, 0#8]), [0x95#8, 0#8, 0x12#8, 1#8, 0#8, 1#8, 0#8, 0#8],
    by decide +kernel⟩

theorem witness_NodeFramesAsSpecified_6 : ∃ (s : State) (p : Fin 21) (h : FrameHdr) (b : Bytes),
    s.core.accepts p 0x87 h b ∧
    newIn h (s.core.ctlLast p h) :=
  ⟨st (pt 17 ptUp [] id), 17, hdrOf 0x87 0 9 9 9 0 (zeros 4), zeros 4, by decide +kernel⟩

theorem witness_NodeFramesAsSpecified_7 : ∃ (s : State) (p : Fin 21) (h : FrameHdr) (b : Bytes),
    s.core.accepts p 0x88 h b ∧
    p.val < 18 ∧
    newIn h (s.core.ctlLast p h) ∧
    fieldLE b 0 2 ≠ 1 :=
  ⟨st (pt 17 ptUp [] id), 17, hdrOf 0x88 0 9 9 9 0 (zeros 16), zeros 16, by decide +kernel⟩

theorem witness_NodeFramesAsSpecified_8 : ∃ (s : State) (p : Fin 21) (h : FrameHdr) (b : Bytes) (o : CfgOut),
    s.core.accepts p 0x84 h b ∧
    newIn h (s.core.ctlLast p h) ∧
    (s.core.port p).sent.find? (fun o => o.seq == h.tag.toNat && o.node == h.node.toNat && o.read) = some o :=
  ⟨st (pt 17 ptUp [] (fun q => { q with sent := [co true 0] })),
    17, hdrOf 0x84 0 1 9 3 0 ([0#8, 0#8, 1#8, 0#8, 0#8, 0#8, 0#8, 0#8]), [0#8, 0#8, 1#8, 0#8, 0#8, 0#8, 0#8, 0#8], co true 0,
    by decide +kernel⟩

theorem witness_NodeFramesAsSpecified_9 : ∃ (s : State) (p : Fin 21),
    s.core.held domFAB = false ∧
    s.core.isUp p = true :=
  ⟨st { pt 17 ptUp [] (fun q => { q with sent := [co true 3, { co true 1 with seq := 9 }, { co true 1 with seq := 8, sentAt := 60 }] }) with ticks := 100 },
    17,
    by decide +kernel⟩

theorem witness_NodeFramesAsSpecified_10 : ∃ (s : State) (p : Fin 21) (h : FrameHdr) (b : Bytes),
    s.core.accepts p 0x85 h b ∧
    newIn h (s.core.ctlLast p h) :=
  ⟨st (pt 17 ptUp [] id),
    17, hdrOf 0x85 0 0x11 1 0 0 ([0x95#8, 0#8, 0x12#8, 1#8, 0#8, 1#8, 0#8, 0#8]), [0x95#8, 0#8, 0x12#8, 1#8, 0#8, 1#8, 0#8, 0#8],
    by decide +kernel⟩

theorem witness_NodeFramesAsSpecified_11 : ∃ (s : State) (p : Fin 21) (h : FrameHdr) (b : Bytes),
    s.core.accepts p 0x88 h b ∧
    newIn h (s.core.ctlLast p h) :=
  ⟨st (pt 17 ptUp [] id), 17, hdrOf 0x88 0 9 9 9 0 (zeros 16), zeros 16, by decide +kernel⟩

theorem witness_TickUpBringsSamples_0 : ∃ (s : State) (p : Fin 16) (h : FrameHdr) (b : Bytes),
    s.core.accepts p 0x81 h b ∧
    newIn h (match (s.core.port p).rxTick with | some n => n + 1 | none => 0) :=
  ⟨st (pt 15 ptUp [] id), 15, hdrOf 0x81 0 15 9 0 0 (zeros 52), zeros 52, by decide +kernel⟩

end WitStrand2

namespace WitExposure

def psOne : Nat := 1000 + 1000 * 2 ^ 32
def ex (l : List (Field × Nat × Nat)) (ch : Nat) (f : SeqCh → SeqCh) : Core := (inMode .expose ((SEQ_LAYER_STATE.LAYER_ACTIVE, 0, 1) :: (SEQ_LAYER_STATE.LAYER_NOW, 0, 7) :: l)).modCh ch (fun s => f { s with armed := true })
def chart (ch : Nat) : List (Field × Nat × Nat) := [(CHT_GEOM.PITCH, ch, 1000)]
def btF (ck : TileCk) : BufTile := ⟨0, 0, [], true, ck, none⟩
def nx (ch : Nat) (b : BufTile) : Core := ((inMode .armed []).modPilot (fun p => { p with queue := [⟨9, [⟨0x0201, 0, zeros 1088, []⟩], none, 0, some (zeros 8 ++ List.replicate 8 0xFF#8 ++ zeros 1072)⟩] })).modCh ch (fun s => { s with idle := some b })
def bt (ck : TileCk) : BufTile := ⟨7, 3, [], true, ck, none⟩
def sw (c : Option Time) : SlotWord := ⟨0xFFFFFFFF, 3, false, c⟩
def par (w : Nat) : Nat := w + (if oddOnes w 31 = 1 then 2 ^ 31 else 0)
def smp (ch seq v : Nat) : BitVec 32 := BitVec.ofNat 32 (par (ch + 16 * seq + 1024 * v + 2 ^ 26))
def smp0 (ch seq v : Nat) : BitVec 32 := BitVec.ofNat 32 (par (ch + 16 * seq + 1024 * v))


/-- The CRC register after `n` zero bytes (R6). -/
def crcZ (n r : Nat) : Nat := (zeros n).foldl crcByte r

theorem foldl_zeros (n r : Nat) : (zeros n).foldl crcByte r = crcZ n r := rfl

theorem crc_of (bs : Bytes) (r : Nat) (h : bs.foldl crcByte 0xFFFFFFFF = r) : crc32c bs = r ^^^ 0xFFFFFFFF := by
  rw [crc32c, h]

theorem crcZ_add (a b r : Nat) : crcZ (a + b) r = crcZ b (crcZ a r) := by
  simp [crcZ, zeros, ← List.foldl_append, List.replicate_append_replicate]

theorem crcA_0 : crcZ 240 0xFFFFFFFF = 0x56CC8D06 := by decide +kernel
theorem crcA_1 : crcZ 240 0x56CC8D06 = 0x6369BD := by decide +kernel
theorem crcA_2 : crcZ 240 0x6369BD = 0xA6BEA216 := by decide +kernel
theorem crcA_3 : crcZ 240 0xA6BEA216 = 0xC011635A := by decide +kernel
theorem crcA_4 : crcZ 240 0xC011635A = 0xD7632156 := by decide +kernel
theorem crcA_5 : crcZ 240 0xD7632156 = 0xBDFB6DCA := by decide +kernel
theorem crcA_6 : crcZ 240 0xBDFB6DCA = 0x54BEA8CC := by decide +kernel
theorem crcA_7 : crcZ 240 0x54BEA8CC = 0x50E61FFC := by decide +kernel
theorem crcA_8 : crcZ 240 0x50E61FFC = 0xBF13DCB9 := by decide +kernel
theorem crcA_9 : crcZ 240 0xBF13DCB9 = 0x71EC2CC5 := by decide +kernel
theorem crcA_10 : crcZ 240 0x71EC2CC5 = 0x6CCF712D := by decide +kernel
theorem crcA_11 : crcZ 240 0x6CCF712D = 0x25D8D536 := by decide +kernel
theorem crcA_12 : crcZ 240 0x25D8D536 = 0xBB6CA3E8 := by decide +kernel
theorem crcA_13 : crcZ 240 0xBB6CA3E8 = 0x7FADCA77 := by decide +kernel
theorem crcA_14 : crcZ 240 0x7FADCA77 = 0x356A0C6C := by decide +kernel
theorem crcA_15 : crcZ 240 0x356A0C6C = 0x142AC051 := by decide +kernel
theorem crcA_16 : crcZ 240 0x142AC051 = 0x83B2A730 := by decide +kernel

theorem crcA : crcZ 4080 0xFFFFFFFF = 0x83B2A730 := by
  rw [show 4080 = 240 + 240 + 240 + 240 + 240 + 240 + 240 + 240 + 240 + 240 + 240 + 240 + 240 + 240 + 240 + 240 + 240 from rfl]
  simp only [crcZ_add, crcA_0, crcA_1, crcA_2, crcA_3, crcA_4, crcA_5, crcA_6, crcA_7, crcA_8, crcA_9, crcA_10, crcA_11, crcA_12, crcA_13, crcA_14, crcA_15, crcA_16]

theorem crcB_0 : crcZ 240 0xDA7274BB = 0x32D0655E := by decide +kernel
theorem crcB_1 : crcZ 240 0x32D0655E = 0xD2B1DB0D := by decide +kernel
theorem crcB_2 : crcZ 240 0xD2B1DB0D = 0xD33A02C2 := by decide +kernel
theorem crcB_3 : crcZ 240 0xD33A02C2 = 0xB7537225 := by decide +kernel
theorem crcB_4 : crcZ 240 0xB7537225 = 0x3611A1B4 := by decide +kernel
theorem crcB_5 : crcZ 240 0x3611A1B4 = 0xA661309C := by decide +kernel
theorem crcB_6 : crcZ 240 0xA661309C = 0x77BDEF6 := by decide +kernel
theorem crcB_7 : crcZ 240 0x77BDEF6 = 0x2400855A := by decide +kernel
theorem crcB_8 : crcZ 240 0x2400855A = 0xE946CCE5 := by decide +kernel
theorem crcB_9 : crcZ 240 0xE946CCE5 = 0x7B40EEF9 := by decide +kernel
theorem crcB_10 : crcZ 240 0x7B40EEF9 = 0x279E4147 := by decide +kernel
theorem crcB_11 : crcZ 240 0x279E4147 = 0x62235F3E := by decide +kernel
theorem crcB_12 : crcZ 240 0x62235F3E = 0x72A2FDA8 := by decide +kernel
theorem crcB_13 : crcZ 240 0x72A2FDA8 = 0x5CA7E2F5 := by decide +kernel
theorem crcB_14 : crcZ 240 0x5CA7E2F5 = 0x34BFC1C0 := by decide +kernel
theorem crcB_15 : crcZ 240 0x34BFC1C0 = 0x843BFEA4 := by decide +kernel
theorem crcB_16 : crcZ 192 0x843BFEA4 = 0x6D2CE81 := by decide +kernel

theorem crcB : crcZ 4032 0xDA7274BB = 0x6D2CE81 := by
  rw [show 4032 = 240 + 240 + 240 + 240 + 240 + 240 + 240 + 240 + 240 + 240 + 240 + 240 + 240 + 240 + 240 + 240 + 192 from rfl]
  simp only [crcZ_add, crcB_0, crcB_1, crcB_2, crcB_3, crcB_4, crcB_5, crcB_6, crcB_7, crcB_8, crcB_9, crcB_10, crcB_11, crcB_12, crcB_13, crcB_14, crcB_15, crcB_16]

def tileHead : Bytes := [0xA5#8, 1#8, 5#8, 0#8] ++ leBytes 4 5 ++ leBytes 4 7 ++ [2#8, 0#8, 0#8, 0#8] ++
  ([2#8, 0#8, 0#8, 0#8] ++ zeros 8 ++ [0#8, 0#8, 0#8, 0x80#8]) ++ ([15#8] ++ zeros 15)
def tileBody : Bytes := tileHead ++ zeros 4032

/-- A tile that dwells once and ends, with its check word, which was computed outside the model. -/
def tile57 : Bytes := tileBody ++ (leBytes 4 0xF92D317E ++ zeros 12)

theorem tileBody_crc : crc32c tileBody = 0xF92D317E := by
  have h : tileHead.foldl crcByte 0xFFFFFFFF = 0xDA7274BB := by decide +kernel
  refine (crc_of _ 0x6D2CE81 ?_).trans (by decide)
  rw [tileBody, List.foldl_append, h, foldl_zeros, crcB]

theorem zeros_crc : crc32c (zeros 4080) = 0x7C4D58CF := by
  refine (crc_of _ 0x83B2A730 ?_).trans (by decide)
  rw [foldl_zeros, crcA]

theorem tileBody_length : tileBody.length = 4080 := by
  simp only [tileBody, List.length_append, zeros, List.length_replicate, show tileHead.length = 48 from by decide +kernel]

theorem tile57_take : tile57.take 4080 = tileBody := by
  rw [tile57, List.take_append_of_le_length (Nat.le_of_eq tileBody_length.symm), ← tileBody_length, List.take_length]

theorem tile57_length : tile57.length = 4096 := by
  simp only [tile57, List.length_append, tileBody_length]
  decide +kernel

def stTile : State :=
  { st { ex (chart 5) 5 (fun s => { s with idle := some (bt .failedOnce), listAddr := 4096, listCount := 4 }) with
      psets := [(5 * 256, psOne)] } with dram := Mem.writeBytes [] 16384 tile57 }
def stBlank : State :=
  st (ex [] 5 (fun s => { s with idle := some (bt .failedOnce), listAddr := 4096, listCount := 4 }))

theorem tile57_passes (e : TileEnv) (h : tileCheck e tile57 false = none) (t : Bytes) (ht : t = tile57) :
    (tileCheck e t false).map Prod.fst = none := by rw [ht, h]; rfl

theorem stTile_ok : stTile.core.checkIdle 5 { bt .failedOnce with
    bytes := readBytesUnder stTile.dram [] (stTile.core.tileAddr 5 (bt .failedOnce)) 4096, poisoned := false } = none := by
  have ha : stTile.core.tileAddr 5 (bt .failedOnce) = 16384 := by decide +kernel
  have hd : stTile.dram = Mem.writeBytes [] 16384 tile57 := by simp only [stTile]
  have hb : readBytesUnder stTile.dram [] 16384 4096 = tile57 := by
    rw [hd, readBytes_written _ _ _ (Nat.le_of_eq tile57_length), tile57_length]
    simp [zeros]
  rw [ha, hb]
  unfold Core.checkIdle tileCheck
  simp only [tile57_take, tileBody_crc]
  decide +kernel

theorem stBlank_fails : stBlank.core.checkIdle 5 { bt .failedOnce with
    bytes := readBytesUnder stBlank.dram [] (stBlank.core.tileAddr 5 (bt .failedOnce)) 4096, poisoned := false } = some 1 := by
  have hb (a : Nat) : readBytesUnder stBlank.dram [] a 4096 = zeros 4096 := by
    rw [show stBlank.dram = Mem.writeBytes [] a [] by simp only [stBlank, st, Mem.writeBytes], readBytes_written _ _ _ (by simp)]
    rfl
  have ht : (zeros 4096).take 4080 = zeros 4080 := List.take_replicate
  have hf : fieldLE (zeros 4096) 4080 4 = 0 := by decide +kernel
  rw [hb]
  unfold Core.checkIdle tileCheck
  simp only [ht, zeros_crc, hf]
  decide +kernel

theorem witness_TilesComeFromDramAndAreChecked_0 : ∃ (s : State) (_ns : BitVec 32) (ch : Nat) (layer : Nat) (a : Nat) (i : Nat),
    s.core.held domMEM = false ∧
    s.core.held domEXP = false ∧
    s.core.fetchFor = some ch ∧
    nextWanted (s.core.fetchPlan ch) (s.core.ch ch).fetchAt = some (layer, a, i) :=
  ⟨st (ex [(VST_CONFIG.VST_SLOTS, 0, 4)] 63 (fun s => { s with listAddr := 8192, listCount := 2, fetchAt := some (7, 1) })),
    0xFFFFFFFF, 63, 7, 12288, 1,
    by decide +kernel⟩

theorem witness_TilesComeFromDramAndAreChecked_1 : ∃ (s : State) (ch : Fin 64) (_corr : BitVec 16) (_bad : Bool) (r : RingTile) (q : List RingTile),
    let x := s.core.ch ch
    s.core.held domEXP = false ∧
    s.core.held domMEM = false ∧
    x.idle = none ∧
    x.susp = none ∧
    x.adoptQ = [] ∧
    x.ring = r :: q ∧
    s.core.layerActive = true ∧
    r.layer = s.core.rd SEQ_LAYER_STATE.LAYER_NOW ∧
    x.armed = true :=
  ⟨st (ex [] 63 (fun s => { s with ring := [⟨7, 2, zeros 64, false⟩], moveNext := 2 })),
    63, 65535, false, ⟨7, 2, zeros 64, false⟩, [],
    by decide +kernel⟩

theorem witness_TilesComeFromDramAndAreChecked_2 : ∃ (s : State) (ch : Fin 64) (b : BufTile),
    let b' : BufTile := { b with bytes := readBytesUnder s.dram [] (s.core.tileAddr ch b) 4096, poisoned := false }
    s.core.held domEXP = false ∧
    s.core.held domMEM = false ∧
    (s.core.ch ch).idle = some b ∧
    b.ck = .failedOnce ∧
    b.adopt = none ∧
    s.core.checkIdle ch b' = none :=
  ⟨stTile,
    5, (bt .failedOnce),
    by decide +kernel, by decide +kernel, by decide +kernel, by decide +kernel, by decide +kernel, stTile_ok⟩

theorem witness_TilesComeFromDramAndAreChecked_3 : ∃ (s : State) (ch : Fin 64) (b : BufTile) (code : Nat),
    let b' : BufTile := { b with bytes := readBytesUnder s.dram [] (s.core.tileAddr ch b) 4096, poisoned := false }
    s.core.held domEXP = false ∧
    s.core.held domMEM = false ∧
    (s.core.ch ch).idle = some b ∧
    b.ck = .failedOnce ∧
    b.adopt = none ∧
    s.core.checkIdle ch b' = some code :=
  ⟨stBlank,
    5, (bt .failedOnce), 1,
    by decide +kernel, by decide +kernel, by decide +kernel, by decide +kernel, by decide +kernel, stBlank_fails⟩

theorem witness_TilesComeFromDramAndAreChecked_4 : ∃ (s : State) (ch : Fin 64) (b : BufTile),
    s.core.held domEXP = false ∧
    s.core.held domMEM = false ∧
    s.core.now % (1000 * usU) = 0 ∧
    s.core.layerActive = false ∧
    (s.core.ch ch).idle = some b ∧
    b.ck = .failedTwice ∧
    s.core.nextFirst ch b = true :=
  ⟨st (nx 63 (btF .failedTwice)), 63, btF .failedTwice, by decide +kernel⟩

theorem witness_TilesComeFromDramAndAreChecked_5 : ∃ (s : State) (_ns : BitVec 32) (_ue : Option (Fin 64 × Bool)) (ch : Nat) (layer : Nat) (a : Nat) (i : Nat),
    s.core.held domMEM = false ∧
    s.core.held domEXP = false ∧
    s.core.fetchFor = some ch ∧
    nextWanted (s.core.fetchPlan ch) (s.core.ch ch).fetchAt = some (layer, a, i) :=
  ⟨st (ex [(VST_CONFIG.VST_SLOTS, 0, 4)] 63 (fun s => { s with listAddr := 8192, listCount := 2, fetchAt := some (7, 1) })),
    0xFFFFFFFF, some (3, false), 63, 7, 12288, 1,
    by decide +kernel⟩

theorem witness_TilesComeFromDramAndAreChecked_6 : ∃ (s : State) (ch : Fin 64) (_corr : BitVec 16) (_bad : Bool) (a : AdoptTile) (q : List AdoptTile),
    let x := s.core.ch ch
    s.core.held domEXP = false ∧
    s.core.held domMEM = false ∧
    x.idle = none ∧
    x.susp = none ∧
    x.adoptQ = a :: q :=
  ⟨st (ex [] 5 (fun s => { s with adoptQ := [⟨zeros 16, ⟨3, []⟩⟩] })),
    5, 7, true, ⟨zeros 16, ⟨3, []⟩⟩, [],
    by decide +kernel⟩

theorem witness_TilesComeFromDramAndAreChecked_7 : ∃ (s : State) (ch : Fin 64) (_corr : BitVec 16) (_bad : Bool) (r : RingTile) (q : List RingTile),
    let x := s.core.ch ch
    s.core.held domEXP = false ∧
    s.core.held domMEM = false ∧
    x.idle = none ∧
    x.susp = none ∧
    x.adoptQ = [] ∧
    x.ring = r :: q ∧
    s.core.layerActive = false ∧
    s.core.queuedManifests.head?.map manLayer = some r.layer :=
  ⟨st ((nx 63 (btF .failedTwice)).modCh 63 (fun s => { s with idle := none, ring := [⟨0, 0, zeros 64, false⟩] })),
    63, 9, false, ⟨0, 0, zeros 64, false⟩, [],
    by decide +kernel⟩

theorem witness_TilesComeFromDramAndAreChecked_8 : ∃ (s : State) (ch : Fin 64) (_ue : Option (Fin 64 × Bool)) (b : BufTile),
    s.core.held domEXP = false ∧
    s.core.held domMEM = false ∧
    (s.core.ch ch).idle = some b ∧
    b.ck = .failedOnce :=
  ⟨st (ex [] 5 (fun s => { s with idle := some { bt .failedOnce with adopt := some ⟨3, []⟩, bytes := zeros 64 }})),
    5, some (1, true), { bt .failedOnce with adopt := some ⟨3, []⟩, bytes := zeros 64 },
    by decide +kernel⟩

theorem witness_TilesComeFromDramAndAreChecked_9 : ∃ (s : State) (ch : Fin 64) (_ue : Option (Fin 64 × Bool)) (b : BufTile),
    s.core.held domEXP = false ∧
    s.core.held domMEM = false ∧
    s.core.now % (1000 * usU) = 0 ∧
    s.core.layerActive = false ∧
    (s.core.ch ch).idle = some b ∧
    b.ck = .failedTwice ∧
    s.core.nextFirst ch b = true :=
  ⟨st (nx 63 (btF .failedTwice)), 63, some (2, true), btF .failedTwice, by decide +kernel⟩

theorem witness_ChannelsFailWithTheirCause_0 : ∃ (s : State) (ch : Fin 64),
    s.core.live ch = true ∧
    (s.core.ch ch).fb.feRun ≠ 0 ∧
    s.core.rd GAT_CONFIG.FE_TICKS ch ≤ (s.core.ch ch).fb.feRun :=
  ⟨st (ex [(GAT_CONFIG.FE_TICKS, 63, 3)] 63 (fun s => { s with fb := { s.fb with feRun := 3 } })),
    63,
    by decide +kernel⟩

theorem witness_ChannelsFailWithTheirCause_1 : ∃ (s : State) (ch : Fin 64),
    s.core.live ch = true ∧
    2 ≤ (s.core.ch ch).fb.mismatchRun :=
  ⟨st (ex [(GAT_STATE.GATE, 0, 1)] 0 (fun s => { s with fb := { s.fb with mismatchRun := 2 } })),
    0,
    by decide +kernel⟩

theorem witness_ChannelsFailWithTheirCause_2 : ∃ (s : State) (p : Fin 16) (k : Fin 4),
    4 ≤ (s.core.port p).missRun ∧
    (∀ j : Fin 4, s.core.live (4 * p + j) = decide (j = k)) :=
  ⟨st ((ex [] 61 id).modPort 15 (fun q => { q with missRun := 4 })), 15, 1, by decide +kernel⟩

theorem witness_ChannelsFailWithTheirCause_3 : ∃ (s : State) (ch : Fin 64),
    s.core.failed ch = false ∧
    3 ≤ s.core.rd GAT_STATE.MISS_RUN ch ∧
    s.core.rd GAT_STATE.MODE ch = 0 :=
  ⟨st (ex [(GAT_STATE.MISS_RUN, 63, 3)] 63 id), 63, by decide +kernel⟩

theorem witness_ChannelsFailWithTheirCause_4 : ∃ (s : State) (ch : Fin 64) (id : Nat),
    (s.core.ch ch).barrier? = some id ∧
    s.core.live ch = true ∧
    s.core.layer.syncTimeout * ticksPerUs < (s.core.ch ch).syncWait ∧
    (s.core.ch ch).syncPosted = false :=
  ⟨st { ex [] 63 (fun s => { s with items := [.barrier 2 9], syncWait := 101 }) with layer := { Layer.init with mask := 1, syncTimeout := 50 } },
    63, 9,
    by decide +kernel⟩

theorem witness_ChannelsFailWithTheirCause_5 : ∃ (s : State) (p : Fin 16),
    4 ≤ (s.core.port p).missRun ∧
    (∃ j : Fin 4, s.core.live (4 * p + j) = true) :=
  ⟨st ((ex [] 61 id).modPort 15 (fun q => { q with missRun := 4 })), 15, by decide +kernel⟩

theorem witness_LostWorkIsAdoptedOrLeft_0 : ∃ (s : State) (l : Loss),
    s.core.nextLoss = some l ∧
    s.core.rd ADP_RESIDUE.RES_COUNT l.chan = 0 :=
  ⟨st { ex [(ADP_STATE.STATE, 63, 1), (ADP_POLICY.RES_SIZE, 0, 1), (ADP_POLICY.RES_ADDR, 0, 4096)] 63 id with losses := [⟨63, 7, 0, 3, 0, true, false, [⟨63, 2, 5, .dwell 4 100 true 0 9, 10, 20, [⟨0, 63, 2, 4, 0, 9⟩]⟩, ⟨63, 2, 5, .dwell 5 100 true 0 9, 10, 20, [⟨0, 63, 2, 5, 0, 9⟩]⟩], [(0, 4096)], [], [], [], 0⟩] },
    ⟨63, 7, 0, 3, 0, true, false, [⟨63, 2, 5, .dwell 4 100 true 0 9, 10, 20, [⟨0, 63, 2, 4, 0, 9⟩]⟩, ⟨63, 2, 5, .dwell 5 100 true 0 9, 10, 20, [⟨0, 63, 2, 5, 0, 9⟩]⟩], [(0, 4096)], [], [], [], 0⟩,
    by decide +kernel⟩

theorem witness_LostWorkIsAdoptedOrLeft_1 : ∃ (s : State) (ch : Fin 64) (l : Loss),
    s.core.losses.find? (fun x => x.chan == ch.val) = some l ∧
    l.planned = true ∧
    l.out = 0 ∧
    s.core.rd ADP_STATE.STATE ch = 2 :=
  ⟨st { ex [(ADP_STATE.STATE, 63, 2)] 63 id with losses := [⟨63, 7, 0, 3, 0, true, true, [], [], [], [], [], 0⟩] },
    63, ⟨63, 7, 0, 3, 0, true, true, [], [], [], [], [], 0⟩,
    by decide +kernel⟩

theorem witness_LostWorkIsAdoptedOrLeft_2 : ∃ (s : State) (l : Loss),
    s.core.nextLoss = some l :=
  ⟨st { ex [(ADP_STATE.STATE, 63, 1), (ADP_POLICY.RES_SIZE, 0, 1), (ADP_POLICY.RES_ADDR, 0, 4096)] 63 id with losses := [⟨63, 7, 0, 3, 0, true, false, [⟨63, 2, 5, .dwell 4 100 true 0 9, 10, 20, [⟨0, 63, 2, 4, 0, 9⟩]⟩, ⟨63, 2, 5, .dwell 5 100 true 0 9, 10, 20, [⟨0, 63, 2, 5, 0, 9⟩]⟩], [(0, 4096)], [], [], [], 0⟩] },
    ⟨63, 7, 0, 3, 0, true, false, [⟨63, 2, 5, .dwell 4 100 true 0 9, 10, 20, [⟨0, 63, 2, 4, 0, 9⟩]⟩, ⟨63, 2, 5, .dwell 5 100 true 0 9, 10, 20, [⟨0, 63, 2, 5, 0, 9⟩]⟩], [(0, 4096)], [], [], [], 0⟩,
    by decide +kernel⟩

theorem witness_EdgesAndSurgeWordsGoOut_0 : ∃ (s : State) (ch : Fin 64) (e : Edge),
    (s.core.ch ch).gat.placed = [e] ∧
    e.at_ < s.core.now + tickU ∧
    e.on = true ∧
    e.rfx = true ∧
    (s.core.ch ch).rfx.dead = false :=
  ⟨st (ex [(RFX_BANK0.START_RUNG, 63, 7)] 63 (fun s => { s with gat := { s.gat with placed := [⟨1, 5, true, false, true, true, F64.zero⟩] } })),
    63, ⟨1, 5, true, false, true, true, F64.zero⟩,
    by decide +kernel⟩

theorem witness_EdgesAndSurgeWordsGoOut_1 : ∃ (s : State) (ch : Fin 64) (e : Edge),
    (s.core.ch ch).gat.placed = [e] ∧
    e.at_ < s.core.now + tickU ∧
    e.on = false ∧
    s.core.rd RFX_STATE.ACTIVE ch ≠ 0 :=
  ⟨st (ex [(RFX_STATE.ACTIVE, 63, 1), (GAT_STATE.GATE, 63, 1)] 63 (fun s => { s with gat := { s.gat with lgHigh := true, placed := [⟨1, 5, false, false, true, true, F64.zero⟩] } })),
    63, ⟨1, 5, false, false, true, true, F64.zero⟩,
    by decide +kernel⟩

theorem witness_EdgesAndSurgeWordsGoOut_2 : ∃ (s : State) (p : Fin 16) (lane : Fin 2) (_off : SubTick) (ch : Nat) (w : SlotWord),
    s.core.isUp p = true ∧
    s.core.laneWinner p lane = some ch ∧
    (s.core.ch ch).rfx.slot = some w ∧
    w.cause = none :=
  ⟨st ((ex [(STR_PORT_STATE.STATE, 15, 3)] 63 (fun s => { s with rfx := { s.rfx with slot := some (sw none) } })).modCh 62 (fun s => { s with rfx := { s.rfx with slot := some { sw none with order := 4 } } })),
    15, 1, 0, 63, sw none,
    by decide +kernel⟩

theorem witness_EdgesAndSurgeWordsGoOut_3 : ∃ (s : State) (p : Fin 16) (lane : Fin 2) (_off : SubTick) (ch : Nat) (t0 : Nat) (w : SlotWord),
    s.core.isUp p = true ∧
    s.core.laneWinner p lane = some ch ∧
    (s.core.ch ch).rfx.slot = some w ∧
    w.cause = some t0 :=
  ⟨st { ex [(STR_PORT_STATE.STATE, 15, 3)] 63 (fun s => { s with rfx := { s.rfx with slot := some (sw (some 5)) } }) with now := 100000 },
    15, 1, 32767999, 63, 5, sw (some 5),
    by decide +kernel⟩

theorem witness_EdgesAndSurgeWordsGoOut_4 : ∃ (s : State) (ch : Fin 64) (e : Edge),
    e ∈ (s.core.ch ch).gat.placed ∧
    e.at_ < s.core.now + tickU ∧
    (∀ x ∈ (s.core.ch ch).gat.placed, x = e ∨ e.at_ < x.at_) :=
  ⟨st (ex [] 63 (fun s => { s with gat := { s.gat with placed := [⟨1, 5, true, false, true, true, F64.zero⟩, ⟨1, 9, false, false, true, true, F64.zero⟩] } })),
    63, ⟨1, 5, true, false, true, true, F64.zero⟩,
    by decide +kernel⟩

theorem witness_SamplesRunTheHystereticLaw_0 : ∃ (s : State) (p : Fin 16) (lane : Fin 2) (word : BitVec 32) (_lead : BitVec 32) (_off : SubTick),
    let ch := 4 * p.val + bits word.toNat 0 2
    let d := (bits word.toNat 4 6 + 64 - s.core.rd RFX_STATE.SEQ_IN ch) % 64
    s.core.held domEXP = false ∧
    s.core.isUp p = true ∧
    sampleBad lane word.toNat false = false ∧
    (s.core.ch ch).rfx.firstWord = false ∧
    d ≠ 0 ∧
    d < 32 ∧
    s.core.rd RFX_STATE.ACTIVE ch = 0 ∧
    (s.core.ch ch).gat.placed = [] :=
  ⟨st (ex [(STR_PORT_STATE.STATE, 15, 3), (RFX_STATE.SEQ_IN, 63, 63)] 63 (fun s => { s with rfx := { s.rfx with firstWord := false } })),
    15, 1, smp 3 30 65535, 0, 0,
    by decide +kernel⟩

theorem witness_SamplesRunTheHystereticLaw_1 : ∃ (s : State) (p : Fin 16) (lane : Fin 2) (word : BitVec 32) (_lead : BitVec 32) (_off : SubTick),
    let ch := 4 * p.val + bits word.toNat 0 2
    let d := (bits word.toNat 4 6 + 64 - s.core.rd RFX_STATE.SEQ_IN ch) % 64
    s.core.held domEXP = false ∧
    s.core.isUp p = true ∧
    sampleBad lane word.toNat false = false ∧
    (s.core.ch ch).rfx.firstWord = false ∧
    (d = 0 ∨ 32 ≤ d) :=
  ⟨st (ex [(STR_PORT_STATE.STATE, 15, 3), (RFX_STATE.SEQ_IN, 63, 63)] 63 (fun s => { s with rfx := { s.rfx with firstWord := false } })),
    15, 1, smp0 3 63 65535, 0, 0,
    by decide +kernel⟩

theorem witness_SamplesRunTheHystereticLaw_2 : ∃ (s : State) (p : Fin 16) (lane : Fin 2) (word : BitVec 32) (_lead : BitVec 32) (_off : SubTick),
    s.core.held domEXP = false ∧
    s.core.isUp p = true ∧
    sampleBad lane word.toNat false = true :=
  ⟨st (ex [(STR_PORT_STATE.STATE, 15, 3), (RFX_STATE.SEQ_IN, 63, 63)] 63 id),
    15, 1, 0xFFFFFFFF, 0, 0,
    by decide +kernel⟩

theorem witness_SamplesRunTheHystereticLaw_3 : ∃ (s : State) (p : Fin 16) (lane : Fin 2) (word : BitVec 32) (_lead : BitVec 32) (off : SubTick) (f : Time),
    let ch := 4 * p.val + bits word.toNat 0 2
    let x := (s.core.ch ch).rfx
    let seq := bits word.toNat 4 6
    let value := bits word.toNat 10 16
    let accept := s.core.now + off.val
    let inst := sampleInstant accept (s.core.samplePeriod ch) seq
    let b := s.core.bankAt ch inst
    let r := s.core.rd RFX_STATE.RUNG ch
    s.core.held domEXP = false ∧
    s.core.isUp p = true ∧
    sampleBad lane word.toNat false = false ∧
    x.firstWord = false ∧
    (seq + 64 - s.core.rd RFX_STATE.SEQ_IN ch) % 64 = 1 ∧
    s.core.rd RFX_STATE.STARVING ch = 0 ∧
    s.core.rd RFX_STATE.ACTIVE ch ≠ 0 ∧
    (s.core.ch ch).gat.placed = [] ∧
    x.from_ = some f ∧
    f ≤ inst ∧
    x.decidedBank = b ∧
    x.blank = 0 ∧
    x.hold = 0 ∧
    value < s.core.rd (bankField b RFX_BANK0.LOW) ch ∧
    value ≤ s.core.rd (bankField b RFX_BANK0.HIGH) ch ∧
    s.core.rd (bankField b RFX_BANK0.CONFIRM) ch ≤ (if x.last = 1 then min (x.cnt + 1) 255 else 1) ∧
    r + 1 < s.core.rd (bankField b RFX_BANK0.RUNG_COUNT) ch ∧
    r + 1 < 8 ∧
    s.core.rd (bankField b RFX_BANK0.INT_THRESH) ch = 0 ∧
    x.slot = none :=
  ⟨st (ex [(STR_PORT_STATE.STATE, 15, 3), (RFX_STATE.SEQ_IN, 63, 63), (RFX_STATE.ACTIVE, 63, 1), (RFX_STATE.RUNG, 63, 6), (RFX_BANK0.LOW, 63, 10), (RFX_BANK0.HIGH, 63, 20), (RFX_BANK0.CONFIRM, 63, 1), (RFX_BANK0.RUNG_COUNT, 63, 8), (RFX_BANK0.DWELL_MIN, 63, 9), (RFX_STATE.BASE, 63, 40000), (RFX_BANK0.RS7, 63, 30000)] 63 (fun s => { s with rfx := { s.rfx with firstWord := false, from_ := some 0 } })),
    15, 1, smp0 3 0 9, 0, 0, 0,
    by decide +kernel⟩

theorem witness_SamplesRunTheHystereticLaw_4 : ∃ (s : State) (ch : Fin 64),
    s.core.starving ch = true ∧
    s.core.rd RFX_STATE.STARVING ch = 0 ∧
    (s.core.rd RFX_CONFIG.STARVE_ACT ch = 0 ∨ s.core.rd RFX_STATE.RUNG ch = 0) :=
  ⟨st { ex [(RFX_STATE.ACTIVE, 63, 1), (RFX_CONFIG.STARVE, 63, 4), (RFX_CONFIG.SAMPLE_DIV, 63, 2)] 63 (fun s => { s with rfx := { s.rfx with from_ := some 0 } }) with now := 10000000000 },
    63,
    by decide +kernel⟩

theorem witness_SamplesRunTheHystereticLaw_5 : ∃ (s : State) (ch : Fin 64),
    let x := (s.core.ch ch).rfx
    s.core.starving ch = true ∧
    s.core.rd RFX_STATE.STARVING ch = 0 ∧
    s.core.rd RFX_CONFIG.STARVE_ACT ch ≠ 0 ∧
    s.core.rd RFX_STATE.RUNG ch ≠ 0 ∧
    x.slot = none :=
  ⟨st { ex [(RFX_STATE.ACTIVE, 63, 1), (RFX_CONFIG.STARVE, 63, 4), (RFX_CONFIG.SAMPLE_DIV, 63, 2), (RFX_CONFIG.STARVE_ACT, 63, 1), (RFX_STATE.RUNG, 63, 7)] 63 (fun s => { s with rfx := { s.rfx with from_ := some 0, lastInst := some 10 } }) with now := 10000000000 },
    63,
    by decide +kernel⟩

theorem witness_SamplesRunTheHystereticLaw_6 : ∃ (s : State) (p : Fin 16) (lane : Fin 2) (word : BitVec 32) (_lead : BitVec 32) (_off : SubTick),
    let ch := 4 * p.val + bits word.toNat 0 2
    let d := (bits word.toNat 4 6 + 64 - s.core.rd RFX_STATE.SEQ_IN ch) % 64
    s.core.held domEXP = false ∧
    s.core.isUp p = true ∧
    sampleBad lane word.toNat false = false ∧
    ((s.core.ch ch).rfx.firstWord = true ∨ d ≠ 0 ∧ d < 32) :=
  ⟨st (ex [(STR_PORT_STATE.STATE, 15, 3), (RFX_STATE.SEQ_IN, 63, 63)] 63 (fun s => { s with rfx := { s.rfx with firstWord := false } })),
    15, 1, smp 3 30 65535, 0, 0,
    by decide +kernel⟩

theorem witness_SamplesRunTheHystereticLaw_7 : ∃ (s : State) (p : Fin 16) (_lane : Fin 2) (_word : BitVec 32) (_lead : BitVec 32) (_off : SubTick),
    s.core.held domEXP = false ∧
    s.core.isUp p = true :=
  ⟨st (ex [(STR_PORT_STATE.STATE, 15, 3), (RFX_STATE.SEQ_IN, 63, 63)] 63 id),
    15, 1, 0xFFFFFFFF, 0, 0,
    by decide +kernel⟩

theorem witness_SamplesRunTheHystereticLaw_8 : ∃ (s : State) (ch : Fin 64),
    s.core.starving ch = true ∧
    s.core.rd RFX_STATE.STARVING ch = 0 :=
  ⟨st { ex [(RFX_STATE.ACTIVE, 63, 1), (RFX_CONFIG.STARVE, 63, 4), (RFX_CONFIG.SAMPLE_DIV, 63, 2)] 63 (fun s => { s with rfx := { s.rfx with from_ := some 0 } }) with now := 10000000000 },
    63,
    by decide +kernel⟩

end WitExposure

namespace WitBreakwater

def ex (l : List (Field × Nat × Nat)) (ch : Nat) (f : SeqCh → SeqCh) : Core := (inMode .expose ((SEQ_LAYER_STATE.LAYER_ACTIVE, 0, 1) :: (SEQ_LAYER_STATE.LAYER_NOW, 0, 7) :: l)).modCh ch (fun s => f { s with armed := true })
def bw (c : Core) (b : Bwk) : Core := { c with bwk := b }
def bx (a b : Int) : Box := ⟨a, b, a, b⟩
def req1 (w n : Nat) : Req := ⟨bx 0 9, w, n, false, 0⟩
def rsv (g id : Nat) (rel : Option Time) (border pend : Bool) : Resv := ⟨g, id, bx 0 5, bx 0 9, rel, border, pend, 77, 0⟩
def lk (p : Nat) (l : List (Field × Nat × Nat)) : Core := inMode .standby ((STR_PORT_STATE.STATE, p, 3) :: l)
def bt : BufTile := ⟨7, 3, [0xA5#8, 1#8, 63#8, 1#8] ++ zeros 8 ++ [1#8, 0#8, 0#8, 0#8] ++ [15#8] ++ zeros 15, false, .passed, none⟩
def bt2 : BufTile := ⟨7, 2, [], false, .passed, none⟩
def brq (o id g : Nat) (capped : Bool) (a b : Int) : BorderReq := ⟨o, id, g, 5, capped, bx a b, bx (a - 5) (b + 5)⟩

theorem witness_ReservationsEndAndRequestsEscalate_1 : ∃ (s : State) (ch : Fin 64) (q : Req),
    (s.core.ch ch).req = some q ∧
    s.core.rd BWK_WAIT.WAIT_CAP ≤ q.wait ∧
    s.core.rd BWK_STATE.CAPPED ch = 0 :=
  ⟨st (ex [(BWK_WAIT.WAIT_CAP, 0, 40)] 63 (fun s => { s with req := some (req1 40 3) })),
    63, req1 40 3,
    by decide +kernel⟩

theorem witness_ReservationsEndAndRequestsEscalate_2 : ∃ (s : State) (ch : Fin 64) (q : Req),
    (s.core.ch ch).req = some q ∧
    s.core.rd BWK_WAIT.WAIT_ALARM ≠ 0 ∧
    s.core.rd BWK_WAIT.WAIT_ALARM ≤ q.wait ∧
    q.alarmed = false :=
  ⟨st (ex [(BWK_WAIT.WAIT_ALARM, 0, 40)] 63 (fun s => { s with req := some (req1 40 3) })),
    63, req1 40 3,
    by decide +kernel⟩

theorem witness_ReservationsEndAndRequestsEscalate_3 : ∃ (s : State) (ch : Fin 64) (q : Req) (b : BufTile) (e : BufTile),
    let x := s.core.ch ch
    x.req = some q ∧
    x.idle = some b ∧
    x.exec = some e ∧
    s.core.rd BWK_WAIT.YIELD_AFTER ≠ 0 ∧
    s.core.rd BWK_WAIT.YIELD_AFTER ≤ q.sinceFresh ∧
    x.granted = false ∧
    x.pendingBorder = false ∧
    x.halt = .none ∧
    x.susp = none ∧
    x.atRest = true ∧
    s.core.live ch = true ∧
    b.ck = .passed ∧
    b.adopt = none ∧
    b.layer = s.core.rd SEQ_LAYER_STATE.LAYER_NOW ∧
    (tileHdr b.bytes).reorderable = true ∧
    q.ran < s.core.rd BWK_WAIT.YIELD_MAX ∧
    q.ran < 15 :=
  ⟨st (ex [(BWK_WAIT.YIELD_AFTER, 0, 3), (BWK_WAIT.YIELD_MAX, 0, 15)] 63 (fun s => { s with req := some { req1 9 3 with ran := 14 }, idle := some bt, exec := some bt2, items := [.endTile 3] })),
    63, { req1 9 3 with ran := 14 }, bt, bt2,
    by decide +kernel⟩

theorem witness_ReservationsEndAndRequestsEscalate_4 : ∃ (s : State) (ch : Fin 64) (q : Req) (b : BufTile) (e : BufTile),
    let x := s.core.ch ch
    x.req = some q ∧
    x.idle = some b ∧
    x.exec = some e ∧
    s.core.rd BWK_WAIT.YIELD_AFTER ≠ 0 ∧
    s.core.rd BWK_WAIT.YIELD_AFTER ≤ q.sinceFresh ∧
    x.granted = false ∧
    x.pendingBorder = false ∧
    x.halt = .none ∧
    x.susp = none ∧
    x.atRest = true ∧
    s.core.live ch = true ∧
    b.ck = .passed ∧
    b.adopt = none ∧
    b.layer = s.core.rd SEQ_LAYER_STATE.LAYER_NOW ∧
    (tileHdr b.bytes).reorderable = true ∧
    q.ran < s.core.rd BWK_WAIT.YIELD_MAX :=
  ⟨st (ex [(BWK_WAIT.YIELD_AFTER, 0, 3), (BWK_WAIT.YIELD_MAX, 0, 15)] 63 (fun s => { s with req := some { req1 9 3 with ran := 14 }, idle := some bt, exec := some bt2, items := [.endTile 3] })),
    63, { req1 9 3 with ran := 14 }, bt, bt2,
    by decide +kernel⟩

theorem witness_BordersAreDecidedByTheLead_0 : ∃ (s : State) (p : Fin 21) (lane : Fin 2) (h : FrameHdr) (b : Bytes),
    s.core.linkActs p lane 0x41 h b ∧
    s.core.isLead = true ∧
    seqNewer 32 (tickIndex s.core.now) ((h.tag.toNat + 3) % 2 ^ 32) = false :=
  ⟨st (lk 18 []), 18, 0, hdrOf 0x41 0 0 5 0 0x1000 (zeros 88), zeros 88, by decide +kernel⟩

theorem witness_BordersAreDecidedByTheLead_1 : ∃ (s : State) (p : Fin 21) (lane : Fin 2) (h : FrameHdr) (b : Bytes),
    s.core.linkActs p lane 0x41 h b ∧
    s.core.isLead = true ∧
    b.length = 44 ∧
    seqNewer 32 (tickIndex s.core.now) ((h.tag.toNat + 3) % 2 ^ 32) = true :=
  ⟨st { lk 18 [(BWK_STAT.BORDER_LATE, 63, 65535)] with now := 4 * tickU },
    18, 0, hdrOf 0x41 0 0 5 0 0x1000 (([9#8, 0#8, 63#8] ++ zeros 41)), ([9#8, 0#8, 63#8] ++ zeros 41),
    by decide +kernel⟩

theorem witness_BordersAreDecidedByTheLead_2 : ∃ (s : State) (q : BorderReq),
    let o := (tickIndex s.core.now + 2 ^ 32 - 4) % 2 ^ 32
    s.core.isLead = true ∧
    s.core.bwk.rels = [] ∧
    s.core.bwk.fences = [] ∧
    s.core.bwk.reqs.filter (fun q => q.origin == o) = [q] ∧
    s.core.bwk.leadTable.length < 2048 :=
  ⟨st { bw (lk 18 []) { Bwk.init with reqs := [brq 6 1 70 true 0 9, brq 7 3 70 true 0 9], leadTable := [brq 2 2 3 false 10 20] } with now := 10 * tickU },
    brq 6 1 70 true 0 9,
    by decide +kernel⟩

theorem witness_BordersAreDecidedByTheLead_3 : ∃ (s : State) (p : Fin 21) (lane : Fin 2) (h : FrameHdr) (b : Bytes),
    s.core.linkActs p lane 0x42 h b :=
  ⟨st (lk 18 [(CSC_STATE.CASC_ID, 0, 15)]),
    18, 0, hdrOf 0x42 0 0xF000 5 0 0 (([1#8, 0#8, 1#8, 0#8] ++ zeros 4)), ([1#8, 0#8, 1#8, 0#8] ++ zeros 4),
    by decide +kernel⟩

theorem witness_BordersAreDecidedByTheLead_4 : ∃ (s : State) (p : Fin 21) (lane : Fin 2) (h : FrameHdr) (b : Bytes),
    s.core.linkActs p lane 0x43 h b ∧
    s.core.isLead = true :=
  ⟨st (lk 18 []),
    18, 0, hdrOf 0x43 0 0 5 0 0x1000 (([1#8, 0#8, 1#8, 0#8] ++ zeros 4)), ([1#8, 0#8, 1#8, 0#8] ++ zeros 4),
    by decide +kernel⟩

theorem witness_BordersAreDecidedByTheLead_5 : ∃ (s : State) (ch : Fin 64) (r : Resv) (q : Req) (a : Nat × Nat),
    let o := (tickIndex s.core.now + 2 ^ 32 - 8) % 2 ^ 32
    s.core.bwk.table.filter (fun r => r.pending && !seqNewer 32 r.origin o) = [r] ∧
    r.g = s.core.globalCh ch ∧
    r.release = none ∧
    s.core.bwk.answers.find? (fun x => x.1 == r.origin && x.2.1 == r.reqId) = some (a.1, a.2, true) ∧
    s.core.live ch = true ∧
    (s.core.ch ch).halt = .none ∧
    (s.core.ch ch).req = some q :=
  ⟨st { bw (ex [(BWK_STATE.WAIT_NOW, 63, 8), (BWK_STATE.STATE, 63, 1)] 63 (fun s => { s with req := some (req1 40 3), pendingBorder := true })) { Bwk.init with table := [rsv 63 4 none true true, rsv 62 4 none true false], answers := [(0, 77, true), (0, 77, false), (0, 78, true)] } with now := 20 * tickU },
    63, rsv 63 4 none true true, req1 40 3, (0, 77),
    by decide +kernel⟩

theorem witness_BordersAreDecidedByTheLead_6 : ∃ (s : State) (ch : Fin 64) (r : Resv) (q : Req),
    let o := (tickIndex s.core.now + 2 ^ 32 - 8) % 2 ^ 32
    let ans := s.core.bwk.answers.find? (fun x => x.1 == r.origin && x.2.1 == r.reqId)
    s.core.bwk.table.filter (fun r => r.pending && !seqNewer 32 r.origin o) = [r] ∧
    r.g % 64 = ch ∧
    ans.map (fun x => x.2.2) ≠ some true ∧
    s.core.live ch = true ∧
    (s.core.ch ch).req = some q ∧
    q.wait + 1 < s.core.rd BWK_WAIT.WAIT_CAP ∧
    s.core.rd BWK_WAIT.WAIT_ALARM = 0 :=
  ⟨st { bw (ex [(BWK_WAIT.WAIT_CAP, 0, 100), (BWK_WAIT.WAIT_ALARM, 0, 0)] 63 (fun s => { s with req := some (req1 40 3), pendingBorder := true })) { Bwk.init with table := [rsv 63 4 none true true], answers := [(0, 77, false)] } with now := 20 * tickU },
    63, rsv 63 4 none true true, req1 40 3,
    by decide +kernel⟩

theorem witness_BordersAreDecidedByTheLead_8 : ∃ (s : State) (p : Fin 21) (lane : Fin 2) (h : FrameHdr) (b : Bytes),
    s.core.linkActs p lane 0x41 h b :=
  ⟨st (lk 18 []), 18, 0, hdrOf 0x41 0 0 5 0 0x1000 (zeros 88), zeros 88, by decide +kernel⟩

theorem witness_BordersAreDecidedByTheLead_9 : ∃ (s : State),
    s.core.isLead = true :=
  ⟨st { bw (lk 18 []) { Bwk.init with reqs := [brq 6 1 70 true 0 9, brq 7 3 70 true 0 9], leadTable := [brq 2 2 3 false 10 20] } with now := 10 * tickU },
    by decide +kernel⟩

theorem witness_BordersAreDecidedByTheLead_10 : ∃ (s : State) (p : Fin 21) (lane : Fin 2) (h : FrameHdr) (b : Bytes),
    s.core.linkActs p lane 0x43 h b :=
  ⟨st (lk 18 []),
    18, 0, hdrOf 0x43 0 0 5 0 0x1000 (([1#8, 0#8, 1#8, 0#8] ++ zeros 4)), ([1#8, 0#8, 1#8, 0#8] ++ zeros 4),
    by decide +kernel⟩

end WitBreakwater

namespace WitCamera

def ctxOn : List (Field × Nat × Nat) := [(CAM_PORT.ENABLE, 7, 1), (IPL_CTX.ENABLE, 31, 1), (IPL_CTX.PORT, 31, 7), (IPL_CTX.VC, 31, 3), (IPL_CTX.WIDTH, 31, 16), (IPL_CTX.HEIGHT, 31, 2), (IPL_CTX.DT, 31, 0), (IPL_CTX.ROI_W, 31, 16), (IPL_CTX.ROI_H, 31, 2), (CAM_PORT.RING_ADDR, 7, 8192), (CAM_PORT.SLOT_SIZE, 7, 4096), (IPL_CTX.TREF_ADDR, 31, 65536), (IPL_OUT.FRING_ADDR, 0, 131072), (IPL_OUT.FR_EN, 0, 1)]
def fr (lines : Nat) : CamFrame := ⟨31, 7, 3, 0, 0, 12288, 4096, 5, lines, false, false, false, false, false, false⟩
def im (c : Core) (f : Imaging → Imaging) : Core := { c with img := f c.img }
def tk (c : Core) (f : CamFrame) : Core := im c (fun g => { g with cur := [none, some ⟨f, c.image Obj.IPL_CTX 31, 7, [], 0, 0, false, false⟩] })

theorem witness_CameraPacketsBuildFrames_0 : ∃ (s : State) (p : Fin 8) (vc : Fin 16) (_fn : BitVec 16) (ecc : Fin 3) (_off : SubTick) (k : Nat) (slot : Nat) (rest : List Nat),
    s.core.stopped domCAM = false ∧
    s.core.rd CAM_PORT.ENABLE p ≠ 0 ∧
    ecc.val < 2 ∧
    s.core.boundCtx p vc = some k ∧
    s.core.img.frames.any (isOpen p vc) = false ∧
    (s.core.camPort p).free = slot :: rest :=
  ⟨st ((inMode .standby ctxOn).modCam 7 (fun p => { p with free := [2, 3] })),
    7, 3, 0xFFFF, 1, 524289, 31, 2, [3],
    by decide +kernel⟩

theorem witness_CameraPacketsBuildFrames_1 : ∃ (s : State) (p : Fin 8) (vc : Fin 16) (_fn : BitVec 16) (_off : SubTick) (k : Nat),
    s.core.stopped domCAM = false ∧
    s.core.rd CAM_PORT.ENABLE p ≠ 0 ∧
    s.core.boundCtx p vc = some k ∧
    s.core.img.frames.any (isOpen p vc) = false ∧
    (s.core.camPort p).free = [] :=
  ⟨st (inMode .standby ctxOn), 7, 3, 1, 0, 31, by decide +kernel⟩

theorem witness_CameraPacketsBuildFrames_2 : ∃ (s : State) (p : Fin 8) (vc : Fin 16) (dt : BitVec 6) (_crcOk : Bool) (_data : Bytes) (f : CamFrame),
    let k := f.ctx
    s.core.stopped domCAM = false ∧
    s.core.img.frames.find? (isOpen p vc) = some f ∧
    dt.toNat = s.core.ctxDt k ∧
    f.lines < s.core.rd IPL_CTX.HEIGHT k :=
  ⟨st (im (inMode .standby ctxOn) (fun g => { g with frames := [fr 1] })),
    7, 3, 0x2A, true, (List.replicate 17 1#8), (fr 1),
    by decide +kernel⟩

theorem witness_CameraPacketsBuildFrames_3 : ∃ (s : State) (p : Fin 8) (vc : Fin 16) (dt : BitVec 6) (_crcOk : Bool) (_data : Bytes) (k : Nat),
    s.core.stopped domCAM = false ∧
    s.core.rd CAM_PORT.ENABLE p ≠ 0 ∧
    s.core.streamCtx p vc = some k ∧
    dt.toNat ≠ s.core.ctxDt k :=
  ⟨st (inMode .standby ctxOn), 7, 3, 0x2B, false, [], 31, by decide +kernel⟩

theorem witness_CameraPacketsBuildFrames_4 : ∃ (s : State) (p : Fin 8) (vc : Fin 16) (f : CamFrame),
    s.core.stopped domCAM = false ∧
    s.core.img.frames.find? (isOpen p vc) = some f :=
  ⟨st (im (inMode .standby ctxOn) (fun g => { g with frames := [fr 1] })), 7, 3, (fr 1), by decide +kernel⟩

theorem witness_CameraPacketsBuildFrames_5 : ∃ (s : State) (p : Fin 8) (_vc : Fin 16),
    s.core.stopped domCAM = false ∧
    s.core.rd CAM_PORT.ENABLE p ≠ 0 :=
  ⟨st (inMode .standby ctxOn), 7, 0, by decide +kernel⟩

theorem witness_CameraPacketsBuildFrames_6 : ∃ (s : State) (k : Fin 32) (f : CamFrame),
    s.core.stopped domCAM = false ∧
    s.core.img.frames.find? (fun g => g.ctx == k.val && !g.ended) = some f ∧
    f.since + s.core.watchdog k ≤ s.core.now ∧
    (s.core.ictx k).timedOut = false :=
  ⟨st { im (inMode .standby ctxOn) (fun g => { g with frames := [fr 1] }) with now := 2000 * usU },
    31, (fr 1),
    by decide +kernel⟩

theorem witness_CameraPacketsBuildFrames_7 : ∃ (s : State) (k : Fin 32) (at_ : Nat),
    s.core.stopped domCAM = false ∧
    s.core.rd IPL_CTX.ENABLE k ≠ 0 ∧
    (s.core.ictx k).lastStart = some at_ ∧
    s.core.img.frames.any (fun f => f.ctx == k.val && !f.ended) = false ∧
    at_ + ((s.core.ictx k).missed + 1) * s.core.watchdog k ≤ s.core.now :=
  ⟨st { ((inMode .standby ctxOn).modIctx 31 (fun x => { x with lastStart := some 0, missed := 2 })) with now := 6000 * usU },
    31, 0,
    by decide +kernel⟩

theorem witness_CameraPacketsBuildFrames_8 : ∃ (s : State) (p : Fin 8) (vc : Fin 16) (_fn : BitVec 16) (ecc : Fin 3) (_off : SubTick) (k : Nat),
    s.core.stopped domCAM = false ∧
    s.core.rd CAM_PORT.ENABLE p ≠ 0 ∧
    ecc.val < 2 ∧
    s.core.boundCtx p vc = some k :=
  ⟨st ((inMode .standby ctxOn).modCam 7 (fun p => { p with free := [2, 3] })),
    7, 3, 0xFFFF, 1, 524289, 31,
    by decide +kernel⟩

theorem witness_CameraPacketsBuildFrames_9 : ∃ (s : State) (p : Fin 8) (_vc : Fin 16),
    s.core.stopped domCAM = false ∧
    s.core.rd CAM_PORT.ENABLE p ≠ 0 :=
  ⟨st (im (inMode .standby ctxOn) (fun g => { g with frames := [fr 1] })), 7, 3, by decide +kernel⟩

theorem witness_CameraPacketsBuildFrames_10 : ∃ (s : State) (k : Fin 32) (f : CamFrame),
    s.core.stopped domCAM = false ∧
    s.core.img.frames.find? (fun g => g.ctx == k.val && !g.ended) = some f ∧
    f.since + s.core.watchdog k ≤ s.core.now :=
  ⟨st { im ((inMode .standby ctxOn).modIctx 31 (fun x => { x with timedOut := true })) (fun g => { g with frames := [fr 1] }) with now := 2000 * usU },
    31, (fr 1),
    by decide +kernel⟩

theorem witness_PipelineTakesAndReports_0 : ∃ (s : State) (pipe : Fin 2) (f : CamFrame),
    let k := f.ctx
    s.core.stopped domCAM = false ∧
    s.core.img.cur.getD pipe none = none ∧
    s.core.firstFrame pipe = some f ∧
    f.ended = true ∧
    s.core.rd IPL_CTX.ENABLE k ≠ 0 ∧
    (s.core.ictx k).capture = none :=
  ⟨st (im (inMode .standby ctxOn) (fun g => { g with frames := [{ fr 2 with ended := true }] })),
    1, { fr 2 with ended := true },
    by decide +kernel⟩

theorem witness_PipelineTakesAndReports_1 : ∃ (s : State) (pipe : Fin 2) (x : Taken),
    let c := s.core
    let k := x.frame.ctx
    let size := 2 ^ c.rd IPL_OUT.FRING_LOG2
    let prod := c.rd IPL_OUT.FR_PROD
    c.stopped domCAM = false ∧
    c.img.cur.getD pipe none = some x ∧
    x.frame.short = true ∧
    x.frame.long = false ∧
    x.frame.timeout = false ∧
    (c.ictx k).capture = none ∧
    imgField x.ctx IPL_CTX.TRIM_BIND = 0 ∧
    c.rd IPL_OUT.FR_EN ≠ 0 ∧
    (prod + 2 ^ 32 - c.rd IPL_OUT.FR_CONS) % 2 ^ 32 < size :=
  ⟨st (tk (inMode .standby ctxOn) { fr 1 with ended := true, short := true }),
    1, ⟨{ fr 1 with ended := true, short := true }, (inMode .standby ctxOn).image Obj.IPL_CTX 31, 7, [], 0, 0, false, false⟩,
    by decide +kernel⟩

theorem witness_PipelineTakesAndReports_2 : ∃ (s : State) (pipe : Fin 2) (x : Taken),
    let c := s.core
    let k := x.frame.ctx
    let size := 2 ^ c.rd IPL_OUT.FRING_LOG2
    let prod := c.rd IPL_OUT.FR_PROD
    c.stopped domCAM = false ∧
    c.img.cur.getD pipe none = some x ∧
    x.frame.short = false ∧
    x.frame.long = false ∧
    x.frame.timeout = false ∧
    (c.ictx k).capture = none ∧
    imgField x.ctx IPL_CTX.TRIM_BIND = 0 ∧
    c.rd IPL_OUT.FR_EN ≠ 0 ∧
    (prod + 2 ^ 32 - c.rd IPL_OUT.FR_CONS) % 2 ^ 32 < size :=
  ⟨st (tk (inMode .standby ctxOn) { fr 2 with ended := true }),
    1, ⟨{ fr 2 with ended := true }, (inMode .standby ctxOn).image Obj.IPL_CTX 31, 7, [], 0, 0, false, false⟩,
    by decide +kernel⟩

theorem witness_PipelineTakesAndReports_3 : ∃ (s : State) (pipe : Fin 2) (f : CamFrame),
    s.core.stopped domCAM = false ∧
    s.core.img.cur.getD pipe none = none ∧
    s.core.firstFrame pipe = some f ∧
    f.ended = true :=
  ⟨st (im ((inMode .standby ctxOn).modIctx 31 (fun x => { x with capture := some ⟨false, 4, 0, 0, 0, some 5, 1, 0⟩ })) (fun g => { g with frames := [{ fr 2 with ended := true }] })),
    1, { fr 2 with ended := true },
    by decide +kernel⟩

theorem witness_PipelineTakesAndReports_4 : ∃ (s : State) (pipe : Fin 2) (_bad : Option (BitVec 48 × Bool)) (x : Taken),
    s.core.stopped domCAM = false ∧
    s.core.img.cur.getD pipe none = some x :=
  ⟨st (tk ((inMode .standby ctxOn).modIctx 31 (fun x => { x with capture := some ⟨false, 1, 0, 0, 0, some 5, 1, 0⟩ })) { fr 2 with ended := true }),
    1, some (3, false), ⟨{ fr 2 with ended := true }, (inMode .standby ctxOn).image Obj.IPL_CTX 31, 7, [], 0, 0, false, false⟩,
    by decide +kernel⟩

theorem witness_CameraTriggersFire_0 : ∃ (s : State) (p : Fin 8) (off : SubTick),
    let at_ := s.core.now + off.val
    s.core.stopped domCAM = false ∧
    s.core.held domTIM = false ∧
    s.core.rd CAM_TRIG.MODE p = 1 ∧
    periodStart at_ (s.core.rd CAM_TRIG.PERIOD p) (s.core.rd CAM_TRIG.PHASE p) = true ∧
    (s.core.camPort p).pulseEnd ≤ at_ ∧
    (s.core.stopped domLUM = true ∨ ∀ n : Fin 16, (s.core.sink n).strobe = false ∨ s.core.rd LUM_SINK.STROBE_PORT n ≠ p) :=
  ⟨st (inMode .standby [(CAM_TRIG.MODE, 7, 1)]), 7, 0, by decide +kernel⟩

theorem witness_CameraTriggersFire_1 : ∃ (s : State) (p : Fin 8) (off : SubTick),
    let at_ := s.core.now + off.val
    s.core.stopped domCAM = false ∧
    s.core.held domTIM = false ∧
    s.core.rd CAM_TRIG.MODE p = 1 ∧
    periodStart at_ (s.core.rd CAM_TRIG.PERIOD p) (s.core.rd CAM_TRIG.PHASE p) = true ∧
    at_ < (s.core.camPort p).pulseEnd :=
  ⟨st ((inMode .standby [(CAM_TRIG.MODE, 7, 1)]).modCam 7 (fun p => { p with pulseEnd := 1 })),
    7, 0,
    by decide +kernel⟩

theorem witness_CameraTriggersFire_2 : ∃ (s : State) (p : Fin 8),
    s.core.stopped domCAM = false ∧
    s.core.rd CAM_TRIG.MODE p = 3 :=
  ⟨st (inMode .standby [(CAM_TRIG.MODE, 7, 3)]), 7, by decide +kernel⟩

theorem witness_CameraTriggersFire_3 : ∃ (s : State) (p : Fin 8) (off : SubTick),
    let at_ := s.core.now + off.val
    s.core.stopped domCAM = false ∧
    s.core.held domTIM = false ∧
    s.core.rd CAM_TRIG.MODE p = 1 ∧
    periodStart at_ (s.core.rd CAM_TRIG.PERIOD p) (s.core.rd CAM_TRIG.PHASE p) = true ∧
    (s.core.camPort p).pulseEnd ≤ at_ :=
  ⟨st (inMode .standby [(CAM_TRIG.MODE, 7, 1)]), 7, 0, by decide +kernel⟩

end WitCamera

namespace WitLight

theorem witness_LightingDrivesAsSpecified_0 : ∃ (s : State) (n : Fin 16) (off : SubTick) (_lamps : BitVec 16),
    let c := s.core
    let at_ := c.now + off.val
    let per := c.rd LUM_SINK.PERIOD n
    c.stopped domLUM = false ∧
    c.held domTIM = false ∧
    periodStart at_ per (c.rd LUM_SINK.PHASE n) = true ∧
    (c.sink n).strobe = false ∧
    (c.sink n).check = none ∧
    (c.sink n).diag = false ∧
    c.rd LUM_SINK.MODE n = 0 :=
  ⟨st ((inMode .standby [(LUM_SINK.ENABLE, 3, 1), (LUM_SINK.PERIOD, 3, 8000), (LUM_SINK.IMAX, 3, 100000)]).modSink 3 (fun k => { k with level := 40000 })),
    3, 0, 0,
    by decide +kernel⟩

theorem witness_LightingDrivesAsSpecified_1 : ∃ (s : State),
    s.core.stopped domLUM = false ∧
    s.core.held domTIM = false ∧
    s.core.now % (100 * usU) = 0 :=
  ⟨st ((inMode .standby []).modSink 15 (fun k => { k with level := 40000, fade := some ⟨50000, 10, 3, 9, 7⟩ })),
    by decide +kernel⟩

theorem witness_LightingDrivesAsSpecified_2 : ∃ (s : State) (_n : Fin 16) (_v : BitVec 16),
    s.core.held domLUM = false :=
  ⟨st (inMode .standby []), 15, 65535, by decide +kernel⟩

theorem witness_LightingDrivesAsSpecified_3 : ∃ (s : State) (_v : BitVec 16),
    s.core.held domLUM = false :=
  ⟨st (inMode .standby []), 65535, by decide +kernel⟩

theorem witness_LightingDrivesAsSpecified_4 : ∃ (s : State) (_k : Fin 2),
    s.core.held domLUM = false :=
  ⟨st (inMode .standby []), 1, by decide +kernel⟩

theorem witness_LightingDrivesAsSpecified_5 : ∃ (s : State) (n : Fin 16) (off : SubTick) (_lamps : BitVec 16),
    let c := s.core
    let at_ := c.now + off.val
    c.stopped domLUM = false ∧
    c.held domTIM = false ∧
    periodStart at_ (c.rd LUM_SINK.PERIOD n) (c.rd LUM_SINK.PHASE n) = true ∧
    ((c.sink n).strobe = false ∨ (c.sink n).conducts at_ = false) :=
  ⟨st ((inMode .standby [(LUM_SINK.ENABLE, 3, 1), (LUM_SINK.PERIOD, 3, 8000), (LUM_SINK.IMAX, 3, 100000)]).modSink 3 (fun k => { k with level := 40000, check := some 0 })),
    3, 0, 0,
    by decide +kernel⟩

theorem witness_SinkChecksAsSpecified_0 : ∃ (s : State) (n : Fin 15),
    s.core.stopped domLUM = false ∧
    (s.core.shortTested n (n + 1) = true ∨ s.core.shortTested (n + 1) n = true) ∧
    (s.core.sink n).check = none ∧
    (s.core.sink (n + 1)).check = none ∧
    (s.core.sink n).diag = false ∧
    (s.core.sink (n + 1)).diag = false :=
  ⟨st { (inMode .standby []).modSink 15 (fun k => { k with current := 7, since := 0, onEnd := none }) with now := 10 * usU },
    14,
    by decide +kernel⟩

theorem witness_SinkChecksAsSpecified_1 : ∃ (s : State) (_n : Fin 16),
    s.core.held domLUM = false :=
  ⟨st (inMode .standby [(LUM_SINK_STATE.SHORT_LO, 15, 1), (LUM_SINK_STATE.SHORT_HI, 14, 1)]), 15, by decide +kernel⟩

theorem witness_SinkChecksAsSpecified_2 : ∃ (s : State) (n : Fin 16),
    s.core.stopped domLUM = false ∧
    s.core.rd LUM_SINK_STATE.DIAG_DUE n = 0 ∧
    s.core.rd LUM_GLOBAL.OPENCHK_MAXDEFER * 1000 ≤ s.core.rd LUM_SINK_STATE.SINCE_CHECK n :=
  ⟨st (inMode .standby [(LUM_GLOBAL.OPENCHK_MAXDEFER, 0, 2), (LUM_SINK_STATE.SINCE_CHECK, 4, 2000)]),
    4,
    by decide +kernel⟩

theorem witness_SinkChecksAsSpecified_3 : ∃ (s : State) (n : Fin 16) (off : SubTick) (_held : BitVec 32) (_lamps : BitVec 16),
    let at_ := s.core.now + off.val
    s.core.pulseFits n at_ ∧
    (s.core.sink n).check = none :=
  ⟨st ((inMode .slack [(LUM_SINK.PERIOD, 4, 8000), (LUM_SINK.ENABLE, 4, 1)]).modPilot (fun p => { p with slackWork := [⟨kindDiag, 4, 0, false⟩] })),
    4, 0, 3000, 0x10,
    by decide +kernel⟩

theorem witness_SinkChecksAsSpecified_4 : ∃ (s : State) (n : Fin 15),
    s.core.stopped domLUM = false ∧
    (s.core.shortTested n (n + 1) = true ∨ s.core.shortTested (n + 1) n = true) :=
  ⟨st { (inMode .standby []).modSink 15 (fun k => { k with current := 7, since := 0, onEnd := none }) with now := 10 * usU },
    14,
    by decide +kernel⟩

theorem witness_SinkChecksAsSpecified_5 : ∃ (s : State) (n : Fin 16) (off : SubTick) (_held : BitVec 32) (_lamps : BitVec 16),
    s.core.pulseFits n (s.core.now + off.val) :=
  ⟨st (((inMode .slack [(LUM_SINK.PERIOD, 4, 8000), (LUM_SINK.ENABLE, 4, 1)]).modPilot (fun p => { p with slackWork := [⟨kindDiag, 4, 0, false⟩] })).modSink 4 (fun k => { k with check := some 9 })),
    4, 0, 3000, 0x10,
    by decide +kernel⟩

theorem witness_ShingleFramesAsSpecified_0 : ∃ (s : State) (k : Fin 2),
    let c := s.core
    let q := c.shw (16 + k)
    c.stopped domLUM = false ∧
    c.rd LUM_SHW.ENABLE (16 + k) ≠ 0 ∧
    q.sending = false ∧
    q.updateDue = false ∧
    (q.waiting = true ∨ c.now % (c.rd LUM_SHW.REFRESH (16 + k) * 1000 * usU) = 0) :=
  ⟨st (inMode .standby [(LUM_SHW.ENABLE, 17, 1), (LUM_SHW_STATE.FRAME_NO, 17, 65535)]), 1, by decide +kernel⟩

theorem witness_ShingleFramesAsSpecified_1 : ∃ (s : State) (k : Fin 2),
    let c := s.core
    let q := c.shw (16 + k)
    c.stopped domLUM = false ∧
    c.rd LUM_SHW.ENABLE (16 + k) ≠ 0 ∧
    q.sending = false ∧
    q.updateDue = true :=
  ⟨st ((inMode .standby [(LUM_SHW.ENABLE, 17, 1), (LUM_SHW.DRIVERS, 17, 2), (LUM_SHW.TABLE_ADDR, 17, 64)]).modShw 17 (fun q => { q with updateDue := true })),
    1,
    by decide +kernel⟩

theorem witness_ShingleFramesAsSpecified_2 : ∃ (s : State) (k : Fin 2) (_returned : Bytes),
    let c := s.core
    let q := c.shw (16 + k)
    c.stopped domLUM = false ∧
    q.sending = true ∧
    c.rd LUM_SHW.RTN_EN (16 + k) ≠ 0 :=
  ⟨st ((inMode .standby [(LUM_SHW.RTN_EN, 17, 1)]).modShw 17 (fun q => { q with sending := true })),
    1, [],
    by decide +kernel⟩

theorem witness_ShingleFramesAsSpecified_3 : ∃ (s : State) (k : Fin 2) (_returned : Bytes),
    s.core.stopped domLUM = false ∧
    (s.core.shw (16 + k)).sending = true ∧
    s.core.rd LUM_SHW.RTN_EN (16 + k) = 0 :=
  ⟨st ((inMode .standby []).modShw 17 (fun q => { q with sending := true })), 1, [], by decide +kernel⟩

theorem witness_ShingleFramesAsSpecified_4 : ∃ (s : State) (k : Fin 2),
    let q := s.core.shw (16 + k)
    s.core.stopped domLUM = false ∧
    s.core.rd LUM_SHW.ENABLE (16 + k) ≠ 0 ∧
    q.sending = true ∧
    (q.updateDue = true ∨ q.waiting = true ∨ s.core.now % (s.core.rd LUM_SHW.REFRESH (16 + k) * 1000 * usU) = 0) :=
  ⟨st ((inMode .standby [(LUM_SHW.ENABLE, 17, 1)]).modShw 17 (fun q => { q with sending := true, updateDue := true })),
    1,
    by decide +kernel⟩

end WitLight

namespace WitAxis

def mo (c : Core) (f : Axes → Axes) : Core := { c with mot := f c.mot }
def rc (c : Core) (f : Recoat → Recoat) : Core := mo c (fun m => { m with recoat := f m.recoat })

theorem witness_AxisFaultsAndRecoatSteps_0 : ∃ (s : State) (n : Fin 8),
    s.core.held domMOT = false ∧
    s.core.axState n ≠ axFault :=
  ⟨st (inMode .standby [(MOT_STATE.STATE, 7, 1), (MOT_STATE.VEL, 7, 9)]), 7, by decide +kernel⟩

theorem witness_AxisFaultsAndRecoatSteps_1 : ∃ (s : State) (_n : Fin 8),
    s.core.held domMOT = false :=
  ⟨st ((inMode .standby [(MOT_STATE.STATE, 7, 4)]).modAxis 7 (fun a => { a with mflt := true })),
    7,
    by decide +kernel⟩

theorem witness_AxisFaultsAndRecoatSteps_2 : ∃ (s : State) (n : Fin 8),
    s.core.held domMOT = false ∧
    s.core.axState n ≠ axFault ∧
    s.core.rd MOT_CONFIG.DEV_WIN n ≠ 0 ∧
    (s.core.axis n).devRun ≠ 0 ∧
    s.core.rd MOT_CONFIG.DEV_TICKS n ≤ (s.core.axis n).devRun :=
  ⟨st ((inMode .standby [(MOT_STATE.STATE, 3, 1), (MOT_CONFIG.DEV_WIN, 3, 10), (MOT_CONFIG.DEV_TICKS, 3, 2)]).modAxis 3 (fun a => { a with devRun := 2 })),
    3,
    by decide +kernel⟩

theorem witness_AxisFaultsAndRecoatSteps_3 : ∃ (s : State),
    let r := s.core.mot.recoat
    s.core.held domMOT = false ∧
    r.step = 3 ∧
    r.failed = false ∧
    r.paused = false ∧
    s.core.axArrived (s.core.rd MOT_RECOAT.PLAT_AXIS) = true :=
  ⟨st (rc (inMode .slack [(MOT_STATE.STATE, 0, 1), (MOT_RECOAT.PLAT_AXIS, 0, 0), (MOT_RECOAT.RC_AXIS, 0, 1), (MOT_RECOAT.RC_SETTLE, 0, 65535)]) (fun r => { r with step := 3, done := false })),
    by decide +kernel⟩

theorem witness_AxisFaultsAndRecoatSteps_4 : ∃ (s : State),
    let r := s.core.mot.recoat
    s.core.held domMOT = false ∧
    (r.step = 6 ∨ r.step = 5 ∧ s.core.rd MOT_RECOAT.BIDIR ≠ 0) ∧
    r.failed = false ∧
    r.paused = false ∧
    s.core.axArrived (s.core.rd MOT_RECOAT.RC_AXIS) = true :=
  ⟨st (rc (inMode .slack [(MOT_STATE.STATE, 1, 1), (MOT_RECOAT.PLAT_AXIS, 0, 0), (MOT_RECOAT.RC_AXIS, 0, 1)]) (fun r => { r with step := 6, done := false })),
    by decide +kernel⟩

theorem witness_AxisFaultsAndRecoatSteps_5 : ∃ (s : State) (at_ : Nat),
    let r := s.core.mot.recoat
    let rc := s.core.rd MOT_RECOAT.RC_AXIS
    let far := s.core.rdI MOT_RECOAT.RC_FAR
    s.core.held domMOT = false ∧
    r.step = 4 ∧
    r.paused = false ∧
    r.settleAt = some at_ ∧
    at_ ≤ s.core.ticks ∧
    s.core.rd MOT_RECOAT.BIDIR = 0 ∧
    s.core.beyondLimit rc far = false ∧
    s.core.axState rc ≠ axFault ∧
    s.core.axState rc ≠ axDisabled ∧
    (s.core.axis rc).latch = none :=
  ⟨st (rc (inMode .slack [(MOT_STATE.STATE, 1, 1), (MOT_RECOAT.RC_FAR, 0, 1000), (MOT_CONFIG.LIM_HI, 1, 2000), (MOT_RECOAT.RC_AXIS, 0, 1)]) (fun r => { r with step := 4, done := false, settleAt := some 0 })),
    0,
    by decide +kernel⟩

theorem witness_AxisFaultsAndRecoatSteps_6 : ∃ (s : State) (n : Fin 8),
    s.core.held domMOT = false ∧
    s.core.axState n = axFault :=
  ⟨st ((inMode .standby [(MOT_STATE.STATE, 7, 5)]).modAxis 7 (fun a => { a with causes := [1] })),
    7,
    by decide +kernel⟩

theorem witness_AxisFaultsAndRecoatSteps_7 : ∃ (s : State),
    let r := s.core.mot.recoat
    let rc := s.core.rd MOT_RECOAT.RC_AXIS
    s.core.held domMOT = false ∧
    r.step = 5 ∧
    s.core.rd MOT_RECOAT.BIDIR = 0 ∧
    r.failed = false ∧
    r.paused = false ∧
    s.core.axArrived rc = true :=
  ⟨st (rc (inMode .slack [(MOT_STATE.STATE, 1, 1), (MOT_RECOAT.RC_HOME, 0, 7), (MOT_RECOAT.PLAT_AXIS, 0, 0), (MOT_RECOAT.RC_AXIS, 0, 1)]) (fun r => { r with step := 5, done := false })),
    by decide +kernel⟩

theorem witness_AxisFaultsAndRecoatSteps_8 : ∃ (s : State) (at_ : Nat),
    let r := s.core.mot.recoat
    s.core.held domMOT = false ∧
    r.step = 4 ∧
    r.paused = false ∧
    r.settleAt = some at_ ∧
    at_ ≤ s.core.ticks :=
  ⟨st (rc (inMode .slack [(MOT_STATE.STATE, 1, 1), (MOT_RECOAT.RC_FAR, 0, 1000), (MOT_CONFIG.LIM_EN, 1, 1), (MOT_CONFIG.LIM_HI, 1, 20), (MOT_RECOAT.RC_AXIS, 0, 1)]) (fun r => { r with step := 4, done := false, settleAt := some 0 })),
    0,
    by decide +kernel⟩

theorem witness_PositionInputsCount_0 : ∃ (s : State) (i : Fin 8) (a : Bool) (b : Bool) (_z : Bool) (lasts : BitVec 8) (_off : SubTick),
    let x := s.core.mot.incs.getD i IncIn.init
    s.core.held domMOT = false ∧
    s.core.rd PFI_INC.FILT i ≤ lasts.toNat ∧
    x.index = false ∧
    x.a ≠ a ∧
    x.b ≠ b :=
  ⟨st (inMode .standby []), 7, true, true, true, 255, 0, by decide +kernel⟩

theorem witness_PositionInputsCount_1 : ∃ (s : State) (i : Fin 8) (a : Bool) (b : Bool) (_z : Bool) (lasts : BitVec 8) (_off : SubTick),
    let x := s.core.mot.incs.getD i IncIn.init
    s.core.held domMOT = false ∧
    s.core.rd PFI_INC.FILT i ≤ lasts.toNat ∧
    x.index = false ∧
    (x.a != a) ≠ (x.b != b) ∧
    (∀ u : Fin 8, s.core.rd PFI_CMP.SRC u ≠ i) :=
  ⟨st (inMode .standby [(PFI_CMP.SRC, 0, 1), (PFI_CMP.SRC, 1, 1), (PFI_CMP.SRC, 2, 1), (PFI_CMP.SRC, 3, 1), (PFI_CMP.SRC, 4, 1), (PFI_CMP.SRC, 5, 1), (PFI_CMP.SRC, 6, 1), (PFI_CMP.SRC, 7, 1)]),
    0, false, true, false, 255, 0,
    by decide +kernel⟩

theorem witness_PositionInputsCount_2 : ∃ (s : State) (i : Fin 8),
    let x := s.core.mot.incs.getD i IncIn.init
    let d := (posDiff (s.core.rdI PFI_INC_STATE.POS i) (s.core.rdI PFI_INC_STATE.IDX_POS i)).natAbs
    let lines := s.core.rd PFI_INC.LINES i
    s.core.held domMOT = false ∧
    x.index = true ∧
    lines ≠ 0 ∧
    x.prevIndex = true ∧
    x.turned = false ∧
    s.core.rd PFI_INC.ZERO_MODE i = 0 ∧
    ((d : Int) - 4 * lines).natAbs ≤ s.core.rd PFI_INC.TOL i :=
  ⟨st (mo (inMode .standby [(PFI_INC_STATE.POS, 0, 400), (PFI_INC.LINES, 0, 100)]) (fun m => { m with incs := [⟨true, true, false, true, true, true, false⟩] })),
    0,
    by decide +kernel⟩

theorem witness_PositionInputsCount_3 : ∃ (s : State) (i : Fin 8),
    let x := s.core.mot.incs.getD i IncIn.init
    let d := (posDiff (s.core.rdI PFI_INC_STATE.POS i) (s.core.rdI PFI_INC_STATE.IDX_POS i)).natAbs
    let lines := s.core.rd PFI_INC.LINES i
    s.core.held domMOT = false ∧
    x.index = true ∧
    lines ≠ 0 ∧
    x.prevIndex = true ∧
    x.turned = false ∧
    s.core.rd PFI_INC.ZERO_MODE i = 0 ∧
    s.core.rd PFI_INC.TOL i < ((d : Int) - 4 * lines).natAbs ∧
    min (s.core.rd PFI_INC_STATE.MISS_RUN i + 1) 15 < s.core.rd PFI_INC.MISMATCH_MAX i :=
  ⟨st (mo (inMode .standby [(PFI_INC_STATE.POS, 0, 403), (PFI_INC.TOL, 0, 2), (PFI_INC.LINES, 0, 100), (PFI_INC.MISMATCH_MAX, 0, 3)]) (fun m => { m with incs := [⟨true, true, false, true, true, true, false⟩] })),
    0,
    by decide +kernel⟩

theorem witness_PositionInputsCount_4 : ∃ (s : State) (j : Fin 4),
    s.core.held domMOT = false ∧
    s.core.rd PFI_SSI.ENABLE j ≠ 0 ∧
    (s.core.ssi j).busy = false ∧
    s.core.rd PFI_SSI.RATE_DIV j ≤ (s.core.ssi j).div :=
  ⟨st ((inMode .standby [(PFI_SSI.ENABLE, 3, 1), (PFI_SSI.RATE_DIV, 3, 2)]).modSsi 3 (fun x => { x with div := 2 })),
    3,
    by decide +kernel⟩

theorem witness_PositionInputsCount_5 : ∃ (s : State) (j : Fin 4) (_raw : BitVec 32) (_off : SubTick),
    let n := s.core.rd PFI_SSI.BITS j
    s.core.held domMOT = false ∧
    (s.core.ssi j).busy = true ∧
    (s.core.ssi j).prev = none ∧
    n ≤ 32 ∧
    s.core.rd PFI_SSI.GRAY j = 0 ∧
    (∀ u : Fin 8, s.core.rd PFI_CMP.SRC u ≠ 8 + j) :=
  ⟨st ((inMode .standby [(PFI_SSI.ENABLE, 3, 1), (PFI_SSI.GRAY, 3, 0), (PFI_SSI.BITS, 3, 12)]).modSsi 3 (fun x => { x with busy := true, errRun := 2 })),
    3, 0xFFFFFFFF, 0,
    by decide +kernel⟩

theorem witness_PositionInputsCount_6 : ∃ (s : State) (j : Fin 4) (_raw : BitVec 32) (first : Bool) (last : Bool) (_off : SubTick),
    s.core.held domMOT = false ∧
    (s.core.ssi j).busy = true ∧
    (first = false ∨ last = true) ∧
    (s.core.ssi j).errRun + 1 < s.core.rd PFI_SSI.ERR_MAX j :=
  ⟨st ((inMode .standby [(PFI_SSI.ENABLE, 3, 1), (PFI_SSI.ERR_MAX, 3, 12)]).modSsi 3 (fun x => { x with busy := true, errRun := 10 })),
    3, 0xFFFFFFFF, true, true, 0,
    by decide +kernel⟩

theorem witness_PositionInputsCount_7 : ∃ (s : State) (i : Fin 8) (_a : Bool) (_b : Bool) (_z : Bool) (lasts : BitVec 8) (_off : SubTick),
    s.core.held domMOT = false ∧
    s.core.rd PFI_INC.FILT i ≤ lasts.toNat :=
  ⟨st (inMode .standby [(PFI_CMP.SRC, 0, 7)]), 7, true, false, true, 255, 3, by decide +kernel⟩

theorem witness_PositionInputsCount_8 : ∃ (s : State) (i : Fin 8),
    s.core.held domMOT = false ∧
    (s.core.mot.incs.getD i IncIn.init).index = true :=
  ⟨st (mo (inMode .standby [(PFI_INC_STATE.POS, 0, 403), (PFI_INC.TOL, 0, 2), (PFI_INC.LINES, 0, 100), (PFI_INC.ZERO_MODE, 0, 2), (PFI_INC.MISMATCH_MAX, 0, 1)]) (fun m => { m with incs := [⟨true, true, false, true, true, true, false⟩] })),
    0,
    by decide +kernel⟩

theorem witness_PositionInputsCount_9 : ∃ (s : State) (j : Fin 4) (_raw : BitVec 32) (_first : Bool) (_last : Bool) (_off : SubTick),
    s.core.held domMOT = false ∧
    (s.core.ssi j).busy = true :=
  ⟨st ((inMode .standby [(PFI_SSI.ENABLE, 3, 1), (PFI_SSI.ERR_MAX, 3, 2), (PFI_SSI.BITS, 3, 12)]).modSsi 3 (fun x => { x with busy := true, errRun := 2 })),
    3, 0xFFFFFFFF, false, false, 0,
    by decide +kernel⟩

theorem witness_CompareUnitsArmAndClear_0 : ∃ (s : State) (u : Fin 8),
    let bs := readBytesUnder s.dram [] (s.core.rd PFI_CMP.LIST_ADDR u) (8 * s.core.rd PFI_CMP.LIST_COUNT u)
    s.core.held domMOT = false ∧
    s.core.rd PFI_CMP.ARM u = 0 ∧
    cmpListOk bs (s.core.rd PFI_CMP.LIST_CRC u) = true ∧
    s.core.inputDir (s.core.rd PFI_CMP.SRC u) = 0 :=
  ⟨{ st (inMode .standby [(PFI_CMP.LIST_COUNT, 7, 1), (PFI_CMP.LIST_ADDR, 7, 4096), (PFI_CMP.LOG_ADDR, 7, 8192), (PFI_CMP.LIST_CRC, 7, crc32c (leBytes 8 0x100000005))]) with dram := Mem.writeBytes [] 4096 (leBytes 8 0x100000005) },
    7,
    by decide +kernel⟩

theorem witness_CompareUnitsArmAndClear_1 : ∃ (s : State) (u : Fin 8),
    s.core.held domMOT = false ∧
    s.core.rd PFI_CMP.ARM u = 0 ∧
    cmpListOk (readBytesUnder s.dram [] (s.core.rd PFI_CMP.LIST_ADDR u) (8 * s.core.rd PFI_CMP.LIST_COUNT u)) (s.core.rd PFI_CMP.LIST_CRC u) = false :=
  ⟨st (inMode .standby [(PFI_CMP.LIST_COUNT, 7, 1), (PFI_CMP.LIST_CRC, 7, 9)]), 7, by decide +kernel⟩

theorem witness_CompareUnitsArmAndClear_2 : ∃ (s : State) (_i : Fin 8),
    s.core.held domMOT = false :=
  ⟨st (inMode .standby [(PFI_INC_STATE.IDX_STICKY, 7, 1), (PFI_INC_STATE.MISS_RUN, 7, 3)]), 7, by decide +kernel⟩

theorem witness_CompareUnitsArmAndClear_3 : ∃ (s : State) (_i : Fin 8),
    s.core.held domMOT = false :=
  ⟨st (inMode .standby [(PFI_INC_STATE.FAULT, 7, 1), (PFI_INC_STATE.MISS_RUN, 7, 3)]), 7, by decide +kernel⟩

theorem witness_CompareUnitsArmAndClear_4 : ∃ (s : State) (_j : Fin 4),
    s.core.held domMOT = false :=
  ⟨st ((inMode .standby [(PFI_SSI_STATE.FAULT, 3, 1)]).modSsi 3 (fun x => { x with errRun := 9 })),
    3,
    by decide +kernel⟩

theorem witness_CompareUnitsArmAndClear_5 : ∃ (s : State) (_u : Fin 8),
    s.core.held domMOT = false :=
  ⟨st (inMode .standby [(PFI_CMP_STATE.MISSED_STICKY, 7, 1)]), 7, by decide +kernel⟩

theorem witness_CompareUnitsArmAndClear_6 : ∃ (s : State) (u : Fin 8),
    let bs := readBytesUnder s.dram [] (s.core.rd PFI_CMP.LIST_ADDR u) (8 * s.core.rd PFI_CMP.LIST_COUNT u)
    s.core.held domMOT = false ∧
    s.core.rd PFI_CMP.ARM u = 0 ∧
    cmpListOk bs (s.core.rd PFI_CMP.LIST_CRC u) = true :=
  ⟨{ st (inMode .standby [(PFI_CMP.LIST_COUNT, 7, 1), (PFI_CMP.SRC, 7, 2), (PFI_INC_STATE.DIR, 2, 1), (PFI_CMP.LIST_ADDR, 7, 4096), (PFI_CMP.LOG_ADDR, 7, 8192), (PFI_CMP.LIST_CRC, 7, crc32c (leBytes 8 0x100000005))]) with dram := Mem.writeBytes [] 4096 (leBytes 8 0x100000005) },
    7,
    by decide +kernel⟩

end WitAxis

namespace WitTime

def ti (c : Core) (f : Tim → Tim) : Core := { c with tim := f c.tim }

theorem witness_MeasurementsRunTheServo_0 : ∃ (s : State) (q : Fin 2000),
    let at_ := s.core.now + q.val * 16384
    let theta : Int := (at_ : Int) - ((at_ + secU / 2) / secU * secU : Nat) - s.core.rdI TIM_CONFIG.PPS_IN_DELAY * 256
    s.core.tim.ppsLast.all (fun l => decide (l + secU / 2 ≤ at_)) = true ∧
    s.core.rd TIM_STATE.EFF_SRC = 1 ∧
    s.core.byRateAlone theta :=
  ⟨st (ti { inMode .standby [(TIM_STATE.EFF_SRC, 0, 1), (TIM_STATE.STATE, 0, tsLocking)] with now := 1000 * secU } (fun t => { t with measured := true, ppsLast := some (999 * secU) })),
    1999,
    by decide +kernel⟩

theorem witness_MeasurementsRunTheServo_1 : ∃ (s : State) (q : Fin 2000),
    let at_ := s.core.now + q.val * 16384
    let theta : Int := (at_ : Int) - ((at_ + secU / 2) / secU * secU : Nat) - s.core.rdI TIM_CONFIG.PPS_IN_DELAY * 256
    s.core.held domTIM = false ∧
    s.core.tim.ppsLast = none ∧
    s.core.rd TIM_STATE.EFF_SRC = 1 ∧
    s.core.tim.measured = false ∧
    s.core.tim.stepAt = none ∧
    s.core.rd TIM_STATE.STEP_ARMED = 1 ∧
    s.core.rd TIM_CONFIG.STEP_THRESH * usU < theta.natAbs ∧
    s.core.stepAllowed = true :=
  ⟨st { inMode .standby [(TIM_STATE.EFF_SRC, 0, 1), (TIM_STATE.STEP_ARMED, 0, 1)] with now := 1000 * secU + secU / 4 },
    1999,
    by decide +kernel⟩

theorem witness_MeasurementsRunTheServo_2 : ∃ (s : State) (q : Fin 2000) (l : Time),
    s.core.tim.ppsLast = some l ∧
    s.core.now + q.val * 16384 < l + secU / 2 :=
  ⟨st (ti { inMode .standby [(TIM_STATE.EFF_SRC, 0, 1)] with now := 1000 * secU } (fun t => { t with ppsLast := some (1000 * secU) })),
    1999, 1000 * secU,
    by decide +kernel⟩

theorem witness_MeasurementsRunTheServo_3 : ∃ (s : State) (ident : BitVec 64) (sec : BitVec 48) (ns : BitVec 32) (corr : BitVec 64) (logInt : BitVec 8) (off : SubTick) (utc : Nat),
    let diff : Int := ((s.core.ingress 0 (s.core.now + off.val) : Nat) : Int) - (mkTime sec.toNat ns.toNat 0 : Nat) -
    corr.toInt
    s.core.rd TIM_STATE.EFF_SRC = 2 ∧
    s.core.tim.master = some (ident.toNat, utc) ∧
    logInt.toInt = -3 ∧
    s.core.byRateAlone (diff - s.core.tim.pathDelay.1) :=
  ⟨st (ti { inMode .standby [(TIM_STATE.EFF_SRC, 0, 2), (TIM_STATE.STATE, 0, tsLocking)] with now := 1000 * secU } (fun t => { t with measured := true, master := some (77, 37) })),
    77, 1000, 500, 65536, 0xFD, 32767999, 37,
    by decide +kernel⟩

theorem witness_MeasurementsRunTheServo_4 : ∃ (s : State) (bells : List (Fin 3 × BitVec 32)) (th : Int) (mean : Int),
    s.core.rd TIM_STATE.EFF_SRC = 3 ∧
    s.core.now % (1000 * usU) = 0 ∧
    s.core.tim.linkTheta = some th ∧
    s.core.bellMean (bells.map (fun b => (b.1.val, b.2.toInt))) = some mean ∧
    s.core.byRateAlone (roundDiv (th - mean) usU * usU + mean) :=
  ⟨st (ti { inMode .standby [(TIM_STATE.EFF_SRC, 0, 3), (TIM_STATE.STATE, 0, tsLocking)] with now := 1000 * secU } (fun t => { t with measured := true, linkTheta := some 70000 })),
    [(1, 0xFFFFFF00), (1, 0xFFFFFE00), (0, 5)], 70000, -384,
    by decide +kernel⟩

theorem witness_MeasurementsRunTheServo_5 : ∃ (s : State) (_sec : BitVec 48) (_ns : BitVec 32) (_corr : BitVec 64) (_off : SubTick),
    s.core.held domTIM = false ∧
    s.core.rd TIM_STATE.EFF_SRC = 3 :=
  ⟨st { inMode .standby [(TIM_STATE.EFF_SRC, 0, 3)] with now := 1000 * secU },
    1000, 5, 0, 32767999,
    by decide +kernel⟩

theorem witness_MeasurementsRunTheServo_6 : ∃ (s : State),
    let src := s.core.rd TIM_STATE.EFF_SRC
    let every := if src = 1 then 1000 * ticksPerMs else if src = 2 then s.core.tim.syncInt else ticksPerMs
    s.core.held domTIM = false ∧
    src ≠ 0 ∧
    s.core.timState ∈ [tsAcquiring, tsStepWait, tsLocking, tsLocked] ∧
    s.core.tim.measAt + 3 * every ≤ s.core.ticks :=
  ⟨st (ti { inMode .standby [(TIM_STATE.EFF_SRC, 0, 1), (TIM_STATE.STATE, 0, tsLocked)] with ticks := 3000 * ticksPerMs } (fun t => { t with measured := true })),
    by decide +kernel⟩

theorem witness_MeasurementsRunTheServo_7 : ∃ (s : State) (v : Fin 3),
    s.core.held domTIM = false ∧
    s.core.rd TIM_CONFIG.SRC ≠ v ∧
    s.core.isStandby = false ∧
    (s.core.inCascade = false ∨ s.core.isLead = true) :=
  ⟨st (inMode .standby []), 2, by decide +kernel⟩

theorem witness_MeasurementsRunTheServo_8 : ∃ (s : State),
    s.core.held domTIM = false ∧
    s.core.rd TIM_CONFIG.PPS_OUT_EN = 1 ∧
    s.core.rd TIM_STATE.TIME_VALID = 1 ∧
    s.core.now % secU = 0 ∧
    s.core.tim.ppsAt ≠ some s.core.ticks :=
  ⟨st { inMode .standby [(TIM_CONFIG.PPS_OUT_EN, 0, 1), (TIM_STATE.TIME_VALID, 0, 1)] with now := 5 * secU, ticks := 1 },
    by decide +kernel⟩

theorem witness_MeasurementsRunTheServo_9 : ∃ (s : State) (q : Fin 2000),
    let at_ := s.core.now + q.val * 16384
    s.core.held domTIM = false ∧
    s.core.tim.ppsLast.all (fun l => decide (l + secU / 2 ≤ at_)) = true :=
  ⟨st (ti { inMode .standby [(TIM_STATE.EFF_SRC, 0, 1), (TIM_STATE.STATE, 0, tsLocked), (TIM_CONFIG.STEP_THRESH, 0, 5)] with now := 1000 * secU + secU / 4 } (fun t => { t with goodRun := 30 })),
    7,
    by decide +kernel⟩

theorem witness_MeasurementsRunTheServo_10 : ∃ (s : State) (ident : BitVec 64) (_sec : BitVec 48) (_ns : BitVec 32) (_corr : BitVec 64) (_logInt : BitVec 8) (_off : SubTick) (utc : Nat),
    s.core.held domTIM = false ∧
    s.core.rd TIM_STATE.EFF_SRC = 2 ∧
    s.core.tim.master = some (ident.toNat, utc) :=
  ⟨st (ti { inMode .expose [(TIM_STATE.EFF_SRC, 0, 2), (TIM_STATE.STATE, 0, tsLocked)] with now := 1000 * secU } (fun t => { t with master := some (77, 37) })),
    77, 1000, 500, 65536, 0x7F, 32767999, 37,
    by decide +kernel⟩

theorem witness_MeasurementsRunTheServo_11 : ∃ (s : State) (bells : List (Fin 3 × BitVec 32)) (th : Int) (mean : Int),
    s.core.held domTIM = false ∧
    s.core.rd TIM_STATE.EFF_SRC = 3 ∧
    s.core.now % (1000 * usU) = 0 ∧
    s.core.tim.linkTheta = some th ∧
    s.core.bellMean (bells.map (fun b => (b.1.val, b.2.toInt))) = some mean :=
  ⟨st (ti { inMode .expose [(TIM_STATE.EFF_SRC, 0, 3), (TIM_STATE.STATE, 0, tsHoldover)] with now := 1000 * secU } (fun t => { t with linkTheta := some 70000 })),
    [(1, 0xFFFFFF00), (1, 0xFFFFFE00), (0, 5)], 70000, -384,
    by decide +kernel⟩

theorem witness_MeasurementsRunTheServo_12 : ∃ (s : State) (v : Fin 3),
    s.core.held domTIM = false ∧
    s.core.rd TIM_CONFIG.SRC ≠ v :=
  ⟨st (inMode .standby [(TWN_STATE.ROLE, 0, 2), (TIM_STATE.EFF_SRC, 0, 3)]), 2, by decide +kernel⟩

theorem witness_PtpMessagesAsSpecified_0 : ∃ (s : State) (_off : SubTick),
    s.core.grandmaster = true ∧
    s.core.tim.txq.length < 256 :=
  ⟨st { inMode .standby [(TIM_STATE.TIME_VALID, 0, 1), (TIM_PTP.TWO_STEP, 0, 1)] with now := 5 * secU },
    32767999,
    by decide +kernel⟩

theorem witness_PtpMessagesAsSpecified_1 : ∃ (s : State) (_off : SubTick),
    s.core.grandmaster = true :=
  ⟨st { inMode .standby [(TIM_STATE.TIME_VALID, 0, 1)] with now := 5 * secU }, 0, by decide +kernel⟩

theorem witness_PtpMessagesAsSpecified_2 : ∃ (s : State) (_seq : BitVec 16) (dom : BitVec 8) (_off : SubTick),
    s.core.grandmaster = true ∧
    dom.toNat = s.core.rd TIM_PTP.MACH_DOM ∧
    s.core.rd TIM_PTP.MACH_MECH = 0 :=
  ⟨st { inMode .standby [(TIM_STATE.TIME_VALID, 0, 1), (TIM_PTP.MACH_DOM, 0, 255), (TIM_PTP.MACH_MECH, 0, 0)] with now := 5 * secU },
    65535, 255, 32767999,
    by decide +kernel⟩

theorem witness_PtpMessagesAsSpecified_3 : ∃ (s : State) (_seq : BitVec 16) (dom : BitVec 8) (_off : SubTick),
    s.core.grandmaster = true ∧
    dom.toNat = s.core.rd TIM_PTP.MACH_DOM ∧
    s.core.rd TIM_PTP.MACH_MECH = 1 ∧
    s.core.tim.txq.length < 256 :=
  ⟨st { inMode .standby [(TIM_STATE.TIME_VALID, 0, 1), (TIM_PTP.MACH_DOM, 0, 255), (TIM_PTP.MACH_MECH, 0, 1)] with now := 5 * secU },
    65535, 255, 32767999,
    by decide +kernel⟩

theorem witness_PtpMessagesAsSpecified_4 : ∃ (s : State) (_ident : BitVec 64),
    s.core.grandmaster = true :=
  ⟨st (inMode .standby [(TIM_STATE.TIME_VALID, 0, 1)]), 99, by decide +kernel⟩

theorem witness_PtpMessagesAsSpecified_5 : ∃ (s : State) (_port : Fin 2) (dom : BitVec 8) (_ident : BitVec 80) (_seq : BitVec 16) (_corr : BitVec 64) (_off : SubTick) (_res : BitVec 32),
    s.core.held domTIM = false ∧
    s.core.rd TIM_PTP.TC_EN = 1 ∧
    s.core.actsActive = true ∧
    dom.toNat = s.core.rd TIM_PTP.PLANT_DOM ∧
    s.core.tim.txq.length < 256 :=
  ⟨st { inMode .standby [(TIM_PTP.TC_EN, 0, 1)] with now := 5 * secU },
    1, 0, 0x123456789, 65535, 0xFFFFFFFFFFFFFFFF, 32767999, 0xFFFFFFF,
    by decide +kernel⟩

theorem witness_PtpMessagesAsSpecified_6 : ∃ (s : State) (_port : Fin 2) (dom : BitVec 8) (ident : BitVec 80) (seq : BitVec 16) (_corr : BitVec 64) (_off : SubTick) (_res : BitVec 32) (kept : Nat),
    s.core.held domTIM = false ∧
    s.core.rd TIM_PTP.TC_EN = 1 ∧
    s.core.actsActive = true ∧
    dom.toNat = s.core.rd TIM_PTP.PLANT_DOM ∧
    s.core.tim.twoStep = [(ident.toNat, seq.toNat, kept)] :=
  ⟨st (ti (inMode .standby [(TIM_PTP.TC_EN, 0, 1)]) (fun t => { t with twoStep := [(5, 65535, 88)] })),
    1, 0, 5, 65535, 0xFFFFFFFFFFFFFFFF, 32767999, 0, 88,
    by decide +kernel⟩

theorem witness_PtpMessagesAsSpecified_7 : ∃ (s : State) (e : TxStamp) (l : List TxStamp),
    s.core.held domTIM = false ∧
    s.core.tim.txq = e :: l ∧
    e.port < 2 ∧
    e.msgType < 16 ∧
    e.domain < 2 ^ 8 ∧
    e.id < 2 ^ 16 ∧
    e.seq < 2 ^ 16 ∧
    timeSec e.at_ < 2 ^ 64 :=
  ⟨st (ti (inMode .standby []) (fun t => { t with txq := [⟨65535, 1, 15, 255, 65535, 5 * secU + 7⟩, ⟨0, 0, 0, 0, 0, 0⟩] })),
    ⟨65535, 1, 15, 255, 65535, 5 * secU + 7⟩, [⟨0, 0, 0, 0, 0, 0⟩],
    by decide +kernel⟩

theorem witness_PtpMessagesAsSpecified_8 : ∃ (s : State) (ident : BitVec 64) (_utc : BitVec 16) (rank : List (BitVec 64)) (m : Nat) (u : Nat),
    let ranks := rank.map BitVec.toNat
    s.core.held domTIM = false ∧
    s.core.rd TIM_CONFIG.SRC = 2 ∧
    s.core.tim.master = some (m, u) ∧
    m ≠ ident.toNat ∧
    rankBetter ranks s.core.tim.masterRank = true :=
  ⟨st (ti (inMode .standby [(TIM_CONFIG.SRC, 0, 2), (TIM_STATE.EFF_SRC, 0, 2)]) (fun t => { t with master := some (9, 3), masterRank := [5, 6] })),
    77, 37, [5, 4], 9, 3,
    by decide +kernel⟩

theorem witness_PtpMessagesAsSpecified_9 : ∃ (s : State) (ident : BitVec 64) (_utc : BitVec 16) (rank : List (BitVec 64)) (m : Nat) (u : Nat),
    s.core.tim.master = some (m, u) ∧
    m ≠ ident.toNat ∧
    rankBetter (rank.map BitVec.toNat) s.core.tim.masterRank = false :=
  ⟨st (ti (inMode .standby [(TIM_CONFIG.SRC, 0, 2), (TIM_STATE.EFF_SRC, 0, 2)]) (fun t => { t with master := some (9, 3), masterRank := [5, 3] })),
    77, 37, [5, 4], 9, 3,
    by decide +kernel⟩

theorem witness_PtpMessagesAsSpecified_10 : ∃ (s : State) (seq : BitVec 16) (_sec : BitVec 48) (_ns : BitVec 32) (_turn : BitVec 32) (_corr : BitVec 64) (_off : SubTick) (t3 : Time),
    s.core.held domTIM = false ∧
    s.core.rd TIM_PTP.PLANT_MECH = 0 ∧
    s.core.tim.delayOut = [(0, seq.toNat, t3)] :=
  ⟨st (ti (inMode .standby [(TIM_STATE.EFF_SRC, 0, 2)]) (fun t => { t with syncDiff := (1000, 0), delayOut := [(0, 65535, 4 * secU)] })),
    65535, 4, 999999999, 0, 5, 0, 4 * secU,
    by decide +kernel⟩

theorem witness_PtpMessagesAsSpecified_11 : ∃ (s : State) (_off : SubTick),
    s.core.held domTIM = false ∧
    s.core.rd TIM_STATE.EFF_SRC = 2 ∧
    s.core.tim.txq.length < 256 :=
  ⟨st { inMode .standby [(TIM_STATE.EFF_SRC, 0, 2)] with now := 5 * secU }, 32767999, by decide +kernel⟩

theorem witness_PtpMessagesAsSpecified_12 : ∃ (s : State) (_off : SubTick),
    s.core.grandmaster = true :=
  ⟨st (ti { inMode .standby [(TIM_STATE.TIME_VALID, 0, 1), (TIM_CONFIG.LEGACY_TXQ, 0, 1)] with now := 5 * secU } (fun t => { t with syncSeq := 65535, txq := List.replicate 256 ⟨0, 0, 0, 0, 0, 0⟩ })),
    32767999,
    by decide +kernel⟩

theorem witness_PtpMessagesAsSpecified_13 : ∃ (s : State) (_seq : BitVec 16) (dom : BitVec 8) (_off : SubTick),
    s.core.grandmaster = true ∧
    dom.toNat = s.core.rd TIM_PTP.MACH_DOM ∧
    s.core.rd TIM_PTP.MACH_MECH = 1 :=
  ⟨st { inMode .standby [(TIM_PTP.MACH_DOM, 0, 255), (TIM_PTP.MACH_MECH, 0, 1)] with now := 5 * secU },
    65535, 255, 32767999,
    by decide +kernel⟩

theorem witness_PtpMessagesAsSpecified_14 : ∃ (s : State) (_port : Fin 2) (_seq : BitVec 16) (dom : BitVec 8) (_off : SubTick),
    s.core.held domTIM = false ∧
    s.core.actsActive = true ∧
    s.core.rd TIM_PTP.TC_EN = 1 ∧
    s.core.rd TIM_PTP.PLANT_MECH = 1 ∧
    dom.toNat = s.core.rd TIM_PTP.PLANT_DOM :=
  ⟨st { inMode .standby [(TIM_PTP.TC_EN, 0, 1), (TIM_PTP.PLANT_MECH, 0, 1)] with now := 5 * secU },
    0, 65535, 0, 32767999,
    by decide +kernel⟩

theorem witness_PtpMessagesAsSpecified_15 : ∃ (s : State) (_port : Fin 2) (ty : BitVec 4) (dom : BitVec 8) (_ident : BitVec 80) (_seq : BitVec 16) (_twoStep : Bool) (_corr : BitVec 64) (_off : SubTick) (_res : BitVec 32),
    s.core.held domTIM = false ∧
    s.core.rd TIM_PTP.TC_EN = 1 ∧
    s.core.actsActive = true ∧
    dom.toNat = s.core.rd TIM_PTP.PLANT_DOM ∧
    ty ∉ [2#4, 3#4, 10#4] :=
  ⟨st { inMode .standby [(TIM_PTP.TC_EN, 0, 1)] with now := 5 * secU },
    1, 1, 0, 0x123456789, 65535, true, 0x7FFFFFFFFFFFFFFF, 32767999, 0xFFFFFFF,
    by decide +kernel⟩

theorem witness_PtpMessagesAsSpecified_16 : ∃ (s : State) (ident : BitVec 64) (_utc : BitVec 16) (rank : List (BitVec 64)),
    s.core.held domTIM = false ∧
    s.core.rd TIM_CONFIG.SRC = 2 ∧
    s.core.tim.master.all (fun m => m.1 == ident.toNat || rankBetter (rank.map BitVec.toNat) s.core.tim.masterRank) = true :=
  ⟨st (inMode .standby [(TIM_CONFIG.SRC, 0, 2)]), 77, 37, [5, 4], by decide +kernel⟩

theorem witness_PtpMessagesAsSpecified_17 : ∃ (s : State) (port : Fin 2) (seq : BitVec 16) (_sec : BitVec 48) (_ns : BitVec 32) (_turn : BitVec 32) (_corr : BitVec 64) (_off : SubTick) (t3 : Time),
    s.core.held domTIM = false ∧
    s.core.tim.delayOut.find? (fun e => e.1 == port.val && e.2.1 == seq.toNat) = some (port.val, seq.toNat, t3) :=
  ⟨st (ti { inMode .standby [(TIM_STATE.EFF_SRC, 0, 3), (TIM_PTP.MACH_MECH, 0, 1)] with now := 5 * secU } (fun t => { t with delayOut := [(0, 5, 9), (1, 65535, 4 * secU)] })),
    1, 65535, 4, 999999999, 7, 5, 0, 4 * secU,
    by decide +kernel⟩

theorem witness_PtpMessagesAsSpecified_18 : ∃ (s : State) (port : Fin 2) (_off : SubTick),
    s.core.held domTIM = false ∧
    ((s.core.rd TIM_STATE.EFF_SRC = 3 ∧ port = 1) ∨ (s.core.rd TIM_STATE.EFF_SRC = 2 ∧ port = 0) ∨ (s.core.rd TIM_PTP.TC_EN = 1 ∧ s.core.rd TIM_PTP.PLANT_MECH = 1 ∧ s.core.actsActive = true)) :=
  ⟨st (ti { inMode .standby [(TIM_STATE.EFF_SRC, 0, 3)] with now := 5 * secU } (fun t => { t with delaySeq := 65535 })),
    1, 0,
    by decide +kernel⟩

theorem witness_PtpMessagesAsSpecified_19 : ∃ (s : State) (e : TxStamp) (l : List TxStamp),
    s.core.held domTIM = false ∧
    s.core.tim.txq = e :: l :=
  ⟨st (ti (inMode .standby []) (fun t => { t with txq := [⟨65535, 1, 15, 255, 65535, 5 * secU + 7⟩] })),
    ⟨65535, 1, 15, 255, 65535, 5 * secU + 7⟩, [],
    by decide +kernel⟩

end WitTime

namespace WitMemory

def dr (c : Core) (f : Drc → Drc) : Core := { c with drc := f c.drc }
def lane : LaneResult := ⟨List.replicate 39 50#8 ++ [30#8], List.replicate 40 60#8, true⟩
def badLane : LaneResult := ⟨List.replicate 39 50#8 ++ [3#8], 0#8 :: List.replicate 39 60#8, false⟩
def tr (l : LaneResult) (bad : Bool) : TrainResult := ⟨bad, false, true, 0, 64, 4, 4, 77, lane, lane, lane, l⟩
def logSt (r : LogRec) : State := { st { inMode .expose [(DRC_STATE.TRAINED, 0, 1), (DRC_STATE.HOST_MIB, 0, 64), (REC_STATE.REC_BASE, 0, 2 ^ 22), (REC_CONFIG.REC_SIZE, 0, 64)] with log := { LogBook.init with rec_ := some r } } with dram := [(2 ^ 22 + 63, 7#8)] }
def rec1 : LogRec := ⟨2 ^ 22, 1, 0, 3, 7, 9, 2, 5, 4, 0, 0, [1#8, 2#8], false⟩

theorem witness_DramIsTrainedRefreshedAndScrubbed_0 : ∃ (s : State) (r : TrainResult),
    s.core.held domMEM = false ∧
    s.core.rd DRC_STATE.TRAINED = 0 ∧
    s.core.drc.trainFailed = false ∧
    s.core.cfgBad r = false ∧
    (∀ (n : Fin 4) (k : Fin 40), s.core.rd DRC_CONFIG.MIN_EYE ≤ (windows (trainLane r n).rd).getD k 0 ∧ s.core.rd DRC_CONFIG.MIN_EYE ≤ (windows (trainLane r n).wr).getD k 0) ∧
    s.core.logWriting = true :=
  ⟨{ st { inMode .bringup [] with log := { LogBook.init with rec_ := some rec1 } } with dram := [(5, 7#8)] },
    tr lane false,
    by decide +kernel⟩

theorem witness_DramIsTrainedRefreshedAndScrubbed_1 : ∃ (s : State) (r : TrainResult),
    s.core.held domMEM = false ∧
    s.core.rd DRC_STATE.TRAINED = 0 ∧
    s.core.drc.trainFailed = false ∧
    s.core.cfgBad r = true :=
  ⟨st (inMode .bringup []), tr lane true, by decide +kernel⟩

theorem witness_DramIsTrainedRefreshedAndScrubbed_2 : ∃ (s : State) (r : TrainResult),
    let sig := s.core.drcSignature r
    let bad (n : Nat) := s.core.failedLanes (trainLane r n) (s.core.storedTraining n sig && (trainLane r n).verified)
    s.core.held domMEM = false ∧
    s.core.rd DRC_STATE.TRAINED = 0 ∧
    s.core.drc.trainFailed = false ∧
    s.core.cfgBad r = false ∧
    (∃ n : Fin 4, bad n ≠ []) :=
  ⟨st (inMode .bringup []), tr badLane false, by decide +kernel⟩

theorem witness_DramIsTrainedRefreshedAndScrubbed_3 : ∃ (s : State),
    s.core.held domMEM = false ∧
    s.core.rd DRC_STATE.TRAINED = 1 ∧
    s.core.rd DRC_STATE.INIT_DONE = 0 ∧
    s.core.rd DRC_STATE.PHASE ≠ drcTest ∧
    s.core.drc.recoverLeft = none ∧
    s.core.hbr.cal.run = none :=
  ⟨st (inMode .standby [(DRC_STATE.TRAINED, 0, 1), (DRC_STATE.HOST_MIB, 0, 15872)]), by decide +kernel⟩

theorem witness_DramIsTrainedRefreshedAndScrubbed_4 : ∃ (s : State) (_sub : Fin 4) (_bank : Fin 64) (_hits : Bool),
    s.core.held domMEM = false :=
  ⟨st (dr (inMode .standby []) (fun d => { d with postponed := [(bankKey 3 63, 1)] })),
    3, 63, true,
    by decide +kernel⟩

theorem witness_DramIsTrainedRefreshedAndScrubbed_5 : ∃ (s : State) (_rank : Fin 2) (_raised : Bool),
    s.core.held domMEM = false :=
  ⟨st (dr (inMode .standby []) (fun d => { d with doubled := [0, 1] })), 1, true, by decide +kernel⟩

theorem witness_DramIsTrainedRefreshedAndScrubbed_6 : ∃ (s : State) (sub : Fin 4) (fields : Fin 64) (row : BitVec 18) (m : Nat),
    let p := dramPlace s.core.drc.x4 s.core.drc.dual (rowAddress s.core.drc.x4 s.core.drc.dual sub fields row.toNat)
    let id := p.bankIx * 2 ^ 32 + p.row
    s.core.held domMEM = false ∧
    s.core.drc.raaimt = 0 ∧
    s.core.rd DRC_STATE.PHASE ≠ drcService ∧
    s.core.drc.counters.getD sub [] = [(id, m)] :=
  ⟨st (dr (inMode .standby []) (fun d => { d with counters := [[], [], [], [(3 * 2 ^ 32 + 262143, 99999)]] })),
    3, 63, 262143, 99999,
    by decide +kernel⟩

theorem witness_DramIsTrainedRefreshedAndScrubbed_7 : ∃ (s : State) (_k : Fin 2),
    let a := s.core.drc.scrubAt
    s.core.held domMEM = false ∧
    s.core.rd DRC_STATE.TRAINED = 1 ∧
    a + 64 < s.core.dramBytes :=
  ⟨st (dr (inMode .standby [(DRC_STATE.TRAINED, 0, 1), (DRC_STATE.HOST_MIB, 0, 64)]) (fun d => { d with scrubAt := 64 })),
    1,
    by decide +kernel⟩

theorem witness_DramIsTrainedRefreshedAndScrubbed_8 : ∃ (s : State),
    let a := s.core.drc.scrubAt
    s.core.held domMEM = false ∧
    s.core.rd DRC_STATE.TRAINED = 1 ∧
    a + 64 < s.core.dramBytes ∧
    s.core.rd DRC_STATE.PHASE = drcService :=
  ⟨st (dr (inMode .standby [(DRC_STATE.TRAINED, 0, 1), (DRC_STATE.HOST_MIB, 0, 64), (DRC_STATE.PHASE, 0, drcService)]) (fun d => { d with scrubAt := 64 })),
    by decide +kernel⟩

theorem witness_DramIsTrainedRefreshedAndScrubbed_9 : ∃ (s : State),
    s.core.held domMEM = false ∧
    s.core.rd DRC_STATE.TRAINED = 1 ∧
    s.core.dramBytes ≤ s.core.drc.scrubAt + 64 ∧
    s.core.drc.recoverLeft = none :=
  ⟨st (dr (inMode .standby [(DRC_STATE.TRAINED, 0, 1), (DRC_STATE.HOST_MIB, 0, 64)]) (fun d => { d with scrubAt := 576 * 2 ^ 20 - 64 })),
    by decide +kernel⟩

theorem witness_DramIsTrainedRefreshedAndScrubbed_10 : ∃ (s : State) (_sub : Fin 4) (_last : Bool) (_passed : Bool) (run : CalRun),
    s.core.held domMEM = false ∧
    s.core.hbr.cal.run = some run ∧
    run.group = grpDram ∧
    s.core.drc.sliceAt.all (fun u => decide (u + 160 ≤ s.core.ticks)) = true :=
  ⟨st { (dr (inMode .calibrate []) (fun d => { d with sliceAt := some 40, slicePass := [0] })).modCal (fun s => { s with run := some ⟨grpDram, 0, [], 0, [], false⟩ }) with ticks := 200 },
    3, true, true, ⟨grpDram, 0, [], 0, [], false⟩,
    by decide +kernel⟩

theorem witness_DramIsTrainedRefreshedAndScrubbed_11 : ∃ (s : State) (r : TrainResult),
    s.core.held domMEM = false ∧
    s.core.rd DRC_STATE.TRAINED = 0 ∧
    s.core.drc.trainFailed = false ∧
    s.core.cfgBad r = false ∧
    (∀ n : Fin 4, s.core.failedLanes (trainLane r n) (s.core.storedTraining n (s.core.drcSignature r) && (trainLane r n).verified) = []) :=
  ⟨{ st { inMode .bringup [] with log := LogBook.init } with dram := [(5, 7#8)] }, tr lane false, by decide +kernel⟩

theorem witness_DramIsTrainedRefreshedAndScrubbed_12 : ∃ (s : State),
    s.core.held domMEM = false ∧
    s.core.rd DRC_STATE.TRAINED = 1 ∧
    s.core.rd DRC_STATE.INIT_DONE = 0 :=
  ⟨st (inMode .standby [(DRC_STATE.TRAINED, 0, 1), (DRC_STATE.HOST_MIB, 0, 15872), (DRC_STATE.PHASE, 0, 2)]),
    by decide +kernel⟩

theorem witness_DramIsTrainedRefreshedAndScrubbed_14 : ∃ (s : State) (_sub : Fin 4) (_fields : Fin 64) (_row : BitVec 18),
    s.core.held domMEM = false :=
  ⟨st (dr (inMode .standby [(DRC_STATE.PHASE, 0, 2), (DRC_CONFIG.ACT_TH, 0, 128)]) (fun d => { d with raaimt := 8, counters := (List.replicate 4 [(35 * 2 ^ 32 + 32767, 127)]), x4 := true, dual := true })),
    3, 63, 32767,
    by decide +kernel⟩

theorem witness_DramIsTrainedRefreshedAndScrubbed_15 : ∃ (s : State) (_k : Fin 3),
    s.core.held domMEM = false ∧
    s.core.rd DRC_STATE.TRAINED = 1 :=
  ⟨st (dr (inMode .standby [(DRC_STATE.TRAINED, 0, 1), (DRC_STATE.HOST_MIB, 0, 64)]) (fun d => { d with scrubAt := 576 * 2 ^ 20 - 64, recoverLeft := some 1 })),
    2,
    by decide +kernel⟩

theorem witness_LogbookSealsAndClears_0 : ∃ (s : State) (r : LogRec),
    s.core.log.rec_ = some r ∧
    r.sealed = false ∧
    s.core.logReady = true ∧
    r.kind ≠ 5 ∧
    s.core.log.due = [] ∧
    s.core.log.fifo = [] ∧
    s.core.log.clearing = false :=
  ⟨logSt rec1, rec1, by decide +kernel⟩

theorem witness_LogbookSealsAndClears_1 : ∃ (s : State) (bank : Fin 2),
    s.core.log.batchBank = some bank.val ∧
    s.core.logWriting = false ∧
    s.core.log.due = [] ∧
    s.core.log.fifo = [] ∧
    s.core.log.clearing = false :=
  ⟨st { inMode .standby [] with log := { LogBook.init with batchBank := some 1, hist := [(0, 5)] } },
    1,
    by decide +kernel⟩

theorem witness_LogbookSealsAndClears_2 : ∃ (s : State) (r : LogRec),
    s.core.log.rec_ = some r ∧
    r.sealed = false ∧
    s.core.logReady = true :=
  ⟨let s := logSt rec1; { s with core := { s.core with log := { s.core.log with due := [⟨3, 0, 5, 0, 9, [1#8]⟩] } } },
    rec1,
    by decide +kernel⟩

theorem witness_LogbookSealsAndClears_3 : ∃ (s : State) (bank : Fin 2),
    s.core.log.batchBank = some bank.val ∧
    s.core.logWriting = false ∧
    s.core.log.due.any (fun d => !d.urgent) = false :=
  ⟨st { inMode .standby [] with log := { LogBook.init with batchBank := some 1, hist := [(0, 5)] } },
    1,
    by decide +kernel⟩

end WitMemory

namespace WitHarbour

def hb (m : Mode) (l : List (Field × Nat × Nat)) (f : Harbour → Harbour) : Core := { inMode m l with hbr := f { Harbour.init with booted := true }, ticks := 400000, now := 5 * secU }
def csAt (k : Nat) (y : Cass) (h : Harbour) : Harbour := { h with cass := List.replicate k Cass.init ++ [y] ++ List.replicate (67 - k) Cass.init }
def lcu : LongCmd := ⟨⟨2, 7, 0x7010, 5, 1, 0, 8, 0, 0, 0, leBytes 8 4096⟩, .updStage, 0⟩
def calOf (f : Cal → Cal) (h : Harbour) : Harbour := { h with cal := f h.cal }

theorem witness_CassettesAuthenticateAndKeepLife_0 : ∃ (s : State) (p : Fin 21) (h : FrameHdr) (b : Bytes) (_key : Bytes) (k : Nat) (y : Cass),
    s.core.accepts p 0x86 h b ∧
    p.val < 18 ∧
    newIn h (s.core.ctlLast p h) ∧
    s.core.harbourRuns = true ∧
    findIdx (fun (z : Cass) => z.step != 0 && z.reqId == h.tag.toNat) s.core.hbr.cass 0 = some (k, y) ∧
    y.step = 2 ∧
    fieldLE b 0 1 = 1 ∧
    fieldLE b 1 1 / 16 = 0 ∧
    fieldLE b 2 2 = 64 :=
  ⟨st (hb .expose [(STR_PORT_STATE.STATE, 15, portUp)] (csAt 63 { Cass.init with step := 2, reqId := 55 })),
    15, hdrOf 0x86 0 3 7 55 0 ([1#8, 3#8, 64#8, 0#8] ++ List.replicate 64 9#8), [1#8, 3#8, 64#8, 0#8] ++ List.replicate 64 9#8, [], 63, { Cass.init with step := 2, reqId := 55 },
    by decide +kernel⟩

theorem witness_CassettesAuthenticateAndKeepLife_1 : ∃ (s : State) (p : Fin 21) (h : FrameHdr) (b : Bytes) (_key : Bytes) (k : Nat) (y : Cass),
    let e := fieldLE b 4 4
    s.core.accepts p 0x86 h b ∧
    p.val < 18 ∧
    newIn h (s.core.ctlLast p h) ∧
    s.core.harbourRuns = true ∧
    findIdx (fun (z : Cass) => z.step != 0 && z.reqId == h.tag.toNat) s.core.hbr.cass 0 = some (k, y) ∧
    y.step = 3 ∧
    fieldLE b 0 1 = 2 ∧
    fieldLE b 1 1 / 16 = 0 ∧
    fieldLE b 2 2 = 16 ∧
    (s.core.cass k).hasLife = true ∧
    e = s.core.con k CON_WINDOW.LIFE_EPOCH :=
  ⟨st (hb .slack [(STR_PORT_STATE.STATE, 15, portUp), (CON_WINDOW.LIFE_EPOCH, 63, 4), (CON_WINDOW.PENDING, 63, 5)] (csAt 63 { Cass.init with step := 3, reqId := 55, hasLife := true })),
    15, hdrOf 0x86 0 3 7 55 0 ([2#8, 3#8, 16#8, 0#8] ++ leBytes 4 4 ++ leBytes 4 100 ++ leBytes 4 50 ++ leBytes 4 7), [2#8, 3#8, 16#8, 0#8] ++ leBytes 4 4 ++ leBytes 4 100 ++ leBytes 4 50 ++ leBytes 4 7, [], 63, { Cass.init with step := 3, reqId := 55, hasLife := true },
    by decide +kernel⟩

theorem witness_CassettesAuthenticateAndKeepLife_2 : ∃ (s : State) (k : Fin 68),
    let y := s.core.cass k
    let serial := fieldLE y.idBlock 4 8
    s.core.harbourRuns = true ∧
    y.step = 5 ∧
    y.forLife = false ∧
    y.authDue = false ∧
    k.val ∉ s.core.hbr.lifeDue ∧
    s.core.cassQuiet k ∧
    s.core.anyLong (fun l => l == .reauth k) = false ∧
    s.core.con k CON_WINDOW.SERIAL = serial ∧
    s.core.con k CON_WINDOW.PENDING = 0 ∧
    s.core.con k CON_WINDOW.STATE ≠ csExhausted ∧
    s.core.live k = false ∧
    s.core.failed k = false :=
  ⟨st (hb .expose [] (csAt 63 { Cass.init with step := 5 })), 63, by decide +kernel⟩

theorem witness_CassettesAuthenticateAndKeepLife_3 : ∃ (s : State) (k : Fin 68),
    let y := s.core.cass k
    s.core.harbourRuns = true ∧
    (y.step = 3 ∨ y.step = 4) ∧
    y.sentAt + 20 * ticksPerMs ≤ s.core.ticks ∧
    y.authDue = false ∧
    (∀ j : Fin 68, j.val ≠ k → (s.core.cass j).step ≠ 0 ∨ (s.core.cass j).authDue = false) ∧
    s.core.mode ≠ .slack :=
  ⟨st (hb .expose [(CON_BLADE.WB_FAILS, 3, 65535)] (csAt 67 { Cass.init with step := 4 })), 67, by decide +kernel⟩

theorem witness_CassettesAuthenticateAndKeepLife_4 : ∃ (s : State) (p : Fin 21) (h : FrameHdr) (b : Bytes) (_key : Bytes) (k : Nat) (y : Cass),
    s.core.accepts p 0x86 h b ∧
    p.val < 18 ∧
    newIn h (s.core.ctlLast p h) ∧
    s.core.harbourRuns = true ∧
    findIdx (fun (z : Cass) => z.step != 0 && z.reqId == h.tag.toNat) s.core.hbr.cass 0 = some (k, y) ∧
    k < 68 ∧
    y.step = 1 ∧
    fieldLE b 0 1 = 0 ∧
    y.authDue = false ∧
    (y.forLife = true ∨ k ∉ s.core.hbr.lifeDue) :=
  ⟨st (hb .slack [(STR_PORT_STATE.STATE, 15, portUp), (CON_WINDOW.PENDING, 63, 5)] (csAt 63 { Cass.init with step := 1, reqId := 55 })),
    15, hdrOf 0x86 0 3 7 55 0 ([0#8, 0x10#8, 0#8, 0#8]), [0#8, 0x10#8, 0#8, 0#8], [], 63, { Cass.init with step := 1, reqId := 55 },
    by decide +kernel⟩

theorem witness_CassettesAuthenticateAndKeepLife_5 : ∃ (s : State) (p : Fin 21) (h : FrameHdr) (b : Bytes) (_key : Bytes) (k : Nat) (y : Cass),
    s.core.accepts p 0x86 h b ∧
    p.val < 18 ∧
    newIn h (s.core.ctlLast p h) ∧
    s.core.harbourRuns = true ∧
    findIdx (fun (z : Cass) => z.step != 0 && z.reqId == h.tag.toNat) s.core.hbr.cass 0 = some (k, y) ∧
    k < 68 ∧
    y.step = 4 ∧
    fieldLE b 0 1 = 3 ∧
    fieldLE b 1 1 / 16 ∈ [0, 3] ∧
    fieldLE b 2 2 = 16 ∧
    s.core.inPair = false :=
  ⟨st (hb .slack [(STR_PORT_STATE.STATE, 15, portUp), (CON_WINDOW.PENDING, 63, 5)] (csAt 63 { Cass.init with step := 4, reqId := 55 })),
    15, hdrOf 0x86 0 3 7 55 0 ([3#8, 0x33#8, 16#8, 0#8] ++ leBytes 4 9 ++ leBytes 4 100 ++ leBytes 4 50 ++ leBytes 4 7), [3#8, 0x33#8, 16#8, 0#8] ++ leBytes 4 9 ++ leBytes 4 100 ++ leBytes 4 50 ++ leBytes 4 7, [], 63, { Cass.init with step := 4, reqId := 55 },
    by decide +kernel⟩

theorem witness_CassettesAuthenticateAndKeepLife_6 : ∃ (s : State) (k : Fin 68),
    let y := s.core.cass k
    s.core.harbourRuns = true ∧
    y.step = 5 ∧
    y.authDue = false ∧
    (y.forLife = true ∨ k.val ∉ s.core.hbr.lifeDue) :=
  ⟨st (hb .expose [(CON_WINDOW.STATE, 63, csExhausted)] (csAt 63 { Cass.init with step := 5 })),
    63,
    by decide +kernel⟩

theorem witness_CassettesAuthenticateAndKeepLife_7 : ∃ (s : State) (k : Fin 68),
    let y := s.core.cass k
    s.core.harbourRuns = true ∧
    y.step ∈ [1, 2, 3, 4] ∧
    y.sentAt + 20 * ticksPerMs ≤ s.core.ticks ∧
    y.authDue = false ∧
    (y.forLife = true ∨ k.val ∉ s.core.hbr.lifeDue) :=
  ⟨st (hb .slack [(CON_BLADE.WB_FAILS, 3, 65535)] (csAt 67 { Cass.init with step := 4, forLife := true })),
    67,
    by decide +kernel⟩

theorem witness_CalibrationRunsEndAndAreKept_0 : ∃ (s : State) (_values : Bytes) (r : CalRun) (_passed : Bool),
    let g := r.group
    s.core.held domHBR = false ∧
    s.core.hbr.cal.run = some r ∧
    (g = 1 ∨ g = 2) ∧
    r.slack = false ∧
    r.serves = [] ∧
    s.core.hbr.cal.reqs = [] ∧
    s.core.mode = .expose :=
  ⟨st (hb .expose [] (calOf (fun c => { c with run := some ⟨2, 0, [7], 3 * secU, [], false⟩ }))),
    [1#8], ⟨2, 0, [7], 3 * secU, [], false⟩, true,
    by decide +kernel⟩

theorem witness_CalibrationRunsEndAndAreKept_1 : ∃ (s : State) (ch : Fin 64) (_values : Bytes) (r : GateRun),
    s.core.held domHBR = false ∧
    s.core.hbr.cal.gateRuns.find? (fun r => r.chan == ch.val) = some r :=
  ⟨st (hb .expose [(CAL_GATE.DUE, 0, 2 ^ 64 - 1)] (calOf (fun c => { c with gateRuns := [⟨63, 5, 9, 100⟩, ⟨2, 5, 9, 100⟩] }))),
    63, [0xFF#8, 0xFF#8, 0xFF#8], ⟨63, 5, 9, 100⟩,
    by decide +kernel⟩

theorem witness_CalibrationRunsEndAndAreKept_2 : ∃ (s : State),
    s.core.held domHBR = false :=
  ⟨st (hb .expose [] (calOf (fun c => { c with reqs := [⟨7, 3, 3, 0, 399999, true, false, false, false⟩, ⟨8, 3, 3, 0, 400000, true, false, true, false⟩] }))),
    by decide +kernel⟩

theorem witness_CalibrationRunsEndAndAreKept_3 : ∃ (s : State) (part : Fin 9) (_failed : Fin 2),
    let cal := s.core.hbr.cal
    s.core.harbourRuns = true ∧
    cal.marked.contains part.val = true ∧
    Kv.find cal.written part = none ∧
    cal.phyDue = none :=
  ⟨st (hb .expose [] (calOf (fun c => { c with marked := [3, 8] }))), 8, 1, by decide +kernel⟩

theorem witness_CalibrationRunsEndAndAreKept_4 : ∃ (s : State) (part : Fin 9),
    let cal := s.core.hbr.cal
    s.core.harbourRuns = true ∧
    cal.marked.contains part.val = true ∧
    Kv.find cal.written part = none ∧
    cal.phyDue = none :=
  ⟨st (hb .expose [] (calOf (fun c => { c with marked := [3, 8] }))), 8, by decide +kernel⟩

theorem witness_CalibrationRunsEndAndAreKept_5 : ∃ (s : State) (_values : Bytes) (r : CalRun) (_passed : Bool),
    let g := r.group
    s.core.held domHBR = false ∧
    s.core.hbr.cal.run = some r ∧
    g < 3 :=
  ⟨st (hb .slack [] (calOf (fun c => { c with run := some ⟨0, 2 ^ 64 - 1, [7], 3 * secU, [], true⟩ }))),
    List.replicate 200 1#8, ⟨0, 2 ^ 64 - 1, [7], 3 * secU, [], true⟩, true,
    by decide +kernel⟩

theorem witness_CalibrationRunsEndAndAreKept_6 : ∃ (s : State) (ch : Fin 64) (_passed : Bool) (_values : Bytes) (r : GateRun),
    s.core.held domHBR = false ∧
    s.core.hbr.cal.gateRuns.find? (fun r => r.chan == ch.val) = some r :=
  ⟨st (hb .expose [] (calOf (fun c => { c with gateRuns := [⟨63, 5, 9, 100⟩, ⟨2, 5, 9, 100⟩] }))),
    63, false, [], ⟨63, 5, 9, 100⟩,
    by decide +kernel⟩

theorem witness_CalibrationRunsEndAndAreKept_7 : ∃ (s : State) (part : Fin 9) (_failed : Fin 3),
    s.core.harbourRuns = true ∧
    s.core.hbr.cal.marked.contains part.val = true ∧
    (Kv.find s.core.hbr.cal.written part).all (fun t => decide (t + 10000 * ticksPerMs ≤ s.core.ticks)) = true :=
  ⟨st (hb .expose [] (calOf (fun c => { c with marked := [3, 8], written := [(3, 0)] }))), 8, 2, by decide +kernel⟩

theorem witness_HarbourWatchesAndRestarts_0 : ∃ (s : State) (_r : Option (BitVec 16)),
    s.core.held domHBR = false ∧
    48 ≤ s.core.hbr.slot :=
  ⟨st (hb .standby [] (fun h => { h with slot := 63 })), some 7, by decide +kernel⟩

theorem witness_HarbourWatchesAndRestarts_1 : ∃ (s : State) (r : BitVec 16),
    let n := s.core.hbr.slot
    let v := r.toInt
    s.core.held domHBR = false ∧
    n < 48 ∧
    s.core.rd THM_SLOT.ENABLE n ≠ 0 ∧
    s.core.rd THM_READ.STATE n = thOk ∧
    (∀ g : Fin 5, s.core.rd CAL_CONFIG.AUTO g = 0) ∧
    s.core.rdI THM_SLOT.LO_FAULT n ≤ v ∧
    s.core.rdI THM_SLOT.LO_WARN n ≤ v ∧
    v ≤ s.core.rdI THM_SLOT.HI_FAULT n ∧
    v ≤ s.core.rdI THM_SLOT.HI_WARN n :=
  ⟨st (hb .standby ([(THM_SLOT.ENABLE, 47, 1), (THM_SLOT.LO_FAULT, 47, 10), (THM_SLOT.LO_WARN, 47, 20), (THM_SLOT.HI_WARN, 47, 100), (THM_SLOT.HI_FAULT, 47, 200), (THM_READ.STATE, 47, thOk)] ++ (List.range 5).map (fun g => (CAL_CONFIG.AUTO, g, 0))) (fun h => { h with slot := 47 })),
    100,
    by decide +kernel⟩

theorem witness_HarbourWatchesAndRestarts_2 : ∃ (s : State) (r : BitVec 16),
    let n := s.core.hbr.slot
    let v := r.toInt
    s.core.held domHBR = false ∧
    n < 48 ∧
    s.core.rd THM_SLOT.ENABLE n ≠ 0 ∧
    s.core.rd THM_READ.STATE n = thOk ∧
    (∀ g : Fin 5, s.core.rd CAL_CONFIG.AUTO g = 0) ∧
    s.core.rdI THM_SLOT.LO_FAULT n ≤ v ∧
    s.core.rdI THM_SLOT.HI_FAULT n < v :=
  ⟨st (hb .slack ([(THM_SLOT.ENABLE, 47, 1), (THM_SLOT.LO_FAULT, 47, 10), (THM_SLOT.LO_WARN, 47, 20), (THM_SLOT.HI_WARN, 47, 100), (THM_SLOT.HI_FAULT, 47, 200), (THM_READ.STATE, 47, thOk)] ++ (List.range 5).map (fun g => (CAL_CONFIG.AUTO, g, 0))) (fun h => { h with slot := 47 })),
    201,
    by decide +kernel⟩

theorem witness_HarbourWatchesAndRestarts_3 : ∃ (s : State),
    let n := s.core.hbr.slot
    s.core.held domHBR = false ∧
    n < 48 ∧
    s.core.rd THM_SLOT.ENABLE n = 0 :=
  ⟨st (hb .standby [(THM_SLOT.ENABLE, 47, 0), (THM_READ.STATE, 47, 4)] (fun h => { h with slot := 47 })),
    by decide +kernel⟩

theorem witness_HarbourWatchesAndRestarts_4 : ∃ (s : State),
    s.core.harbourRuns = true ∧
    s.core.holder ≠ 2 ∧
    s.core.pilot.long = [] :=
  ⟨st (hb .standby [(PLT_TOKEN.EPOCH2, 0, 5)] id), by decide +kernel⟩

theorem witness_HarbourWatchesAndRestarts_5 : ∃ (s : State) (at_ : Nat),
    s.core.hbr.restarting = some at_ ∧
    s.core.cassQuiet 68 :=
  ⟨st (hb .standby [] (fun h => { h with restarting := some 5 })), 5, by decide +kernel⟩

theorem witness_HarbourWatchesAndRestarts_6 : ∃ (s : State) (l : LongCmd) (slot : Nat) (a : Nat) (_good : Bool),
    let x := l.cmd
    s.core.hbr.staging = some (slot, a) ∧
    s.core.pilot.long = [l] ∧
    l.kind = .updStage ∧
    x.mailbox < 8 ∧
    (s.core.mbox x.master x.mailbox).posted = false ∧
    s.core.updState.trial ≠ slot :=
  ⟨st ((hb .standby [] (fun h => { h with staging := some (1, 4096) })).modPilot (fun p => { p with long := [lcu] })),
    lcu, 1, 4096, true,
    by decide +kernel⟩

theorem witness_HarbourWatchesAndRestarts_7 : ∃ (s : State) (_r : Option (BitVec 16)),
    s.core.held domHBR = false :=
  ⟨st (hb .standby ([(THM_SLOT.ENABLE, 47, 1)]) (fun h => { h with slot := 47 })), some 0x8000, by decide +kernel⟩

theorem witness_HarbourWatchesAndRestarts_8 : ∃ (s : State),
    s.core.harbourRuns = true :=
  ⟨st ((hb .standby [(PLT_TOKEN.EPOCH2, 0, 5), (PLT_TOKEN.HOLDER, 0, 2)] id).modPilot (fun p => { p with long := [lcu] })),
    by decide +kernel⟩

theorem witness_HarbourWatchesAndRestarts_9 : ∃ (s : State) (at_ : Nat),
    s.core.hbr.restarting = some at_ :=
  ⟨st (hb .slack [] (fun h => { csAt 3 { Cass.init with authDue := true } h with restarting := some 5 })),
    5,
    by decide +kernel⟩

theorem witness_HarbourWatchesAndRestarts_10 : ∃ (s : State) (_good : Bool) (slot : Nat) (a : Nat),
    s.core.hbr.staging = some (slot, a) ∧
    s.core.updState.trial ≠ slot :=
  ⟨st (hb .standby [] (fun h => { h with staging := some (1, 4096) })), false, 1, 4096, by decide +kernel⟩

end WitHarbour

namespace WitTwin

def lr : LogRec := ⟨2 ^ 22, 1, 0, 3, 7, 9, 2, 5, 4, 0, 0, [1#8, 2#8], false⟩
def tw (m : Mode) (role : Nat) (l : List (Field × Nat × Nat)) (f : Twin → Twin) : Core := { inMode m ([(TWN_CONFIG.TWIN_EN, 0, 1), (TWN_STATE.ROLE, 0, role), (STR_PORT_STATE.STATE, 20, portUp)] ++ l) with twin := f Twin.init, now := 1000 * usU, ticks := 5000, log := { LogBook.init with rec_ := some lr } }
def ph : PartnerHb := ⟨1, 2, true, false, 5, 9⟩
def snap0 (r : List (Nat × Nat)) : Snapshot := ⟨77, r, [(256, 5)], [(3, 4)], [⟨0x1012, 63, [1#8], []⟩], [], [], [], []⟩

theorem witness_HeartbeatsDecideTheRoles_0 : ∃ (s : State),
    s.core.inPair = true ∧
    s.core.twin.withheld = none ∧
    s.core.held domPLT = false ∧
    s.core.held domTIM = false ∧
    s.core.now % (50 * usU) = 0 :=
  ⟨st (tw .standby roleStandby [(TWN_STATE.ELIGIBLE, 0, 1)] id), by decide +kernel⟩

theorem witness_HeartbeatsDecideTheRoles_1 : ∃ (s : State) (h : FrameHdr) (b : Bytes),
    s.core.twinActs lp2 0 0x50 h b ∧
    s.core.inPair = true :=
  ⟨st (tw .standby roleStandby [] id),
    hdrOf 0x50 0 0 7 2200 0 ([1#8, 2#8, 3#8, 5#8, 9#8, 0#8, 0#8, 0#8]), [1#8, 2#8, 3#8, 5#8, 9#8, 0#8, 0#8, 0#8],
    by decide +kernel⟩

theorem witness_HeartbeatsDecideTheRoles_2 : ∃ (s : State) (w : BitVec 16) (n : Fin 4),
    s.core.inPair = true ∧
    1000 * (n + 1) ≤ w.toNat + 250 ∧
    w.toNat ≤ 1000 * (n + 1) + 250 :=
  ⟨st (tw .standby roleStandby [] id), 1250, 0, by decide +kernel⟩

theorem witness_HeartbeatsDecideTheRoles_3 : ∃ (s : State),
    s.core.inPair = true ∧
    s.core.metPartner = true ∧
    s.core.hears = false ∧
    s.core.sameStrap = false ∧
    s.core.role ≠ roleStandby :=
  ⟨st (tw .standby roleActive [(TWN_STATE.PATH_LINK, 0, 1)] (fun t => { t with partner := some ph, hbLink := some 5 })),
    by decide +kernel⟩

theorem witness_HeartbeatsDecideTheRoles_4 : ∃ (s : State),
    s.core.inPair = true ∧
    s.core.metPartner = true ∧
    s.core.hears = false ∧
    s.core.sameStrap = false ∧
    s.core.role = roleStandby ∧
    s.core.eligible = true ∧
    s.core.logWriting = true :=
  ⟨st (tw .standby roleStandby [(TWN_STATE.ELIGIBLE, 0, 1), (TWN_STATE.TAKEOVER_EPOCH, 0, 65535)] (fun t => { t with partner := some ph, hbLink := some 5 })),
    by decide +kernel⟩

theorem witness_HeartbeatsDecideTheRoles_5 : ∃ (s : State),
    let link := s.core.flag TWN_STATE.PATH_LINK && !s.core.heardBy s.core.twin.hbLink
    let pin := s.core.flag TWN_STATE.PATH_PIN && !s.core.heardBy s.core.twin.hbPin
    s.core.inPair = true ∧
    s.core.hears = true ∧
    (link || pin) = true :=
  ⟨st (tw .standby roleActive [(TWN_STATE.PATH_LINK, 0, 1), (TWN_STATE.PATH_PIN, 0, 1)] (fun t => { t with hbPin := some 4999 })),
    by decide +kernel⟩

theorem witness_HeartbeatsDecideTheRoles_6 : ∃ (s : State),
    s.core.inPair = true ∧
    s.core.role = roleForming ∧
    s.core.metPartner = false ∧
    s.core.twin.since + 302 ≤ s.core.ticks ∧
    s.core.logWriting = true :=
  ⟨st (tw .standby roleForming [(TWN_STATE.MUTED, 0, 1)] (fun t => { t with since := 4698 })), by decide +kernel⟩

theorem witness_HeartbeatsDecideTheRoles_7 : ∃ (s : State) (since : Nat),
    s.core.twin.withheld = some since ∧
    since + 1000 ≤ s.core.ticks ∧
    s.core.inPair = true ∧
    s.core.role = roleActive ∧
    s.core.logWriting = true :=
  ⟨st (tw .standby roleActive [] (fun t => { t with withheld := some 4000 })), 4000, by decide +kernel⟩

theorem witness_HeartbeatsDecideTheRoles_8 : ∃ (s : State),
    s.core.inPair = true ∧
    s.core.metPartner = true ∧
    s.core.hears = false ∧
    s.core.sameStrap = false :=
  ⟨st (tw .expose roleStandby [(TWN_STATE.ELIGIBLE, 0, 1), (TWN_STATE.TAKEOVER_EPOCH, 0, 65535)] (fun t => { t with hbPin := some 5 })),
    by decide +kernel⟩

theorem witness_HeartbeatsDecideTheRoles_9 : ∃ (s : State),
    s.core.inPair = true ∧
    s.core.role = roleForming ∧
    s.core.metPartner = false ∧
    s.core.twin.since + 302 ≤ s.core.ticks :=
  ⟨let c := tw .expose roleForming [(TWN_STATE.MUTED, 0, 1)] (fun t => { t with since := 4698 }); st { c with log := LogBook.init },
    by decide +kernel⟩

theorem witness_HeartbeatsDecideTheRoles_10 : ∃ (s : State) (since : Nat),
    s.core.twin.withheld = some since ∧
    since + 1000 ≤ s.core.ticks ∧
    s.core.inPair = true ∧
    s.core.role = roleActive :=
  ⟨let c := tw .expose roleActive [] (fun t => { t with withheld := some 4000 }); st { c with log := LogBook.init },
    4000,
    by decide +kernel⟩

theorem witness_ForwardedWorkAndDigests_0 : ∃ (s : State) (h : FrameHdr) (b : Bytes),
    s.core.twinActs lp2 0 0x51 h b ∧
    s.core.inPair = true ∧
    fieldLE b 0 1 ≤ 2 ∧
    fieldLE b 1 1 ≤ 7 ∧
    s.core.tickPast h.tag.toNat = false :=
  ⟨st (tw .standby roleStandby [] id),
    hdrOf 0x51 0 0 7 2200 0 ([2#8, 7#8, 0#8, 0#8] ++ zeros 256), [2#8, 7#8, 0#8, 0#8] ++ zeros 256,
    ⟨⟨by decide +kernel, by decide +kernel, longCmd_good 0 2200 (by decide) (by decide) (by decide +kernel)⟩, by decide, by decide +kernel⟩, by decide +kernel⟩

theorem witness_ForwardedWorkAndDigests_1 : ∃ (s : State) (h : FrameHdr) (b : Bytes),
    s.core.twinActs lp2 0 0x51 h b ∧
    s.core.inPair = true ∧
    fieldLE b 0 1 ≤ 2 ∧
    fieldLE b 1 1 ≤ 7 ∧
    s.core.tickPast h.tag.toNat = true ∧
    s.core.role = roleStandby ∧
    s.core.eligible = true :=
  ⟨st (tw .standby roleStandby [(TWN_STATE.ELIGIBLE, 0, 1)] id),
    hdrOf 0x51 0x40 0 7 1999 0 ([2#8, 7#8, 0#8, 0#8] ++ zeros 256), [2#8, 7#8, 0#8, 0#8] ++ zeros 256,
    ⟨⟨by decide +kernel, by decide +kernel, longCmd_good 0x40 1999 (by decide) (by decide) (by decide +kernel)⟩, by decide, by decide +kernel⟩, by decide +kernel⟩

theorem witness_ForwardedWorkAndDigests_2 : ∃ (s : State) (h : FrameHdr) (b : Bytes),
    s.core.twinActs lp2 0 0x52 h b ∧
    s.core.inPair = true ∧
    fieldLE b 0 1 ≠ 2 ∧
    s.core.tickPast h.tag.toNat = false :=
  ⟨st (tw .standby roleStandby [] id),
    hdrOf 0x52 0 0 7 2200 0 ([0#8, 0#8, 64#8, 0#8] ++ zeros 64), [0#8, 0#8, 64#8, 0#8] ++ zeros 64,
    by decide +kernel⟩

theorem witness_ForwardedWorkAndDigests_3 : ∃ (s : State) (h : FrameHdr) (b : Bytes) (n : Fin 3),
    s.core.twinActs lp2 0 0x52 h b ∧
    s.core.inPair = true ∧
    fieldLE b 0 1 = 2 ∧
    fieldLE b 4 1 = 2 ^ (4 + n.val) ∧
    s.core.rd SAF_STATUS.CAUSE % 8 = 0 ∧
    s.core.mode ∉ [.shutdownTest, .dormant, .boot] :=
  ⟨st ((tw .standby roleStandby [] id).modCh 63 (fun s => { s with gat := { s.gat with lgHigh := true } })),
    hdrOf 0x52 0 0 7 2200 0 ([2#8, 0#8, 4#8, 0#8, 64#8, 0#8, 0#8, 0#8]), [2#8, 0#8, 4#8, 0#8, 64#8, 0#8, 0#8, 0#8], 2,
    by decide +kernel⟩

theorem witness_ForwardedWorkAndDigests_4 : ∃ (s : State) (h : FrameHdr) (b : Bytes),
    s.core.twinActs lp2 0 0x53 h b :=
  ⟨st (tw .standby roleStandby [] (fun t => { t with partDec := List.replicate 8 (1, 2) })),
    hdrOf 0x53 0 0 7 2200 0 (leBytes 4 99 ++ zeros 4), leBytes 4 99 ++ zeros 4,
    by decide +kernel⟩

theorem witness_ForwardedWorkAndDigests_5 : ∃ (s : State),
    s.core.inPair = true ∧
    roleActive ≤ s.core.role ∧
    s.core.now % (1000 * usU) = 0 ∧
    s.core.held domPLT = false :=
  ⟨st (tw .standby roleActive [] id), by decide +kernel⟩

theorem witness_ForwardedWorkAndDigests_6 : ∃ (s : State) (h : FrameHdr) (b : Bytes),
    s.core.twinActs lp2 1 0x54 h b :=
  ⟨st (tw .standby roleActive [] (fun t => { t with partState := List.replicate 4 (1, 2) })),
    hdrOf 0x54 0 0 7 2200 0 (leBytes 4 99 ++ zeros 4), leBytes 4 99 ++ zeros 4,
    by decide +kernel⟩

theorem witness_ForwardedWorkAndDigests_7 : ∃ (s : State) (h : FrameHdr) (b : Bytes),
    s.core.twinActs lp2 0 0x51 h b ∧
    s.core.inPair = true ∧
    fieldLE b 0 1 ≤ 2 ∧
    fieldLE b 1 1 ≤ 7 :=
  ⟨st (tw .standby roleActive [(TWN_STATE.PARTNER_ELIG, 0, 1)] id),
    hdrOf 0x51 0x40 0 7 1999 0 ([2#8, 7#8, 0#8, 0#8] ++ zeros 256), [2#8, 7#8, 0#8, 0#8] ++ zeros 256,
    ⟨⟨by decide +kernel, by decide +kernel, longCmd_good 0x40 1999 (by decide) (by decide) (by decide +kernel)⟩, by decide, by decide +kernel⟩, by decide +kernel⟩

theorem witness_ForwardedWorkAndDigests_8 : ∃ (s : State) (h : FrameHdr) (b : Bytes),
    s.core.twinActs lp2 0 0x52 h b ∧
    s.core.inPair = true ∧
    fieldLE b 0 1 ≠ 2 :=
  ⟨st (tw .standby roleStandby [(TWN_STATE.ELIGIBLE, 0, 1)] id),
    hdrOf 0x52 0x40 0 7 1999 0 ([0#8, 0#8, 64#8, 0#8] ++ zeros 64), [0#8, 0#8, 64#8, 0#8] ++ zeros 64,
    by decide +kernel⟩

theorem witness_UnitsResyncAndExchange_0 : ∃ (s : State) (h : FrameHdr) (b : Bytes),
    s.core.twinActs lp2 1 0x55 h b ∧
    s.core.inPair = true ∧
    s.core.role = roleStandby ∧
    s.core.eligible = false :=
  ⟨st (tw .standby roleStandby [] (fun t => { t with blocks := [(0, [5#8]), (1, [6#8])] })),
    hdrOf 0x55 0 0 7 2200 0 (leBytes 4 0 ++ leBytes 4 2 ++ [9#8]), leBytes 4 0 ++ leBytes 4 2 ++ [9#8],
    by decide +kernel⟩

theorem witness_UnitsResyncAndExchange_1 : ∃ (s : State) (h : FrameHdr) (b : Bytes),
    s.core.twinActs lp2 0 0x56 h b ∧
    s.core.inPair = true ∧
    fieldLE b 0 1 = 0 ∧
    s.core.role = roleActive ∧
    s.core.partnerElig = true ∧
    s.core.tickReached h.tag.toNat = false ∧
    s.core.twin.exchange = none :=
  ⟨st (tw .standby roleActive [(TWN_STATE.PARTNER_ELIG, 0, 1)] id),
    hdrOf 0x56 0 0 7 2200 0 ([0#8, 0#8, 255#8, 255#8, 0#8, 0#8, 0#8, 0#8]), [0#8, 0#8, 255#8, 255#8, 0#8, 0#8, 0#8, 0#8],
    by decide +kernel⟩

theorem witness_UnitsResyncAndExchange_2 : ∃ (s : State) (h : FrameHdr) (b : Bytes),
    s.core.twinActs lp2 0 0x56 h b ∧
    s.core.inPair = true ∧
    fieldLE b 0 1 = 0 ∧
    s.core.twin.exchange ≠ none :=
  ⟨st (tw .standby roleStandby [] (fun t => { t with exchange := some (7, 8, false) })),
    hdrOf 0x56 0 0 7 2200 0 ([0#8, 0#8, 255#8, 255#8, 0#8, 0#8, 0#8, 0#8]), [0#8, 0#8, 255#8, 255#8, 0#8, 0#8, 0#8, 0#8],
    by decide +kernel⟩

theorem witness_UnitsResyncAndExchange_3 : ∃ (s : State) (h : FrameHdr) (b : Bytes) (k : Nat) (e : Nat) (a : Bool),
    s.core.twinActs lp2 0 0x56 h b ∧
    s.core.inPair = true ∧
    s.core.twin.exchange = some (k, e, a) ∧
    fieldLE b 0 1 ∈ [1, 2, 3] ∧
    s.core.anyLong (fun q => q == .handover) = false :=
  ⟨st (tw .standby roleStandby [] (fun t => { t with exchange := some (7, 8, false) })),
    hdrOf 0x56 0 0 7 2200 0 ([1#8, 0#8, 255#8, 255#8, 0#8, 0#8, 0#8, 0#8]), [1#8, 0#8, 255#8, 255#8, 0#8, 0#8, 0#8, 0#8], 7, 8, false,
    by decide +kernel⟩

theorem witness_UnitsResyncAndExchange_4 : ∃ (s : State) (_x : Snapshot),
    s.core.inPair = true ∧
    s.core.twin.resyncDue = true ∧
    s.core.mode ∈ [.slack, .standby] ∧
    s.core.isUp lp2 = true ∧
    s.core.role = roleActive :=
  ⟨st (tw .slack roleActive [] (fun t => { t with resyncDue := true })), snap0 [], by decide +kernel⟩

theorem witness_UnitsResyncAndExchange_5 : ∃ (s : State) (x : Snapshot) (k : Nat) (v : Nat) (ch : Fin 64),
    s.core.inPair = true ∧
    s.core.twin.resyncDue = true ∧
    s.core.mode ∈ [.slack, .standby] ∧
    s.core.isUp lp2 = true ∧
    s.core.role = roleStandby ∧
    s.core.twin.boundary = some k ∧
    s.core.tickReached k = true ∧
    x.regs = [(RFX_STATE.BASE.key ch, v)] ∧
    v < 2 ^ 16 ∧
    x.portSeq = [] ∧
    x.linkSeq = [] :=
  ⟨st (tw .standby roleStandby [(TWN_STATE.MUTED, 0, 1)] (fun t => { t with resyncDue := true, boundary := some 2000 })),
    snap0 [(RFX_STATE.BASE.key 63, 65535)], 2000, 65535, 63,
    by decide +kernel⟩

theorem witness_UnitsResyncAndExchange_6 : ∃ (s : State) (since : Nat),
    s.core.twin.eligSince = some since ∧
    s.core.inPair = true ∧
    s.core.rd TWN_CONFIG.TAKEBACK_EN = 1 ∧
    s.core.rd TWN_STATE.PREFERRED = 1 ∧
    s.core.role = roleStandby ∧
    s.core.eligible = true ∧
    s.core.twin.exchange = none ∧
    s.core.heardBy s.core.twin.hbLink = true ∧
    since + s.core.rd TWN_CONFIG.TAKEBACK_HOLDOFF * 1000 * ticksPerMs ≤ s.core.ticks :=
  ⟨st { tw .standby roleStandby [(TWN_STATE.ELIGIBLE, 0, 1), (TWN_CONFIG.TAKEBACK_EN, 0, 1), (TWN_CONFIG.TAKEBACK_HOLDOFF, 0, 1), (TWN_STATE.PREFERRED, 0, 1)] (fun t => { t with eligSince := some 5, hbLink := some (1000 * ticksPerMs + 5) }) with ticks := 1000 * ticksPerMs + 5 },
    5,
    by decide +kernel⟩

theorem witness_UnitsResyncAndExchange_7 : ∃ (s : State) (k : Nat) (e : Nat),
    s.core.twin.exchange = some (k, e, true) ∧
    e < 2 ^ 16 ∧
    s.core.inPair = true ∧
    s.core.tickReached k = true ∧
    s.core.role ∈ [roleActive, roleStandby] ∧
    s.core.logWriting = true ∧
    s.core.anyLong (fun q => q == .handover) = false :=
  ⟨st (tw .standby roleStandby [(TWN_STATE.ELIGIBLE, 0, 1)] (fun t => { t with exchange := some (2000, 65535, true) })),
    2000, 65535,
    by decide +kernel⟩

theorem witness_UnitsResyncAndExchange_8 : ∃ (s : State) (h : FrameHdr) (b : Bytes),
    s.core.twinActs lp2 1 0x55 h b ∧
    s.core.inPair = true ∧
    s.core.role = roleStandby :=
  ⟨st (tw .slack roleStandby [(TWN_STATE.ELIGIBLE, 0, 1)] id),
    hdrOf 0x55 0 0 7 2200 0 (leBytes 4 0 ++ leBytes 4 2 ++ [9#8]), leBytes 4 0 ++ leBytes 4 2 ++ [9#8],
    by decide +kernel⟩

theorem witness_UnitsResyncAndExchange_9 : ∃ (s : State) (h : FrameHdr) (b : Bytes),
    s.core.twinActs lp2 0 0x56 h b ∧
    s.core.inPair = true ∧
    fieldLE b 0 1 ≤ 3 :=
  ⟨st (tw .slack roleStandby [] (fun t => { t with exchange := some (7, 8, false) })),
    hdrOf 0x56 0 0 7 2200 0 ([2#8, 0#8, 255#8, 255#8, 0#8, 0#8, 0#8, 0#8]), [2#8, 0#8, 255#8, 255#8, 0#8, 0#8, 0#8, 0#8],
    by decide +kernel⟩

theorem witness_UnitsResyncAndExchange_10 : ∃ (s : State) (_x : Snapshot) (k : Nat),
    s.core.inPair = true ∧
    s.core.twin.resyncDue = true ∧
    s.core.mode ∈ [.slack, .standby] ∧
    s.core.isUp lp2 = true ∧
    s.core.role = roleStandby ∧
    s.core.twin.boundary = some k ∧
    s.core.tickReached k = true :=
  ⟨st (tw .standby roleStandby [(TWN_STATE.MUTED, 0, 1)] (fun t => { t with resyncDue := true, boundary := some 2000 })),
    { snap0 [(RFX_STATE.BASE.key 63, 65535), (TWN_STATE.ELIGIBLE.key 0, 0), (2 ^ 70, 8)] with portSeq := [(20, 65535, 9), (3, 4, 70000)], linkSeq := [(7, 65537)], border := [(7, [1#8, 2#8])] }, 2000,
    by decide +kernel⟩

theorem witness_UnitsResyncAndExchange_11 : ∃ (s : State) (k : Nat) (e : Nat),
    s.core.twin.exchange = some (k, e, true) ∧
    e < 2 ^ 16 ∧
    s.core.inPair = true ∧
    s.core.tickReached k = true ∧
    s.core.role ∈ [roleActive, roleStandby] :=
  ⟨let c := tw .expose roleStandby [(TWN_STATE.ELIGIBLE, 0, 1)] (fun t => { t with exchange := some (2000, 65535, true) }); st { c with log := LogBook.init },
    2000, 65535,
    by decide +kernel⟩

end WitTwin

namespace WitCascade

def mem (m : Mode) (l : List (Field × Nat × Nat)) (f : Casc → Casc) : Core := { inMode m ([(CSC_CONFIG.MEMBERS, 0, 0x8001), (CSC_STATE.CASC_ID, 0, 15), (STR_PORT_STATE.STATE, 18, portUp), (STR_PORT_STATE.STATE, 19, portUp)] ++ l) with casc := f Casc.init, now := 1000 * usU, ticks := 5000 }
def lead (m : Mode) (l : List (Field × Nat × Nat)) (f : Casc → Casc) : Core := { inMode m ([(CSC_CONFIG.MEMBERS, 0, 0x8001), (STR_PORT_STATE.STATE, 18, portUp), (STR_PORT_STATE.STATE, 19, portUp)] ++ l) with casc := f Casc.init, now := 1000 * usU, ticks := 5000 }

theorem witness_CascadeActsTogether_0 : ∃ (s : State),
    s.core.inCascade = true ∧
    s.core.inPair = false ∧
    s.core.isLead = false ∧
    s.core.muted = false ∧
    s.core.held domFAB = false ∧
    s.core.held domTIM = false ∧
    s.core.now % (50 * usU) = 0 :=
  ⟨st (mem .standby [] id), by decide +kernel⟩

theorem witness_CascadeActsTogether_1 : ∃ (s : State) (p : Fin 2) (h : FrameHdr) (b : Bytes),
    let port := 18 + p.val
    let src := h.aux.toNat / 4096
    s.core.linkActs port 1 0x58 h b ∧
    s.core.isLead = false ∧
    src = 0 ∧
    bitOf (fieldLE b 1 1) 0 = true ∧
    s.core.rd CSC_STATE.FORMED = 0 :=
  ⟨st (mem .standby [] (fun c => { c with lostPosted := [0, 3], leadLost := true })),
    1, hdrOf 0x58 0 0xF000 7 2200 0 ([2#8, 1#8, 0#8, 0#8]), [2#8, 1#8, 0#8, 0#8],
    by decide +kernel⟩

theorem witness_CascadeActsTogether_2 : ∃ (s : State) (p : Fin 2) (h : FrameHdr) (b : Bytes),
    let port := 18 + p.val
    let src := h.aux.toNat / 4096
    s.core.linkActs port 1 0x58 h b ∧
    s.core.inPair = false ∧
    s.core.inCascade = true ∧
    s.core.isLead = true ∧
    bitOf (s.core.rd CSC_CONFIG.MEMBERS) 0 = true ∧
    s.core.rd CSC_STATE.FORMED = 0 ∧
    (∀ i ∈ s.core.otherMembers, i = src ∨ s.core.everHeard i = true) :=
  ⟨st (lead .standby [] id),
    0, hdrOf 0x58 0 0 7 2000 0xF000 ([254#8, 0#8, 0#8, 0#8]), [254#8, 0#8, 0#8, 0#8],
    by decide +kernel⟩

theorem witness_CascadeActsTogether_3 : ∃ (s : State) (p : Fin 21) (h : FrameHdr) (b : Bytes),
    s.core.linkActs p 1 0x59 h b ∧
    s.core.inCascade = true ∧
    s.core.isLead = true ∧
    s.core.casc.announced ≠ none :=
  ⟨st (lead .standby [] (fun c => { c with announced := some (1, 5, 6), ready := [(15, ⟨1, false, false, false⟩)] })),
    19, hdrOf 0x59 0 0 7 2000 0xF000 (leBytes 4 7 ++ leBytes 4 7), leBytes 4 7 ++ leBytes 4 7,
    by decide +kernel⟩

theorem witness_CascadeActsTogether_4 : ∃ (s : State) (p : Fin 21) (h : FrameHdr) (b : Bytes) (j : Nat),
    let f := fieldLE b 4 1
    let src := h.aux.toNat / 4096
    s.core.linkActs p 1 0x59 h b ∧
    s.core.inPair = false ∧
    s.core.inCascade = true ∧
    s.core.isLead = true ∧
    s.core.casc.announced = none ∧
    s.core.otherMembers = [j] ∧
    src = j ∧
    bitOf f 1 = true ∧
    s.core.ownReady.ended = true ∧
    (bitOf f 2 && s.core.ownReady.held && s.core.anyLong (fun k => k == .resume)) = false :=
  ⟨st { lead .expose [(SEQ_LAYER_STATE.LAYER_ACTIVE, 0, 1), (ADP_STATE.STATE, 63, 3)] (fun c => c) with layer := { Layer.init with mask := 0 } },
    18, hdrOf 0x59 0 0 7 2000 0xF000 (leBytes 4 7 ++ leBytes 4 2), leBytes 4 7 ++ leBytes 4 2, 15,
    by decide +kernel⟩

theorem witness_CascadeActsTogether_5 : ∃ (s : State) (p : Fin 21) (h : FrameHdr) (b : Bytes),
    s.core.linkActs p 1 0x5A h b ∧
    s.core.inCascade = true ∧
    s.core.isLead = false ∧
    (fieldLE b 0 1 = 1 ∨ fieldLE b 0 1 = 2) :=
  ⟨st (mem .standby [] id),
    18, hdrOf 0x5a 0 0xF000 7 2200 0 (leBytes 4 2 ++ leBytes 4 99), leBytes 4 2 ++ leBytes 4 99,
    by decide +kernel⟩

theorem witness_CascadeActsTogether_6 : ∃ (s : State) (k : Nat) (layer : Nat),
    s.core.casc.announced = some (2, k, layer) ∧
    s.core.tickReached k = true ∧
    s.core.now % (10 * usU) = 0 ∧
    s.core.mode = .hold ∧
    s.core.rd PLT_MODE.PHASE = phHeld ∧
    s.core.rd PLT_MODE.RETURN = Mode.expose.code ∧
    s.core.rd SEQ_LAYER_STATE.LAYER_ACTIVE = 0 ∧
    s.core.anyLong (fun q => q == .resume) = false :=
  ⟨st (mem .hold [(PLT_MODE.PHASE, 0, phHeld), (PLT_MODE.RETURN, 0, Mode.expose.code)] (fun c => { c with announced := some (2, 2000, 9) })),
    2000, 9,
    by decide +kernel⟩

theorem witness_CascadeActsTogether_7 : ∃ (s : State) (k : Nat) (layer : Nat) (kind : Nat),
    s.core.casc.announced = some (kind, k, layer) ∧
    s.core.tickReached k = true ∧
    s.core.now % (10 * usU) = 0 ∧
    kind ∈ [0, 1] ∧
    s.core.pilot.queue = [] ∧
    s.core.layerDone = false :=
  ⟨st (mem .standby [] (fun c => { c with announced := some (1, 1999, 9), ready := [(3, ⟨1, false, false, false⟩)] })),
    1999, 9, 1,
    by decide +kernel⟩

theorem witness_CascadeActsTogether_8 : ∃ (s : State) (p : Fin 21) (h : FrameHdr) (b : Bytes),
    s.core.linkActs p 1 0x5B h b ∧
    s.core.inCascade = true :=
  ⟨st (mem .standby [] id),
    19, hdrOf 0x5b 0 0xF000 7 2200 0 ([0x34#8, 0x12#8, 1#8, 0#8]), [0x34#8, 0x12#8, 1#8, 0#8],
    by decide +kernel⟩

theorem witness_CascadeActsTogether_9 : ∃ (s : State) (j : Nat),
    s.core.inCascade = true ∧
    s.core.isLead = true ∧
    s.core.inPair = false ∧
    s.core.otherMembers = [j] ∧
    s.core.everHeard j = true ∧
    s.core.heard j = false ∧
    j ∉ s.core.casc.lostPosted :=
  ⟨st (lead .standby [] (fun c => { c with heard := [(hopKey 18 15, 1)], ready := [(15, ⟨1, false, false, false⟩), (3, ⟨1, false, false, false⟩)] })),
    15,
    by decide +kernel⟩

theorem witness_CascadeActsTogether_10 : ∃ (s : State),
    s.core.inCascade = true ∧
    s.core.isLead = false ∧
    s.core.everHeard 0 = true ∧
    s.core.heard 0 = false ∧
    s.core.casc.leadLost = false :=
  ⟨st (mem .standby [] (fun c => { c with heard := [(hopKey 19 0, 1)] })), by decide +kernel⟩

theorem witness_CascadeActsTogether_11 : ∃ (s : State) (j : Nat),
    s.core.inCascade = true ∧
    s.core.held domFAB = false ∧
    s.core.held domTIM = false ∧
    s.core.now % (50 * usU) = 0 ∧
    j < 16 ∧
    j ∈ s.core.hbPeers :=
  ⟨st (lead .expose [(CSC_CONFIG.MEMBERS, 0, 0x8007)] id), 15, by decide +kernel⟩

theorem witness_CascadeActsTogether_12 : ∃ (s : State) (p : Fin 21) (h : FrameHdr) (b : Bytes),
    s.core.linkActs p 1 0x58 h b :=
  ⟨st (lead .standby [] id),
    18, hdrOf 0x58 0 0 7 2000 0xF000 ([254#8, 0#8, 0#8, 0#8]), [254#8, 0#8, 0#8, 0#8],
    by decide +kernel⟩

theorem witness_CascadeActsTogether_13 : ∃ (s : State) (p : Fin 21) (h : FrameHdr) (b : Bytes),
    s.core.linkActs p 1 0x59 h b ∧
    s.core.inCascade = true ∧
    s.core.isLead = true :=
  ⟨st (lead .standby [] id),
    19, hdrOf 0x59 0 0 7 2000 0xF000 (leBytes 4 7 ++ leBytes 4 7), leBytes 4 7 ++ leBytes 4 7,
    by decide +kernel⟩

theorem witness_CascadeActsTogether_14 : ∃ (s : State) (p : Fin 21) (h : FrameHdr) (b : Bytes),
    s.core.linkActs p 1 0x5A h b ∧
    s.core.inCascade = true ∧
    s.core.isLead = false ∧
    fieldLE b 0 1 ≤ 3 :=
  ⟨st (mem .standby [] id),
    18, hdrOf 0x5a 0 0xF000 7 2200 0 (leBytes 4 3 ++ leBytes 4 99), leBytes 4 3 ++ leBytes 4 99,
    by decide +kernel⟩

theorem witness_CascadeActsTogether_15 : ∃ (s : State) (k : Nat) (layer : Nat) (kind : Nat),
    s.core.casc.announced = some (kind, k, layer) ∧
    s.core.tickReached k = true ∧
    s.core.now % (10 * usU) = 0 :=
  ⟨st (mem .hold [(PLT_MODE.PHASE, 0, phHeld), (PLT_MODE.RETURN, 0, Mode.slack.code)] (fun c => { c with announced := some (2, 2000, 9) })),
    2000, 9, 2,
    by decide +kernel⟩

theorem witness_CascadeActsTogether_16 : ∃ (s : State) (j : Nat),
    s.core.inCascade = true ∧
    s.core.isLead = true ∧
    j ∈ s.core.otherMembers ∧
    s.core.everHeard j = true ∧
    s.core.heard j = false ∧
    j ∉ s.core.casc.lostPosted :=
  ⟨st (lead .standby [(CSC_CONFIG.MEMBERS, 0, 0x8007)] (fun c => { c with heard := [(hopKey 18 2, 1), (hopKey 18 15, 1)], ready := [(15, ⟨1, false, false, false⟩), (3, ⟨1, false, false, false⟩)] })),
    15,
    by decide +kernel⟩

end WitCascade

end Sys2Proof.Tests
end

section
namespace Sys2Proof.Machine

/-! ## Sequence numbers (R5) -/

/-- R5's distance of two serial numbers is their difference as bit vectors. -/
theorem seqDistance_eq (w : Nat) (a b : BitVec w) :
    (a.toNat + 2 ^ w - b.toNat % 2 ^ w) % 2 ^ w = (a - b).toNat := by
  rw [BitVec.toNat_sub, Nat.mod_eq_of_lt b.isLt]
  congr 1
  have := b.isLt
  omega

/-- Newer: the distance lies in the lower half of the window. -/
theorem seqNewer_toNat (w : Nat) (a b : BitVec w) :
    seqNewer w a.toNat b.toNat = decide (1 ≤ (a - b).toNat ∧ (a - b).toNat < 2 ^ (w - 1)) := by
  simp only [seqNewer, seqDistance_eq, Bool.decide_and]

/-- Duplicate: the distance is zero. -/
theorem seqSame_toNat (w : Nat) (a b : BitVec w) :
    seqSame w a.toNat b.toNat = decide ((a - b).toNat = 0) := by
  have hzero : (a - b).toNat = 0 ↔ a.toNat = b.toNat := by
    rw [BitVec.toNat_sub]
    constructor
    · intro h
      have ha := a.isLt
      have hb := b.isLt
      rcases Nat.lt_or_ge a.toNat b.toNat with hlt | hge
      · rw [Nat.mod_eq_of_lt (by omega)] at h
        omega
      · rw [show 2 ^ w - b.toNat + a.toNat = 2 ^ w + (a.toNat - b.toNat) by omega, Nat.add_mod_left,
          Nat.mod_eq_of_lt (by omega)] at h
        omega
    · intro h
      rw [h, Nat.sub_add_cancel (Nat.le_of_lt b.isLt), Nat.mod_self]
  rw [seqSame, Nat.mod_eq_of_lt a.isLt, Nat.mod_eq_of_lt b.isLt, Bool.eq_iff_iff, beq_iff_eq, decide_eq_true_eq, hzero]

/-- Stale: the distance lies in the upper half of the window. -/
theorem seqStale_toNat (w : Nat) (a b : BitVec w) :
    seqStale w a.toNat b.toNat = decide (2 ^ (w - 1) ≤ (a - b).toNat) := by
  have hpos : 1 ≤ 2 ^ (w - 1) := Nat.one_le_two_pow
  rw [seqStale, seqNewer_toNat, seqSame_toNat, Bool.eq_iff_iff]
  simp only [Bool.and_eq_true, Bool.not_eq_true', decide_eq_false_iff_not, decide_eq_true_eq]
  omega

/-- Settles O5: at widths 16 and 6 the halves of the window are the numbers of R5. -/
theorem serialNumbersCompare : Obligations.SerialNumbersCompare := by
  unfold Obligations.SerialNumbersCompare
  refine ⟨fun a b => ⟨?_, seqSame_toNat 16 a b, ?_⟩, fun a b => ⟨?_, seqSame_toNat 6 a b, ?_⟩⟩
  · rw [seqNewer_toNat]
    exact decide_eq_decide.mpr (by omega)
  · rw [seqStale_toNat]
    exact decide_eq_decide.mpr (by have := (a - b).isLt; omega)
  · rw [seqNewer_toNat]
    exact decide_eq_decide.mpr (by omega)
  · rw [seqStale_toNat]
    exact decide_eq_decide.mpr (by have := (a - b).isLt; omega)

/-! ## STAGE_READ of the counter of its own admission (R206, R211) -/

/-- A device in STANDBY, every domain released, with a session of master 0 (epoch 1). -/
def stageReadState : State :=
  { State.reset with core := ((Core.reset.wr RST_STATE.IN_RESET 0).wr PLT_MODE.MODE Mode.standby.code).wr PLT_TOKEN.EPOCH0 1 }

/-- STAGE_READ by master 0 of PLT_MB_STAT of index 0, which holds the count of master 0's own commands. -/
def stageReadOfStat : CmdImage := ⟨0, 0, 1, 1, 0, 0, 0x0104, 0, 0, []⟩

theorem stageReadState_ready : stageReadState.core.Ready (cmdOf stageReadOfStat 0x1004) := by decide +kernel

/-- The model answers with COMMANDS 1: the command has been counted at its admission, before it is executed. -/
theorem stageReadOfStat_answer :
    ((stageReadState.core.begin.runCmd [] (cmdOf stageReadOfStat 0x1004)).mbox 0 0).respSlot =
      stageReadState.core.slotOf (cmdOf stageReadOfStat 0x1004) (okReply (leBytes 12 1)) := by decide +kernel

/-- Ending a command leaves the mailboxes as its meaning left them. -/
theorem State.finish_mbox (s : State) (c : Core) (m k : Nat) : (s.finish c).core.mbox m k = c.mbox m k := rfl

/-- Refutes O18: its seventh clause answers STAGE_READ with the value in force before the command, but PLT_MB_STAT of index 0
counts the very command that reads it (COMMANDS, at admission), so the answer shows 1 where the clause says 0. -/
theorem not_objectsAreReadWrittenAndStaged : ¬ Obligations.ObjectsAreReadWrittenAndStaged := by
  unfold Obligations.ObjectsAreReadWrittenAndStaged
  rintro ⟨-, -, -, -, -, -, hunstaged, -⟩
  obtain ⟨t, hexec, -, -, -, -, -, -, -, -, hmbox, -⟩ :=
    hunstaged stageReadState stageReadOfStat Obj.PLT_MB_STAT stageReadState_ready rfl rfl
  have ht : t = stageReadState.finish (stageReadState.core.begin.runCmd [] (cmdOf stageReadOfStat 0x1004)) := by
    have hrun : exec (.stageRead stageReadOfStat) stageReadState =
      stageReadState.run (fun c m => c.runCmd m (cmdOf stageReadOfStat 0x1004)) := rfl
    rw [hrun] at hexec
    exact (Host.Outcome.next.inj hexec).symm
  have hslot : stageReadState.core.slotOf (cmdOf stageReadOfStat 0x1004) (okReply (leBytes 12 1)) =
      stageReadState.core.slotOf (cmdOf stageReadOfStat 0x1004)
        (okReply (stageReadState.core.imageBytes Obj.PLT_MB_STAT 0)) := by
    rw [ht, State.finish_mbox] at hmbox
    exact stageReadOfStat_answer.symm.trans (congrArg Mbox.respSlot hmbox)
  exact absurd hslot (by decide +kernel)

end Sys2Proof.Machine
end


section
namespace Sys2Proof.Machine

/-! ## Registers of BAR0, event interrupts, Ethernet answers (R9, R199, R223, R226, R227) -/

/-- A command whose meaning gives a core runs as that core shows. -/
theorem runs_to {i : Instr} {s : State} {fp : Footprint} {P : Core → Prop} (f : Core → Mem → Core) (d : Core)
    (he : exec i s = s.run f) (hd : f s.core.begin s.dram = d) (ho : d.out = fp.outs) (hw : d.wq = fp.writes)
    (hf : Only fp s.core.begin d) (hP : P d.close) : Runs i s fp P := by
  subst hd
  exact runs_of f he ho hw hf hP

/-- A command whose meaning leaves the core as it began changes nothing at all. -/
theorem idles_of {i : Instr} {s : State} (f : Core → Mem → Core) (he : exec i s = s.run f)
    (hf : f s.core.begin s.dram = s.core.begin) : Idles i s :=
  runs_to f _ he hf rfl rfl (Only.refl _ _) trivial

/-- A command that answers `finish` of its meaning's core acts as that core shows. -/
theorem acts_of {i : Instr} {s : State} {P : Core → Prop} (f : Core → Mem → Core) (he : exec i s = s.run f)
    (hP : P (f s.core.begin s.dram).close) : Acts i s P :=
  ⟨s.finish (f s.core.begin s.dram), he, rfl, rfl, State.finish_wire s _, hP⟩

/-- A fold whose every step gives back its start gives back its start. -/
theorem foldl_eq_start {α β : Type} {g : α → β → α} {a : α} (l : List β) (h : ∀ b ∈ l, g a b = a) : l.foldl g a = a := by
  induction l with
  | nil => rfl
  | cons b l ih =>
    rw [List.foldl_cons, h b List.mem_cons_self]
    exact ih (fun x hx => h x (List.mem_cons_of_mem b hx))

/-- Two folds whose steps agree on the list's members agree. -/
theorem foldl_eq_foldl {α β : Type} {g k : α → β → α} (l : List β) (h : ∀ a, ∀ b ∈ l, g a b = k a b) {a : α} :
    l.foldl g a = l.foldl k a := by
  induction l generalizing a with
  | nil => rfl
  | cons b l ih =>
    rw [List.foldl_cons, List.foldl_cons, h a b List.mem_cons_self]
    exact ih (fun a x hx => h a x (List.mem_cons_of_mem b hx))

/-! ### EV_CONS and MSI-X -/

theorem Core.evConsWrite_within {c : Core} {v : Nat} (hp : c.held domPLT = false)
    (hv : (c.rd BAR0.EV_PROD + 2 ^ 32 - v % 2 ^ 32) % 2 ^ 32 ≤ 1024) : c.evConsWrite v = c.wr BAR0.EV_CONS v := by
  rw [Core.evConsWrite, if_neg]
  simp only [hp, Bool.false_eq_true, false_or, Nat.not_lt]
  exact hv

theorem Core.evConsWrite_beyond {c : Core} {v : Nat}
    (hv : 1024 < (c.rd BAR0.EV_PROD + 2 ^ 32 - v % 2 ^ 32) % 2 ^ 32) : c.evConsWrite v = c := by
  rw [Core.evConsWrite, if_pos (Or.inr hv)]

/-- A message that neither INT_MASK nor the MSI-X table holds back is sent. -/
theorem Core.msix_open {c : Core} {v : Nat} (hi : bitOf (c.rd BAR0.INT_MASK) v = false)
    (hm : bitOf c.pilot.msixMasked v = false) : c.msix v = c.emit (.msix v) := by
  simp only [Core.msix, hi, hm, Bool.false_eq_true, if_false]

theorem Core.holdoffExpiry_due {c : Core} (hs : c.pilot.eventSince = true) (hu : c.pilot.holdoffUntil ≤ c.ticks)
    (hi : bitOf (c.rd BAR0.INT_MASK) 8 = false) (hm : bitOf c.pilot.msixMasked 8 = false) :
    c.holdoffExpiry = (c.modPilot (fun p => { p with
      eventSince := false, holdoffUntil := c.ticks + c.rd PLT_EVQ.EV_HOLDOFF * ticksPerUs })).emit (.msix 8) := by
  rw [Core.holdoffExpiry, if_pos (by simp [hs, hu]), Core.eventMessage, if_neg (by omega)]
  exact Core.msix_open hi hm

/-- What unmasking a vector leaves in the MSI-X table. -/
def Pilot.unmasked (p : Pilot) (v : Nat) : Pilot :=
  { p with
    msixMasked := p.msixMasked - 2 ^ v,
    msixHeld := if bitOf p.msixHeld v then p.msixHeld - 2 ^ v else p.msixHeld }

theorem Core.msixMask_unmask {c : Core} {v : Nat} (hm : bitOf c.pilot.msixMasked v = true) :
    c.msixMask v false = if bitOf c.pilot.msixHeld v then (c.modPilot (Pilot.unmasked · v)).emit (.msix v)
      else c.modPilot (Pilot.unmasked · v) := by
  simp only [Core.msixMask, Core.modPilot, Pilot.unmasked, hm, Bool.false_eq_true, if_false, if_true]

/-! ### Writes to BAR0 -/

/-- A write that ends below the descriptor ring leaves the ring as it is. -/
theorem Core.descWrite_below (c : Core) {off : Nat} {data : Bytes} (h : off + data.length ≤ tswRing) :
    c.descWrite off data = c := by
  refine foldl_eq_start _ (fun i hi => if_neg ?_)
  have := List.mem_range.mp hi
  omega

/-- A write that ends below the mailboxes leaves the command slots as they are. -/
theorem Core.slotWrite_below (c : Core) {off : Nat} {data : Bytes} (h : off + data.length ≤ 0x10000) :
    c.slotWrite off data = c := by
  refine foldl_eq_start _ (fun i hi => if_neg ?_)
  have := List.mem_range.mp hi
  omega

theorem touches_of_end_le {off : Nat} {data : Bytes} {base : Nat} (h : off + data.length ≤ base) :
    touches off data base = false := by
  simp only [touches, Bool.and_eq_false_iff, decide_eq_false_iff_not]
  omega

theorem touches_of_word_le {off : Nat} {data : Bytes} {base : Nat} (h : base + 4 ≤ off) :
    touches off data base = false := by
  simp only [touches, Bool.and_eq_false_iff, decide_eq_false_iff_not]
  omega

/-- A write past the registers of R199 touches none of them. -/
theorem Core.doorRegs_past (c : Core) {off : Nat} {data : Bytes} (h : 0x101C ≤ off) : c.doorRegs off data = c := by
  simp only [Core.doorRegs, touches_of_word_le (show 0x1000 + 4 ≤ off by omega),
    touches_of_word_le (show 0x1008 + 4 ≤ off by omega), touches_of_word_le (show 0x100C + 4 ≤ off by omega),
    touches_of_word_le (show 0x1010 + 4 ≤ off by omega), touches_of_word_le (show 0x1018 + 4 ≤ off by omega),
    Bool.false_eq_true, if_false]

/-- Four bytes written at a word are its value. -/
theorem wordOf_whole {data : Bytes} (h : data.length = 4) (base old : Nat) : wordOf base data base old = leNat data := by
  match data, h with
  | [a, b, c, d], _ => simp [wordOf, List.range_succ]

/-- A write of four bytes at INT_MASK writes that register alone. -/
theorem Core.doorRegs_intMask (c : Core) {data : Bytes} (h : data.length = 4) :
    c.doorRegs 0x1010 data = c.wr BAR0.INT_MASK (leNat data) := by
  have hmask : touches 0x1010 data 0x1010 = true := by simp [touches, h]
  simp only [Core.doorRegs, hmask, wordOf_whole h,
    touches_of_word_le (data := data) (show 0x1000 + 4 ≤ 0x1010 by omega),
    touches_of_word_le (data := data) (show 0x1008 + 4 ≤ 0x1010 by omega),
    touches_of_word_le (data := data) (show 0x100C + 4 ≤ 0x1010 by omega),
    touches_of_end_le (show 0x1010 + data.length ≤ 0x1018 by omega), Bool.false_eq_true, if_false, if_true]

/-- Below the staging window a write reaches the command slots and the registers of R199, while PLT runs. -/
theorem Core.bar0Write_below {c : Core} {off : Nat} {data : Bytes} (hb : c.onBus = true) (hp : c.held domPLT = false)
    (h : off + data.length ≤ tswRing) : c.bar0Write off data = (c.slotWrite off data).doorRegs off data := by
  have hprod : touches off data 0x1008000 = false := touches_of_end_le (Nat.le_trans h (by decide))
  simp only [Core.bar0Write, hb, hp, hprod, Core.descWrite_below c h, Bool.not_true, Bool.false_eq_true, if_false]

/-! ### A mailbox's command slot -/

theorem setAt_setAt {α : Type} (d x y : α) (i : Nat) : ∀ l : List α, setAt d (setAt d l i x) i y = setAt d l i y := by
  induction i with
  | zero => intro l; cases l <;> rfl
  | succ i ih => intro l; cases l <;> simp [setAt, ih]

/-- The mailbox that is changed reads as changed, every other one as before. -/
theorem getD_modAt {α : Type} (d : α) (f : α → α) (l : List α) (i j : Nat) :
    (modAt d l i f).getD j d = if j = i then f (l.getD i d) else l.getD j d :=
  getD_setAt _ _ _ _ _

/-- Distinct mailboxes of one master have distinct places. -/
theorem mbIx_inj {m j k : Nat} : mbIx m j = mbIx m k ↔ j = k := by simp [mbIx]

theorem Core.mbox_modMbox (c : Core) (m n k : Nat) (f : Mbox → Mbox) :
    (c.modMbox m n f).mbox m k = if k = n then f (c.mbox m n) else c.mbox m k := by
  simp only [Core.mbox, Core.modMbox, Core.modPilot, getD_modAt, mbIx_inj]

/-- One more byte of a prefix that has been written over a list. -/
theorem overwrite_step {α : Type} (xs ys : List α) (k : Nat) (d : α) (hk : k < xs.length) (hl : xs.length ≤ ys.length) :
    (xs.take k ++ ys.drop k).set k (xs.getD k d) = xs.take (k + 1) ++ ys.drop (k + 1) := by
  have hlen : (xs.take k).length = k := List.length_take_of_le (Nat.le_of_lt hk)
  rw [List.set_append_right _ _ (by omega), hlen, Nat.sub_self, List.drop_eq_getElem_cons (show k < ys.length by omega),
    List.set_cons_zero, List.take_succ_eq_append_getElem hk, List.append_assoc, List.getD_eq_getElem?_getD,
    List.getElem?_eq_getElem hk]
  rfl

/-- One byte written in the command slot of a mailbox of this device's own host. -/
def Core.putSlotByte (c : Core) (n i : Nat) (b : Byte) : Core :=
  c.modMbox c.localMaster n (fun q => { q with cmdSlot := q.cmdSlot.set i b })

/-- A write within the command slot of mailbox `n` puts its bytes there one by one (R199). -/
theorem Core.slotWrite_eq (c : Core) {n : Nat} (hn : n < 8) {data : Bytes} (hd : data.length ≤ 256) :
    c.slotWrite (0x10000 + 0x200 * n) data =
      (List.range data.length).foldl (fun c i => c.putSlotByte n i (data.getD i 0#8)) c := by
  refine foldl_eq_foldl _ (fun d i hi => ?_)
  have hlt := List.mem_range.mp hi
  have hbox : (0x10000 + 0x200 * n + i - 0x10000) / 0x200 = n := by omega
  have hoff : (0x10000 + 0x200 * n + i) % 0x200 = i := by omega
  simp only [hbox, hoff]
  exact if_pos (by omega)

/-- What the first `k` bytes of a write into the command slot of mailbox `n` change: that slot's first `k` bytes alone. -/
theorem Core.putSlotBytes (c : Core) (n : Nat) {data : Bytes} (hd : data.length ≤ 256)
    (hs : (c.mbox c.localMaster n).cmdSlot.length = 256) (k : Nat) (hk : k ≤ data.length) :
    ∃ boxes : List Mbox,
      (List.range k).foldl (fun c i => c.putSlotByte n i (data.getD i 0#8)) c =
        c.modPilot (fun p => { p with mboxes := boxes }) ∧
      (boxes.getD (mbIx c.localMaster n) Mbox.init).cmdSlot =
        data.take k ++ (c.mbox c.localMaster n).cmdSlot.drop k ∧
      (∀ j, j ≠ mbIx c.localMaster n → boxes.getD j Mbox.init = c.pilot.mboxes.getD j Mbox.init) := by
  induction k with
  | zero => exact ⟨c.pilot.mboxes, rfl, rfl, fun _ _ => rfl⟩
  | succ k ih =>
    obtain ⟨boxes, hfold, hslot, hrest⟩ := ih (by omega)
    refine ⟨modAt Mbox.init boxes (mbIx c.localMaster n)
      (fun q => { q with cmdSlot := q.cmdSlot.set k (data.getD k 0#8) }), ?_, ?_, fun j hj => ?_⟩
    · rw [List.range_succ, List.foldl_append, hfold]
      rfl
    · rw [getD_modAt, if_pos rfl, hslot]
      exact overwrite_step _ _ _ _ (by omega) (by omega)
    · rw [getD_modAt, if_neg hj, hrest j hj]

/-- A write from the start of a command slot: the bytes stand there, the rest of the slot and every other mailbox stay. -/
theorem Core.slotWrite_slot (c : Core) {n : Nat} (hn : n < 8) {data : Bytes} (hd : data.length ≤ 256)
    (hs : (c.mbox c.localMaster n).cmdSlot.length = 256) :
    ∃ boxes : List Mbox,
      c.slotWrite (0x10000 + 0x200 * n) data = c.modPilot (fun p => { p with mboxes := boxes }) ∧
      (boxes.getD (mbIx c.localMaster n) Mbox.init).cmdSlot =
        data ++ (c.mbox c.localMaster n).cmdSlot.drop data.length ∧
      (∀ j, j ≠ mbIx c.localMaster n → boxes.getD j Mbox.init = c.pilot.mboxes.getD j Mbox.init) := by
  obtain ⟨boxes, hfold, hslot, hrest⟩ := Core.putSlotBytes c n hd hs data.length (Nat.le_refl _)
  exact ⟨boxes, (Core.slotWrite_eq c hn hd).trans hfold, by rw [hslot, List.take_length], hrest⟩

/-! ### Reading RC objects -/

theorem findObj_id {n : Nat} {d : ObjDesc} (h : findObj n = some d) : d.id = n := by
  have hfind : objTable.find? (fun e => e.id == n) = some d := h
  have hsat := List.find?_some hfind
  exact eq_of_beq hsat

theorem findObj_mem {n : Nat} {d : ObjDesc} (h : findObj n = some d) : d ∈ objTable := List.mem_of_find?_eq_some h

/-- The keys of an object's RC fields. -/
def ObjDesc.rcKeys (d : ObjDesc) (i : Nat) : List Nat := (d.fields.filter (fun f => f.access == .rc)).map (fun f => f.key i)

theorem ObjDesc.mem_rcKeys {d : ObjDesc} {f : Field} (hf : f ∈ d.fields) (ha : f.access = .rc) (i : Nat) :
    f.key i ∈ d.rcKeys i :=
  List.mem_map_of_mem (List.mem_filter.mpr ⟨hf, by simp [ha]⟩)

/-- Clearing an object's counts writes its RC fields alone. -/
theorem Core.clearCounts_only (c : Core) (d : ObjDesc) (i : Nat) : Only { keys := d.rcKeys i } c (c.clearCounts d i) :=
  Only.foldl _ _ (fun _ _ hf h => Only.ite _ (fun ha => h.wr _ _ _ (ObjDesc.mem_rcKeys hf ha i)) (fun _ => h)) c
    (Only.refl _ c)

theorem Core.clearCounts_quiet (c : Core) (d : ObjDesc) (i : Nat) : Quiet c (c.clearCounts d i) :=
  Quiet.foldl _ _ (fun _ _ _ h => Quiet.ite _ (fun _ => h.wr _ _ _) (fun _ => h)) c (Quiet.refl c)

/-- Every RC field of the device's objects resets to zero. -/
theorem rcFields_reset : ∀ d ∈ objTable, ∀ f ∈ d.fields, f.access = .rc → f.reset = .num 0 := by decide +kernel

/-- Zero written to a field leaves a field that resets to zero as it was, or clears it. -/
theorem Core.rd_wr_zero (c : Core) (f : Field) (i : Nat) {g : Field} {j : Nat} (hg : g.resetVal j = 0) :
    (c.wr f 0 i).rd g j = if g.key j = f.key i then 0 else c.rd g j := by
  by_cases hk : g.key j = f.key i
  · rw [if_pos hk, Core.rd, hg, hk, Core.wr, Nat.zero_mod, Kv.get, Kv.put]
    split
    · rw [Kv.find_erase_same]; rfl
    · rw [Kv.find_insert_same]; rfl
  · rw [if_neg hk, Core.rd_wr_ne c f g 0 i j hk]

/-- A clear count stays clear while the counts of a list of fields are cleared. -/
theorem Core.rd_clear_zero {g : Field} {i : Nat} (hg : g.resetVal i = 0) (l : List Field) : ∀ c : Core, c.rd g i = 0 →
    (l.foldl (fun c f => if f.access = .rc then c.wr f 0 i else c) c).rd g i = 0 := by
  induction l with
  | nil => exact fun _ h => h
  | cons f l ih =>
    intro c h
    refine ih _ ?_
    by_cases ha : f.access = .rc
    · simp only [if_pos ha, Core.rd_wr_zero c f i hg, h, ite_self]
    · simp only [if_neg ha, h]

/-- Every RC field of an object reads zero once its counts are cleared. -/
theorem Core.rd_clearCounts (c : Core) {d : ObjDesc} (i : Nat) (hd : d ∈ objTable) {f : Field} (hf : f ∈ d.fields)
    (ha : f.access = .rc) : (c.clearCounts d i).rd f i = 0 := by
  have hreset : f.resetVal i = 0 := by rw [Field.resetVal, rcFields_reset d hd f hf ha]
  obtain ⟨l₁, l₂, hl⟩ := List.append_of_mem hf
  rw [Core.clearCounts, hl, List.foldl_append, List.foldl_cons, if_pos ha]
  exact Core.rd_clear_zero hreset l₂ _ (by rw [Core.rd_wr_zero _ f i hreset, if_pos rfl])

/-- TIM_NOW and TIM_STATE, which a read shows as they stand, hold no RC count. -/
theorem rcCounts_not_shown {d : ObjDesc} (h : findObj d.id = some d) (hrc : d.fields.any (fun f => f.access == .rc) = true) :
    d.id ≠ 0x6003 ∧ d.id ≠ 0x6002 := by
  constructor
  · intro hid
    rw [hid, show findObj 0x6003 = some Obj.TIM_NOW by decide, Option.some.injEq] at h
    subst h
    exact absurd hrc (by decide)
  · intro hid
    rw [hid, show findObj 0x6002 = some Obj.TIM_STATE by decide, Option.some.injEq] at h
    subst h
    exact absurd hrc (by decide)

/-- A read of an object with RC counts, but for TIM_TXQ: its bytes, and its counts cleared (R9). -/
theorem Core.readObject_counts (c : Core) {d : ObjDesc} (i : Nat) (hn : d.id ≠ 0x6010) (hnow : d.id ≠ 0x6003)
    (hrate : d.id ≠ 0x6002) : c.readObject d i = (c.clearCounts d i, c.imageBytes d i) := by
  simp only [Core.readObject, if_neg hn, if_neg hnow, if_neg hrate]

/-- STAT_READ_CLEAR of an object with RC counts, but for TIM_TXQ. -/
theorem Core.statRead_counts (c : Core) {obj inst : Nat} {d : ObjDesc} (hd : findObj obj = some d) (hq : obj ≠ 0x6010)
    (hrc : d.fields.any (fun f => f.access == .rc) = true) (hlo : d.instLo ≤ inst) (hhi : inst ≤ d.instHi) :
    c.statRead obj inst = (c.clearCounts d inst).emit (.busData (c.imageBytes d inst)) := by
  have hid := findObj_id hd
  subst hid
  obtain ⟨hnow, hrate⟩ := rcCounts_not_shown hd hrc
  simp [Core.statRead, hd, hrc, hlo, hhi, Core.readObject_counts c inst hq hnow hrate]

/-! ### Ethernet answers -/

theorem Core.arpRequest_on {c : Core} (hm : c.mgmtOn = true) (hp : c.peers ≠ []) (ip : Nat) :
    c.arpRequest ip = if ip = c.rd PLT_MGMT.MGMT_IP then c.emit (.ethReply 0 (leBytes 4 ip)) else c := by
  simp [Core.arpRequest, hm, hp]

theorem Core.icmpEcho_on {c : Core} (hm : c.mgmtOn = true) (hp : c.peers ≠ []) (ip : Nat) (data : Bytes) :
    c.icmpEcho ip data = if ip = c.rd PLT_MGMT.MGMT_IP then c.emit (.ethReply 1 data) else c := by
  simp [Core.icmpEcho, hm, hp]

/-- A command that answers with one output, or with none where its condition fails, changes nothing else. -/
theorem runs_emit_if {i : Instr} {s : State} (p : Prop) [Decidable p] (o : Output) (f : Core → Mem → Core)
    (he : exec i s = s.run f) (hf : f s.core.begin s.dram = if p then s.core.begin.emit o else s.core.begin) :
    Runs i s { outs := if p then [o] else [] } (fun _ => True) := by
  refine runs_to f _ he hf ?_ ?_ ?_ trivial
  · split <;> rfl
  · split <;> rfl
  · exact Only.ite _ (fun _ => (Only.refl _ _).emit o) (fun _ => Only.refl _ _)

/-! ### The accesses as commands -/

theorem evConsWrite_within_runs (s : State) (v : BitVec 32) (hb : s.core.onBus = true) (hp : s.core.held domPLT = false)
    (hv : (s.core.rd BAR0.EV_PROD + 2 ^ 32 - v.toNat) % 2 ^ 32 ≤ 1024) :
    Runs (.evConsWrite v) s { keys := [BAR0.EV_CONS.key 0] } (fun t => t.rd BAR0.EV_CONS = v.toNat) := by
  have hrun : (if s.core.begin.onBus then s.core.begin.evConsWrite v.toNat else s.core.begin) =
      s.core.begin.wr BAR0.EV_CONS v.toNat := by
    rw [if_pos (show s.core.begin.onBus = true from hb), Core.evConsWrite_within (c := s.core.begin) hp]
    rwa [Nat.mod_eq_of_lt v.isLt]
  refine runs_to (fun c _ => if c.onBus then c.evConsWrite v.toNat else c) _ rfl hrun rfl rfl
    ((Only.refl _ _).wr _ _ _ List.mem_cons_self) ?_
  rw [Core.rd_close, Core.rd_wr_same]
  exact Nat.mod_eq_of_lt v.isLt

theorem evConsWrite_beyond_idles (s : State) (v : BitVec 32)
    (hv : 1024 < (s.core.rd BAR0.EV_PROD + 2 ^ 32 - v.toNat) % 2 ^ 32) : Idles (.evConsWrite v) s := by
  refine idles_of (fun c _ => if c.onBus then c.evConsWrite v.toNat else c) rfl ?_
  rw [Core.evConsWrite_beyond (c := s.core.begin) (by rwa [Nat.mod_eq_of_lt v.isLt]), ite_self]

theorem evHoldoffExpiry_runs (s : State) (hs : s.core.pilot.eventSince = true)
    (hu : s.core.pilot.holdoffUntil ≤ s.core.ticks) (hi : bitOf (s.core.rd BAR0.INT_MASK) 8 = false)
    (hm : bitOf s.core.pilot.msixMasked 8 = false) :
    Runs .evHoldoffExpiry s { parts := [.pilot], outs := [.msix 8] } (fun t =>
      t.pilot = { s.core.pilot with
        eventSince := false, holdoffUntil := s.core.ticks + s.core.rd PLT_EVQ.EV_HOLDOFF * ticksPerUs }) :=
  runs_to (fun c _ => c.holdoffExpiry) _ rfl (Core.holdoffExpiry_due (c := s.core.begin) hs hu hi hm) rfl rfl
    (((Only.refl _ _).modPilot _ List.mem_cons_self).emit _) rfl

theorem msixUnmask_open_runs (s : State) (v : Fin 64) (hb : s.core.onBus = true)
    (hm : bitOf s.core.pilot.msixMasked v = true) :
    Runs (.msixUnmask v false) s
      { parts := [.pilot], outs := if bitOf s.core.pilot.msixHeld v then [.msix v] else [] }
      (fun t => t.pilot = s.core.pilot.unmasked v) := by
  have hpilot := (Only.refl { parts := [.pilot] } s.core.begin).modPilot (Pilot.unmasked · v) List.mem_cons_self
  refine runs_to (fun c _ => if c.onBus then c.msixMask v.val false else c) _ rfl
    ((if_pos (show s.core.begin.onBus = true from hb)).trans (Core.msixMask_unmask (c := s.core.begin) hm)) ?_ ?_
    (Only.ite _ (fun _ => (hpilot.mono (fun _ h => h) (fun _ h => h)).emit _)
      (fun _ => hpilot.mono (fun _ h => h) (fun _ h => h))) ?_
  · show Core.out (if bitOf s.core.pilot.msixHeld v then _ else _) = if bitOf s.core.pilot.msixHeld v then _ else _
    split <;> rfl
  · split <;> rfl
  · split <;> rfl

theorem msixUnmask_masked_runs (s : State) (v : Fin 64) (hb : s.core.onBus = true) :
    Runs (.msixUnmask v true) s { parts := [.pilot] } (fun t =>
      t.pilot = { s.core.pilot with msixMasked := orBit s.core.pilot.msixMasked v }) :=
  runs_to (fun c _ => if c.onBus then c.msixMask v.val true else c) _ rfl
    (if_pos (show s.core.begin.onBus = true from hb)) rfl rfl ((Only.refl _ _).modPilot _ List.mem_cons_self) rfl

theorem registerWrite_intMask_runs (s : State) (data : Bytes) (hb : s.core.onBus = true)
    (hp : s.core.held domPLT = false) (hd : data.length = 4) :
    Runs (.registerWrite 0x1010#32 data) s { keys := [BAR0.INT_MASK.key 0] } (fun t =>
      t.rd BAR0.INT_MASK = leNat data % 1024) := by
  have hrun : s.core.begin.bar0Write 0x1010 data = s.core.begin.wr BAR0.INT_MASK (leNat data) := by
    rw [Core.bar0Write_below (c := s.core.begin) hb hp (by unfold tswRing; omega),
      Core.slotWrite_below _ (by omega), Core.doorRegs_intMask _ hd]
  exact runs_to (fun c _ => c.bar0Write 0x1010 data) _ rfl hrun rfl rfl ((Only.refl _ _).wr _ _ _ List.mem_cons_self)
    (Core.rd_wr_same _ _ _ _)

theorem registerWrite_slot_runs (s : State) (n : Fin 8) (data : Bytes) (hb : s.core.onBus = true)
    (hp : s.core.held domPLT = false) (hd : data.length ≤ 256)
    (hs : (s.core.mbox s.core.localMaster n).cmdSlot.length = 256) :
    Runs (.registerWrite (BitVec.ofNat 32 (0x10000 + 0x200 * n.val)) data) s { parts := [.pilot] } (fun t =>
      (t.mbox s.core.localMaster n).cmdSlot =
        data ++ (s.core.mbox s.core.localMaster n).cmdSlot.drop data.length ∧
      (∀ k : Fin 8, k ≠ n → t.mbox s.core.localMaster k = s.core.mbox s.core.localMaster k)) := by
  have hn := n.isLt
  obtain ⟨boxes, hslot, hbox, hrest⟩ := Core.slotWrite_slot s.core.begin hn hd hs
  have hoff : (BitVec.ofNat 32 (0x10000 + 0x200 * n.val)).toNat = 0x10000 + 0x200 * n.val := by
    rw [BitVec.toNat_ofNat, Nat.mod_eq_of_lt (by omega)]
  have hrun : s.core.begin.bar0Write (BitVec.ofNat 32 (0x10000 + 0x200 * n.val)).toNat data =
      s.core.begin.modPilot (fun p => { p with mboxes := boxes }) := by
    rw [hoff, Core.bar0Write_below (c := s.core.begin) hb hp (by unfold tswRing; omega), hslot,
      Core.doorRegs_past _ (by omega)]
  exact runs_to (fun c _ => c.bar0Write _ data) _ rfl hrun rfl rfl ((Only.refl _ _).modPilot _ List.mem_cons_self)
    ⟨hbox, fun k hk => hrest _ (fun h => hk (Fin.ext (mbIx_inj.mp h)))⟩

theorem registerWrite_off_idles (s : State) (off : BitVec 32) (data : Bytes) (hb : s.core.onBus = false) :
    Idles (.registerWrite off data) s := by
  refine idles_of (fun c _ => c.bar0Write off.toNat data) rfl (if_pos ?_)
  rw [show s.core.begin.onBus = false from hb]
  rfl

/-- STAT_READ_CLEAR returns the object's bytes, then its counts are clear (R9). -/
theorem statReadClear_runs (s : State) (obj inst : BitVec 16) (d : ObjDesc) (hd : findObj obj.toNat = some d)
    (hq : obj ≠ 0x6010#16) (hrc : d.fields.any (fun f => f.access == .rc) = true) (hlo : d.instLo ≤ inst.toNat)
    (hhi : inst.toNat ≤ d.instHi) :
    Runs (.statReadClear obj inst) s
      { keys := d.rcKeys inst.toNat, outs := [.busData (s.core.imageBytes d inst.toNat)] }
      (fun t => ∀ f ∈ d.fields, f.access = .rc → t.rd f inst.toNat = 0) := by
  have hrun := Core.statRead_counts s.core.begin hd (fun h => hq (BitVec.eq_of_toNat_eq h)) hrc hlo hhi
  have hquiet := Core.clearCounts_quiet s.core.begin d inst.toNat
  refine runs_to (fun c _ => c.statRead obj.toNat inst.toNat) _ rfl hrun ?_ hquiet.2
    (((Core.clearCounts_only s.core.begin d inst.toNat).mono (fun _ h => h) (fun _ h => h)).emit _)
    (fun f hf ha => Core.rd_clearCounts s.core.begin inst.toNat (findObj_mem hd) hf ha)
  exact congrArg (· ++ [Output.busData (s.core.imageBytes d inst.toNat)]) hquiet.1

/-- Settles O48, clause by clause from what each access does. -/
theorem hostRegistersTakeEffect : Obligations.HostRegistersTakeEffect := by
  unfold Obligations.HostRegistersTakeEffect
  refine ⟨evConsWrite_within_runs, evConsWrite_beyond_idles, evHoldoffExpiry_runs, msixUnmask_open_runs,
    msixUnmask_masked_runs, registerWrite_intMask_runs, registerWrite_slot_runs, registerWrite_off_idles,
    statReadClear_runs, fun s ip hm hp => ?_, fun s ip data hm hp => ?_, fun s obj inst d hd hrc hlo hhi => ?_⟩
  · exact runs_emit_if _ _ (fun c _ => c.arpRequest ip.toNat) rfl (Core.arpRequest_on (c := s.core.begin) hm hp _)
  · exact runs_emit_if _ _ (fun c _ => c.icmpEcho ip.toNat data) rfl (Core.icmpEcho_on (c := s.core.begin) hm hp _ _)
  · by_cases hq : obj = 0x6010#16
    · exact acts_of (fun c _ => c.statRead obj.toNat inst.toNat) rfl (Or.inl hq)
    · obtain ⟨t, hexec, hpend, -, hwq, hwire, -, -, hclear⟩ := statReadClear_runs s obj inst d hd hq hrc hlo hhi
      exact ⟨t, hexec, hpend, hwq, hwire, Or.inr hclear⟩

end Sys2Proof.Machine
end


section
namespace Sys2Proof.Machine

/-! ## What resets do to the parts of the core (R9, R420 to R422) -/

/-! ### Bits of a mask -/

/-- `orBit` sets one bit and leaves the others. -/
theorem bitOf_orBit (i : Nat) : ∀ m j : Nat, bitOf (orBit m i) j = (bitOf m j || decide (i = j)) := by
  unfold orBit bitOf
  induction i with
  | zero =>
    intro m j
    by_cases h : m.testBit 0 = true
    · cases j <;> simp [h]
    · rw [if_neg h]
      rw [Nat.testBit_zero, decide_eq_true_eq] at h
      cases j with
      | zero => simp [Nat.testBit_zero]; omega
      | succ j => rw [Nat.testBit_succ, Nat.testBit_succ, show (m + 2 ^ 0) / 2 = m / 2 by omega]; simp
  | succ i ih =>
    intro m j
    have hstep := ih (m / 2)
    by_cases h : m.testBit (i + 1) = true
    · rw [if_pos h]
      by_cases hj : i + 1 = j
      · subst hj; simp [h]
      · simp [hj]
    · rw [if_neg h]
      rw [Nat.testBit_succ] at h
      cases j with
      | zero => simp [Nat.testBit_zero, Nat.pow_succ]
      | succ j =>
        have hj := hstep j
        rw [if_neg h] at hj
        rw [Nat.testBit_succ, Nat.testBit_succ, show (m + 2 ^ (i + 1)) / 2 = m / 2 + 2 ^ i by rw [Nat.pow_succ]; omega, hj]
        simp

/-! ### Sparse stores under resets -/

/-- A store filtered by key lists what the filter keeps. -/
theorem Kv.find_filter {α : Type} (p : Nat → Bool) (l : Kv α) (k : Nat) :
    Kv.find (l.filter (fun e => p e.1)) k = if p k then Kv.find l k else none := by
  induction l with
  | nil => simp [Kv.find]
  | cons e l ih =>
    obtain ⟨a, b⟩ := e
    by_cases ha : a = k
    · subst ha
      by_cases hp : p a = true
      · simp [hp, Kv.find]
      · simp [hp, ih]
    · by_cases hp : p a = true
      · simp [hp, Kv.find, ha, ih]
      · simp [hp, Kv.find, ha, ih]

theorem Kv.find_dropWhere {α : Type} (p : Nat → Bool) (l : Kv α) (k : Nat) :
    Kv.find (Kv.dropWhere p l) k = if p k then none else Kv.find l k := by
  rw [Kv.dropWhere, Kv.find_filter (fun a => !p a)]
  cases p k <;> rfl

/-- Values put over a store leave every key that they do not name. -/
theorem Kv.find_foldl_insert {α : Type} (es : List (Nat × α)) (k : Nat) (hk : k ∉ es.map Prod.fst) :
    ∀ l : Kv α, Kv.find (es.foldl (fun r e => Kv.insert e.1 e.2 r) l) k = Kv.find l k := by
  induction es with
  | nil => exact fun _ => rfl
  | cons e es ih =>
    intro l
    obtain ⟨hne, hes⟩ : k ≠ e.1 ∧ k ∉ es.map Prod.fst := by simpa using hk
    rw [List.foldl_cons, ih hes, Kv.find_insert_ne _ _ _ _ hne]

/-! ### Outputs of a domain that enters reset -/

/-- One core differs from another in what it has emitted, at most. -/
def Emitted (c d : Core) : Prop := ∃ o : List Output, d = { c with out := o }

theorem Emitted.refl (c : Core) : Emitted c c := ⟨c.out, rfl⟩

theorem Emitted.emit {c d : Core} (h : Emitted c d) (o : Output) : Emitted c (d.emit o) := by
  obtain ⟨l, rfl⟩ := h
  exact ⟨_, rfl⟩

theorem Emitted.ite {c d e : Core} (p : Prop) [Decidable p] (h : Emitted c d) (k : Emitted c e) :
    Emitted c (if p then d else e) := by
  split
  · exact h
  · exact k

theorem Emitted.forEach {c d : Core} (n : Nat) (g : Core → Nat → Core)
    (hg : ∀ e i, Emitted c e → Emitted c (g e i)) (h : Emitted c d) : Emitted c (d.forEach n g) := by
  induction n with
  | zero => exact h
  | succ n ih =>
    rw [Core.forEach_succ]
    exact hg _ _ ih

/-- The outputs of a domain that enters reset are all that it changes (R420). -/
theorem Emitted.outputsOff {c d : Core} (h : Emitted c d) (n : Nat) : Emitted c (d.outputsOff n) := by
  unfold Core.outputsOff
  split
  · exact Emitted.forEach _ _ (fun _ _ k => (k.emit _).emit _) h
  · exact Emitted.ite _ (h.emit _) h
  · exact Emitted.forEach _ _ (fun _ _ k => Emitted.ite _ (k.emit _) k) h
  · exact Emitted.forEach _ _ (fun _ _ k => Emitted.ite _ (k.emit _) k)
      (Emitted.forEach _ _ (fun _ _ k => Emitted.ite _ (k.emit _) k)
        (Emitted.forEach _ _ (fun _ _ k => Emitted.ite _ (k.emit _) k) h))
  · exact Emitted.forEach _ _ (fun _ _ k => Emitted.ite _ k (k.emit _)) h
  · exact Emitted.forEach _ _ (fun _ _ k => Emitted.ite _ (k.emit _) k) h
  · exact h

/-! ### Tile rings emptied with MEM -/

/-- The keys of RESIDENT, which shows the tiles in each channel's ring. -/
def residentKeys : List Nat := (List.range 64).map VST_STATE.RESIDENT.key

/-- A store of registers in which RESIDENT reads its Reset value and every other register as before. -/
def RingsShownEmpty (regs regs' : Kv Nat) : Prop :=
  (∀ k, k ∉ residentKeys → Kv.find regs' k = Kv.find regs k) ∧ (∀ k ∈ residentKeys, Kv.find regs' k = none)

/-- A channel whose ring is empty shows RESIDENT 0, its Reset value. -/
theorem Core.resident_empty (c : Core) (ch : Nat) (h : (c.ch ch).ring = []) :
    c.resident ch = { c with regs := Kv.erase (VST_STATE.RESIDENT.key ch) c.regs } := by
  rw [Core.resident, h]
  rfl

/-- Emptying the rings changes the channels, and of the registers RESIDENT alone. -/
theorem Core.emptyRings_eq (c : Core) : ∃ (chans : List SeqCh) (regs : Kv Nat),
    c.emptyRings = { c with seq := chans, regs := regs } ∧ RingsShownEmpty c.regs regs := by
  have hpass : ∀ n, ∃ (chans : List SeqCh) (regs : Kv Nat),
      c.forEach n (fun c ch => (c.modCh ch (fun s => { s with
        ring := [],
        fetchAt := if c.layerActive && s.armed then some (c.rd SEQ_LAYER_STATE.LAYER_NOW, s.moveNext) else none })).resident
          ch) = { c with seq := chans, regs := regs } ∧
      (∀ k, k ∉ (List.range n).map VST_STATE.RESIDENT.key → Kv.find regs k = Kv.find c.regs k) ∧
      (∀ k ∈ (List.range n).map VST_STATE.RESIDENT.key, Kv.find regs k = none) := by
    intro n
    induction n with
    | zero => exact ⟨c.seq, c.regs, rfl, fun _ _ => rfl, fun k hk => absurd hk List.not_mem_nil⟩
    | succ n ih =>
      obtain ⟨chans, regs, hfold, hrest, hnone⟩ := ih
      rw [Core.forEach_succ, hfold, Core.resident_empty _ _ (by rw [Core.ch_modCh, if_pos rfl])]
      refine ⟨_, _, rfl, fun k hk => ?_, fun k hk => ?_⟩
      · rw [List.range_succ, List.map_append, List.mem_append, not_or] at hk
        exact (Kv.find_erase_ne _ _ _ (fun h => hk.2 (by simp [h]))).trans (hrest k hk.1)
      · by_cases hlast : k = VST_STATE.RESIDENT.key n
        · rw [hlast]
          exact Kv.find_erase_same _ _
        · refine (Kv.find_erase_ne _ _ _ hlast).trans (hnone k ?_)
          rw [List.range_succ, List.map_append, List.mem_append] at hk
          exact hk.resolve_right (by simpa using hlast)
  exact hpass 64

/-! ### What each domain's reset clears beside the registers -/

/-- The reset of MEM empties the tile rings; beside channels and registers it changes what MEM holds. -/
theorem Core.clearState_mem (c : Core) : ∃ (chans : List SeqCh) (regs : Kv Nat),
    c.clearState domMEM = { c with
      seq := chans, regs := regs, drc := Drc.init, log := LogBook.init,
      rst := { c.rst with dramTrained := false, fastDram := false } } ∧ RingsShownEmpty c.regs regs := by
  obtain ⟨chans, regs, hrings, hregs⟩ := Core.emptyRings_eq c
  refine ⟨chans, regs, ?_, hregs⟩
  show { c.emptyRings with
    drc := Drc.init, log := LogBook.init, rst := { c.rst with dramTrained := false, fastDram := false } } = _
  rw [hrings]

/-- A domain's reset accepts no DRAM write. -/
theorem Core.clearState_wq (c : Core) (d : Nat) : (c.clearState d).wq = c.wq := by
  by_cases hd : d = domMEM
  · obtain ⟨_, _, hmem, -⟩ := Core.clearState_mem c
    rw [hd, hmem]
  · unfold Core.clearState
    split
    case h_4 => exact absurd rfl hd
    all_goals rfl

/-- A domain's reset leaves an empty staged set empty. -/
theorem Core.clearState_staged {c : Core} (d : Nat) (h : c.pilot.staged = []) : (c.clearState d).pilot.staged = [] := by
  by_cases hd : d = domMEM
  · obtain ⟨_, _, hmem, -⟩ := Core.clearState_mem c
    rw [hd, hmem]
    exact h
  · unfold Core.clearState
    split
    case h_3 => rfl
    case h_4 => exact absurd rfl hd
    all_goals exact h

/-- What a domain holds beside its registers does not show in a register but RESIDENT. -/
theorem Core.clearState_find (c : Core) (d : Nat) {k : Nat} (hk : k ∉ residentKeys) :
    Kv.find (c.clearState d).regs k = Kv.find c.regs k := by
  by_cases hd : d = domMEM
  · obtain ⟨_, _, hmem, hregs⟩ := Core.clearState_mem c
    rw [hd, hmem]
    exact hregs.1 k hk
  · unfold Core.clearState
    split
    case h_4 => exact absurd rfl hd
    all_goals rfl

end Sys2Proof.Machine
end


section
namespace Sys2Proof.Machine

/-! ### Flash writes -/

/-- A sector of flash is the harbour's: nothing else changes with it. -/
theorem Core.flashSector_eq (c : Core) (a : Nat) (bs : Bytes) : ∃ h : Harbour, c.flashSector a bs = { c with hbr := h } :=
  ⟨_, rfl⟩

theorem Core.writePart_good (c : Core) (n sec ns count : Nat) (temp : Int) (payload : Bytes) :
    ∃ h : Harbour, c.writePart n sec ns count temp payload true = { c with hbr := h } := by
  unfold Core.writePart
  exact Core.flashSector_eq c _ _

theorem Core.writeCopy_eq (c : Core) (a0 a1 n magic : Nat) (body : Nat → Bytes) :
    ∃ h : Harbour, c.writeCopy a0 a1 n magic body = { c with hbr := h } := by
  unfold Core.writeCopy
  exact Core.flashSector_eq c _ _

/-- The registers that show the update state. -/
def updKeys : List Nat := [UPD_STATE.ACTIVE.key 0, UPD_STATE.TRIAL.key 0]

/-- A write to a register leaves what the store lists under other keys. -/
theorem Core.find_wr_ne (c : Core) (f : Field) (v i : Nat) {k : Nat} (h : k ≠ f.key i) :
    Kv.find (c.wr f v i).regs k = Kv.find c.regs k := by
  show Kv.find (Kv.put _ _ _ _) k = _
  unfold Kv.put
  split
  · exact Kv.find_erase_ne _ _ _ h
  · exact Kv.find_insert_ne _ _ _ _ h

/-- Writing the update state changes the harbour's flash and the registers that show the state. -/
theorem Core.writeUpd_eq (c : Core) (u : UpdState) : ∃ (h : Harbour) (regs : Kv Nat),
    c.writeUpd u = { c with hbr := h, regs := regs } ∧ ∀ k, k ∉ updKeys → Kv.find regs k = Kv.find c.regs k := by
  obtain ⟨h, hpart⟩ := Core.writePart_good c 10 0 0 u.boots 0
    (leBytes 1 u.active ++ leBytes 1 u.trial ++ leBytes 1 u.tried ++ zeros 1 ++ leBytes 4 u.svn)
  rw [Core.writeUpd, hpart]
  refine ⟨h, _, rfl, fun k hk => ?_⟩
  obtain ⟨hactive, htrial⟩ : k ≠ UPD_STATE.ACTIVE.key 0 ∧ k ≠ UPD_STATE.TRIAL.key 0 := by simpa [updKeys] using hk
  exact (Core.find_wr_ne _ _ _ _ htrial).trans (Core.find_wr_ne _ _ _ _ hactive)

/-- Clearing TRIAL changes no more than writing the update state does. -/
theorem Core.clearTrial_eq (c : Core) (slot : Nat) : ∃ (h : Harbour) (regs : Kv Nat),
    c.clearTrial slot = { c with hbr := h, regs := regs } ∧ ∀ k, k ∉ updKeys → Kv.find regs k = Kv.find c.regs k := by
  by_cases hslot : c.updState.trial = slot
  · rw [show c.clearTrial slot = c.writeUpd { c.updState with trial := 0xFF } from if_pos hslot]
    exact Core.writeUpd_eq c _
  · exact ⟨c.hbr, c.regs, if_neg hslot, fun _ _ => rfl⟩

/-- What a device reset does of an interrupted UPD_STAGE, as `assertReset` writes it out (R430). -/
def Core.dropTrial (c : Core) : Core :=
  match c.hbr.staging with
  | some (slot, _) => c.clearTrial slot
  | none => c

theorem Core.dropTrial_eq (c : Core) : ∃ (h : Harbour) (regs : Kv Nat),
    c.dropTrial = { c with hbr := h, regs := regs } ∧ ∀ k, k ∉ updKeys → Kv.find regs k = Kv.find c.regs k := by
  unfold Core.dropTrial
  split
  · exact Core.clearTrial_eq c _
  · exact ⟨c.hbr, c.regs, rfl, fun _ _ => rfl⟩

/-! ### A device reset (R421, R422, R430) -/

/-- What a device reset of a cause makes of the core: `ResetBy` without what a command answers. -/
structure ResetCore (c t : Core) (cause : Nat) : Prop where
  wq : t.wq = c.wq
  mode : t.mode = .dormant
  inReset : t.rd RST_STATE.IN_RESET = 0x3FF
  lastCause : t.rd RST_STATE.LAST_CAUSE = cause
  asserted : t.rst.asserted = some cause
  bootRegs : t.bootRegs = c.bootRegs
  waiting : t.tickW = [] ∧ t.slackW = []
  time : t.now = 0 ∧ t.ticks = c.ticks
  reports : t.events = [] ∧ t.escSafe = [] ∧ t.escHold = []
  units : t.drc = Drc.init ∧ t.ports = List.replicate 21 Port.init ∧ t.seq = List.replicate 64 SeqCh.init
  regs : ∀ (f : Field) (k : Nat),
    f.key k ∉ [RST_STATE.IN_RESET.key 0, PLT_MODE.MODE.key 0, RST_STATE.LAST_CAUSE.key 0] →
    f.key k ∉ c.bootRegs.map Prod.fst →
    t.rd f k = if strapKey (f.key k) = true ∨ (latchKey (f.key k) = true ∧ cause ≠ 0) then c.rd f k else f.resetVal k
  twinEn : ∀ v : Nat, c.bootRegs = [(TWN_CONFIG.TWIN_EN.key 0, v)] → t.rd TWN_CONFIG.TWIN_EN = v

/-- The registers that a device reset starts from: straps, with a cause the cause latch, and what waits for BOOT (R8, R431). -/
def Core.resetRegs (c : Core) (cause : Nat) : Kv Nat :=
  c.bootRegs.foldl (fun (r : Kv Nat) (e : Nat × Nat) => Kv.insert e.1 e.2 r)
    (c.regs.filter (fun e => strapKey e.1 || (latchKey e.1 && cause != 0)))

/-- Every domain's state once a device reset has cleared it, MEM's tile rings and what shows them being given. -/
def Core.allCleared (c : Core) (chans : List SeqCh) (regs : Kv Nat) : Core :=
  let c := ((c.clearState 0).clearState 1).clearState 2
  let c := { c with
    seq := chans, regs := regs, drc := Drc.init, log := LogBook.init,
    rst := { c.rst with dramTrained := false, fastDram := false } }
  (((((c.clearState 4).clearState 5).clearState 6).clearState 7).clearState 8).clearState 9

theorem Core.clearStates_eq (c : Core) : ∃ (chans : List SeqCh) (regs : Kv Nat),
    c.forEach 10 (fun c d => c.clearState d) = c.allCleared chans regs ∧ RingsShownEmpty c.regs regs := by
  obtain ⟨chans, regs, hmem, hregs⟩ := Core.clearState_mem (((c.clearState 0).clearState 1).clearState 2)
  refine ⟨chans, regs, ?_, hregs⟩
  simp only [Core.forEach_succ, Core.forEach_zero]
  rw [show (3 : Nat) = domMEM from rfl, hmem]
  rfl

/-- A device reset up to the clearing of the domains: outputs off, the registers of `resetRegs`, no write waiting. -/
def Core.resetStart (c : Core) (cause : Nat) : Core :=
  let d := c.forEach 10 (fun c d => if c.held d then c else c.outputsOff d)
  { d with regs := d.resetRegs cause, tickW := [], slackW := [] }

/-- A device reset from the clearing of the domains on: every domain held, in DORMANT, its cause latched. -/
def Core.resetEnd (c : Core) (cause : Nat) : Core :=
  (((c.wr RST_STATE.IN_RESET 0x3FF).wr RST_STATE.LAST_CAUSE cause).wr PLT_MODE.MODE Mode.dormant.code).modRst
    (fun r => { r with asserted := some cause, dueAt := none })

theorem Core.assertReset_eq (c : Core) (cause : Nat) :
    c.assertReset cause = ((c.dropTrial.resetStart cause).forEach 10 (fun c d => c.clearState d)).resetEnd cause := rfl

theorem Core.resetStart_eq (c : Core) (cause : Nat) : ∃ out : List Output,
    c.resetStart cause = { c with out := out, regs := c.resetRegs cause, tickW := [], slackW := [] } := by
  obtain ⟨out, hout⟩ := Emitted.forEach 10 (fun c d => if c.held d then c else c.outputsOff d)
    (fun e d k => Emitted.ite _ k (k.outputsOff d)) (Emitted.refl c)
  refine ⟨out, ?_⟩
  rw [Core.resetStart, hout]
  rfl

/-- Under a key that no value waits for, a device reset starts from what straps and cause latch list, and nothing else. -/
theorem Core.find_resetRegs (c : Core) (cause : Nat) {k : Nat} (hk : k ∉ c.bootRegs.map Prod.fst) :
    Kv.find (c.resetRegs cause) k =
      if strapKey k = true ∨ (latchKey k = true ∧ cause ≠ 0) then Kv.find c.regs k else none := by
  rw [Core.resetRegs, Kv.find_foldl_insert _ _ hk, Kv.find_filter (fun k => strapKey k || (latchKey k && cause != 0))]
  simp only [Bool.or_eq_true, Bool.and_eq_true, bne_iff_ne]

/-- No register of straps or of the cause latch shows the update state or the tile rings. -/
theorem kept_not_shown : ∀ k ∈ updKeys ++ residentKeys, strapKey k = false ∧ latchKey k = false := by decide +kernel

/-- The key of TWIN_EN is none of those a device reset writes. -/
theorem twinEn_key : TWN_CONFIG.TWIN_EN.key 0 ∉
    residentKeys ++ [RST_STATE.IN_RESET.key 0, PLT_MODE.MODE.key 0, RST_STATE.LAST_CAUSE.key 0] := by decide +kernel

/-- The registers that the end of a device reset writes, and no others. -/
theorem Core.find_resetEnd (c : Core) (cause : Nat) {k : Nat}
    (hk : k ∉ [RST_STATE.IN_RESET.key 0, PLT_MODE.MODE.key 0, RST_STATE.LAST_CAUSE.key 0]) :
    Kv.find (c.resetEnd cause).regs k = Kv.find c.regs k := by
  obtain ⟨hreset, hmode, hcause⟩ : k ≠ RST_STATE.IN_RESET.key 0 ∧ k ≠ PLT_MODE.MODE.key 0 ∧
      k ≠ RST_STATE.LAST_CAUSE.key 0 := by simpa using hk
  rw [Core.resetEnd, Core.modRst_regs, Core.find_wr_ne _ _ _ _ hmode, Core.find_wr_ne _ _ _ _ hcause,
    Core.find_wr_ne _ _ _ _ hreset]

/-- A device reset in one piece: a core that has every domain cleared, its end, and what its registers list. -/
theorem Core.assertReset_cleared (c : Core) (cause : Nat) : ∃ (d : Core) (chans : List SeqCh) (regs : Kv Nat),
    c.assertReset cause = (d.allCleared chans regs).resetEnd cause ∧
    (∃ (h : Harbour) (out : List Output) (r : Kv Nat), d = { c with hbr := h, out := out, regs := r, tickW := [], slackW := [] }) ∧
    (∀ k ∈ residentKeys, Kv.find regs k = none) ∧
    (∀ k, k ∉ residentKeys → k ∉ c.bootRegs.map Prod.fst →
      Kv.find regs k = if strapKey k = true ∨ (latchKey k = true ∧ cause ≠ 0) then Kv.find c.regs k else none) ∧
    (∀ k v, k ∉ residentKeys → c.bootRegs = [(k, v)] → Kv.find regs k = some v) := by
  obtain ⟨h, regs, htrial, hregs⟩ := Core.dropTrial_eq c
  obtain ⟨out, hstart⟩ := Core.resetStart_eq c.dropTrial cause
  obtain ⟨chans, regs', hclear, hrest, hempty⟩ := Core.clearStates_eq (c.dropTrial.resetStart cause)
  have hboot : c.dropTrial.bootRegs = c.bootRegs := by rw [htrial]
  have hfrom : ∀ k, k ∉ residentKeys → Kv.find regs' k = Kv.find (c.dropTrial.resetRegs cause) k := by
    intro k hk
    rw [hrest k hk, hstart]
  refine ⟨c.dropTrial.resetStart cause, chans, regs', by rw [Core.assertReset_eq, hclear], ?_, hempty, ?_, ?_⟩
  · exact ⟨h, out, _, by rw [hstart, htrial]⟩
  · intro k hk hb
    rw [hfrom k hk, Core.find_resetRegs _ _ (by rwa [hboot])]
    by_cases hkeep : strapKey k = true ∨ (latchKey k = true ∧ cause ≠ 0)
    · rw [if_pos hkeep, if_pos hkeep, htrial]
      refine hregs k (fun hu => ?_)
      obtain ⟨hs, hl⟩ := kept_not_shown k (List.mem_append_left _ hu)
      simp [hs, hl] at hkeep
    · rw [if_neg hkeep, if_neg hkeep]
  · intro k v hk hb
    rw [hfrom k hk, Core.resetRegs, hboot, hb]
    exact Kv.find_insert_same _ _ _

theorem Core.rd_of_find {c : Core} {f : Field} {k : Nat} {o : Option Nat} (h : Kv.find c.regs (f.key k) = o) :
    c.rd f k = o.getD (f.resetVal k) := by rw [← h]; rfl

/-- A device reset, of any of its causes, does what R421, R422 and R430 say. -/
theorem Core.assertReset_core (c : Core) {cause : Nat} (hc : cause < 8) : ResetCore c (c.assertReset cause) cause := by
  obtain ⟨d, chans, regs, hreset, ⟨h, out, r, hd⟩, hempty, hkept, hboot⟩ := Core.assertReset_cleared c cause
  subst hd
  have hfind : ∀ k, k ∉ [RST_STATE.IN_RESET.key 0, PLT_MODE.MODE.key 0, RST_STATE.LAST_CAUSE.key 0] →
      Kv.find (c.assertReset cause).regs k = Kv.find regs k := by
    intro k hk
    rw [hreset, Core.find_resetEnd _ _ hk]
    rfl
  exact {
    wq := by rw [hreset]; rfl
    mode := by
      rw [hreset, Core.resetEnd, Core.mode, Core.rd_modRst, Core.rd_wr_same]
      rfl
    inReset := by
      rw [hreset, Core.resetEnd, Core.rd_modRst, Core.rd_wr_ne _ _ _ _ _ _ (by decide), Core.rd_wr_ne _ _ _ _ _ _ (by decide),
        Core.rd_wr_same]
      rfl
    lastCause := by
      rw [hreset, Core.resetEnd, Core.rd_modRst, Core.rd_wr_ne _ _ _ _ _ _ (by decide), Core.rd_wr_same]
      exact Nat.mod_eq_of_lt hc
    asserted := by rw [hreset]; rfl
    bootRegs := by rw [hreset]; rfl
    waiting := by rw [hreset]; exact ⟨rfl, rfl⟩
    time := by rw [hreset]; exact ⟨rfl, rfl⟩
    reports := by rw [hreset]; exact ⟨rfl, rfl, rfl⟩
    units := by rw [hreset]; exact ⟨rfl, rfl, rfl⟩
    regs := by
      intro f k hk hb
      by_cases hres : f.key k ∈ residentKeys
      · obtain ⟨hs, hl⟩ := kept_not_shown _ (List.mem_append_right _ hres)
        rw [Core.rd_of_find ((hfind _ hk).trans (hempty _ hres)), if_neg (by simp [hs, hl])]
        rfl
      · rw [Core.rd_of_find ((hfind _ hk).trans (hkept _ hres hb))]
        split <;> rfl
    twinEn := by
      intro v hb
      obtain ⟨hres, hk⟩ := not_or.mp (fun hmem => twinEn_key (List.mem_append.mpr hmem))
      exact Core.rd_of_find ((hfind _ hk).trans (hboot _ v hres hb)) }

/-- A device reset leaves the PCIe endpoint, and waits for nothing. -/
theorem Core.assertReset_rest (c : Core) (cause : Nat) :
    (c.assertReset cause).rst.dueAt = none ∧ (c.assertReset cause).pcie = c.pcie := by
  obtain ⟨d, chans, regs, hreset, ⟨h, out, r, hd⟩, -⟩ := Core.assertReset_cleared c cause
  subst hd
  rw [hreset]
  exact ⟨rfl, rfl⟩

/-- A meaning that asserts a device reset, whatever it does to the endpoint and to the due instant, answers as `ResetBy`
says. -/
theorem resetBy_of {i : Instr} {s : State} {cause : Nat} {P : Core → Prop} (f : Core → Mem → Core) (t : Core)
    (he : exec i s = s.run f) (hf : f s.core.begin s.dram = t) (ht : ResetCore s.core.begin t cause) (hP : P t.close) :
    ResetBy i s cause P := by
  obtain ⟨htick, hslack⟩ := ht.waiting
  obtain ⟨hnow, hticks⟩ := ht.time
  obtain ⟨hev, hsafe, hhold⟩ := ht.reports
  obtain ⟨hdrc, hports, hseq⟩ := ht.units
  refine ⟨s.finish t, by rw [he, ← hf]; rfl, rfl, rfl, rfl, fun a => ?_, ht.mode, ht.inReset, ht.lastCause, ht.asserted,
    ht.bootRegs, htick, hslack, hnow, hticks, hev, hsafe, hhold, hdrc, hports, hseq, ht.regs, ht.twinEn, hP⟩
  rw [State.finish_dram, ht.wq]
  rfl

end Sys2Proof.Machine
end


section
namespace Sys2Proof.Machine

/-! ### Assertion: power, RESET_N, the end of a shutdown test -/

/-- The endpoint is no part of what a device reset says of the core. -/
theorem ResetCore.setPcie {c t : Core} {cause : Nat} (h : ResetCore c t cause) (p : Pcie) :
    ResetCore c { t with pcie := p } cause :=
  ⟨h.wq, h.mode, h.inReset, h.lastCause, h.asserted, h.bootRegs, h.waiting, h.time, h.reports, h.units, h.regs, h.twinEn⟩

/-- Nor is the instant at which the reset is to be released. -/
theorem ResetCore.setDue {c t : Core} {cause : Nat} (h : ResetCore c t cause) (due : Option (Nat × Nat)) :
    ResetCore c (t.modRst (fun r => { r with dueAt := due })) cause :=
  ⟨h.wq, h.mode, h.inReset, h.lastCause, h.asserted, h.bootRegs, h.waiting, h.time, h.reports, h.units, h.regs, h.twinEn⟩

/-- What the harbour and the pilot did before a reset does not show after it. -/
theorem ResetCore.of_prepared {c t : Core} {cause : Nat} {h : Harbour} {p : Pilot}
    (hr : ResetCore { c with hbr := h, pilot := p } t cause) : ResetCore c t cause :=
  ⟨hr.wq, hr.mode, hr.inReset, hr.lastCause, hr.asserted, hr.bootRegs, hr.waiting, hr.time, hr.reports, hr.units, hr.regs,
    hr.twinEn⟩

theorem Core.powerFail_core (c : Core) : ResetCore c c.powerFail 0 :=
  (Core.assertReset_core c (by decide)).setPcie Pcie.init

theorem Core.internalReset_core (c : Core) {cause : Nat} (hc : cause < 8) : ResetCore c (c.internalReset cause) cause :=
  (Core.assertReset_core c hc).setDue (some (c.ticks + 8, cause))

theorem Core.powerFail_rest (c : Core) : c.powerFail.rst.dueAt = none ∧ c.powerFail.pcie = Pcie.init :=
  ⟨(Core.assertReset_rest c 0).1, rfl⟩

theorem powerFail_resets (s : State) :
    ResetBy .powerFail s 0 (fun t => t.rst.dueAt = none ∧ t.pcie = Pcie.init) := by
  have hcore := s.core.begin.powerFail_core
  have hrest := s.core.begin.powerFail_rest
  generalize ht : s.core.begin.powerFail = t at hcore hrest
  exact resetBy_of (fun c _ => c.powerFail) t rfl ht hcore hrest

/-- A device that has power acts on RESET_N (R422). -/
theorem Core.resetnAssert_powered {c : Core} (hp : c.rst.asserted ≠ some 0) : c.resetnAssert = c.assertReset 1 := by
  rw [Core.resetnAssert, if_neg hp]

/-- RESET_N asserted, its reset named once: the reset's own text does not enter the proof. -/
theorem resetNAssert_to (s : State) (t : Core) (hcore : ResetCore s.core.begin t 1)
    (hrun : s.core.begin.resetnAssert = t) (hrest : t.rst.dueAt = none ∧ t.pcie = s.core.begin.pcie) :
    ResetBy .resetNAssert s 1 (fun t => t.rst.dueAt = none ∧ t.pcie = s.core.pcie) :=
  resetBy_of (fun c _ => c.resetnAssert) t rfl hrun hcore hrest

theorem resetNAssert_resets (s : State) (hp : s.core.rst.asserted ≠ some 0) :
    ResetBy .resetNAssert s 1 (fun t => t.rst.dueAt = none ∧ t.pcie = s.core.pcie) :=
  resetNAssert_to s _ (Core.assertReset_core s.core.begin (by decide)) (Core.resetnAssert_powered (c := s.core.begin) hp)
    (Core.assertReset_rest s.core.begin 1)

/-! ### The end of a shutdown test (R434, R435, R440) -/

theorem Core.writeMap_eq (c : Core) (l : List Repair) : ∃ h : Harbour, c.writeMap l = { c with hbr := h } := by
  unfold Core.writeMap
  exact Core.writeCopy_eq c _ _ _ _ _

theorem Core.keepRepairs_eq (c : Core) (made : List Repair) : ∃ h : Harbour, c.keepRepairs made = { c with hbr := h } := by
  unfold Core.keepRepairs
  split
  · exact ⟨c.hbr, rfl⟩
  · exact Core.writeMap_eq c _

theorem Core.writeResult_eq (c : Core) (kind : Nat) (v : Verdict) (jtag : Bool) (entered : Time) (repairs ms : Nat) :
    ∃ h : Harbour, c.writeResult kind v jtag entered repairs ms = { c with hbr := h } :=
  Core.writeCopy_eq c _ _ _ _ _

/-- Until its last step the end of a shutdown test works in the harbour and the pilot alone, and leaves nothing staged. -/
theorem Core.shutdownDone_eq {c : Core} (r : BistResult) (hm : c.mode = .shutdownTest) (ha : c.bst.abandoned = false) :
    ∃ (h : Harbour) (p : Pilot), c.shutdownDone r = ({ c with hbr := h, pilot := p } : Core).testEnds (!r.secretBad) ∧
      p.staged = [] := by
  obtain ⟨h, hkeep⟩ := Core.keepRepairs_eq c.clearSecrets (c.march r).1
  have hkept : ∃ (h : Harbour) (p : Pilot),
      c.clearSecrets.keepRepairs (c.march r).1 = { c with hbr := h, pilot := p } ∧ p.staged = [] :=
    ⟨h, c.clearSecrets.pilot, hkeep, rfl⟩
  obtain ⟨h, p, hkept, hstaged⟩ := hkept
  rw [Core.shutdownDone, if_neg (by simp [hm, ha])]
  simp only [hkept]
  obtain ⟨h', hresult⟩ := Core.writeResult_eq { c with hbr := h, pilot := p } 0 (verdictOf r (c.march r).2) c.bst.jtagOpen
    (c.bst.entered.getD 0) (c.march r).1.length r.ms.toNat
  exact ⟨h', p, congrArg (fun d => Core.testEnds d (!r.secretBad)) hresult, hstaged⟩

theorem shutdownTestDone_restarts (s : State) (r : BistResult) (hm : s.core.mode = .shutdownTest)
    (hr : s.core.bst.restart = true) (ha : s.core.bst.abandoned = false) :
    ResetBy (.shutdownTestDone r) s 4 (fun t => t.rst.dueAt = some (s.core.ticks + 8, 4)) := by
  obtain ⟨h, p, hdone, -⟩ := Core.shutdownDone_eq (c := s.core.begin) r hm ha
  have hend : s.core.begin.shutdownDone r = ({ s.core.begin with hbr := h, pilot := p } : Core).internalReset 4 :=
    hdone.trans (if_pos hr)
  exact resetBy_of (fun c _ => c.shutdownDone r) _ rfl hend (Core.internalReset_core _ (by decide)).of_prepared rfl

theorem shutdownTestDone_idles (s : State) (r : BistResult)
    (h : s.core.mode ≠ .shutdownTest ∨ s.core.bst.abandoned = true) : Idles (.shutdownTestDone r) s := by
  have hidle : (decide (s.core.mode ≠ .shutdownTest) || s.core.bst.abandoned) = true := by simpa using h
  exact idles_of (fun c _ => c.shutdownDone r) rfl (if_pos hidle)

end Sys2Proof.Machine
end


section
namespace Sys2Proof.Machine

/-! ### Release (R421, R422, R432, R456) -/

/-- What a cause counts at its release (R431). -/
def Core.countCause (c : Core) (cause : Nat) : Core :=
  if cause = 1 then c.inc RST_HIST.RESETN_COUNT
  else if cause = 2 then c.inc RST_HIST.DEVRESET_COUNT
  else if cause = 3 then c.inc RST_HIST.WDOG_COUNT else c

/-- The release proper: BOOT begins. -/
def Core.intoBoot (c : Core) : Core :=
  (c.wr PLT_MODE.MODE Mode.boot.code).modRst (fun r => { r with asserted := none, dueAt := none, bootStart := c.ticks })

/-- A reset that is asserted is released into BOOT, its cause counted. -/
theorem Core.releaseReset_of {c : Core} {cause : Nat} (h : c.rst.asserted = some cause) :
    c.releaseReset = (c.countCause cause).intoBoot := by
  rw [Core.releaseReset, h]
  rfl

theorem Core.intoBoot_mode (c : Core) : c.intoBoot.mode = .boot := by
  rw [Core.intoBoot, Core.mode, Core.rd_modRst, Core.rd_wr_same]
  rfl

theorem Core.rd_intoBoot (c : Core) (f : Field) (i : Nat) (h : f.key i ≠ PLT_MODE.MODE.key 0) :
    c.intoBoot.rd f i = c.rd f i := by
  rw [Core.intoBoot, Core.rd_modRst, Core.rd_wr_ne _ _ _ _ _ _ h]

/-- A saturating counter that is counted has counted. -/
theorem Core.rd_inc_same (c : Core) (f : Field) : (c.inc f).rd f = min (c.rd f + 1) (2 ^ f.width - 1) := by
  have hpos : 0 < 2 ^ f.width := Nat.two_pow_pos _
  rw [Core.inc, Core.rd_wr_same, satNat]
  exact Nat.mod_eq_of_lt (by omega)

/-- A command that releases a reset, from a core that has at most counted, answers as that release shows. -/
theorem released_runs {i : Instr} {s : State} {keys : List Nat} {P : Core → Prop} (f : Core → Mem → Core) (d : Core)
    (he : exec i s = s.run f) (hf : f s.core.begin s.dram = d.intoBoot)
    (hd : Only { keys := keys, parts := [.rst] } s.core.begin d) (hq : Quiet s.core.begin d) (hm : PLT_MODE.MODE.key 0 ∈ keys)
    (hP : P d.intoBoot.close) : Runs i s { keys := keys, parts := [.rst] } P :=
  runs_to f _ he hf hq.1 hq.2 ((hd.wr _ _ _ hm).modRst _ List.mem_cons_self) hP

theorem Core.powerOn_of {c : Core} (h : c.rst.asserted = some 0) : c.powerOn = c.intoBoot := by
  rw [Core.powerOn, if_neg (fun hne => hne h)]
  exact Core.releaseReset_of h

theorem Core.resetnRelease_of {c : Core} (h : c.rst.asserted = some 1) :
    c.resetnRelease = (c.inc RST_HIST.RESETN_COUNT).intoBoot :=
  (if_pos h).trans (Core.releaseReset_of h)

theorem powerOn_runs (s : State) (percent : BitVec 8) (us : BitVec 16) (hp : 92 < percent.toNat) (hu : 100 ≤ us.toNat)
    (ha : s.core.rst.asserted = some 0) :
    Runs (.powerOn percent us) s { keys := [PLT_MODE.MODE.key 0], parts := [.rst] } (fun t => t.mode = .boot ∧
      t.rst = { s.core.rst with asserted := none, dueAt := none, bootStart := s.core.ticks }) := by
  have hrails : railsUp percent.toNat us.toNat = true := by simp [railsUp, hp, hu]
  exact released_runs (fun c _ => if railsUp percent.toNat us.toNat then c.powerOn else c) s.core.begin rfl
    ((if_pos hrails).trans (Core.powerOn_of (c := s.core.begin) ha)) (Only.refl _ _) (Quiet.refl _) List.mem_cons_self
    ⟨Core.intoBoot_mode _, rfl⟩

theorem powerOn_idles (s : State) (percent : BitVec 8) (us : BitVec 16) (h : percent.toNat ≤ 92 ∨ us.toNat < 100) :
    Idles (.powerOn percent us) s := by
  have hrails : ¬railsUp percent.toNat us.toNat = true := by
    simp only [railsUp, Bool.and_eq_true, decide_eq_true_eq]
    omega
  exact idles_of (fun c _ => if railsUp percent.toNat us.toNat then c.powerOn else c) rfl (if_neg hrails)

theorem resetNRelease_runs (s : State) (ha : s.core.rst.asserted = some 1) :
    Runs .resetNRelease s { keys := [RST_HIST.RESETN_COUNT.key 0, PLT_MODE.MODE.key 0], parts := [.rst] } (fun t =>
      t.mode = .boot ∧ Counts s.core t RST_HIST.RESETN_COUNT ∧
      t.rst = { s.core.rst with asserted := none, dueAt := none, bootStart := s.core.ticks }) := by
  exact released_runs (fun c _ => c.resetnRelease) _ rfl (Core.resetnRelease_of (c := s.core.begin) ha)
    ((Only.refl _ _).inc _ _ _ List.mem_cons_self) ((Quiet.refl _).inc _ _ _) (by decide)
    ⟨Core.intoBoot_mode _, (Core.rd_intoBoot _ _ _ (by decide)).trans (Core.rd_inc_same _ _), rfl⟩

/-- An internal reset whose 4.0 µs are over is released. -/
theorem Core.internalRelease_due {c : Core} {due k cause : Nat} (hd : c.rst.dueAt = some (due, k)) (ht : due ≤ c.ticks)
    (ha : c.rst.asserted = some cause) : c.internalRelease = (c.countCause cause).intoBoot := by
  rw [Core.internalRelease, hd]
  exact (if_pos ht).trans (Core.releaseReset_of ha)

theorem internalResetRelease_runs (s : State) (due k cause : Nat) (hd : s.core.rst.dueAt = some (due, k))
    (ht : due ≤ s.core.ticks) (ha : s.core.rst.asserted = some cause) (hc : cause ∈ [2, 3, 4]) :
    Runs .internalResetRelease s
      { keys := [RST_HIST.DEVRESET_COUNT.key 0, RST_HIST.WDOG_COUNT.key 0, PLT_MODE.MODE.key 0], parts := [.rst] }
      (fun t => t.mode = .boot ∧ (cause = 2 → Counts s.core t RST_HIST.DEVRESET_COUNT) ∧
        (cause ≠ 2 → t.rd RST_HIST.DEVRESET_COUNT = s.core.rd RST_HIST.DEVRESET_COUNT) ∧
        (cause = 3 → Counts s.core t RST_HIST.WDOG_COUNT) ∧
        (cause ≠ 3 → t.rd RST_HIST.WDOG_COUNT = s.core.rd RST_HIST.WDOG_COUNT) ∧
        t.rst = { s.core.rst with asserted := none, dueAt := none, bootStart := s.core.ticks }) := by
  have hrun := Core.internalRelease_due (c := s.core.begin) hd ht ha
  have hdev : ∀ d : Core, d.intoBoot.rd RST_HIST.DEVRESET_COUNT = d.rd RST_HIST.DEVRESET_COUNT :=
    fun d => Core.rd_intoBoot d _ _ (by decide)
  have hwdog : ∀ d : Core, d.intoBoot.rd RST_HIST.WDOG_COUNT = d.rd RST_HIST.WDOG_COUNT :=
    fun d => Core.rd_intoBoot d _ _ (by decide)
  obtain rfl | rfl | rfl : cause = 2 ∨ cause = 3 ∨ cause = 4 := by simpa using hc
  case inl =>
    exact released_runs (fun c _ => c.internalRelease) _ rfl hrun ((Only.refl _ _).inc _ _ _ (by decide))
      ((Quiet.refl _).inc _ _ _) (by decide)
      ⟨Core.intoBoot_mode _, fun _ => (hdev _).trans (Core.rd_inc_same _ _), fun h => absurd rfl h, fun h => absurd h (by decide),
        fun _ => (hwdog _).trans (Core.rd_wr_ne _ _ _ _ _ _ (by decide)), rfl⟩
  case inr.inl =>
    exact released_runs (fun c _ => c.internalRelease) _ rfl hrun ((Only.refl _ _).inc _ _ _ (by decide))
      ((Quiet.refl _).inc _ _ _) (by decide)
      ⟨Core.intoBoot_mode _, fun h => absurd h (by decide), fun _ => (hdev _).trans (Core.rd_wr_ne _ _ _ _ _ _ (by decide)),
        fun _ => (hwdog _).trans (Core.rd_inc_same _ _), fun h => absurd rfl h, rfl⟩
  case inr.inr =>
    exact released_runs (fun c _ => c.internalRelease) _ rfl hrun (Only.refl _ _) (Quiet.refl _) (by decide)
      ⟨Core.intoBoot_mode _, fun h => absurd h (by decide), fun _ => hdev _, fun h => absurd h (by decide), fun _ => hwdog _, rfl⟩

/-! ### JTAG instructions (R439) -/

/-- Instructions of code 3 and above read as BYPASS unless TEST_OPEN is set. -/
theorem Core.jtag_getD (c : Core) (n : Fin 8) :
    c.jtag ([JtagInstr.bypass, .idcode, .samplePreload, .extest, .clamp, .extestPulse, .extestTrain, .privateInstr].getD n .bypass)
      = c.modBst (fun b => { b with jtagIr := if n.val < 3 ∨ c.flag BST_REPAIR.TEST_OPEN then n.val else 0 }) := by
  match n with
  | 0 | 1 | 2 | 3 | 4 | 5 | 6 | 7 => rfl

theorem jtagInstruction_runs (s : State) (n : Fin 8) :
    let l : List JtagInstr := [.bypass, .idcode, .samplePreload, .extest, .clamp, .extestPulse, .extestTrain, .privateInstr]
    Runs (.jtagInstruction (l.getD n .bypass)) s { parts := [.bst] } (fun t =>
      t.bst = { s.core.bst with
        jtagIr := if n.val < 3 ∨ s.core.rd BST_REPAIR.TEST_OPEN ≠ 0 then n.val else 0 }) := by
  refine runs_to (fun c _ => c.jtag _) _ rfl (Core.jtag_getD _ n) rfl rfl ((Only.refl _ _).modBst _ List.mem_cons_self) ?_
  show _ = _
  simp [Core.flag, Core.close_bst, Core.modBst]

end Sys2Proof.Machine
end


section
namespace Sys2Proof.Machine

/-! ### Domains that enter reset (R420) -/

/-- From one core to the other no DRAM write is accepted, nothing is staged, and IN_RESET stays. -/
structure Steady (c d : Core) : Prop where
  wq : d.wq = c.wq
  staged : c.pilot.staged = [] → d.pilot.staged = []
  inReset : d.rd RST_STATE.IN_RESET = c.rd RST_STATE.IN_RESET

theorem Steady.refl (c : Core) : Steady c c := ⟨rfl, id, rfl⟩

theorem Steady.trans {c d e : Core} (h : Steady c d) (k : Steady d e) : Steady c e :=
  ⟨k.wq.trans h.wq, k.staged ∘ h.staged, k.inReset.trans h.inReset⟩

theorem Steady.upd {c d e : Core} (h : Steady c d) (hr : e.regs = d.regs) (hw : e.wq = d.wq)
    (hs : e.pilot.staged = d.pilot.staged) : Steady c e :=
  h.trans ⟨hw, hs.trans, Core.rd_of_regs hr _ _⟩

theorem Steady.wr {c d : Core} (h : Steady c d) (f : Field) (v i : Nat) (hk : RST_STATE.IN_RESET.key 0 ≠ f.key i) :
    Steady c (d.wr f v i) :=
  h.trans ⟨rfl, id, Core.rd_wr_ne _ _ _ _ _ _ hk⟩

theorem Steady.ite {c d e : Core} (p : Prop) [Decidable p] (h : Steady c d) (k : Steady c e) : Steady c (if p then d else e) := by
  split
  · exact h
  · exact k

theorem Steady.foldl {α : Type} {c d : Core} (h : Steady c d) (g : Core → α → Core) (l : List α)
    (hg : ∀ e, ∀ x ∈ l, Steady c e → Steady c (g e x)) : Steady c (l.foldl g d) := by
  induction l generalizing d with
  | nil => exact h
  | cons x l ih => exact ih (hg d x List.mem_cons_self h) (fun e y hy => hg e y (List.mem_cons_of_mem x hy))

theorem Steady.msix {c d : Core} (h : Steady c d) (v : Nat) : Steady c (d.msix v) :=
  Steady.ite _ h (Steady.ite _ (h.upd rfl rfl rfl) (h.upd rfl rfl rfl))

theorem Steady.deliver {c d : Core} (h : Steady c d) (master mailbox : Nat) : Steady c (d.deliver master mailbox) :=
  Steady.ite _ (Steady.ite _ (h.upd rfl rfl rfl) h)
    (Steady.ite _ (((h.wr BAR0.MB_BUSY _ 0 (by decide)).wr BAR0.MB_DONE _ 0 (by decide)).msix _) h)

theorem Steady.respond {c d : Core} (h : Steady c d) (cmd : Cmd) (r : Reply) : Steady c (d.respond cmd r) := by
  refine Steady.deliver ?_ _ _
  exact h.upd rfl rfl rfl

theorem Steady.completeLong {c d : Core} (h : Steady c d) (which : LongCmd → Bool) (r : Reply) :
    Steady c (d.completeLong which r) := by
  refine Steady.foldl ?_ _ _ (fun _ l _ k => k.respond l.cmd r)
  exact h.upd rfl rfl rfl

/-- IN_RESET is no field of IPL_CTX_STATE. -/
theorem inReset_ne_ictx {f : Field} (h : f.obj = 0x3102) (hl : f.lsb < 65536) {k : Nat} (hk : k < 32) :
    RST_STATE.IN_RESET.key 0 ≠ f.key k :=
  Field.key_ne_obj (by decide) hl (by rw [h]; decide) (by decide) (by omega)

theorem Steady.captureFailed {c d : Core} (h : Steady c d) {k : Nat} (hk : k < 32) : Steady c (d.captureFailed k) := by
  have hflat := inReset_ne_ictx (f := IPL_CTX_STATE.FLAT_STATE) rfl (by decide) hk
  have hdark := inReset_ne_ictx (f := IPL_CTX_STATE.DARK_STATE) rfl (by decide) hk
  unfold Core.captureFailed
  split
  · exact h
  case h_2 q _ =>
    have hwritten : RST_STATE.IN_RESET.key 0 ≠
        (if q.flat then IPL_CTX_STATE.FLAT_STATE else IPL_CTX_STATE.DARK_STATE).key k := by
      split
      · exact hflat
      · exact hdark
    refine Steady.completeLong ?_ _ _
    exact (h.wr _ q.old k hwritten).upd rfl rfl rfl

theorem Steady.outputsOff {c d : Core} (h : Steady c d) (n : Nat) : Steady c (d.outputsOff n) := by
  obtain ⟨out, hout⟩ := (Emitted.refl d).outputsOff n
  rw [hout]
  exact h.upd rfl rfl rfl

/-- The reset of a domain leaves the registers of every other one. -/
theorem Core.clearRegs_find (c : Core) (d : Nat) {k : Nat} (h : domainOfObj (objOfKey k) ≠ d) :
    Kv.find (c.clearRegs d).regs k = Kv.find c.regs k := by
  show Kv.find (Kv.dropWhere (fun k => domainOfObj (objOfKey k) == d && !strapKey k && !latchKey k && !bootKey k) c.regs) k = _
  rw [Kv.find_dropWhere, if_neg (by simp [h])]

/-- IN_RESET is a register of AON. -/
theorem inReset_domain : domainOfObj (objOfKey (RST_STATE.IN_RESET.key 0)) = 0 ∧ RST_STATE.IN_RESET.key 0 ∉ residentKeys := by
  decide +kernel

theorem Steady.clearDomain {c d : Core} (h : Steady c d) {n : Nat} (hn : n ≠ 0) : Steady c (d.clearDomain n) := by
  obtain ⟨haon, hres⟩ := inReset_domain
  have hfind := (Core.clearRegs_find (d.clearState n) n (by rw [haon]; exact hn.symm)).trans (Core.clearState_find d n hres)
  exact h.trans ⟨Core.clearState_wq d n, Core.clearState_staged n, congrArg (Option.getD · _) hfind⟩

/-- What `enterReset` does to a domain that is not yet held, before IN_RESET shows it. -/
def Core.quiesce (c : Core) (d : Nat) : Core :=
  ((if d = domCAM then c.forEach 32 (fun c k => c.captureFailed k) else c).outputsOff d).clearDomain d

theorem Core.enterReset_eq (c : Core) (d : Nat) : c.enterReset d =
    if c.held d then c else (c.quiesce d).wr RST_STATE.IN_RESET (orBit ((c.quiesce d).rd RST_STATE.IN_RESET) d) := rfl

theorem Core.quiesce_steady (c : Core) {d : Nat} (hd : d ≠ 0) : Steady c (c.quiesce d) := by
  refine Steady.clearDomain (Steady.outputsOff (Steady.ite _ ?_ (Steady.refl c)) d) hd
  exact Steady.foldl (Steady.refl c) _ _ (fun _ k hk h => h.captureFailed (List.mem_range.mp hk))

theorem Core.enterReset_wq (c : Core) {d : Nat} (hd : d ≠ 0) : (c.enterReset d).wq = c.wq := by
  rw [Core.enterReset_eq]
  split
  · rfl
  · exact (c.quiesce_steady hd).wq

theorem Core.enterReset_staged {c : Core} {d : Nat} (hd : d ≠ 0) (h : c.pilot.staged = []) :
    (c.enterReset d).pilot.staged = [] := by
  rw [Core.enterReset_eq]
  split
  · exact h
  · exact (c.quiesce_steady hd).staged h

/-- A domain but AON enters reset: it is held, every other one as before. -/
theorem Core.enterReset_held (c : Core) {d e : Nat} (hd : d ≠ 0) (he : e < 10) :
    (c.enterReset d).held e = (c.held e || decide (d = e)) := by
  rw [Core.enterReset_eq]
  by_cases h : c.held d = true
  · rw [if_pos h]
    by_cases hde : d = e
    · rw [← hde, h, Bool.true_or]
    · simp [hde]
  · rw [if_neg h, Core.held, Core.rd_wr_same, (c.quiesce_steady hd).inReset, bitOf, Nat.testBit_mod_two_pow]
    have hbit : (orBit (c.rd RST_STATE.IN_RESET) d).testBit e = (c.held e || decide (d = e)) := bitOf_orBit d _ e
    rw [hbit]
    exact (congrArg (· && _) (decide_eq_true he)).trans (Bool.true_and _)

/-! ### A shutdown test that is not to restart the device (R440) -/

/-- The domains after AON, one after the other. -/
def Core.enterAll (c : Core) (n : Nat) : Core := (List.range n).foldl (fun c i => c.enterReset (i + 1)) c

theorem Core.enterAll_succ (c : Core) (n : Nat) : c.enterAll (n + 1) = (c.enterAll n).enterReset (n + 1) := by
  simp [Core.enterAll, List.range_succ]

theorem Core.enterAll_wq (c : Core) (n : Nat) : (c.enterAll n).wq = c.wq := by
  induction n with
  | zero => rfl
  | succ n ih => rw [Core.enterAll_succ, Core.enterReset_wq _ n.succ_ne_zero, ih]

theorem Core.enterAll_staged {c : Core} (h : c.pilot.staged = []) (n : Nat) : (c.enterAll n).pilot.staged = [] := by
  induction n with
  | zero => exact h
  | succ n ih =>
    rw [Core.enterAll_succ]
    exact Core.enterReset_staged n.succ_ne_zero ih

theorem Core.enterAll_held (c : Core) (n : Nat) {d : Nat} (hd : d ≠ 0) (hn : d ≤ n) (h10 : d < 10) :
    (c.enterAll n).held d = true := by
  induction n with
  | zero => omega
  | succ n ih =>
    rw [Core.enterAll_succ, Core.enterReset_held _ n.succ_ne_zero h10]
    by_cases hlast : n + 1 = d
    · simp [hlast]
    · rw [ih (by omega), Bool.true_or]

/-- A test that is not to restart the device: every domain but AON enters reset, and the device is DORMANT. -/
theorem Core.testEnds_dormant {c : Core} (h : c.bst.restart = false) (opened : Bool) : c.testEnds opened =
    ((c.enterAll 9).setFlag BST_REPAIR.TEST_OPEN (c.bst.jtagOpen && opened)).wr PLT_MODE.MODE Mode.dormant.code :=
  if_neg (by simp [h])

/-- A core in DORMANT with nothing staged, nothing written to DRAM and its domains held, as the end of a test answers it. -/
theorem sleeps_of {i : Instr} {s : State} (f : Core → Mem → Core) (d : Core) (opened : Bool) (he : exec i s = s.run f)
    (hf : f s.core.begin s.dram = (d.setFlag BST_REPAIR.TEST_OPEN opened).wr PLT_MODE.MODE Mode.dormant.code)
    (hq : d.wq = []) (hs : d.pilot.staged = []) (hd : ∀ e : Fin 10, e.val ≠ 0 → d.held e = true) :
    ∃ t : State, exec i s = .next t ∧ t.pending = s.pending ∧ (∀ a : Nat, t.dram.read a = s.dram.read a) ∧
      t.core.mode = .dormant ∧ (∀ e : Fin 10, e.val ≠ 0 → t.core.held e = true) ∧ t.core.pilot.staged = [] ∧
      t.core.rd BST_REPAIR.TEST_OPEN = b2n opened := by
  refine ⟨s.finish (f s.core.begin s.dram), he, rfl, fun a => ?_, ?_⟩
  · rw [State.finish_dram, hf, Core.wr_wq, Core.setFlag_wq, hq]
    rfl
  rw [State.finish_core, hf]
  refine ⟨?_, fun e hne => ?_, hs, ?_⟩
  · rw [Core.close_mode, Core.mode, Core.rd_wr_same]
    rfl
  · rw [Core.close_held, Core.held, Core.rd_wr_ne _ _ _ _ _ _ (by decide), Core.setFlag, Core.rd_wr_ne _ _ _ _ _ _ (by decide)]
    exact hd e hne
  · rw [Core.rd_close, Core.rd_wr_ne _ _ _ _ _ _ (by decide), Core.setFlag, Core.rd_wr_same]
    cases opened <;> rfl

theorem shutdownTestDone_sleeps (s : State) (r : BistResult) (hm : s.core.mode = .shutdownTest)
    (hr : s.core.bst.restart = false) (ha : s.core.bst.abandoned = false) :
    ∃ t : State, exec (.shutdownTestDone r) s = .next t ∧ t.pending = s.pending ∧
      (∀ a : Nat, t.dram.read a = s.dram.read a) ∧ t.core.mode = .dormant ∧
      (∀ d : Fin 10, d.val ≠ 0 → t.core.held d = true) ∧ t.core.pilot.staged = [] ∧
      t.core.rd BST_REPAIR.TEST_OPEN = b2n (s.core.bst.jtagOpen && !r.secretBad) := by
  obtain ⟨h, p, hdone, hstaged⟩ := Core.shutdownDone_eq (c := s.core.begin) r hm ha
  have hend := hdone.trans (Core.testEnds_dormant (c := { s.core.begin with hbr := h, pilot := p }) hr _)
  have hheld : ∀ e : Fin 10, e.val ≠ 0 → (({ s.core.begin with hbr := h, pilot := p } : Core).enterAll 9).held e = true :=
    fun e he => Core.enterAll_held _ 9 he (by omega) e.isLt
  exact sleeps_of (fun c _ => c.shutdownDone r) _ _ rfl hend (Core.enterAll_wq _ 9) (Core.enterAll_staged hstaged 9) hheld

/-- Settles O13, clause by clause: what asserts a device reset, what releases it, and the end of a shutdown test. -/
theorem resetsAreAssertedAndReleased : Obligations.ResetsAreAssertedAndReleased :=
  ⟨powerFail_resets, resetNAssert_resets, powerOn_runs, powerOn_idles, resetNRelease_runs, internalResetRelease_runs,
    shutdownTestDone_restarts, shutdownTestDone_sleeps, shutdownTestDone_idles, jtagInstruction_runs⟩

end Sys2Proof.Machine
end


section
namespace Sys2Proof.Machine

/-! ## A step, a tick boundary and TIME_SET (R14, R18, R175) -/

/-! ### Steps -/

/-- A step of a queue with a command in front runs that command on the state with the queue's rest. -/
theorem step_of_pending {s : State} {i : Instr} {rest : List Instr} (h : s.pending = i :: rest) :
    step s = exec i { s with pending := rest } := by
  rw [step, h]

/-- A step of an empty queue idles. -/
theorem step_of_empty {s : State} (h : s.pending = []) : step s = .next s := by
  rw [step, h]

/-- No word spells a command, so none is put in front of the queue. -/
theorem State.withFetchWord_eq (s : State) (nbits w : Nat) : s.withFetchWord nbits w = s := rfl

/-- Settles O1, by the two shapes of the queue. -/
theorem stepRunsTheFrontCommand : Obligations.StepRunsTheFrontCommand :=
  ⟨fun _ _ _ => step_of_pending, fun _ => step_of_empty, fun s nbits w => ⟨rfl, s.withFetchWord_eq nbits w⟩⟩

/-! ### A tick boundary that ends an abandoned shutdown test (R440, R442) -/

/-- A device alone, every domain released, in STANDBY. -/
def standbyAlone : Core := (Core.reset.wr RST_STATE.IN_RESET 0).wr PLT_MODE.MODE Mode.standby.code

/-- A shutdown test with RESTART, entered at machine time 0 and ended by an interlock input 7 ticks later. -/
def abandonedTest : State :=
  { State.reset with
    core := { standbyAlone.wr PLT_MODE.MODE Mode.shutdownTest.code with
      now := 7 * tickU, ticks := 7, bst := { Bst.init with entered := some 0, restart := true } }.safetyTrip 0 0 }

/-- The boundary ends the test with a device reset, which resets TIM: machine time is 0 after it. -/
theorem abandonedTest_tick : abandonedTest.core.begin.tick.now = 0 := by decide +kernel

/-- Refutes O9: its first clause lets machine time go on by a tick at every boundary with no device reset due before it, but
the boundary that ends an abandoned shutdown test with RESTART asserts one (R440, R442), and machine time is 0 after it. -/
theorem not_ticksLatchAndAdvance : ¬ Obligations.TicksLatchAndAdvance := by
  unfold Obligations.TicksLatchAndAdvance
  rintro ⟨hadvance, -⟩
  obtain ⟨t, hexec, -, -, -, -, hnow⟩ := hadvance abandonedTest (by decide +kernel)
  have ht : t = abandonedTest.finish abandonedTest.core.begin.tick := (Host.Outcome.next.inj hexec).symm
  have hzero : t.core.now = 0 := by rw [ht, State.finish_core, Core.close_now, abandonedTest_tick]
  have hlater : (if abandonedTest.core.held domTIM then abandonedTest.core.now else abandonedTest.core.now + tickU) ≠ 0 := by
    decide +kernel
  exact hlater (hnow.symm.trans hzero)

/-! ### TIME_SET right after a bell (R174, R175) -/

/-- TIME_SET on every UP head and aux port, telling the instant `at_`. -/
def Core.timeSetFrames (c : Core) (at_ : Time) : List Output :=
  ((List.range 18).filter c.isUp).map (fun p =>
    c.ctlFrame p 0x02 0 (c.firstNode p) (Kv.get 0 (c.port p).txCtl (c.firstNode p)) 0
      (leBytes 8 (timeSec at_) ++ leBytes 4 (timeNs at_) ++ zeros 4))

/-- A device alone in STANDBY with port 0 UP, in the tick before 1 µs, once the bell of that microsecond has been sent. -/
def bellJustSent : State :=
  { State.reset with core := { standbyAlone.wr STR_PORT_STATE.STATE portUp 0 with now := tickU }.bells [] }

/-- The first bell after the frame is that of 2 µs, and TIME_SET tells it. -/
theorem bellJustSent_timeSet :
    bellJustSent.core.begin.timeSetAll.out = bellJustSent.core.timeSetFrames (2 * usU) := by decide +kernel

/-- Refutes O10: its sixth clause lets TIME_SET tell the next whole microsecond, but where that microsecond's bell has left
already the next bell is a microsecond later, and TIME_SET tells that one (R175). -/
theorem not_periodsBringTheirWork : ¬ Obligations.PeriodsBringTheirWork := by
  unfold Obligations.PeriodsBringTheirWork
  rintro ⟨-, -, -, -, -, htimeSet, -⟩
  have hframes : ∀ s : State, s.core.held domFAB = false → s.core.held domTIM = false → s.core.muted = false →
      ∃ t : State, exec .timeSet s = .next t ∧ t.core.out = s.core.timeSetFrames (nextMultiple s.core.now usU) := by
    intro s hfab htim hmuted
    obtain ⟨t, hexec, -, hout, -⟩ := htimeSet s hfab htim hmuted
    exact ⟨t, hexec, hout⟩
  obtain ⟨t, hexec, hout⟩ := hframes bellJustSent (by decide +kernel) (by decide +kernel) (by decide +kernel)
  have ht : t = bellJustSent.finish bellJustSent.core.begin.timeSetAll := (Host.Outcome.next.inj hexec).symm
  have htold : t.core.out = bellJustSent.core.timeSetFrames (2 * usU) := by
    rw [ht, State.finish_core, Core.close_out, bellJustSent_timeSet]
  have hnext : bellJustSent.core.timeSetFrames (2 * usU) ≠
      bellJustSent.core.timeSetFrames (nextMultiple bellJustSent.core.now usU) := by decide +kernel
  exact hnext (htold.symm.trans hout)

end Sys2Proof.Machine
end


section
namespace Sys2Proof.Machine

/-! ## Tiles from DRAM to the double buffer (R51, R53, R373) -/

/-! ### Counters, and writes under one key -/

/-- A saturated value fits its field. -/
theorem satNat_mod (w v : Nat) : satNat w v % 2 ^ w = satNat w v := by
  have hpos : 0 < 2 ^ w := Nat.two_pow_pos w
  exact Nat.mod_eq_of_lt (by unfold satNat; omega)

theorem Core.rd_inc_at (c : Core) (f : Field) (i n : Nat) : (c.inc f i n).rd f i = satNat f.width (c.rd f i + n) := by
  rw [Core.inc, Core.rd_wr_same, satNat_mod]

theorem Core.rd_keepMax_at (c : Core) (f : Field) (v i : Nat) :
    (c.keepMax f v i).rd f i = satNat f.width (max (c.rd f i) v) := by
  rw [Core.keepMax, Core.rd_wr_same, satNat_mod]

/-- What a write leaves under its own key does not depend on what stood there, nor on the field that reads it. -/
theorem Core.rd_wr_of_key (c d : Core) {f g : Field} (v : Nat) {i j : Nat} (h : g.key j = f.key i) :
    (c.wr f v i).rd g j = (d.wr f v i).rd g j := by
  simp only [Core.rd, Core.wr, Kv.get, Kv.put, h]
  split
  · rw [Kv.find_erase_same, Kv.find_erase_same]
  · rw [Kv.find_insert_same, Kv.find_insert_same]

/-- The object of a field is the upper part of its key. -/
theorem Field.key_div (f : Field) {i : Nat} (hi : i < 65536) (hl : f.lsb < 65536) : f.key i / 2 ^ 32 = f.obj := by
  unfold Field.key
  omega

/-- A command that writes no register of an object leaves its fields as they were. -/
theorem Only.rd_obj {fp : Footprint} {c d : Core} (h : Only fp c d) (f : Field) {i : Nat}
    (hk : ∀ k ∈ fp.keys, k / 2 ^ 32 ≠ f.obj) (hi : i < 65536) (hl : f.lsb < 65536) : d.rd f i = c.rd f i :=
  h.1 f i (fun hmem => hk _ hmem (f.key_div hi hl))

theorem Core.ch_wr (c : Core) (f : Field) (v i j : Nat) : (c.wr f v i).ch j = c.ch j := rfl

/-- A core that differs only in other parts has the same channels. -/
theorem Only.ch_eq {fp : Footprint} {c d : Core} (h : Only fp c d) (hp : Part.seq ∉ fp.parts) (i : Nat) :
    d.ch i = c.ch i := by
  have hseq : d.seq = c.seq := h.2 .seq hp
  rw [Core.ch, Core.ch, hseq]

theorem Only.pilot_eq {fp : Footprint} {c d : Core} (h : Only fp c d) (hp : Part.pilot ∉ fp.parts) : d.pilot = c.pilot :=
  h.2 .pilot hp

/-- Two updates in turn stay within a footprint that holds both of theirs. -/
theorem Only.join {fp gp jp : Footprint} {c d e : Core} (h : Only fp c d) (k : Only gp d e)
    (hk : fp.keys ⊆ jp.keys ∧ gp.keys ⊆ jp.keys) (hp : fp.parts ⊆ jp.parts ∧ gp.parts ⊆ jp.parts) : Only jp c e :=
  (h.mono (fun _ hm => hk.1 hm) (fun _ hm => hp.1 hm)).trans (k.mono (fun _ hm => hk.2 hm) (fun _ hm => hp.2 hm))

/-! ### What the check at use looks at -/

/-- The objects whose registers the check at use reads or the commit of a set moves: SEQ_LAYER_STATE, CHT_GEOM, CHT_BANK,
BWK_MAXLEN and BWK_CASCADE. -/
def envObjs : List Nat := [0x1002, 0x1101, 0x1103, 0x1401, 0x1403]

/-- Two cores that show the check at use the same parameter sets and the same registers of `envObjs`. -/
structure SameEnv (c d : Core) : Prop where
  psets : d.psets = c.psets
  rd : ∀ (f : Field) (i : Nat), f.obj ∈ envObjs → f.lsb < 65536 → i < 64 → d.rd f i = c.rd f i

/-- A command that writes no register of those objects and no parameter set leaves the check at use what it looks at. -/
theorem Only.sameEnv {fp : Footprint} {c d : Core} (h : Only fp c d) (hk : ∀ k ∈ fp.keys, k / 2 ^ 32 ∉ envObjs)
    (hp : Part.psets ∉ fp.parts) : SameEnv c d :=
  ⟨h.2 .psets hp, fun f i hobj hl hi => h.1 f i (fun hmem => hk _ hmem (by rwa [f.key_div (by omega) hl]))⟩

namespace SameEnv

variable {c d : Core}

theorem layerActive (h : SameEnv c d) : d.layerActive = c.layerActive := by
  rw [Core.layerActive, Core.layerActive, Core.flag_eq, Core.flag_eq, h.rd _ _ (by decide) (by decide) (by decide)]

theorem wr (h : SameEnv c d) (f : Field) (v i : Nat) : SameEnv (c.wr f v i) (d.wr f v i) := by
  refine ⟨h.psets, fun g j hobj hl hj => ?_⟩
  by_cases hkey : g.key j = f.key i
  · exact Core.rd_wr_of_key d c v hkey
  · rw [Core.rd_wr_ne _ _ _ _ _ _ hkey, Core.rd_wr_ne _ _ _ _ _ _ hkey, h.rd g j hobj hl hj]

/-- Two loops of the same passes keep the cores alike. -/
theorem foldl {α : Type} (g : Core → α → Core) (l : List α)
    (hg : ∀ (c d : Core), ∀ x ∈ l, SameEnv c d → SameEnv (g c x) (g d x)) :
    ∀ {c d : Core}, SameEnv c d → SameEnv (l.foldl g c) (l.foldl g d) := by
  induction l with
  | nil => exact id
  | cons x l ih =>
    intro c d h
    exact ih (fun c d y hy => hg c d y (List.mem_cons_of_mem x hy)) (hg c d x List.mem_cons_self h)

theorem wrImage (h : SameEnv c d) (o : ObjDesc) (i v : Nat) : SameEnv (c.wrImage o i v) (d.wrImage o i v) := by
  refine foldl _ _ (fun c d f _ k => ?_) h
  split
  · exact k.wr _ _ _
  · exact k

theorem putSets (h : SameEnv c d) (ch first : Nat) (data : Bytes) :
    SameEnv (c.putSets ch first data) (d.putSets ch first data) := by
  unfold Core.putSets
  refine foldl _ _ (fun c d n _ k => ?_) h
  exact ⟨congrArg (Kv.put 0 · _ _) k.psets, k.rd⟩

theorem swapBank (h : SameEnv c d) {ch : Nat} (hc : ch < 64) : SameEnv (c.swapBank ch) (d.swapBank ch) := by
  have hbank : d.rd CHT_BANK.CURRENT ch = c.rd CHT_BANK.CURRENT ch := h.rd _ _ (by decide) (by decide) hc
  simp only [Core.swapBank, hbank]
  exact ((h.wr _ _ _).wr _ _ _).wr _ _ _

theorem resWrite (h : SameEnv c d) (n : Nat) : SameEnv { c with resWrite := n } { d with resWrite := n } := ⟨h.psets, h.rd⟩

theorem applyObj (h : SameEnv c d) (o : SetObj) : SameEnv (c.applyObj o) (d.applyObj o) := by
  unfold Core.applyObj
  by_cases hset : o.obj = idPset
  · simp only [if_pos hset]
    exact h.putSets _ _ _
  by_cases hblock : o.obj = idPsetBlock
  · simp only [if_neg hset, if_pos hblock]
    exact h.putSets _ _ _
  by_cases hown : o.obj = idManifest ∨ o.obj = idChtNodes
  · simp only [if_neg hset, if_neg hblock, if_pos hown]
    exact h
  simp only [if_neg hset, if_neg hblock, if_neg hown]
  have hpolicy : SameEnv (if o.obj = idAdpPolicy then { c with resWrite := 0 } else c)
      (if o.obj = idAdpPolicy then { d with resWrite := 0 } else d) := by
    split
    · exact h.resWrite 0
    · exact h
  cases findObj o.obj with
  | none => exact hpolicy
  | some e => exact hpolicy.wrImage _ _ _

theorem applyObjs (h : SameEnv c d) (os : List SetObj) : SameEnv (c.applyObjs os) (d.applyObjs os) := by
  have hchan : ∀ ch ∈ chartChans os, ch < 64 := by
    intro ch hch
    rw [chartChans, List.mem_filter, List.mem_range] at hch
    exact hch.1
  unfold Core.applyObjs
  refine foldl (fun c ch => c.swapBank ch) (chartChans os) (fun c d ch hch k => k.swapBank (hchan ch hch)) ?_
  exact foldl (fun c o => c.applyObj o) os (fun c d o _ k => k.applyObj o) h

/-- Alike cores stay alike while the sets of a queue take force, up to the first manifest. -/
theorem atNextLayer_go (q : List CommSet) : ∀ {c d : Core}, SameEnv c d →
    SameEnv (Core.atNextLayer.go q c) (Core.atNextLayer.go q d) := by
  induction q with
  | nil => exact id
  | cons s q ih =>
    intro c d h
    unfold Core.atNextLayer.go
    cases s.manifest.isSome with
    | true => exact h.applyObjs s.objs
    | false => exact ih (h.applyObjs s.objs)

theorem atNextLayer (h : SameEnv c d) (hp : d.pilot = c.pilot) : SameEnv c.atNextLayer d.atNextLayer := by
  rw [Core.atNextLayer, Core.atNextLayer, hp]
  exact atNextLayer_go _ h

theorem geom (h : SameEnv c d) {ch : Nat} (hc : ch < 64) : d.geom ch = c.geom ch := by
  have hfields : ∀ f ∈ Obj.CHT_GEOM.fields, f.obj ∈ envObjs ∧ f.lsb < 65536 := by decide
  have himage : d.image Obj.CHT_GEOM ch = c.image Obj.CHT_GEOM ch := by
    refine foldl_eq_foldl _ (fun a f hf => ?_)
    rw [h.rd f ch (hfields f hf).1 (hfields f hf).2 hc]
  rw [Core.geom, Core.geom, himage]

/-- Alike cores judge a tile against the same environment. -/
theorem tileEnv (h : SameEnv c d) {ch : Nat} (hc : ch < 64) (layer : Nat) (prev : Option Nat) :
    d.tileEnv ch layer prev = c.tileEnv ch layer prev := by
  have hpset : d.pset ch = c.pset ch := funext (fun n => by rw [Core.pset, Core.pset, h.psets])
  have hrd : ∀ f : Field, f.obj ∈ envObjs → f.lsb < 65536 → d.rd f = c.rd f :=
    fun f hobj hl => h.rd f 0 hobj hl (by decide)
  simp only [Core.tileEnv, Core.rdI, Core.flag_eq, h.geom hc, hpset, hrd BWK_MAXLEN.MAXLEN (by decide) (by decide),
    hrd BWK_CASCADE.BORDER_EN (by decide) (by decide), hrd BWK_CASCADE.REG_X_LO (by decide) (by decide),
    hrd BWK_CASCADE.REG_X_HI (by decide) (by decide), hrd BWK_CASCADE.REG_Y_LO (by decide) (by decide),
    hrd BWK_CASCADE.REG_Y_HI (by decide) (by decide)]

/-- Alike cores with the same queue and the same tile before it come to the same result of the check at use. -/
theorem checkIdle (h : SameEnv c d) (hp : d.pilot = c.pilot) {ch : Nat} (hc : ch < 64)
    (hprev : (d.ch ch).prevSeq = (c.ch ch).prevSeq) (t : BufTile) : d.checkIdle ch t = c.checkIdle ch t := by
  have henv : d.useEnv ch t = c.useEnv ch t := by
    simp only [Core.useEnv, hprev, h.layerActive, h.tileEnv hc, (h.atNextLayer hp).tileEnv hc]
  rw [Core.checkIdle, Core.checkIdle, henv]

end SameEnv

/-- The check at use does not look at what belongs to a command alone. -/
theorem Core.begin_checkIdle (c : Core) {ch : Nat} (hc : ch < 64) (t : BufTile) :
    c.begin.checkIdle ch t = c.checkIdle ch t :=
  SameEnv.checkIdle (c := c) (d := c.begin) ⟨rfl, fun _ _ _ _ _ => rfl⟩ rfl hc rfl t

/-! ### Reads of DRAM (R368, R370, R371) -/

/-- What the write queues' part in a read of DRAM may change. -/
def hazardFp : Footprint := { keys := rawKeys, parts := [.drc] }

theorem subchannel_lt (a : Nat) : subchannel a < 4 := Nat.mod_lt _ (by decide)

theorem Only.setDrc {fp : Footprint} {c d : Core} (h : Only fp c d) (x : Drc) (hp : Part.drc ∈ fp.parts) :
    Only fp c { d with drc := x } := h.modDrc (fun _ => x) hp

theorem Quiet.setDrc {c d : Core} (h : Quiet c d) (x : Drc) : Quiet c { d with drc := x } := h

theorem Core.dramHazard_only (c : Core) (a n : Nat) : Only hazardFp c (c.dramHazard a n) := by
  unfold Core.dramHazard
  refine Only.foldl _ _ (fun d b _ h => Only.ite _ (fun _ => ?_) (fun _ => h)) c (Only.refl _ c)
  exact (h.inc _ _ _ (List.mem_map_of_mem (List.mem_range.mpr (subchannel_lt b)))).setDrc _ List.mem_cons_self

theorem Core.dramHazard_quiet (c : Core) (a n : Nat) : Quiet c (c.dramHazard a n) := by
  unfold Core.dramHazard
  exact Quiet.foldl _ _ (fun _ _ _ h => Quiet.ite _ (fun _ => (h.inc _ _ _).setDrc _) (fun _ => h)) c (Quiet.refl c)

/-- The registers that a burst in error writes: the counts of its subchannel, the log of R371, the phase. -/
def errKeys : List Nat :=
  (List.range 4).map DRC_STAT.CE.key ++ (List.range 4).map DRC_STAT.UE.key ++
    [DRC_UE_LOG.UE_ADDR.key 0, DRC_UE_LOG.UE_CLASS.key 0, DRC_UE_LOG.UE_SEC.key 0, DRC_UE_LOG.UE_NS.key 0,
      DRC_STATE.PHASE.key 0]

/-- What a read of DRAM may change, a burst in error included. -/
def readFp : Footprint := { keys := rawKeys ++ errKeys, parts := [.drc, .events] }

theorem Only.read_of_hazard {c d : Core} (h : Only hazardFp c d) : Only readFp c d :=
  h.mono (fun _ hk => List.mem_append_left _ hk) (fun _ hp => List.mem_cons.mpr (Or.inl (List.mem_singleton.mp hp)))

theorem errKeys_in_readFp {k : Nat} (h : k ∈ errKeys) : k ∈ readFp.keys := List.mem_append_right _ h

theorem ceKey_in_readFp (a : Nat) : DRC_STAT.CE.key (subchannel a) ∈ readFp.keys :=
  errKeys_in_readFp (List.mem_append_left _ (List.mem_append_left _
    (List.mem_map_of_mem (List.mem_range.mpr (subchannel_lt a)))))

theorem ueKey_in_readFp (a : Nat) : DRC_STAT.UE.key (subchannel a) ∈ readFp.keys :=
  errKeys_in_readFp (List.mem_append_left _ (List.mem_append_right _
    (List.mem_map_of_mem (List.mem_range.mpr (subchannel_lt a)))))

theorem Only.drcPhase {c d : Core} (h : Only readFp c d) (p : Nat) : Only readFp c (d.drcPhase p) := by
  have hwr : Only readFp c (d.wr DRC_STATE.PHASE p) := h.wr _ _ _ (by decide)
  exact Only.ite _ (fun _ => hwr) (fun _ => hwr.setDrc _ (by decide))

theorem Core.uncorrectable_only {c d : Core} (h : Only readFp c d) (a cls : Nat) : Only readFp c (d.uncorrectable a cls) := by
  unfold Core.uncorrectable
  have hlog := ((((h.inc DRC_STAT.UE _ 1 (ueKey_in_readFp a)).wr DRC_UE_LOG.UE_ADDR (a / 64 * 64) 0 (by decide)).wr
    DRC_UE_LOG.UE_CLASS cls 0 (by decide)).wr DRC_UE_LOG.UE_SEC (timeSec d.now) 0 (by decide)).wr
    DRC_UE_LOG.UE_NS (timeNs d.now) 0 (by decide)
  exact ((Only.ite _ (fun _ => hlog) (fun _ => hlog.drcPhase _)).setDrc _ (by decide)).post _ _ _ _ (by decide)

theorem Core.readErr_only {c d : Core} (h : Only readFp c d) (cls : Nat) (e : Option (Nat × Bool)) :
    Only readFp c (d.readErr cls e).1 :=
  match e with
  | none => h
  | some (a, true) => h.inc _ _ _ (ceKey_in_readFp a)
  | some (a, false) => Core.uncorrectable_only h a cls

theorem Core.readTile_only (c : Core) (m : Mem) (a : Nat) (ue : Option (Nat × Bool)) :
    Only readFp c (c.readTile m a ue).1 :=
  Core.readErr_only (Only.read_of_hazard (c.dramHazard_only a 4096)) 0 _

/-- A read without a burst in error delivers the tile's bytes as DRAM and the accepted writes hold them. -/
theorem Core.readTile_good (c : Core) (m : Mem) (a : Nat) :
    c.readTile m a none = (c.dramHazard a 4096, readBytesUnder m c.wq a 4096, false) := by
  have hwq : (c.dramHazard a 4096).wq = c.wq := (c.dramHazard_quiet a 4096).2
  show (_, readBytesUnder m (c.dramHazard a 4096).wq a 4096, false) = _
  rw [hwq]
  rfl

/-! ### A fetch into the ring (R373) -/

/-- A fetched tile takes the next slot of its channel's ring. -/
def SeqCh.pushTile (s : SeqCh) (r : RingTile) : SeqCh :=
  { s with ring := s.ring ++ [r], fetchAt := some (r.layer, r.index + 1) }

/-- A core whose channel takes a fetched tile: the longest fetch and the ring's filling are shown. -/
def Core.fetched (c : Core) (ch : Nat) (r : RingTile) (ns : Nat) : Core :=
  ((c.modCh ch (SeqCh.pushTile · r)).keepMax VST_STATE.FETCH_MAX_NS ns ch).resident ch

theorem Core.fetchTile_of {c : Core} (m : Mem) (ns : Nat) (ue : Option (Nat × Bool)) {ch layer a i : Nat}
    (hm : c.held domMEM = false) (he : c.held domEXP = false) (hf : c.fetchFor = some ch)
    (hw : nextWanted (c.fetchPlan ch) (c.ch ch).fetchAt = some (layer, a, i)) :
    c.fetchTile m ns ue =
      (c.readTile m a ue).1.fetched ch ⟨layer, i, (c.readTile m a ue).2.1, (c.readTile m a ue).2.2⟩ ns := by
  simp only [Core.fetchTile, hm, he, hf, hw, Bool.or_self, Bool.false_eq_true, if_false, Core.fetched, SeqCh.pushTile]

theorem pickLeast_mem {load : Nat → Nat} {l : List Nat} : ∀ {a : Nat}, pickLeast load l = some a → a ∈ l := by
  induction l with
  | nil => intro a h; exact absurd h (by simp [pickLeast])
  | cons b l ih =>
    intro a h
    unfold pickLeast at h
    split at h
    · rename_i e he
      split at h
      · exact Option.some.inj h ▸ List.mem_cons_self
      · exact List.mem_cons_of_mem b (ih (he.trans h))
    · exact Option.some.inj h ▸ List.mem_cons_self

/-- The vector store fetches for one of the 64 channels. -/
theorem Core.fetchFor_lt {c : Core} {ch : Nat} (h : c.fetchFor = some ch) : ch < 64 :=
  List.mem_range.mp (List.mem_filter.mp (pickLeast_mem h)).1

theorem Core.rd_resident (c : Core) (ch : Nat) : (c.resident ch).rd VST_STATE.RESIDENT ch = min (c.ch ch).ring.length 511 := by
  rw [Core.resident, Core.rd_wr_same]
  exact satNat_mod 9 _

/-- Showing RESIDENT leaves the other fields of VST_STATE. -/
theorem Core.rd_resident_ne (c : Core) (ch : Nat) (f : Field) (ho : f.obj = VST_STATE.RESIDENT.obj)
    (hl : f.lsb ≠ VST_STATE.RESIDENT.lsb) : (c.resident ch).rd f ch = c.rd f ch :=
  Core.rd_wr_ne _ _ _ _ _ _ (Field.key_ne_lsb ch ho hl)

theorem Core.ch_fetched (c : Core) (ch : Nat) (r : RingTile) (ns : Nat) :
    (c.fetched ch r ns).ch ch = (c.ch ch).pushTile r := by
  rw [Core.fetched, Core.resident, Core.ch_wr, Core.keepMax, Core.ch_wr, Core.ch_modCh, if_pos rfl]

theorem Core.fetched_only (c : Core) (ch : Nat) (r : RingTile) (ns : Nat) :
    Only { keys := [VST_STATE.FETCH_MAX_NS.key ch, VST_STATE.RESIDENT.key ch], parts := [.seq] } c (c.fetched ch r ns) :=
  ((((Only.refl _ c).modCh ch _ List.mem_cons_self).keepMax _ _ _ List.mem_cons_self).wr _ _ _
    (List.mem_cons_of_mem _ List.mem_cons_self))

theorem Core.rd_fetched_resident (c : Core) (ch : Nat) (r : RingTile) (ns : Nat) :
    (c.fetched ch r ns).rd VST_STATE.RESIDENT ch = min ((c.ch ch).ring.length + 1) 511 := by
  have hring : ((c.modCh ch (SeqCh.pushTile · r)).ch ch).ring = (c.ch ch).ring ++ [r] := by
    rw [Core.ch_modCh, if_pos rfl, SeqCh.pushTile]
  rw [Core.fetched, Core.rd_resident, ← List.length_singleton (a := r), ← List.length_append, ← hring]
  rfl

theorem Core.rd_fetched_max (c : Core) (ch : Nat) (r : RingTile) (ns : Nat) :
    (c.fetched ch r ns).rd VST_STATE.FETCH_MAX_NS ch =
      min (max (c.rd VST_STATE.FETCH_MAX_NS ch) ns) (2 ^ 32 - 1) := by
  rw [Core.fetched, Core.rd_resident_ne _ _ VST_STATE.FETCH_MAX_NS rfl (by decide), Core.rd_keepMax_at, Core.rd_modCh]
  rfl

/-- A burst that a row names by its number in the tile. -/
def burstOf (ue : Option (Fin 64 × Bool)) : Option (Nat × Bool) := ue.map (fun e => (e.1.val, e.2))

theorem exec_vstFetch (ns : BitVec 32) (ue : Option (Fin 64 × Bool)) (s : State) :
    exec (.vstFetch ns ue) s = s.run (fun c m => c.fetchTile m ns.toNat (burstOf ue)) := rfl

theorem vstFetch_runs (s : State) (ns : BitVec 32) (ch layer a i : Nat) (hm : s.core.held domMEM = false)
    (he : s.core.held domEXP = false) (hf : s.core.fetchFor = some ch)
    (hw : nextWanted (s.core.fetchPlan ch) (s.core.ch ch).fetchAt = some (layer, a, i)) :
    Runs (.vstFetch ns none) s
      { keys := [VST_STATE.FETCH_MAX_NS.key ch, VST_STATE.RESIDENT.key ch] ++ rawKeys, parts := [.seq, .drc] }
      (fun t => (t.ch ch).ring = (s.core.ch ch).ring ++ [⟨layer, i, readBytesUnder s.dram [] a 4096, false⟩] ∧
        (t.ch ch).fetchAt = some (layer, i + 1) ∧
        t.rd VST_STATE.RESIDENT ch = min ((s.core.ch ch).ring.length + 1) 511 ∧
        t.rd VST_STATE.FETCH_MAX_NS ch = min (max (s.core.rd VST_STATE.FETCH_MAX_NS ch) ns.toNat) (2 ^ 32 - 1)) := by
  have hread := s.core.begin.dramHazard_only a 4096
  have hquiet := s.core.begin.dramHazard_quiet a 4096
  have hrun := Core.fetchTile_of (c := s.core.begin) s.dram ns.toNat none hm he hf hw
  simp only [Core.readTile_good, Core.begin_wq] at hrun
  generalize s.core.begin.dramHazard a 4096 = d at hread hquiet hrun
  have hch : d.ch ch = s.core.ch ch := hread.ch_eq (by decide) ch
  have hmax : d.rd VST_STATE.FETCH_MAX_NS ch = s.core.rd VST_STATE.FETCH_MAX_NS ch :=
    hread.rd_obj _ (by decide) (Nat.lt_trans (Core.fetchFor_lt hf) (by decide)) (by decide)
  have hparts : hazardFp.parts ⊆ [.seq, .drc] ∧ [Part.seq] ⊆ [.seq, .drc] := by decide
  have honly := hread.join (d.fetched_only ch ⟨layer, i, readBytesUnder s.dram [] a 4096, false⟩ ns.toNat)
    (jp := { keys := [VST_STATE.FETCH_MAX_NS.key ch, VST_STATE.RESIDENT.key ch] ++ rawKeys, parts := [.seq, .drc] })
    ⟨List.subset_append_right _ _, List.subset_append_left _ _⟩ hparts
  refine runs_to _ _ (exec_vstFetch ns none s) hrun hquiet.1 hquiet.2 honly ?_
  rw [Core.close_ch, Core.rd_close, Core.rd_close, Core.ch_fetched, Core.rd_fetched_resident, Core.rd_fetched_max, hch, hmax]
  exact ⟨rfl, rfl, rfl, rfl⟩

theorem vstFetch_acts (s : State) (ns : BitVec 32) (ue : Option (Fin 64 × Bool)) (ch layer a i : Nat)
    (hm : s.core.held domMEM = false) (he : s.core.held domEXP = false) (hf : s.core.fetchFor = some ch)
    (hw : nextWanted (s.core.fetchPlan ch) (s.core.ch ch).fetchAt = some (layer, a, i)) :
    Acts (.vstFetch ns ue) s (fun t => (t.ch ch).fetchAt = some (layer, i + 1) ∧
      (t.ch ch).ring.map RingTile.index = (s.core.ch ch).ring.map RingTile.index ++ [i]) := by
  have hread := s.core.begin.readTile_only s.dram a (burstOf ue)
  have hrun := Core.fetchTile_of (c := s.core.begin) s.dram ns.toNat (burstOf ue) hm he hf hw
  refine acts_of _ (exec_vstFetch ns ue s) ?_
  rw [hrun, Core.close_ch, Core.ch_fetched, hread.ch_eq (by decide), Core.begin_ch]
  exact ⟨rfl, List.map_append⟩

/-! ### The check at use (R51) -/

/-- A tile goes into the idle half as the check finds it. -/
def Core.judge (c : Core) (ch : Nat) (t : BufTile) : Core :=
  c.putIdle ch t (if (c.checkIdle ch t).isNone then .passed else .failedOnce)

theorem Core.judge_eq (c : Core) (ch : Nat) (t : BufTile) :
    c.putIdle ch t (match c.checkIdle ch t with | none => .passed | some _ => .failedOnce) = c.judge ch t := by
  rw [Core.judge]
  cases c.checkIdle ch t <;> rfl

/-- The channel after a tile has gone into its idle half. -/
def SeqCh.putIdle (s : SeqCh) (t : BufTile) (ck : TileCk) : SeqCh :=
  { s with
    idle := some { t with ck := ck },
    prevSeq := if ck = .passed ∧ t.adopt.isNone then some (tileHdr t.bytes).planSeq else s.prevSeq }

theorem Core.ch_putIdle (c : Core) (ch : Nat) (t : BufTile) (ck : TileCk) :
    (c.putIdle ch t ck).ch ch = (c.ch ch).putIdle t ck :=
  (Core.ch_modCh c ch ch _).trans (if_pos rfl)

theorem Core.rd_putIdle (c : Core) (ch : Nat) (t : BufTile) (ck : TileCk) (f : Field) (i : Nat) :
    (c.putIdle ch t ck).rd f i = c.rd f i := rfl

theorem Only.putIdle {fp : Footprint} {c d : Core} (h : Only fp c d) (ch : Nat) (t : BufTile) (ck : TileCk)
    (hp : Part.seq ∈ fp.parts) : Only fp c (d.putIdle ch t ck) := h.modCh _ _ hp

/-- A field of an object that the check at use does not read has none of its keys. -/
theorem Field.key_notEnv {f : Field} {i : Nat} (ho : f.obj ∉ envObjs) (hi : i < 65536) (hl : f.lsb < 65536) :
    f.key i / 2 ^ 32 ∉ envObjs := by rwa [f.key_div hi hl]

/-- A tile of the ring as it moves into the buffer: poisoned there already, or on the move (R372). -/
def RingTile.moved (r : RingTile) (bad : Bool) : BufTile := ⟨r.layer, r.index, r.bytes, r.poisoned || bad, .waiting, none⟩

/-- An adoption tile as it moves into the buffer (R151). -/
def AdoptTile.moved (a : AdoptTile) (layer : Nat) : BufTile :=
  ⟨layer, 0xFFFFFFFF, a.bytes, false, .waiting, some a.info⟩

/-- The oldest adoption tile leaves its queue (R151). -/
def Core.takeAdopt (c : Core) (ch : Nat) (q : List AdoptTile) : Core :=
  (c.modCh ch (fun s => { s with adoptQ := q })).wr ADP_STATE.QUEUED (satNat 16 q.length) ch

/-- The head of the ring leaves it, counting the words corrected on the move (R372). -/
def Core.takeRing (c : Core) (ch : Nat) (q : List RingTile) (now : Bool) (corr : Nat) : Core :=
  ((c.modCh ch (fun s => { s with ring := q, moveNext := if now then s.moveNext + 1 else s.moveNext })).inc
    VST_STATE.ECC_CORR ch corr).resident ch

theorem Core.moveAndCheck_adopt {c : Core} {ch corr : Nat} {dbl : Bool} {a : AdoptTile} {q : List AdoptTile}
    (he : c.held domEXP = false) (hm : c.held domMEM = false) (hi : (c.ch ch).idle = none) (hs : (c.ch ch).susp = none)
    (hq : (c.ch ch).adoptQ = a :: q) :
    c.moveAndCheck ch corr dbl = (c.takeAdopt ch q).judge ch
      (a.moved ((c.takeAdopt ch q).rd SEQ_LAYER_STATE.LAYER_NOW)) := by
  simp only [Core.moveAndCheck, he, hm, hi, hs, hq, Option.isSome_none, Bool.or_self, Bool.false_eq_true, if_false]
  exact (c.takeAdopt ch q).judge_eq ch _

theorem Core.moveAndCheck_ring {c : Core} {ch corr : Nat} {dbl now : Bool} {r : RingTile} {q : List RingTile}
    (he : c.held domEXP = false) (hm : c.held domMEM = false) (hi : (c.ch ch).idle = none) (hs : (c.ch ch).susp = none)
    (ha : (c.ch ch).adoptQ = []) (hr : (c.ch ch).ring = r :: q)
    (hnow : (c.layerActive && r.layer == c.rd SEQ_LAYER_STATE.LAYER_NOW && (c.ch ch).armed) = now)
    (hdue : (now || (!c.layerActive && (c.queuedManifests.head?.map manLayer == some r.layer))) = true) :
    c.moveAndCheck ch corr dbl = (c.takeRing ch q now corr).judge ch (r.moved dbl) := by
  simp only [Core.moveAndCheck, he, hm, hi, hs, ha, hr, Option.isSome_none, Bool.or_self, Bool.false_eq_true, if_false,
    hnow, hdue, if_true]
  exact (c.takeRing ch q now corr).judge_eq ch _

theorem Core.takeAdopt_only (c : Core) (ch : Nat) (q : List AdoptTile) :
    Only { keys := [ADP_STATE.QUEUED.key ch], parts := [.seq] } c (c.takeAdopt ch q) :=
  ((Only.refl _ c).modCh _ _ List.mem_cons_self).wr _ _ _ List.mem_cons_self

theorem Core.ch_takeAdopt (c : Core) (ch : Nat) (q : List AdoptTile) :
    (c.takeAdopt ch q).ch ch = { c.ch ch with adoptQ := q } := by
  rw [Core.takeAdopt, Core.ch_wr, Core.ch_modCh, if_pos rfl]

theorem Core.takeRing_only (c : Core) (ch : Nat) (q : List RingTile) (now : Bool) (corr : Nat) :
    Only { keys := [VST_STATE.ECC_CORR.key ch, VST_STATE.RESIDENT.key ch], parts := [.seq] } c (c.takeRing ch q now corr) :=
  (((Only.refl _ c).modCh _ _ List.mem_cons_self).inc _ _ _ List.mem_cons_self).wr _ _ _
    (List.mem_cons_of_mem _ List.mem_cons_self)

theorem Core.ch_takeRing (c : Core) (ch : Nat) (q : List RingTile) (now : Bool) (corr : Nat) :
    (c.takeRing ch q now corr).ch ch =
      { c.ch ch with ring := q, moveNext := if now then (c.ch ch).moveNext + 1 else (c.ch ch).moveNext } := by
  rw [Core.takeRing, Core.resident, Core.ch_wr, Core.inc, Core.ch_wr, Core.ch_modCh, if_pos rfl]

theorem Core.rd_takeRing_resident (c : Core) (ch : Nat) (q : List RingTile) (now : Bool) (corr : Nat) :
    (c.takeRing ch q now corr).rd VST_STATE.RESIDENT ch = min q.length 511 := by
  rw [Core.takeRing, Core.rd_resident, Core.inc, Core.ch_wr, Core.ch_modCh, if_pos rfl]

theorem Core.rd_takeRing_corr (c : Core) (ch : Nat) (q : List RingTile) (now : Bool) (corr : Nat) :
    (c.takeRing ch q now corr).rd VST_STATE.ECC_CORR ch = min (c.rd VST_STATE.ECC_CORR ch + corr) 65535 := by
  rw [Core.takeRing, Core.rd_resident_ne _ _ VST_STATE.ECC_CORR rfl (by decide), Core.rd_inc_at, Core.rd_modCh]
  rfl

/-- The check finds of a tile taken from the ring what it finds before the tile is taken. -/
theorem Core.checkIdle_takeRing (c : Core) {ch : Nat} (hc : ch < 64) (q : List RingTile) (now : Bool) (corr : Nat)
    (t : BufTile) : (c.takeRing ch q now corr).checkIdle ch t = c.checkIdle ch t := by
  have honly := c.takeRing_only ch q now corr
  have henv : SameEnv c (c.takeRing ch q now corr) := honly.sameEnv
    (by
      intro k hk
      obtain rfl | rfl : k = VST_STATE.ECC_CORR.key ch ∨ k = VST_STATE.RESIDENT.key ch := by simpa using hk
      · exact Field.key_notEnv (by decide) (by omega) (by decide)
      · exact Field.key_notEnv (by decide) (by omega) (by decide))
    (by simp)
  exact henv.checkIdle (honly.pilot_eq (by simp)) hc (by rw [Core.ch_takeRing]) t

theorem Core.takeAdopt_env (c : Core) {ch : Nat} (hc : ch < 64) (q : List AdoptTile) : SameEnv c (c.takeAdopt ch q) :=
  (c.takeAdopt_only ch q).sameEnv
    (by
      intro k hk
      obtain rfl : k = ADP_STATE.QUEUED.key ch := by simpa using hk
      exact Field.key_notEnv (by decide) (by omega) (by decide))
    (by simp)

theorem Core.checkIdle_takeAdopt (c : Core) {ch : Nat} (hc : ch < 64) (q : List AdoptTile) (t : BufTile) :
    (c.takeAdopt ch q).checkIdle ch t = c.checkIdle ch t :=
  (c.takeAdopt_env hc q).checkIdle rfl hc (by rw [Core.ch_takeAdopt]) t

theorem exec_tileCheckAtUse (ch : Fin 64) (corr : BitVec 16) (bad : Bool) (s : State) :
    exec (.tileCheckAtUse ch corr bad) s = s.run (fun c _ => c.moveAndCheck ch.val corr.toNat bad) := rfl

/-- A ring whose head belongs to the layer in progress, on an armed channel, gives it up now. -/
theorem Core.headNow {c : Core} {ch : Nat} {r : RingTile} (hl : c.layerActive = true)
    (hn : r.layer = c.rd SEQ_LAYER_STATE.LAYER_NOW) (ha : (c.ch ch).armed = true) :
    (c.layerActive && r.layer == c.rd SEQ_LAYER_STATE.LAYER_NOW && (c.ch ch).armed) = true := by
  simp [hl, hn, ha]

theorem tileCheckAtUse_runs (s : State) (ch : Fin 64) (corr : BitVec 16) (bad : Bool) (r : RingTile) (q : List RingTile)
    (he : s.core.held domEXP = false) (hm : s.core.held domMEM = false) (hi : (s.core.ch ch).idle = none)
    (hs : (s.core.ch ch).susp = none) (ha : (s.core.ch ch).adoptQ = []) (hr : (s.core.ch ch).ring = r :: q)
    (hl : s.core.layerActive = true) (hn : r.layer = s.core.rd SEQ_LAYER_STATE.LAYER_NOW)
    (harm : (s.core.ch ch).armed = true) :
    Runs (.tileCheckAtUse ch corr bad) s
      { keys := [VST_STATE.ECC_CORR.key ch, VST_STATE.RESIDENT.key ch], parts := [.seq] }
      (fun t => (t.ch ch).idle = some { r.moved bad with
          ck := if (s.core.checkIdle ch (r.moved bad)).isNone then .passed else .failedOnce } ∧
        (t.ch ch).ring = q ∧ (t.ch ch).moveNext = (s.core.ch ch).moveNext + 1 ∧
        t.rd VST_STATE.RESIDENT ch = min q.length 511 ∧
        t.rd VST_STATE.ECC_CORR ch = min (s.core.rd VST_STATE.ECC_CORR ch + corr.toNat) 65535) := by
  have hrun := Core.moveAndCheck_ring (c := s.core.begin) (corr := corr.toNat) (dbl := bad) he hm hi hs ha hr
    (Core.headNow (c := s.core.begin) hl hn harm) rfl
  refine runs_to _ _ (exec_tileCheckAtUse ch corr bad s) hrun rfl rfl
    ((s.core.begin.takeRing_only ch q true corr.toNat).putIdle _ _ _ List.mem_cons_self) ?_
  rw [Core.close_ch, Core.judge, Core.ch_putIdle, Core.rd_close, Core.rd_close, Core.rd_putIdle, Core.rd_putIdle,
    Core.rd_takeRing_resident, Core.rd_takeRing_corr, Core.checkIdle_takeRing _ ch.isLt,
    Core.begin_checkIdle _ ch.isLt, Core.ch_takeRing]
  exact ⟨rfl, rfl, rfl, rfl, rfl⟩

/-- The head of the ring moves before a layer, where it belongs to the layer queued first. -/
theorem tileCheckAtUse_next_acts (s : State) (ch : Fin 64) (corr : BitVec 16) (bad : Bool) (r : RingTile) (q : List RingTile)
    (he : s.core.held domEXP = false) (hm : s.core.held domMEM = false) (hi : (s.core.ch ch).idle = none)
    (hs : (s.core.ch ch).susp = none) (ha : (s.core.ch ch).adoptQ = []) (hr : (s.core.ch ch).ring = r :: q)
    (hl : s.core.layerActive = false) (hq : s.core.queuedManifests.head?.map manLayer = some r.layer) :
    Acts (.tileCheckAtUse ch corr bad) s (fun t => (t.ch ch).ring = q ∧
      (t.ch ch).idle = some { r.moved bad with
        ck := if (s.core.checkIdle ch (r.moved bad)).isNone then .passed else .failedOnce }) := by
  have hactive : s.core.begin.layerActive = false := hl
  have hqueued : s.core.begin.queuedManifests.head?.map manLayer = some r.layer := hq
  have hrun := Core.moveAndCheck_ring (c := s.core.begin) (corr := corr.toNat) (dbl := bad) (now := false) he hm hi hs ha hr
    (by rw [hactive]; rfl) (by simp [hactive, hqueued])
  refine acts_of _ (exec_tileCheckAtUse ch corr bad s) ?_
  rw [hrun, Core.close_ch, Core.judge, Core.ch_putIdle, Core.checkIdle_takeRing _ ch.isLt,
    Core.begin_checkIdle _ ch.isLt, Core.ch_takeRing]
  exact ⟨rfl, rfl⟩

/-- The oldest adoption tile moves before any tile of the ring (R151). -/
theorem tileCheckAtUse_adopt_acts (s : State) (ch : Fin 64) (corr : BitVec 16) (bad : Bool) (a : AdoptTile)
    (q : List AdoptTile) (he : s.core.held domEXP = false) (hm : s.core.held domMEM = false)
    (hi : (s.core.ch ch).idle = none) (hs : (s.core.ch ch).susp = none) (hq : (s.core.ch ch).adoptQ = a :: q) :
    Acts (.tileCheckAtUse ch corr bad) s (fun t => (t.ch ch).adoptQ = q ∧
      t.rd ADP_STATE.QUEUED ch = min q.length 65535 ∧
      (t.ch ch).idle = some { a.moved (s.core.rd SEQ_LAYER_STATE.LAYER_NOW) with
        ck := if (s.core.checkIdle ch (a.moved (s.core.rd SEQ_LAYER_STATE.LAYER_NOW))).isNone then .passed
          else .failedOnce }) := by
  have hrun := Core.moveAndCheck_adopt (c := s.core.begin) (corr := corr.toNat) (dbl := bad) he hm hi hs hq
  have hlayer : (s.core.begin.takeAdopt ch q).rd SEQ_LAYER_STATE.LAYER_NOW = s.core.rd SEQ_LAYER_STATE.LAYER_NOW :=
    (s.core.begin.takeAdopt_env ch.isLt q).rd _ _ (by decide) (by decide) (by decide)
  have hqueued : (s.core.begin.takeAdopt ch q).rd ADP_STATE.QUEUED ch = min q.length 65535 := by
    rw [Core.takeAdopt, Core.rd_wr_same]
    exact satNat_mod 16 _
  refine acts_of _ (exec_tileCheckAtUse ch corr bad s) ?_
  rw [hrun, Core.close_ch, Core.rd_close, Core.judge, Core.ch_putIdle, Core.rd_putIdle, hqueued, hlayer,
    Core.checkIdle_takeAdopt _ ch.isLt, Core.begin_checkIdle _ ch.isLt, Core.ch_takeAdopt]
  exact ⟨rfl, rfl, rfl⟩

/-! ### The re-read of a tile (R51) -/

/-- A fresh read of the idle half's tile changes what a read of DRAM may change. -/
theorem Core.refetch_only (c : Core) (m : Mem) (ch : Nat) (t : BufTile) (ue : Option (Nat × Bool)) :
    Only readFp c (c.refetch m ch t ue).1 := by
  unfold Core.refetch
  split
  · exact Only.refl _ c
  · exact c.readTile_only m _ ue

theorem Core.refetch_good (c : Core) (m : Mem) (ch : Nat) {t : BufTile} (ha : t.adopt = none) :
    c.refetch m ch t none = (c.dramHazard (c.tileAddr ch t) 4096,
      { t with bytes := readBytesUnder m c.wq (c.tileAddr ch t) 4096, poisoned := false }) := by
  simp only [Core.refetch, ha, Core.readTile_good]

/-- An own tile as DRAM holds it now. -/
def State.afresh (s : State) (ch : Nat) (t : BufTile) : BufTile :=
  { t with bytes := readBytesUnder s.dram [] (s.core.tileAddr ch t) 4096, poisoned := false }

theorem State.afresh_adopt (s : State) (ch : Nat) (t : BufTile) : (s.afresh ch t).adopt = t.adopt := by rw [State.afresh]

theorem State.afresh_layer (s : State) (ch : Nat) (t : BufTile) : (s.afresh ch t).layer = t.layer := by rw [State.afresh]

theorem State.afresh_index (s : State) (ch : Nat) (t : BufTile) : (s.afresh ch t).index = t.index := by rw [State.afresh]

/-- Cores that differ in neither queue nor channel, nor in the registers of a layer, look for a tile at one address. -/
theorem SameEnv.tileAddr {c d : Core} (h : SameEnv c d) (hp : d.pilot = c.pilot) {ch : Nat} (hc : d.ch ch = c.ch ch)
    (hf : d.failed ch = c.failed ch) (t : BufTile) : d.tileAddr ch t = c.tileAddr ch t := by
  have hlayer : d.rd SEQ_LAYER_STATE.LAYER_NOW = c.rd SEQ_LAYER_STATE.LAYER_NOW :=
    h.rd _ _ (by decide) (by decide) (by decide)
  have hplan : d.fetchPlan ch = c.fetchPlan ch := by
    simp only [Core.fetchPlan, Core.queuedManifests, h.layerActive, hp, hc, hf, hlayer]
  rw [Core.tileAddr, Core.tileAddr, hplan]

/-- A second failure (R51): counted, TILE_BAD posted, a layer in progress escalated to HOLD. -/
def Core.failTwice (c : Core) (ch : Nat) (t : BufTile) (code : Nat) : Core :=
  let d := ((c.putIdle ch t .failedTwice).inc VST_RETRY.VST_BAD).postTileBad ch t code
  if c.layerActive then d.raiseHold evTileBad else d

theorem Core.ch_failTwice (c : Core) (ch : Nat) (t : BufTile) (code : Nat) :
    (c.failTwice ch t code).ch ch = (c.ch ch).putIdle t .failedTwice := by
  rw [← Core.ch_putIdle, Core.failTwice]
  split <;> rfl

theorem Core.escHold_failTwice (c : Core) (ch : Nat) (t : BufTile) (code : Nat) :
    (c.failTwice ch t code).escHold = c.escHold ++ (if c.layerActive then [evTileBad] else []) := by
  rw [Core.failTwice]
  split
  · rfl
  · exact (List.append_nil _).symm

theorem Core.events_failTwice (c : Core) (ch : Nat) {t : BufTile} (code : Nat) (ha : t.adopt = none) :
    (c.failTwice ch t code).events = c.events ++ [⟨evTileBad, ch, none, leBytes 4 t.layer ++ leBytes 4 t.index ++
      leBytes 4 (tileHdr t.bytes).planSeq ++ leBytes 1 code, c.ticks⟩] := by
  have hpost : (((c.putIdle ch t .failedTwice).inc VST_RETRY.VST_BAD).postTileBad ch t code).events =
      c.events ++ [⟨evTileBad, ch, none, leBytes 4 t.layer ++ leBytes 4 t.index ++
        leBytes 4 (tileHdr t.bytes).planSeq ++ leBytes 1 code, c.ticks⟩] := by
    rw [Core.postTileBad, ha]
    rfl
  rw [Core.failTwice]
  split
  · exact hpost
  · exact hpost

theorem Core.regs_failTwice (c : Core) (ch : Nat) (t : BufTile) (code : Nat) :
    (c.failTwice ch t code).regs = (c.inc VST_RETRY.VST_BAD).regs := by
  rw [Core.failTwice]
  split <;> rfl

theorem Core.failTwice_only (c : Core) (ch : Nat) (t : BufTile) (code : Nat) :
    Only { keys := [VST_RETRY.VST_BAD.key 0], parts := [.seq, .events, .escHold] } c (c.failTwice ch t code) := by
  have hpost : Only { keys := [VST_RETRY.VST_BAD.key 0], parts := [.seq, .events, .escHold] } c
      (((c.putIdle ch t .failedTwice).inc VST_RETRY.VST_BAD).postTileBad ch t code) :=
    (((Only.refl _ c).putIdle _ _ _ (by decide)).inc _ _ _ (by decide)).post _ _ _ _ (by decide)
  exact Only.ite _ (fun _ => hpost.raiseHold _ (by decide)) (fun _ => hpost)

theorem Core.failTwice_quiet (c : Core) (ch : Nat) (t : BufTile) (code : Nat) : Quiet c (c.failTwice ch t code) :=
  Quiet.ite _ (fun _ => ⟨rfl, rfl⟩) (fun _ => ⟨rfl, rfl⟩)

theorem Core.counts_failTwice (c : Core) (ch : Nat) (t : BufTile) (code : Nat) :
    Counts c (c.failTwice ch t code) VST_RETRY.VST_BAD :=
  (Core.rd_of_regs (c.regs_failTwice ch t code) _ _).trans (Core.rd_inc_same c _)

theorem Core.rd_failTwice_retry (c : Core) (ch : Nat) (t : BufTile) (code : Nat) :
    (c.failTwice ch t code).rd VST_RETRY.VST_RETRY = c.rd VST_RETRY.VST_RETRY :=
  (c.failTwice_only ch t code).1 _ _ (by decide)

/-- The re-read passes. -/
theorem Core.reread_passes {c d : Core} {m : Mem} {ch : Nat} {ue : Option (Nat × Bool)} {b t : BufTile}
    (he : c.held domEXP = false) (hm : c.held domMEM = false) (hi : (c.ch ch).idle = some b) (hk : b.ck = .failedOnce)
    (hr : (c.inc VST_RETRY.VST_RETRY).refetch m ch b ue = (d, t)) (hc : d.checkIdle ch t = none) :
    c.reread m ch ue = d.putIdle ch t .passed := by
  simp only [Core.reread, hi, hk, he, hm, hr, hc, bne_self_eq_false, Bool.or_self, Bool.false_eq_true, if_false]

/-- The re-read fails again. -/
theorem Core.reread_fails {c d : Core} {m : Mem} {ch : Nat} {ue : Option (Nat × Bool)} {b t : BufTile} {code : Nat}
    (he : c.held domEXP = false) (hm : c.held domMEM = false) (hi : (c.ch ch).idle = some b) (hk : b.ck = .failedOnce)
    (hr : (c.inc VST_RETRY.VST_RETRY).refetch m ch b ue = (d, t)) (hc : d.checkIdle ch t = some code) :
    c.reread m ch ue = d.failTwice ch t code := by
  have hactive : (((d.putIdle ch t .failedTwice).inc VST_RETRY.VST_BAD).postTileBad ch t code).layerActive = d.layerActive :=
    congrArg (· != 0) (Core.rd_wr_ne d VST_RETRY.VST_BAD SEQ_LAYER_STATE.LAYER_ACTIVE _ 0 0 (by decide))
  simp only [Core.reread, hi, hk, he, hm, hr, hc, bne_self_eq_false, Bool.or_self, Bool.false_eq_true, if_false, hactive,
    Core.failTwice]

theorem exec_tileReread (ch : Fin 64) (ue : Option (Fin 64 × Bool)) (s : State) :
    exec (.tileReread ch ue) s = s.run (fun c m => c.reread m ch.val (burstOf ue)) := rfl

/-- A re-read counts itself before it reads. -/
theorem Core.inc_retry_only (c : Core) : Only { keys := [VST_RETRY.VST_RETRY.key 0] } c (c.inc VST_RETRY.VST_RETRY) :=
  (Only.refl _ c).inc _ _ _ List.mem_cons_self

/-- What a re-read without a burst in error has changed when its check begins. -/
def rereadFp : Footprint := { keys := VST_RETRY.VST_RETRY.key 0 :: rawKeys, parts := [.drc] }

theorem rereadFp_env : ∀ k ∈ rereadFp.keys, k / 2 ^ 32 ∉ envObjs := by decide

/-- An own tile read again without a burst in error: the bytes that DRAM holds, a check that looks at what it looked at
before, and one more re-read counted. -/
structure RereadGood (s : State) (ch : Nat) (b : BufTile) (d : Core) : Prop where
  refetch : (s.core.begin.inc VST_RETRY.VST_RETRY).refetch s.dram ch b none = (d, s.afresh ch b)
  check : ∀ t, d.checkIdle ch t = s.core.checkIdle ch t
  only : Only rereadFp s.core.begin d
  quiet : Quiet s.core.begin d
  retry : Counts s.core d VST_RETRY.VST_RETRY

theorem rereadGood (s : State) {ch : Nat} (hc : ch < 64) {b : BufTile} (ha : b.adopt = none) :
    ∃ d, RereadGood s ch b d := by
  have hinc := s.core.begin.inc_retry_only
  have haddr : (s.core.begin.inc VST_RETRY.VST_RETRY).tileAddr ch b = s.core.tileAddr ch b :=
    (hinc.sameEnv (by decide) (by decide)).tileAddr rfl rfl
      (congrArg (· != 0) (hinc.rd_obj ADP_STATE.STATE (by decide) (by omega) (by decide))) b
  have hgood := (s.core.begin.inc VST_RETRY.VST_RETRY).refetch_good s.dram ch ha
  rw [haddr] at hgood
  have hread := (s.core.begin.inc VST_RETRY.VST_RETRY).dramHazard_only (s.core.tileAddr ch b) 4096
  have hquiet := (s.core.begin.inc VST_RETRY.VST_RETRY).dramHazard_quiet (s.core.tileAddr ch b) 4096
  have honly : Only rereadFp s.core.begin _ := hinc.join hread (by decide) (by decide)
  have hcheck := (honly.sameEnv rereadFp_env (by decide)).checkIdle (honly.pilot_eq (by decide)) hc
    (by rw [honly.ch_eq (by decide)])
  exact ⟨_, hgood, fun t => (hcheck t).trans (s.core.begin_checkIdle hc t), honly, hquiet,
    (hread.rd_obj VST_RETRY.VST_RETRY (by decide) (by decide) (by decide)).trans (Core.rd_inc_same s.core.begin _)⟩

theorem tileReread_passes_runs (s : State) (ch : Fin 64) (b : BufTile) (he : s.core.held domEXP = false)
    (hm : s.core.held domMEM = false) (hi : (s.core.ch ch).idle = some b) (hk : b.ck = .failedOnce) (ha : b.adopt = none)
    (hc : s.core.checkIdle ch (s.afresh ch b) = none) :
    Runs (.tileReread ch none) s { keys := VST_RETRY.VST_RETRY.key 0 :: rawKeys, parts := [.seq, .drc] } (fun t =>
      (t.ch ch).idle = some { s.afresh ch b with ck := .passed } ∧ Counts s.core t VST_RETRY.VST_RETRY) := by
  obtain ⟨d, hd⟩ := rereadGood s ch.isLt ha
  have hrun := Core.reread_passes (c := s.core.begin) he hm hi hk hd.refetch ((hd.check _).trans hc)
  have honly := hd.only.mono (gp := { keys := VST_RETRY.VST_RETRY.key 0 :: rawKeys, parts := [.seq, .drc] })
    (fun _ h => h) (by decide)
  refine runs_to _ _ (exec_tileReread ch none s) hrun hd.quiet.1 hd.quiet.2 (honly.putIdle _ _ _ (by decide)) ⟨?_, hd.retry⟩
  rw [Core.close_ch, Core.ch_putIdle]
  rfl

theorem tileReread_fails_runs (s : State) (ch : Fin 64) (b : BufTile) (code : Nat) (he : s.core.held domEXP = false)
    (hm : s.core.held domMEM = false) (hi : (s.core.ch ch).idle = some b) (hk : b.ck = .failedOnce) (ha : b.adopt = none)
    (hc : s.core.checkIdle ch (s.afresh ch b) = some code) :
    Runs (.tileReread ch none) s
      { keys := VST_RETRY.VST_RETRY.key 0 :: VST_RETRY.VST_BAD.key 0 :: rawKeys, parts := [.seq, .drc, .events, .escHold] }
      (fun t =>
        (t.ch ch).idle = some { s.afresh ch b with ck := .failedTwice } ∧
        Counts s.core t VST_RETRY.VST_RETRY ∧ Counts s.core t VST_RETRY.VST_BAD ∧
        t.events = s.core.events ++ [⟨evTileBad, ch, none, leBytes 4 b.layer ++ leBytes 4 b.index ++
          leBytes 4 (tileHdr (s.afresh ch b).bytes).planSeq ++ leBytes 1 code, s.core.ticks⟩] ∧
        t.escHold = s.core.escHold ++ (if s.core.layerActive then [evTileBad] else [])) := by
  obtain ⟨d, hd⟩ := rereadGood s ch.isLt ha
  have hrun := Core.reread_fails (c := s.core.begin) he hm hi hk hd.refetch ((hd.check _).trans hc)
  have honly := hd.only.join (d.failTwice_only ch (s.afresh ch b) code)
    (jp := { keys := VST_RETRY.VST_RETRY.key 0 :: VST_RETRY.VST_BAD.key 0 :: rawKeys,
             parts := [.seq, .drc, .events, .escHold] }) (by decide) (by decide)
  have hquiet := hd.quiet.trans (d.failTwice_quiet ch (s.afresh ch b) code)
  have hactive : d.layerActive = s.core.layerActive := (hd.only.sameEnv rereadFp_env (by decide)).layerActive
  have hevents : d.events = s.core.events := hd.only.2 .events (by decide)
  have hticks : d.ticks = s.core.ticks := hd.only.2 .ticks (by decide)
  have hesc : d.escHold = s.core.escHold := hd.only.2 .escHold (by decide)
  have hbad : d.rd VST_RETRY.VST_BAD = s.core.rd VST_RETRY.VST_BAD := hd.only.1 _ _ (by decide)
  have hcounts := d.counts_failTwice ch (s.afresh ch b) code
  rw [Counts, hbad] at hcounts
  refine runs_to _ _ (exec_tileReread ch none s) hrun hquiet.1 hquiet.2 honly ⟨?_, ?_, ?_, ?_, ?_⟩
  · rw [Core.close_ch, Core.ch_failTwice]
    rfl
  · rw [Counts, Core.rd_close, Core.rd_failTwice_retry]
    exact hd.retry
  · rw [Counts, Core.rd_close]
    exact hcounts
  · rw [Core.close_events, d.events_failTwice ch code ((s.afresh_adopt ch b).trans ha), hevents, hticks,
      State.afresh_layer, State.afresh_index]
  · rw [Core.close_escHold, Core.escHold_failTwice, hesc, hactive]

/-- What a re-read counts, whatever burst it meets: itself, and not yet a second failure. -/
theorem Core.refetch_counts (c : Core) (m : Mem) (ch : Nat) (b : BufTile) (ue : Option (Nat × Bool)) :
    Counts c ((c.inc VST_RETRY.VST_RETRY).refetch m ch b ue).1 VST_RETRY.VST_RETRY ∧
      ((c.inc VST_RETRY.VST_RETRY).refetch m ch b ue).1.rd VST_RETRY.VST_BAD = c.rd VST_RETRY.VST_BAD := by
  have hread := (c.inc VST_RETRY.VST_RETRY).refetch_only m ch b ue
  exact ⟨(hread.1 VST_RETRY.VST_RETRY 0 (by decide)).trans (Core.rd_inc_same c _),
    (hread.1 VST_RETRY.VST_BAD 0 (by decide)).trans (c.inc_retry_only.1 _ _ (by decide))⟩

theorem tileReread_acts (s : State) (ch : Fin 64) (ue : Option (Fin 64 × Bool)) (b : BufTile)
    (he : s.core.held domEXP = false) (hm : s.core.held domMEM = false) (hi : (s.core.ch ch).idle = some b)
    (hk : b.ck = .failedOnce) :
    Acts (.tileReread ch ue) s (fun t => Counts s.core t VST_RETRY.VST_RETRY ∧
      ((t.ch ch).idle.map BufTile.ck = some .passed ∨ (t.ch ch).idle.map BufTile.ck = some .failedTwice ∧
        Counts s.core t VST_RETRY.VST_BAD)) := by
  obtain ⟨hretry, hbad⟩ := s.core.begin.refetch_counts s.dram ch b (burstOf ue)
  generalize hr : (s.core.begin.inc VST_RETRY.VST_RETRY).refetch s.dram ch b (burstOf ue) = r at hretry hbad
  obtain ⟨d, t⟩ := r
  refine acts_of _ (exec_tileReread ch ue s) ?_
  cases hc : d.checkIdle ch t with
  | none =>
    rw [Core.reread_passes (c := s.core.begin) he hm hi hk hr hc, Core.close_ch, Core.ch_putIdle]
    exact ⟨hretry, Or.inl rfl⟩
  | some code =>
    have hcounts := d.counts_failTwice ch t code
    rw [Counts, hbad] at hcounts
    rw [Core.reread_fails (c := s.core.begin) he hm hi hk hr hc, Core.close_ch, Core.ch_failTwice]
    exact ⟨(Core.rd_failTwice_retry _ _ _ _).trans hretry, Or.inr ⟨rfl, hcounts⟩⟩

/-! ### The first tile before its layer (R53) -/

theorem Core.nextFirst_own {c : Core} {ch : Nat} {t : BufTile} (h : c.nextFirst ch t = true) : t.adopt = none := by
  simp only [Core.nextFirst, Bool.and_eq_true, Option.isNone_iff_eq_none] at h
  exact h.1.1

/-- At a whole millisecond before its layer a first tile that failed twice is fetched and checked again. -/
theorem Core.recheckDue_of {c d : Core} {m : Mem} {ch : Nat} {ue : Option (Nat × Bool)} {b t : BufTile}
    (he : c.held domEXP = false) (hm : c.held domMEM = false) (hn : c.now % (1000 * usU) = 0)
    (hl : c.layerActive = false) (hi : (c.ch ch).idle = some b) (hk : b.ck = .failedTwice)
    (hf : c.nextFirst ch b = true) (hr : c.refetch m ch b ue = (d, t)) :
    c.recheckDue m ch ue = d.putIdle ch t (if (d.checkIdle ch t).isNone then .passed else .failedTwice) := by
  simp only [Core.recheckDue, Core.recheckFirst, he, hm, hn, hl, hi, hk, hf, hr, if_true, bne_self_eq_false, Bool.or_self,
    Bool.not_true, Bool.false_eq_true, if_false]
  cases d.checkIdle ch t <;> rfl

theorem exec_firstTileRecheck (ch : Fin 64) (ue : Option (Fin 64 × Bool)) (s : State) :
    exec (.firstTileRecheck ch ue) s = s.run (fun c m => c.recheckDue m ch.val (burstOf ue)) := rfl

theorem firstTileRecheck_runs (s : State) (ch : Fin 64) (b : BufTile) (he : s.core.held domEXP = false)
    (hm : s.core.held domMEM = false) (hn : s.core.now % (1000 * usU) = 0) (hl : s.core.layerActive = false)
    (hi : (s.core.ch ch).idle = some b) (hk : b.ck = .failedTwice) (hf : s.core.nextFirst ch b = true) :
    Runs (.firstTileRecheck ch none) s { keys := rawKeys, parts := [.seq, .drc] } (fun t =>
      (t.ch ch).idle = some { s.afresh ch b with
        ck := if (s.core.checkIdle ch (s.afresh ch b)).isNone then .passed else .failedTwice }) := by
  have hgood : s.core.begin.refetch s.dram ch b none =
      (s.core.begin.dramHazard (s.core.tileAddr ch b) 4096, s.afresh ch b) :=
    s.core.begin.refetch_good s.dram ch (Core.nextFirst_own hf)
  have hread := s.core.begin.dramHazard_only (s.core.tileAddr ch b) 4096
  have hquiet := s.core.begin.dramHazard_quiet (s.core.tileAddr ch b) 4096
  generalize s.core.begin.dramHazard (s.core.tileAddr ch b) 4096 = d at hgood hread hquiet
  have hrun := Core.recheckDue_of (c := s.core.begin) he hm hn hl hi hk hf hgood
  have hcheck := (hread.sameEnv (by decide) (by decide)).checkIdle (hread.pilot_eq (by decide)) ch.isLt
    (by rw [hread.ch_eq (by decide)]) (s.afresh ch b)
  have honly := hread.mono (gp := { keys := rawKeys, parts := [.seq, .drc] }) (fun _ h => h) (by decide)
  refine runs_to _ _ (exec_firstTileRecheck ch none s) hrun hquiet.1 hquiet.2 (honly.putIdle _ _ _ (by decide)) ?_
  rw [Core.close_ch, Core.ch_putIdle, hcheck, Core.begin_checkIdle _ ch.isLt]
  rfl

theorem firstTileRecheck_acts (s : State) (ch : Fin 64) (ue : Option (Fin 64 × Bool)) (b : BufTile)
    (he : s.core.held domEXP = false) (hm : s.core.held domMEM = false) (hn : s.core.now % (1000 * usU) = 0)
    (hl : s.core.layerActive = false) (hi : (s.core.ch ch).idle = some b) (hk : b.ck = .failedTwice)
    (hf : s.core.nextFirst ch b = true) :
    Acts (.firstTileRecheck ch ue) s (fun t => (t.ch ch).idle.map BufTile.ck = some .passed ∨
      (t.ch ch).idle.map BufTile.ck = some .failedTwice) := by
  generalize hr : s.core.begin.refetch s.dram ch b (burstOf ue) = r
  obtain ⟨d, t⟩ := r
  refine acts_of _ (exec_firstTileRecheck ch ue s) ?_
  rw [Core.recheckDue_of (c := s.core.begin) he hm hn hl hi hk hf hr, Core.close_ch, Core.ch_putIdle]
  cases d.checkIdle ch t with
  | none => exact Or.inl rfl
  | some code => exact Or.inr rfl

/-- Settles O24, clause by clause: the fetch, the check at use, the re-read, the first tile before its layer. -/
theorem tilesComeFromDramAndAreChecked : Obligations.TilesComeFromDramAndAreChecked :=
  ⟨vstFetch_runs, tileCheckAtUse_runs, tileReread_passes_runs, tileReread_fails_runs, firstTileRecheck_runs, vstFetch_acts,
    tileCheckAtUse_adopt_acts, tileCheckAtUse_next_acts, tileReread_acts, firstTileRecheck_acts⟩

end Sys2Proof.Machine
end


section
namespace Sys2Proof.Machine

/-! ## A TICK_UP is received (R86, R166, R170 to R172, R179) -/

/-- A core that differs only in other parts has the same ports. -/
theorem Only.port_eq {fp : Footprint} {c d : Core} (h : Only fp c d) (hp : Part.ports ∉ fp.parts) (p : Nat) :
    d.port p = c.port p := by
  have hports : d.ports = c.ports := h.2 .ports hp
  rw [Core.port, Core.port, hports]

/-- A frame that is new in its series is kept as the latest and acted on (R179). -/
theorem Core.judged_new {p last : Nat} {h : FrameHdr} (hn : newIn h last) (c : Core) (put act : Core → Core) :
    c.judged p h last put act = act (put c) := if_pos hn

/-- The tick stream of a port as R179 judges it: SEQ + 1 of its latest TICK_UP, 0 before the first. -/
def Port.tickLast (q : Port) : Nat := match q.rxTick with | some n => n + 1 | none => 0

/-- A good TICK_UP that is new in its tick stream is acted on once its SEQ is kept. -/
theorem Core.rxFrame_tickUp {c : Core} {p : Nat} {h : FrameHdr} {b : Bytes} (hp : p < 18) (ha : c.accepts p 0x81 h b)
    (hn : newIn h (c.port p).tickLast) (lane : Nat) (act : Core → Core) :
    c.rxFrame p lane 0x81 h b act = act (c.modPort p (fun q => { q with rxTick := some h.seq.toNat })) := by
  obtain ⟨hheld, hup, hgood⟩ := ha
  simp only [Core.rxFrame, Core.unlessHeld_of hheld, hup, hgood, hp, if_true, Bool.not_true, Bool.false_eq_true, if_false]
  exact Core.judged_new hn _ _ _

/-! ### Changes of the channels of a port, one by one -/

/-- Of channels `a` to `a + n - 1`, changed one by one where a test says so, each shows its own change alone. -/
theorem Core.ch_forEach_modCh (c : Core) (a : Nat) (q : Nat → Bool) (g : Nat → SeqCh → SeqCh) (n j : Nat) :
    (c.forEach n (fun c k => if q k then c.modCh (a + k) (g k) else c)).ch (a + j) =
      if j < n ∧ q j = true then g j (c.ch (a + j)) else c.ch (a + j) := by
  induction n with
  | zero => simp [Core.forEach_zero]
  | succ n ih =>
    rw [Core.forEach_succ]
    by_cases hjn : j = n
    · subst hjn
      cases hq : q j <;> simp [Core.ch_modCh, hq, ih]
    · have hlt : j < n + 1 ↔ j < n := by omega
      cases q n <;> simp [Core.ch_modCh, hjn, hlt, ih]

/-- The samples of a TICK_UP wait for the next boundary, each with its channel where STATUS names it. -/
def Core.keepSamples (c : Core) (p ns : Nat) (raw : Nat → RawSample) : Core :=
  c.forEach 4 (fun c k =>
    if bitOf ns k then
      c.modCh (4 * p + k) (fun s => { s with fb := { s.fb with latched := s.fb.latched ++ [raw k] } })
    else c)

theorem Core.keepSamples_only (c : Core) (p ns : Nat) (raw : Nat → RawSample) :
    Only { parts := [.seq] } c (c.keepSamples p ns raw) :=
  Only.forEach _ _ (fun _ _ _ h => Only.ite _ (fun _ => h.modCh _ _ List.mem_cons_self) (fun _ => h)) (Only.refl _ c)

theorem Core.keepSamples_quiet (c : Core) (p ns : Nat) (raw : Nat → RawSample) : Quiet c (c.keepSamples p ns raw) :=
  Quiet.forEach _ _ (fun _ _ _ h => Quiet.ite _ (fun _ => h.modCh _ _) (fun _ => h)) (Quiet.refl c)

theorem Core.keepSamples_latched (c : Core) (p ns : Nat) (raw : Nat → RawSample) (k : Fin 4) :
    ((c.keepSamples p ns raw).ch (4 * p + k)).fb.latched =
      (c.ch (4 * p + k)).fb.latched ++ (if bitOf ns k then [raw k] else []) := by
  rw [Core.keepSamples, Core.ch_forEach_modCh c (4 * p) (bitOf ns)]
  cases bitOf ns k <;> simp

/-! ### What a TICK_UP does once accepted -/

/-- The source faults of a port with those that a TICK_UP reports (R170). -/
def Port.srcFaultsWith (q : Port) (b : Bytes) : Nat :=
  (List.range 4).foldl (fun m k => if bitOf (fieldLE b (15 + 12 * k) 1) 3 then orBit m k else m) q.srcFaults

/-- The cassettes of a port reported changed or absent, with the change that a TICK_UP's status shows (R143, R170). -/
def Port.cassFaultsWith (q : Port) (b : Bytes) : Nat :=
  let changed := match q.nodeStatus with
    | some (n0, e0) => e0 != fieldLE b 1 1 || (bitOf n0 4 && !bitOf (fieldLE b 0 1) 4)
    | none => false
  if changed then 0xF else q.cassFaults

/-- A port once a TICK_UP has come (R170 to R172). -/
def Port.ticked (q : Port) (b : Bytes) (due late : Bool) : Port :=
  { q with
    ackGot := q.ackGot || due, missRun := if late then 0 else q.missRun, nodeStatus := some (fieldLE b 0 1, fieldLE b 1 1),
    srcFaults := q.srcFaultsWith b, cassFaults := q.cassFaultsWith b }

/-- A late TICK_UP is counted (R171). -/
def Core.countLate (c : Core) (p : Nat) (late : Bool) : Core := if late then c.inc STR_PORT_STAT.TICK_LATE p else c

theorem Core.countLate_port (c : Core) (p q : Nat) (late : Bool) : (c.countLate p late).port q = c.port q := by
  cases late <;> rfl

theorem Core.countLate_ch (c : Core) (p i : Nat) (late : Bool) : (c.countLate p late).ch i = c.ch i := by
  cases late <;> rfl

theorem Core.countLate_quiet (c : Core) (p : Nat) (late : Bool) : Quiet c (c.countLate p late) :=
  Quiet.ite _ (fun _ => (Quiet.refl c).inc _ _ _) (fun _ => Quiet.refl c)

theorem Core.countLate_only (c : Core) (p : Nat) (late : Bool) :
    Only { keys := if late then [STR_PORT_STAT.TICK_LATE.key p] else [] } c (c.countLate p late) := by
  cases late with
  | true => exact (Only.refl _ c).inc _ _ _ List.mem_cons_self
  | false => exact Only.refl _ c

theorem Core.countLate_counts (c : Core) (p : Nat) : Counts c (c.countLate p true) STR_PORT_STAT.TICK_LATE p :=
  Core.rd_inc_at c STR_PORT_STAT.TICK_LATE p 1

/-- A TICK_UP in its three parts: the count where it is late, its port, its samples. -/
theorem Core.tickUp_eq (c : Core) (p : Nat) {h : FrameHdr} (b : Bytes) {tn : Time} {due late : Bool}
    (htn : c.tickAt h.tag.toNat = tn) (hd : (tn == c.now / tickU * tickU) = due)
    (hl : decide (tn + tickU ≤ c.now) = late) :
    c.tickUp p h b = ((c.countLate p late).modPort p (fun q => q.ticked b due late)).keepSamples p (fieldLE b 0 1)
      (rawSample tn late b) := by
  simp only [Core.tickUp, htn, hd, hl]
  rfl

/-- The core of an accepted TICK_UP before its samples: its SEQ kept, counted where late, its port told. -/
def Core.acknowledged (c : Core) (p seq : Nat) (b : Bytes) (due late : Bool) : Core :=
  ((c.modPort p (fun q => { q with rxTick := some seq })).countLate p late).modPort p (fun q => q.ticked b due late)

section
variable (c : Core) (p seq : Nat) (b : Bytes) (due late : Bool)

theorem Core.acknowledged_port : (c.acknowledged p seq b due late).port p =
    { c.port p with rxTick := some seq }.ticked b due late := by
  rw [Core.acknowledged, Core.port_modPort, if_pos rfl, Core.countLate_port, Core.port_modPort, if_pos rfl]

theorem Core.acknowledged_ch (i : Nat) : (c.acknowledged p seq b due late).ch i = c.ch i := Core.countLate_ch _ _ _ _

theorem Core.acknowledged_only :
    Only { keys := if late then [STR_PORT_STAT.TICK_LATE.key p] else [], parts := [.ports] } c
      (c.acknowledged p seq b due late) := by
  have hseq := (Only.refl { keys := if late then [STR_PORT_STAT.TICK_LATE.key p] else [], parts := [.ports] } c).modPort p
    (fun q => { q with rxTick := some seq }) List.mem_cons_self
  exact (hseq.trans ((Core.countLate_only _ p late).mono (fun _ hk => hk) (fun _ hp => nomatch hp))).modPort _ _
    List.mem_cons_self

theorem Core.acknowledged_quiet : Quiet c (c.acknowledged p seq b due late) :=
  (((Quiet.refl c).modPort _ _).trans (Core.countLate_quiet _ _ _)).modPort _ _

theorem Core.acknowledged_counts : Counts c (c.acknowledged p seq b due true) STR_PORT_STAT.TICK_LATE p :=
  Core.countLate_counts (c.modPort p _) p

end

theorem exec_tickUp (p : Fin 21) (h : FrameHdr) (b : Bytes) (s : State) :
    exec (.tickUp p h b) s = s.run (fun c _ => c.rxFrame p.val 0 0x81 h b (fun c => c.tickUp p.val h b)) := rfl

/-- An accepted TICK_UP is acknowledged and its samples are kept. -/
theorem Core.rxFrame_tickUp_eq {c : Core} {p : Nat} {h : FrameHdr} {b : Bytes} (hp : p < 18) (ha : c.accepts p 0x81 h b)
    (hn : newIn h (c.port p).tickLast) (lane : Nat) {tn : Time} {due late : Bool}
    (htn : c.tickAt h.tag.toNat = tn) (hd : (tn == c.now / tickU * tickU) = due) (hl : decide (tn + tickU ≤ c.now) = late) :
    c.rxFrame p lane 0x81 h b (fun c => c.tickUp p h b) =
      (c.acknowledged p h.seq.toNat b due late).keepSamples p (fieldLE b 0 1) (rawSample tn late b) :=
  (Core.rxFrame_tickUp hp ha hn lane _).trans (Core.tickUp_eq _ p b htn hd hl)

/-- Settles O37: the frame is accepted, and of its three parts the count shows in TICK_LATE alone, the acknowledgement in the
port alone, the samples in the channels alone. -/
theorem tickUpBringsSamples : Obligations.TickUpBringsSamples := by
  unfold Obligations.TickUpBringsSamples
  intro s p h b q tn late ha hn
  let due := tn == s.core.now / tickU * tickU
  have hmeans := Core.rxFrame_tickUp_eq (c := s.core.begin) (by omega : p.val < 18) ha hn 0 (tn := tn) (due := due)
    (late := late) rfl rfl rfl
  have hack := s.core.begin.acknowledged_only p h.seq.toNat b due late
  have hkept := (s.core.begin.acknowledged p h.seq.toNat b due late).keepSamples_only p (fieldLE b 0 1)
    (rawSample tn late b)
  have hquiet := (s.core.begin.acknowledged_quiet p h.seq.toNat b due late).trans
    (Core.keepSamples_quiet _ p (fieldLE b 0 1) (rawSample tn late b))
  have hport := (hkept.port_eq (by decide) p).trans (s.core.begin.acknowledged_port p h.seq.toNat b due late)
  have honly := hack.join (jp := { keys := if late then [STR_PORT_STAT.TICK_LATE.key p] else [], parts := [.ports, .seq] })
    hkept ⟨fun _ hk => hk, fun _ hk => nomatch hk⟩ (by simp)
  refine runs_to _ _ (exec_tickUp q h b s) hmeans hquiet.1 hquiet.2 honly ?_
  refine ⟨congrArg Port.ackGot hport, ?_, congrArg Port.rxTick hport, congrArg Port.nodeStatus hport, ?_, ?_⟩
  · intro hl
    exact (congrArg Port.missRun hport).trans (if_pos hl)
  · intro hl
    have hcount := s.core.begin.acknowledged_counts p h.seq.toNat b due
    rw [← hl] at hcount
    exact (hkept.1 _ _ (fun hk => nomatch hk)).trans hcount
  · intro k
    rw [Core.close_ch, Core.keepSamples_latched, Core.acknowledged_ch, Core.begin_ch]

end Sys2Proof.Machine
end


section
namespace Sys2Proof.Machine

/-! ## Registers that a footprint leaves out (R15, R52, R143, R155, R417) -/

/-- A command that runs within a footprint leaves every other register as it was. -/
theorem Runs.rd_eq {i : Instr} {s : State} {fp : Footprint} {P : Core → Prop} {f : Core → Mem → Core}
    (h : Runs i s fp P) (he : exec i s = s.run f) (g : Field) (k : Nat) (hk : g.key k ∉ fp.keys) :
    (f s.core.begin s.dram).rd g k = s.core.rd g k := by
  obtain ⟨t, hexec, -, -, -, -, -, honly, -⟩ := h
  have ht : s.finish (f s.core.begin s.dram) = t := Host.Outcome.next.inj (he.symm.trans hexec)
  rw [← honly.1 g k hk, ← ht, State.finish_core, Core.rd_close]

/-- A write leaves the fields of every other object at the same index as they were. -/
theorem Core.rd_wr_otherObj (c : Core) {f g : Field} (v i : Nat) (ho : f.obj ≠ g.obj) (hf : f.lsb < 65536)
    (hg : g.lsb < 65536) : (c.wr f v i).rd g i = c.rd g i := by
  refine Core.rd_wr_ne c f g v i i ?_
  unfold Field.key
  omega

/-! ### A lost channel gives up its tiles (R51, R52, R155) -/

theorem Core.rd_stopFailed_resident (c : Core) (ch : Nat) : (c.stopFailed ch).rd VST_STATE.RESIDENT ch = 0 := by
  have hgive : ∀ d : Core, (d.giveUpTiles ch).rd VST_STATE.RESIDENT ch = 0 := fun d => by
    rw [Core.giveUpTiles, Core.rd_resident, Core.ch_modCh, if_pos rfl]
    rfl
  unfold Core.stopFailed Core.clearWait Core.setFlag Core.seqState
  repeat rw [Core.rd_wr_otherObj _ _ _ (by decide) (by decide) (by decide)]
  exact hgive _

/-- Whatever a live channel is declared failed for, RESIDENT shows its ring empty afterwards. -/
theorem Core.rd_declareFailed_resident {c : Core} {ch : Nat} (hl : c.live ch = true) (cause : Nat) :
    (c.declareFailed ch cause).rd VST_STATE.RESIDENT ch = 0 := by
  have hf : c.failed ch = false := by
    rw [Core.live, Bool.and_eq_true, Bool.not_eq_true'] at hl
    exact hl.2
  unfold Core.declareFailed
  rw [if_neg (by simp [hf]), if_neg (by simp [hl])]
  repeat rw [Core.rd_wr_otherObj _ _ _ (by decide) (by decide) (by decide)]
  exact Core.rd_stopFailed_resident _ _

theorem Core.begin_live (c : Core) (ch : Nat) : c.begin.live ch = c.live ch := rfl

/-- A channel in EXPOSE with a tile in its ring, and a sample beyond its limits where FE_TICKS is 1. -/
def lostWithTile : State :=
  { State.reset with
    core := ([(SEQ_LAYER_STATE.LAYER_ACTIVE, 1), (GAT_CONFIG.FE_TICKS, 1), (VST_STATE.RESIDENT, 1)].foldl
      (fun c w => c.wr w.1 w.2) (standbyAlone.wr PLT_MODE.MODE Mode.expose.code)).modCh 0 (fun q =>
        { q with armed := true, ring := [⟨0, 0, zeros 4096, false⟩], fb := { q.fb with feRun := 1 } }) }

/-- Refutes O25: its first clause lets a loss by following error change no register but those of `lossFp`, but a lost channel
gives up the tiles prefetched for it (R155), and where its ring held one, RESIDENT goes from 1 to 0. -/
theorem not_channelsFailWithTheirCause : ¬ Obligations.ChannelsFailWithTheirCause := by
  unfold Obligations.ChannelsFailWithTheirCause
  rintro ⟨hfollowing, -⟩
  have hlive : lostWithTile.core.live 0 = true := by decide +kernel
  have hruns := hfollowing lostWithTile 0 hlive (by decide +kernel) (by decide +kernel)
  have hkept := hruns.rd_eq (f := fun c _ => c.followingError 0) rfl VST_STATE.RESIDENT 0 (by decide +kernel)
  have hlost : lostWithTile.core.begin.followingError 0 = lostWithTile.core.begin.declareFailed 0 3 :=
    if_pos (by decide +kernel)
  rw [hlost, Core.rd_declareFailed_resident ((Core.begin_live _ _).trans hlive)] at hkept
  exact absurd hkept (by decide +kernel)

/-! ### A full tap drops what it is offered (R15, R105, R124, R417) -/

/-- The queue of a channel's tap of a kind is full (R15). -/
def Core.tapFull (c : Core) (ch kind : Nat) : Prop := 256 ≤ c.log.taps.countP (fun j => j.ch == ch && j.kind == kind)

theorem Core.rd_tap_lostTap {c : Core} {i : Tapped} (h : c.tapFull i.ch i.kind) :
    (c.tap i).rd REC_STAT.LOST_TAP = min (c.rd REC_STAT.LOST_TAP + 1) (2 ^ 32 - 1) := by
  have hdrop : c.tap i = (c.inc REC_STAT.LOST_TAP).inc REC_STAT.REC_LOST := if_pos h
  rw [hdrop, Core.inc, Core.rd_wr_ne _ _ _ _ _ _ (by decide)]
  exact Core.rd_inc_same c REC_STAT.LOST_TAP

/-- The end of an active period offers the stay on its rung to the dwell tap (R124): a full one counts it in LOST_TAP. -/
theorem Core.rd_rfxEnd_lostTap {c : Core} {ch : Nat} (t : Time) (ha : c.rd RFX_STATE.ACTIVE ch ≠ 0) (h : c.tapFull ch 1)
    (hch : ch < 65536) : (c.rfxEnd ch t).rd REC_STAT.LOST_TAP = min (c.rd REC_STAT.LOST_TAP + 1) (2 ^ 32 - 1) := by
  have hclose : (c.closeRung ch).rd REC_STAT.LOST_TAP = min (c.rd REC_STAT.LOST_TAP + 1) (2 ^ 32 - 1) :=
    Core.rd_tap_lostTap h
  have hother : ∀ (f : Field) (d : Core), f.obj = 0x1305 → f.lsb < 65536 →
      (d.setFlag f false ch).rd REC_STAT.LOST_TAP = d.rd REC_STAT.LOST_TAP := fun f d ho hl =>
    Core.rd_wr_ne _ _ _ _ _ _ (Field.key_ne_obj (by decide) hl (by rw [ho]; decide) (by decide) hch)
  rw [Core.rfxEnd, if_pos (by rw [Core.flag_eq]; exact bne_iff_ne.mpr ha)]
  exact ((hother RFX_STATE.STARVING _ rfl (by decide)).trans (hother RFX_STATE.ACTIVE _ rfl (by decide))).trans hclose

/-- An off edge lowers GATE, drives the pair where it must, and ends the active period (R95, R105). -/
theorem Core.driveEdge_off (c : Core) (ch : Nat) {e : Edge} (hoff : e.on = false) : ∃ d : Core,
    c.driveEdge ch e = d.rfxEnd ch e.at_ ∧ d.regs = (c.setFlag GAT_STATE.GATE false ch).regs ∧ d.log = c.log := by
  simp only [Core.driveEdge, hoff, Bool.false_eq_true, if_false]
  refine ⟨_, rfl, ?_, ?_⟩
  · rw [Core.modGat, Core.modCh_regs]
    split <;> rfl
  · rw [Core.modGat, Core.modCh_log]
    split <;> rfl

theorem Core.rd_driveEdge_off_lostTap {c : Core} {ch : Nat} {e : Edge} (hoff : e.on = false)
    (ha : c.rd RFX_STATE.ACTIVE ch ≠ 0) (h : c.tapFull ch 1) (hch : ch < 65536) :
    (c.driveEdge ch e).rd REC_STAT.LOST_TAP = min (c.rd REC_STAT.LOST_TAP + 1) (2 ^ 32 - 1) := by
  obtain ⟨d, hdrive, hregs, hlog⟩ := c.driveEdge_off ch hoff
  have hactive : d.rd RFX_STATE.ACTIVE ch = c.rd RFX_STATE.ACTIVE ch :=
    (Core.rd_of_regs hregs _ _).trans (Core.rd_wr_otherObj _ _ _ (by decide) (by decide) (by decide))
  have hlost : d.rd REC_STAT.LOST_TAP = c.rd REC_STAT.LOST_TAP :=
    (Core.rd_of_regs hregs _ _).trans (Core.rd_wr_ne _ _ _ _ _ _
      (Field.key_ne_obj (by decide) (by decide) (by decide) (by decide) hch))
  rw [hdrive, Core.rd_rfxEnd_lostTap _ (by rw [hactive]; exact ha) (by rw [Core.tapFull, hlog]; exact h) hch, hlost]

/-- A channel's only edge, once its instant has come, is driven. -/
theorem Core.nextEdge_single {c : Core} {ch : Nat} {e : Edge} (hp : (c.ch ch).gat.placed = [e]) (hd : e.at_ < c.now + tickU) :
    c.nextEdge ch = c.driveEdge ch e := by
  simp [Core.nextEdge, Core.driveUpTo, hp, hd]

/-- A channel's only edge, an off edge that ends an active period while the dwell tap is full, counts in LOST_TAP. -/
theorem Core.rd_nextEdge_off_lostTap {c : Core} {ch : Nat} {e : Edge} (hp : (c.ch ch).gat.placed = [e])
    (hd : e.at_ < c.now + tickU) (hoff : e.on = false) (ha : c.rd RFX_STATE.ACTIVE ch ≠ 0) (h : c.tapFull ch 1)
    (hch : ch < 65536) :
    (c.begin.nextEdge ch).rd REC_STAT.LOST_TAP = min (c.rd REC_STAT.LOST_TAP + 1) (2 ^ 32 - 1) := by
  have hdriven : c.begin.nextEdge ch = c.begin.driveEdge ch e := Core.nextEdge_single hp hd
  rw [hdriven]
  exact Core.rd_driveEdge_off_lostTap (c := c.begin) hoff ha h hch

/-- An off edge on the LG pair, placed just after the start of machine time. -/
def dueOffEdge : Edge := ⟨1, 5, false, false, true, true, F64.zero⟩

/-- Channel 0 in EXPOSE, its gate on and its reflex loop active, with the off edge due and its dwell tap's queue full. -/
def offEdgeWithFullTap : State :=
  { State.reset with
    core := { ([(GAT_STATE.GATE, 1), (RFX_STATE.ACTIVE, 1)].foldl (fun c w => c.wr w.1 w.2)
        (standbyAlone.wr PLT_MODE.MODE Mode.expose.code)).modCh 0 (fun q =>
          { q with gat := { q.gat with lgHigh := true, placed := [dueOffEdge] } }) with
      log := { LogBook.init with taps := List.replicate 256 ⟨0, 1, 0, 0, 0, 0, 0⟩ } } }

/-- Refutes O27: its second clause lets an off edge that ends an active period change no register but GATE, ACTIVE and
STARVING, but the end offers the stay on the rung to the dwell tap (R124), and where that tap's queue is full the item is
dropped and counted in LOST_TAP (R15, R417). -/
theorem not_edgesAndSurgeWordsGoOut : ¬ Obligations.EdgesAndSurgeWordsGoOut := by
  unfold Obligations.EdgesAndSurgeWordsGoOut
  rintro ⟨-, hoff, -⟩
  have hplaced : (offEdgeWithFullTap.core.ch 0).gat.placed = [dueOffEdge] := rfl
  have hdue : dueOffEdge.at_ < offEdgeWithFullTap.core.now + tickU := by decide +kernel
  have hactive : offEdgeWithFullTap.core.rd RFX_STATE.ACTIVE 0 ≠ 0 := by decide +kernel
  have hfull : offEdgeWithFullTap.core.tapFull 0 1 := by unfold Core.tapFull; decide +kernel
  have hruns := hoff offEdgeWithFullTap 0 dueOffEdge hplaced hdue rfl hactive
  have hkept := hruns.rd_eq (f := fun c _ => c.nextEdge 0) rfl REC_STAT.LOST_TAP 0 (by decide +kernel)
  have hcounted := Core.rd_nextEdge_off_lostTap hplaced hdue rfl hactive hfull (by decide)
  rw [hkept] at hcounted
  exact absurd hcounted (by decide +kernel)

end Sys2Proof.Machine
end


section
namespace Sys2Proof.Machine

/-! ## A starved period whose rung falls while the dwell tap is full (R15, R116, R123, R124, R417) -/

/-- Two fields at different places of the objects have different keys at one index. -/
theorem Field.key_ne_place {f g : Field} (i : Nat) (h : f.obj ≠ g.obj ∨ f.lsb ≠ g.lsb) (hf : f.lsb < 65536)
    (hg : g.lsb < 65536) : f.key i ≠ g.key i := by
  unfold Field.key
  omega

/-- A change of one index's registers alone leaves every field of another object as it was. -/
theorem Only.rd_otherObj {fs : List Field} {parts : List Part} {i : Nat} {c d : Core}
    (h : Only { keys := fs.map (fun f => f.key i), parts := parts } c d) (g : Field) {j : Nat}
    (hfs : ∀ f ∈ fs, f.lsb < 65536 ∧ f.obj ≠ g.obj) (hg : g.lsb < 65536) (hi : i < 65536) (hj : j < 65536) :
    d.rd g j = c.rd g j := by
  refine h.rd_obj g (fun k hk => ?_) hj hg
  obtain ⟨f, hf, rfl⟩ := List.mem_map.mp hk
  rw [f.key_div hi (hfs f hf).1]
  exact (hfs f hf).2

/-- The registers that a word's emission may write: its number, its factor, the count of the word it supersedes (R116, R118). -/
def wordFields : List Field := [RFX_STATE.SEQ_OUT, RFX_STATE.FACTOR, RFX_STAT.SUPERSEDED]

/-- The core once a word's number and, but for an OFF word, its factor stand in their registers (R116). -/
def Core.wordShown (c : Core) (ch type value seq : Nat) : Core :=
  let c := (c.wr RFX_STATE.SEQ_OUT seq ch).modCh ch (fun s => { s with rfx := { s.rfx with emitted := true } })
  if type == 2 then c else c.wr RFX_STATE.FACTOR value ch

theorem Core.wordShown_only (c : Core) (ch type value seq : Nat) :
    Only { keys := wordFields.map (fun f => f.key ch), parts := [.seq] } c (c.wordShown ch type value seq) := by
  have hnumber := ((Only.refl ⟨wordFields.map (fun f => f.key ch), [.seq], [], []⟩ c).wr RFX_STATE.SEQ_OUT seq ch
    (by simp [wordFields])).modCh ch (fun s => { s with rfx := { s.rfx with emitted := true } }) List.mem_cons_self
  exact Only.ite _ (fun _ => hnumber) (fun _ => hnumber.wr RFX_STATE.FACTOR value ch (by simp [wordFields]))

theorem Core.emitWord_only (c : Core) (ch type value rung arm : Nat) (cause : Option Time) :
    Only { keys := wordFields.map (fun f => f.key ch), parts := [.seq] } c (c.emitWord ch type value rung arm cause) := by
  have hshown := c.wordShown_only ch type value (if (c.ch ch).rfx.emitted then (c.rd RFX_STATE.SEQ_OUT ch + 1) % 64 else 0)
  unfold Core.emitWord
  dsimp only
  split
  · exact hshown.modCh _ _ List.mem_cons_self
  · have hcounted := hshown.inc RFX_STAT.SUPERSEDED ch 1 (by simp [wordFields])
    exact Only.ite _ (fun _ => hcounted) (fun _ => hcounted.modCh _ _ List.mem_cons_self)

/-- The core once a starved period is flagged and counted (R123). -/
def Core.flagStarved (c : Core) (ch : Nat) : Core := (c.setFlag RFX_STATE.STARVING true ch).inc RFX_STAT.STARVED ch

theorem Core.flagStarved_only (c : Core) (ch : Nat) :
    Only { keys := [RFX_STATE.STARVING, RFX_STAT.STARVED].map (fun f => f.key ch) } c (c.flagStarved ch) :=
  ((Only.refl _ c).setFlag _ _ _ (by simp)).inc _ _ _ (by simp)

theorem Core.rd_flagStarved (c : Core) (ch : Nat) {g : Field} (hg : g.lsb < 65536)
    (hs : g.obj ≠ RFX_STATE.STARVING.obj ∨ g.lsb ≠ RFX_STATE.STARVING.lsb) (hn : g.obj ≠ RFX_STAT.STARVED.obj) :
    (c.flagStarved ch).rd g ch = c.rd g ch := by
  rw [Core.flagStarved, Core.inc, Core.rd_wr_ne _ _ _ _ _ _ (Field.key_ne_place ch (.inl hn) hg (by decide)),
    Core.setFlag, Core.rd_wr_ne _ _ _ _ _ _ (Field.key_ne_place ch hs hg (by decide))]

/-- Where STARVE_ACT says so, the stay on a rung other than 0 is closed, and what follows writes the rung, CHANGES and a
word's registers (R123, R124). -/
theorem Core.starve_falls_only {c : Core} {ch : Nat} (hs : c.starving ch = true) (hnew : c.rd RFX_STATE.STARVING ch = 0)
    (hact : c.rd RFX_CONFIG.STARVE_ACT ch ≠ 0) (hrung : c.rd RFX_STATE.RUNG ch ≠ 0) :
    Only { keys := (RFX_STATE.RUNG :: RFX_STAT.CHANGES :: wordFields).map (fun f => f.key ch), parts := [.seq] }
      ((c.flagStarved ch).closeRung ch) (c.starve ch) := by
  rw [← c.rd_flagStarved ch (by decide) (by decide) (by decide)] at hact hrung
  have hfalls : ((c.flagStarved ch).flag RFX_CONFIG.STARVE_ACT ch && (c.flagStarved ch).rd RFX_STATE.RUNG ch != 0) = true := by
    simp [Core.flag_eq, hact, hrung]
  have hmoved := ((Only.refl ⟨(RFX_STATE.RUNG :: RFX_STAT.CHANGES :: wordFields).map (fun f => f.key ch), [.seq], [], []⟩
    ((c.flagStarved ch).closeRung ch)).wr RFX_STATE.RUNG 0 ch (by simp)).inc RFX_STAT.CHANGES ch 1 (by simp)
  rw [Core.starve, if_pos (by simp [hs, Core.flag_eq, hnew])]
  dsimp only
  rw [← Core.flagStarved, if_pos hfalls]
  exact hmoved.trans ((Core.emitWord_only _ ch 1 _ 0 0 none).mono (fun _ hk => List.mem_cons_of_mem _ (List.mem_cons_of_mem _ hk))
    (fun _ hp => hp))

/-- A starved period that takes the rung to 0 offers the stay on the rung before to the dwell tap (R124): a full one counts
it in LOST_TAP. -/
theorem Core.rd_starve_falls_lostTap {c : Core} {ch : Nat} (hs : c.starving ch = true)
    (hnew : c.rd RFX_STATE.STARVING ch = 0) (hact : c.rd RFX_CONFIG.STARVE_ACT ch ≠ 0) (hrung : c.rd RFX_STATE.RUNG ch ≠ 0)
    (h : c.tapFull ch 1) (hch : ch < 65536) :
    (c.begin.starve ch).rd REC_STAT.LOST_TAP = min (c.rd REC_STAT.LOST_TAP + 1) (2 ^ 32 - 1) := by
  have hafter := Core.starve_falls_only (c := c.begin) hs hnew hact hrung
  have hflagged : (c.begin.flagStarved ch).rd REC_STAT.LOST_TAP = c.rd REC_STAT.LOST_TAP :=
    (c.begin.flagStarved_only ch).rd_otherObj _ (by decide) (by decide) hch (by decide)
  have hclosed : ((c.begin.flagStarved ch).closeRung ch).rd REC_STAT.LOST_TAP =
      min ((c.begin.flagStarved ch).rd REC_STAT.LOST_TAP + 1) (2 ^ 32 - 1) := Core.rd_tap_lostTap h
  rw [hafter.rd_otherObj _ (by decide) (by decide) hch (by decide), hclosed, hflagged]

/-- Channel 0 in EXPOSE on rung 1 with STARVE_ACT 1, its gate on since the start of machine time and no sample accepted in
the 20 sample periods since, its dwell tap's queue full. -/
def starvedWithFullTap : State :=
  { State.reset with
    core := { ([(GAT_STATE.GATE, 1), (RFX_STATE.ACTIVE, 1), (RFX_STATE.RUNG, 1), (RFX_CONFIG.STARVE_ACT, 1)].foldl
        (fun c w => c.wr w.1 w.2) (standbyAlone.wr PLT_MODE.MODE Mode.expose.code)).modCh 0 (fun q =>
          { q with armed := true, rfx := { q.rfx with from_ := some 0 } }) with
      now := 4 * tickU, ticks := 4, log := { LogBook.init with taps := List.replicate 256 ⟨0, 1, 0, 0, 0, 0, 0⟩ } } }

/-- Refutes O28: its sixth clause lets a starved period that takes the rung to 0 change no register but those of the period,
the rung and the word, but the move closes the stay on the old rung and offers it to the dwell tap (R124), and where that
tap's queue is full the item is dropped and counted in LOST_TAP (R15, R417). -/
theorem not_samplesRunTheHystereticLaw : ¬ Obligations.SamplesRunTheHystereticLaw := by
  unfold Obligations.SamplesRunTheHystereticLaw
  rintro ⟨-, -, -, -, -, hfalls, -⟩
  have hstarving : starvedWithFullTap.core.starving 0 = true := by decide +kernel
  have hnew : starvedWithFullTap.core.rd RFX_STATE.STARVING 0 = 0 := by decide +kernel
  have hact : starvedWithFullTap.core.rd RFX_CONFIG.STARVE_ACT 0 ≠ 0 := by decide +kernel
  have hrung : starvedWithFullTap.core.rd RFX_STATE.RUNG 0 ≠ 0 := by decide +kernel
  have hfull : starvedWithFullTap.core.tapFull 0 1 := by unfold Core.tapFull; decide +kernel
  have hruns := hfalls starvedWithFullTap 0 hstarving hnew hact hrung (by decide +kernel)
  have hkept := hruns.rd_eq (f := fun c _ => c.starve 0) rfl REC_STAT.LOST_TAP 0 (by decide +kernel)
  have hcounted := Core.rd_starve_falls_lostTap hstarving hnew hact hrung hfull (by decide)
  rw [hkept] at hcounted
  exact absurd hcounted (by decide +kernel)

end Sys2Proof.Machine
end


section
namespace Sys2Proof.Machine

/-! ## The geometry of reservations (R126, R127) -/

/-! ### The zone -/

/-- A zone lies beyond its box by `keep` at least and by `reach` at most, on each of the four sides. -/
structure Box.GrownBy (b z : Box) (keep reach : Int) : Prop where
  xlo : b.xlo - reach ≤ z.xlo ∧ z.xlo ≤ b.xlo - keep
  xhi : b.xhi + keep ≤ z.xhi ∧ z.xhi ≤ b.xhi + reach
  ylo : b.ylo - reach ≤ z.ylo ∧ z.ylo ≤ b.ylo - keep
  yhi : b.yhi + keep ≤ z.yhi ∧ z.yhi ≤ b.yhi + reach

/-- Whatever the flow, the zone is the box grown by KEEPOUT at least and by the reach D of R126 at most. -/
theorem Core.zoneOf_grown (c : Core) (b : Box) : b.GrownBy (c.zoneOf b) (c.rd BWK_GEOM.KEEPOUT)
    (c.rd BWK_GEOM.KEEPOUT + max (c.rd BWK_GEOM.SHADOW_LEN : Int) (c.rd BWK_GEOM.SHADOW_WIDE)) := by
  unfold Core.zoneOf
  dsimp only
  split
  case h_1 | h_2 | h_3 | h_4 => constructor <;> dsimp only <;> omega

/-- A zone that keeps out at least one grain is not degenerate, even around a point. -/
theorem Box.GrownBy.nondegenerate {b z : Box} {keep reach : Int} (h : b.GrownBy z keep reach) (hk : 1 ≤ keep)
    (hx : b.xlo ≤ b.xhi) (hy : b.ylo ≤ b.yhi) : z.xlo < z.xhi ∧ z.ylo < z.yhi := by
  obtain ⟨hxlo, hxhi, hylo, hyhi⟩ := h
  constructor <;> omega

/-- Settles O6: a row of R126's table for each direction of the flow, and what all four keep to. -/
theorem zonesGrowDownstream : Obligations.ZonesGrowDownstream := by
  unfold Obligations.ZonesGrowDownstream
  intro c b
  have hgrown := c.zoneOf_grown b
  refine ⟨fun hflow => ?_, fun hflow => ?_, fun hflow => ?_, fun hflow => ?_, hgrown.xlo.1, hgrown.xhi.2, hgrown.ylo.1,
    hgrown.yhi.2, hgrown.nondegenerate⟩
  all_goals simp only [Core.zoneOf, hflow]

/-! ### Rectangles that meet and reservations that conflict -/

theorem Box.meets_iff (u v : Box) :
    u.meets v = true ↔ u.xlo < v.xhi ∧ v.xlo < u.xhi ∧ u.ylo < v.yhi ∧ v.ylo < u.yhi := by
  simp [Box.meets, and_assoc]

theorem Box.meets_of_touch {u v : Box} (h : u.xhi = v.xlo ∨ v.xhi = u.xlo ∨ u.yhi = v.ylo ∨ v.yhi = u.ylo) :
    u.meets v = false := by
  rw [← Bool.not_eq_true, Box.meets_iff]
  omega

theorem conflicts_iff (g h : Nat) (p pz q qz : Box) :
    conflicts g p pz h q qz = true ↔ g ≠ h ∧ (p.meets qz = true ∨ q.meets pz = true) := by
  simp [conflicts]

theorem conflicts_comm (g h : Nat) (p pz q qz : Box) : conflicts g p pz h q qz = conflicts h q qz g p pz := by
  rw [Bool.eq_iff_iff, conflicts_iff, conflicts_iff, ne_comm, or_comm]

theorem conflicts_self (g : Nat) (p pz q qz : Box) : conflicts g p pz g q qz = false := by
  simp [conflicts]

/-- Settles O7: the test on two reservations and the test on two rectangles, each as R127 words it. -/
theorem reservationsConflictByGeometry : Obligations.ReservationsConflictByGeometry := by
  unfold Obligations.ReservationsConflictByGeometry
  exact ⟨Box.meets_iff, fun g h p pz q qz => ⟨conflicts_iff g h p pz q qz, conflicts_comm g h p pz q qz,
    conflicts_self g p pz q qz⟩, fun _ _ => Box.meets_of_touch⟩

end Sys2Proof.Machine
end


section
namespace Sys2Proof.Machine

/-! ## Reservations end (R130) -/

/-- A reservation's release instant has come. -/
def Resv.dueAt (now : Time) (r : Resv) : Bool := match r.release with | some t => decide (t ≤ now) | none => false

/-- The border release that a reservation asks for (R140). -/
def Resv.borderRel (now : Time) (r : Resv) : BorderRel := ⟨tickIndex now, r.reqId, r.g⟩

/-- Reservations that go ask, in turn, for the border releases of those the lead knows of. -/
theorem Core.foldl_borderRelease (gone : List Resv) : ∀ c : Core,
    gone.foldl (fun c r => if r.border then c.borderRelease r.reqId r.g else c) c =
      c.setBwk { c.bwk with rels := c.bwk.rels ++ (gone.filter Resv.border).map (Resv.borderRel c.now) } := by
  induction gone with
  | nil =>
    intro c
    rw [List.filter_nil, List.map_nil, List.append_nil]
    rfl
  | cons r gone ih =>
    intro c
    rw [List.foldl_cons, ih]
    cases hr : r.border with
    | false => rw [List.filter_cons_of_neg (by simp [hr])]; rfl
    | true =>
      rw [List.filter_cons_of_pos hr, if_pos rfl, List.map_cons, List.append_cons]
      rfl

/-- The breakwater once the reservations due are out of the table. -/
def Bwk.released (b : Bwk) (now : Time) : Bwk := { b with
  table := b.table.filter (fun r => !r.dueAt now),
  rels := b.rels ++ ((b.table.filter (Resv.dueAt now)).filter Resv.border).map (Resv.borderRel now) }

theorem Bwk.released_of_none {b : Bwk} {now : Time} (h : b.table.filter (Resv.dueAt now) = []) : b.released now = b := by
  have hkept : b.table.filter (fun r => !r.dueAt now) = b.table := by
    simpa [List.filter_eq_self, List.filter_eq_nil_iff] using h
  rw [Bwk.released, hkept, h, List.filter_nil, List.map_nil, List.append_nil]

/-- A round's releases: the reservations due leave the table, then their channels show what is left. -/
theorem Core.releaseDue_eq (c : Core) : c.releaseDue =
    (c.bwk.table.filter (Resv.dueAt c.now)).foldl (fun c r => c.heldNow (r.g % 64)) (c.setBwk (c.bwk.released c.now)) := by
  have hdef : c.releaseDue = if (c.bwk.table.filter (Resv.dueAt c.now)).isEmpty then c else
      (c.bwk.table.filter (Resv.dueAt c.now)).foldl (fun c r => c.heldNow (r.g % 64))
        ((c.bwk.table.filter (Resv.dueAt c.now)).foldl (fun c r => if r.border then c.borderRelease r.reqId r.g else c)
          (c.setBwk { c.bwk with table := c.bwk.table.filter (fun r => !r.dueAt c.now) })) := rfl
  rw [hdef]
  split
  case isTrue hnone =>
    have hnil := List.isEmpty_iff.mp hnone
    rw [Bwk.released_of_none hnil, hnil]
    rfl
  case isFalse =>
    rw [Core.foldl_borderRelease]
    rfl

/-- The registers that show what a channel holds. -/
def heldKeys (ch : Nat) : List Nat := [BWK_STATE.HELD_NOW.key ch, BWK_STATE.STATE.key ch]

theorem Core.heldNow_only (c : Core) (ch : Nat) : Only { keys := heldKeys ch } c (c.heldNow ch) := by
  have hshown : ∀ n, Only { keys := heldKeys ch } c (c.wr BWK_STATE.HELD_NOW n ch) := fun n =>
    (Only.refl _ c).wr _ _ _ (by simp [heldKeys])
  exact Only.ite _ (fun _ => (hshown _).wr _ _ _ (by simp [heldKeys])) (fun _ => hshown _)

theorem Core.heldNow_quiet (c : Core) (ch : Nat) : Quiet c (c.heldNow ch) :=
  Quiet.ite _ (fun _ => ⟨rfl, rfl⟩) (fun _ => ⟨rfl, rfl⟩)

theorem Core.foldl_heldNow_only (c : Core) (gone : List Resv) :
    Only { keys := gone.flatMap (fun r => heldKeys (r.g % 64)) } c (gone.foldl (fun c r => c.heldNow (r.g % 64)) c) := by
  refine Only.foldl (fun c r => c.heldNow (r.g % 64)) gone (fun d r hr h => h.trans ?_) c (Only.refl _ c)
  exact (d.heldNow_only (r.g % 64)).mono (fun _ hk => List.mem_flatMap.mpr ⟨r, hr, hk⟩) (fun _ hp => hp)

theorem Core.foldl_heldNow_quiet (c : Core) (gone : List Resv) :
    Quiet c (gone.foldl (fun c r => c.heldNow (r.g % 64)) c) :=
  Quiet.foldl _ _ (fun d _ _ h => h.trans (d.heldNow_quiet _)) c (Quiet.refl c)

theorem reservationRelease_runs (s : State) : Runs .reservationRelease s
    { keys := (s.core.bwk.table.filter (Resv.dueAt s.core.now)).flatMap (fun r => heldKeys (r.g % 64)), parts := [.bwk] }
    (fun t => t.bwk = s.core.bwk.released s.core.now) := by
  have honly := Core.foldl_heldNow_only (s.core.begin.setBwk (s.core.bwk.released s.core.now))
    (s.core.bwk.table.filter (Resv.dueAt s.core.now))
  have hquiet := Core.foldl_heldNow_quiet (s.core.begin.setBwk (s.core.bwk.released s.core.now))
    (s.core.bwk.table.filter (Resv.dueAt s.core.now))
  refine runs_to (fun c _ => c.releaseDue) _ rfl s.core.begin.releaseDue_eq hquiet.1 hquiet.2 ?_ (honly.2 .bwk (by simp))
  exact ((Only.refl _ s.core.begin).setBwk _ List.mem_cons_self).trans
    (honly.mono (fun _ hk => hk) (fun _ hp => absurd hp List.not_mem_nil))

/-! ## Waiting requests escalate (R132, R134) -/

/-- A saturating counter that is counted has counted, whatever its index. -/
theorem Core.counts_inc (c : Core) (f : Field) (i : Nat) : Counts c (c.inc f i) f i := Core.rd_inc_at c f i 1

/-- A write leaves the fields at other places as they were. -/
theorem Core.rd_wr_place (c : Core) {f g : Field} (v i : Nat) (h : g.obj ≠ f.obj ∨ g.lsb ≠ f.lsb) (hg : g.lsb < 65536)
    (hf : f.lsb < 65536) : (c.wr f v i).rd g i = c.rd g i :=
  Core.rd_wr_ne _ _ _ _ _ _ (Field.key_ne_place i h hg hf)

theorem Core.capRequest_of {c : Core} {ch : Nat} {q : Req} (hq : (c.ch ch).req = some q)
    (hw : c.rd BWK_WAIT.WAIT_CAP ≤ q.wait) (hc : c.rd BWK_STATE.CAPPED ch = 0) :
    c.capRequest ch = (c.setFlag BWK_STATE.CAPPED true ch).inc BWK_STAT.CAPPED ch := by
  rw [Core.capRequest, hq]
  exact if_pos ⟨hw, hc⟩

theorem requestCapped_runs (s : State) (ch : Fin 64) (q : Req) (hq : (s.core.ch ch).req = some q)
    (hw : s.core.rd BWK_WAIT.WAIT_CAP ≤ q.wait) (hc : s.core.rd BWK_STATE.CAPPED ch = 0) :
    Runs (.requestCapped ch) s { keys := [BWK_STATE.CAPPED.key ch, BWK_STAT.CAPPED.key ch] } (fun t =>
      t.rd BWK_STATE.CAPPED ch = 1 ∧ Counts s.core t BWK_STAT.CAPPED ch) := by
  refine runs_to (fun c _ => c.capRequest ch) _ rfl (Core.capRequest_of (c := s.core.begin) hq hw hc) rfl rfl
    (((Only.refl _ _).setFlag _ _ _ (by simp)).inc _ _ _ (by simp)) ⟨?_, ?_⟩
  · rw [Core.rd_close, Core.inc, Core.rd_wr_place _ _ _ (by decide) (by decide) (by decide), Core.setFlag, Core.rd_wr_same]
    rfl
  · have hcounts := Core.counts_inc (s.core.begin.setFlag BWK_STATE.CAPPED true ch) BWK_STAT.CAPPED ch
    rwa [Counts, Core.setFlag, Core.rd_wr_place _ _ _ (by decide) (by decide) (by decide)] at hcounts

/-- What BWK_WAIT_LONG carries of a waiting request (R134): the wait count, the record position and the blocker in force. -/
def Core.waitLongData (c : Core) (ch : Nat) (q : Req) : Bytes :=
  leBytes 4 q.wait ++ leBytes 4 (c.rd SEQ_TILE_POS.TILE_INDEX ch) ++ leBytes 1 (c.rd SEQ_TILE_POS.RECORD_INDEX ch) ++
    leBytes 1 (c.rd BWK_STATE.BLOCKER_KIND ch) ++ leBytes 2 (c.rd BWK_STATE.BLOCKER ch)

theorem Core.waitLong_of {c : Core} {ch : Nat} {q : Req} (hq : (c.ch ch).req = some q)
    (ha : c.rd BWK_WAIT.WAIT_ALARM ≠ 0) (hw : c.rd BWK_WAIT.WAIT_ALARM ≤ q.wait) (hn : q.alarmed = false) :
    c.waitLong ch = (c.modCh ch (fun s => { s with req := some { q with alarmed := true } })).post evBwkWaitLong ch
      (c.waitLongData ch q) (some c.now) := by
  rw [Core.waitLong, hq]
  exact if_pos ⟨ha, hw, by rw [hn]; rfl⟩

theorem bwkWaitLong_runs (s : State) (ch : Fin 64) (q : Req) (hq : (s.core.ch ch).req = some q)
    (ha : s.core.rd BWK_WAIT.WAIT_ALARM ≠ 0) (hw : s.core.rd BWK_WAIT.WAIT_ALARM ≤ q.wait) (hn : q.alarmed = false) :
    Runs (.bwkWaitLong ch) s { parts := [.seq, .events] } (fun t =>
      (t.ch ch).req = some { q with alarmed := true } ∧
      t.events = s.core.events ++ [⟨evBwkWaitLong, ch, some s.core.now, s.core.waitLongData ch q, s.core.ticks⟩]) := by
  refine runs_to (fun c _ => c.waitLong ch) _ rfl (Core.waitLong_of (c := s.core.begin) hq ha hw hn) rfl rfl
    (((Only.refl _ _).modCh _ _ (by simp)).post _ _ _ _ (by simp)) ⟨?_, rfl⟩
  have hreq := Core.ch_modCh s.core.begin ch ch (fun x => { x with req := some { q with alarmed := true } })
  rw [if_pos rfl] at hreq
  exact congrArg SeqCh.req hreq

/-! ## Yields (R135) -/

/-- A channel may yield: its request `q`, made by the tile `e`, has waited YIELD_AFTER rounds since it was last fresh, the
channel rests and waits for nothing but the grant, and its idle half holds a checked reorderable tile `b` of its own list. -/
structure Core.MayYield (c : Core) (ch : Nat) (q : Req) (b e : BufTile) : Prop where
  req : (c.ch ch).req = some q
  idle : (c.ch ch).idle = some b
  exec : (c.ch ch).exec = some e
  enabled : c.rd BWK_WAIT.YIELD_AFTER ≠ 0
  waited : c.rd BWK_WAIT.YIELD_AFTER ≤ q.sinceFresh
  granted : (c.ch ch).granted = false
  border : (c.ch ch).pendingBorder = false
  halt : (c.ch ch).halt = .none
  susp : (c.ch ch).susp = none
  rests : (c.ch ch).atRest = true
  live : c.live ch = true
  checked : b.ck = .passed
  own : b.adopt = none
  layer : b.layer = c.rd SEQ_LAYER_STATE.LAYER_NOW
  reorderable : (tileHdr b.bytes).reorderable = true
  ran : q.ran < c.rd BWK_WAIT.YIELD_MAX

/-- What is kept of the tile that a yield suspends, its request counting one more tile run ahead. -/
def Core.suspends (c : Core) (ch : Nat) (q : Req) (e : BufTile) : Suspended :=
  ⟨e, (c.ch ch).items, { q with ran := q.ran + 1 }, (c.restPoint ch).1, (c.restPoint ch).2, (c.ch ch).reentry⟩

/-- The core once a yield has suspended the tile executing and withdrawn its request. -/
def Core.yielded (c : Core) (ch : Nat) (q : Req) (e : BufTile) : Core :=
  (((c.inc BWK_STAT.YIELDS ch).wr BWK_STATE.YIELD_RUN (q.ran + 1) ch).wr BWK_STATE.STATE 4 ch).modCh ch (fun s =>
    { s with susp := some (c.suspends ch q e), exec := none, items := [], req := none, reentry := none, idle := none })

section Yield
variable {c : Core} {ch : Nat} {q : Req} {b e : BufTile}

theorem Core.MayYield.yieldDue (h : c.MayYield ch q b e) : c.yieldDue ch = (c.yielded ch q e).beginTile ch b := by
  rw [Core.yieldDue]
  simp only [h.req, h.idle, h.exec]
  exact if_pos (by simp [h.enabled, h.waited, h.granted, h.border, h.halt, h.susp, h.rests, h.live, h.checked, h.own,
    ← h.layer, h.reorderable, h.ran])

/-- The tile run ahead executes from its first record, and the tile that waited is suspended. -/
theorem Core.ch_yielded_beginTile (c : Core) (ch : Nat) (q : Req) (b e : BufTile) :
    ((c.yielded ch q e).beginTile ch b).ch ch = { c.ch ch with
      susp := some (c.suspends ch q e), exec := some b, items := tileItems b.bytes, req := none, reentry := none,
      idle := none, underrunSeen := false, ended := false, extentFault := false } := by
  rw [Core.beginTile, Core.ch_modCh, if_pos rfl, Core.recordAt, Core.ch_wr, Core.ch_wr, Core.yielded, Core.ch_modCh,
    if_pos rfl]
  rfl

/-- The registers that a yield writes. -/
def yieldFields : List Field :=
  [BWK_STAT.YIELDS, BWK_STATE.YIELD_RUN, BWK_STATE.STATE, SEQ_TILE_POS.TILE_INDEX, SEQ_TILE_POS.RECORD_INDEX]

theorem Core.yielded_beginTile_only (c : Core) (ch : Nat) (q : Req) (b e : BufTile) :
    Only { keys := yieldFields.map (fun f => f.key ch), parts := [.seq] } c ((c.yielded ch q e).beginTile ch b) :=
  ((((((((Only.refl _ c).inc _ _ _ (by simp [yieldFields])).wr _ _ _ (by simp [yieldFields])).wr _ _ _
    (by simp [yieldFields])).modCh _ _ List.mem_cons_self).wr _ _ _ (by simp [yieldFields])).wr _ _ _
    (by simp [yieldFields])).modCh _ _ List.mem_cons_self)

/-- The start of a tile writes the record position alone. -/
theorem Core.rd_beginTile (c : Core) (ch : Nat) (b : BufTile) {g : Field} (ho : g.obj ≠ 0x1003) (hg : g.lsb < 65536) :
    (c.beginTile ch b).rd g ch = c.rd g ch := by
  rw [Core.beginTile, Core.rd_modCh, Core.recordAt, Core.rd_wr_place _ _ _ (.inl ho) hg (by decide),
    Core.rd_wr_place _ _ _ (.inl ho) hg (by decide)]

theorem Core.rd_beginTile_tileIndex (c : Core) (ch : Nat) (ha : b.adopt = none) :
    (c.beginTile ch b).rd SEQ_TILE_POS.TILE_INDEX ch = b.index % 2 ^ 32 := by
  rw [Core.beginTile, Core.rd_modCh, Core.recordAt, Core.rd_wr_place _ _ _ (by decide) (by decide) (by decide),
    Core.rd_wr_same, ha]
  rfl

theorem Core.counts_yielded (c : Core) (ch : Nat) (q : Req) (e : BufTile) :
    Counts c (c.yielded ch q e) BWK_STAT.YIELDS ch := by
  rw [Counts, Core.yielded, Core.rd_modCh, Core.rd_wr_place _ _ _ (by decide) (by decide) (by decide),
    Core.rd_wr_place _ _ _ (by decide) (by decide) (by decide)]
  exact Core.counts_inc c _ _

theorem Core.rd_yielded_run (c : Core) (ch : Nat) (e : BufTile) (h : q.ran < 15) :
    (c.yielded ch q e).rd BWK_STATE.YIELD_RUN ch = q.ran + 1 := by
  rw [Core.yielded, Core.rd_modCh, Core.rd_wr_place _ _ _ (by decide) (by decide) (by decide), Core.rd_wr_same]
  exact Nat.mod_eq_of_lt (Nat.succ_lt_succ h)

theorem Core.rd_yielded_state (c : Core) (ch : Nat) (q : Req) (e : BufTile) :
    (c.yielded ch q e).rd BWK_STATE.STATE ch = 4 := by
  rw [Core.yielded, Core.rd_modCh, Core.rd_wr_same]
  rfl

end Yield

theorem Core.MayYield.begin {c : Core} {ch : Nat} {q : Req} {b e : BufTile} (h : c.MayYield ch q b e) :
    c.begin.MayYield ch q b e := { h with }

theorem yield_runs (s : State) (ch : Fin 64) (q : Req) (b e : BufTile) (h : s.core.MayYield ch q b e) (hran : q.ran < 15) :
    Runs (.yield_ ch) s { keys := yieldFields.map (fun f => f.key ch), parts := [.seq] }
      (fun t => Counts s.core t BWK_STAT.YIELDS ch ∧ t.rd BWK_STATE.YIELD_RUN ch = q.ran + 1 ∧
        t.rd BWK_STATE.STATE ch = 4 ∧ t.rd SEQ_TILE_POS.TILE_INDEX ch = b.index % 2 ^ 32 ∧ (t.ch ch).exec = some b ∧
        (t.ch ch).items = tileItems b.bytes ∧ (t.ch ch).idle = none ∧
        (t.ch ch).susp.map Suspended.tile = some e) := by
  refine runs_to (fun c _ => c.yieldDue ch) _ rfl h.begin.yieldDue rfl rfl (Core.yielded_beginTile_only _ _ _ _ _) ?_
  simp only [Counts, Core.rd_close]
  rw [Core.close_ch, Core.ch_yielded_beginTile, Core.rd_beginTile _ _ _ (by decide) (by decide), Core.rd_beginTile _ _ _ (by decide) (by decide),
    Core.rd_beginTile _ _ _ (by decide) (by decide)]
  exact ⟨Core.counts_yielded _ _ _ _, Core.rd_yielded_run _ _ _ hran, Core.rd_yielded_state _ _ _ _,
    Core.rd_beginTile_tileIndex _ _ h.own, rfl, rfl, rfl, rfl⟩

theorem yield_acts (s : State) (ch : Fin 64) (q : Req) (b e : BufTile) (h : s.core.MayYield ch q b e) :
    Acts (.yield_ ch) s (fun t => (t.ch ch).exec = some b ∧ (t.ch ch).idle = none ∧
      (t.ch ch).susp.map Suspended.tile = some e ∧ (t.ch ch).susp.map (fun z => z.req.ran) = some (q.ran + 1)) := by
  refine acts_of (fun c _ => c.yieldDue ch) rfl ?_
  rw [h.begin.yieldDue, Core.close_ch, Core.ch_yielded_beginTile]
  exact ⟨rfl, rfl, rfl, rfl⟩

/-- Settles O29, clause by clause: reservations that end, the cap, the alarm, and a yield within its footprint and alone. -/
theorem reservationsEndAndRequestsEscalate : Obligations.ReservationsEndAndRequestsEscalate := by
  unfold Obligations.ReservationsEndAndRequestsEscalate
  refine ⟨fun s => ?_, requestCapped_runs, bwkWaitLong_runs, ?_, ?_⟩
  · obtain ⟨t, hexec, hpend, hout, hwq, hwire, hdram, honly, hbwk⟩ := reservationRelease_runs s
    exact ⟨t, hexec, hpend, hout, hwq, hwire, hdram, honly, congrArg Bwk.table hbwk, congrArg Bwk.rels hbwk⟩
  · intro s ch q b e x hreq hidle hexec hon hwaited hg hb hh hs hr hl hck ha hly hre hran h15
    exact yield_runs s ch q b e ⟨hreq, hidle, hexec, hon, hwaited, hg, hb, hh, hs, hr, hl, hck, ha, hly, hre, hran⟩ h15
  · intro s ch q b e x hreq hidle hexec hon hwaited hg hb hh hs hr hl hck ha hly hre hran
    exact yield_acts s ch q b e ⟨hreq, hidle, hexec, hon, hwaited, hg, hb, hh, hs, hr, hl, hck, ha, hly, hre, hran⟩

end Sys2Proof.Machine
end


section
namespace Sys2Proof.Machine

/-! ## A border grant latched while the wait tap is full (R15, R138, R142, R417) -/

/-- Channel 0's border reservation, presented at the start of machine time and pending at the lead. -/
def pendingAtLead : Resv := ⟨0, 1, ⟨0, 5, 0, 5⟩, ⟨0, 9, 0, 9⟩, none, true, true, 77, 0⟩

/-- The request that made it, refused in three rounds before. -/
def waitingRequest : Req := ⟨⟨0, 5, 0, 5⟩, 3, 3, false, 0⟩

/-- Channel 0 in EXPOSE, its border request of eight ticks ago granted by the lead, and the queue of its wait tap full. -/
def borderGrantWithFullTap : State :=
  { State.reset with
    core := { ((standbyAlone.wr PLT_MODE.MODE Mode.expose.code).wr SEQ_LAYER_STATE.LAYER_ACTIVE 1).modCh 0 (fun q =>
        { q with armed := true, req := some waitingRequest, pendingBorder := true }) with
      now := 8 * tickU, ticks := 8,
      bwk := { Bwk.init with table := [pendingAtLead], answers := [(0, 77, true)] },
      log := { LogBook.init with taps := List.replicate 256 ⟨0, 3, 0, 0, 0, 0, 0⟩ } } }

theorem borderGrantWithFullTap_due : borderGrantWithFullTap.core.bwk.table.filter (fun r =>
    r.pending && !seqNewer 32 r.origin ((tickIndex borderGrantWithFullTap.core.now + 2 ^ 32 - 8) % 2 ^ 32)) =
      [pendingAtLead] := by decide +kernel

/-- The grant offers its wait to the tap, which drops the item and counts it. -/
theorem borderGrantWithFullTap_latch :
    borderGrantWithFullTap.core.begin.borderLatch.rd REC_STAT.LOST_TAP = 1 := by decide +kernel

/-- Refutes O30: its sixth clause lets a latched grant change no register but those of the request and the reservation, but a
grant feeds the wait count to the logbook (R142), and where that tap's queue is full the item is dropped and counted in
LOST_TAP (R15, R417). -/
theorem not_bordersAreDecidedByTheLead : ¬ Obligations.BordersAreDecidedByTheLead := by
  unfold Obligations.BordersAreDecidedByTheLead
  rintro ⟨-, -, -, -, -, hgrant, -⟩
  have hlive : borderGrantWithFullTap.core.live 0 = true := by decide +kernel
  have hruns := hgrant borderGrantWithFullTap 0 pendingAtLead waitingRequest (0, 77) borderGrantWithFullTap_due
    (by decide +kernel) rfl (by decide +kernel) hlive rfl rfl
  have hkept := hruns.rd_eq (f := fun c _ => c.borderLatch) rfl REC_STAT.LOST_TAP 0 (by decide +kernel)
  have hcounted := borderGrantWithFullTap_latch
  rw [hkept] at hcounted
  exact absurd hcounted (by decide +kernel)

end Sys2Proof.Machine
end
